-- ==== Sys2Proof/Word.lean ====
section
/-! DEFINITION. The word types of the block. -/

namespace Sys2Proof

/-- One byte (R9 orders them, least significant first, in every larger quantity). -/
abbrev Byte := BitVec 8

/-- A 32-bit lane, register word or FP32 encoding. -/
abbrev Word := BitVec 32

/-- Sparse data by key, in one canonical form: keys strictly rising and no entry equal to the
value an unlisted key reads as (Machine/Bits.lean reads and writes it). -/
abbrev Tab (α : Type) := List (Nat × α)

end Sys2Proof
end

