-- ==== Sys2Proof/Machine/Formats.lean ====
section
/-! DEFINITION. Number formats, exact values, the two rounding modes and every conversion
(04_number_formats.md). -/

namespace Sys2Proof

/-- The element formats of Table 00.3 (R8). -/
inductive Fmt where
  | fp32 | bf16 | fp16 | bx12 | e4m3 | e5m2 | mb8 | int32 | int16 | int8 | int4
  deriving DecidableEq, Repr, Inhabited

/-- The format a 4-bit code names; 0xB to 0xF are reserved (R8). -/
def Fmt.ofCode : Nat → Option Fmt
  | 0 => some .fp32 | 1 => some .bf16 | 2 => some .fp16 | 3 => some .bx12 | 4 => some .e4m3
  | 5 => some .e5m2 | 6 => some .mb8 | 7 => some .int32 | 8 => some .int16 | 9 => some .int8
  | 10 => some .int4 | _ => none

/-- The code of a format (Table 00.3). -/
def Fmt.code : Fmt → Nat
  | .fp32 => 0 | .bf16 => 1 | .fp16 => 2 | .bx12 => 3 | .e4m3 => 4 | .e5m2 => 5 | .mb8 => 6
  | .int32 => 7 | .int16 => 8 | .int8 => 9 | .int4 => 10

/-- An exact value, as decoding yields it (R76, R78, R80, R81): `fin neg m e` is
(-1)^neg * m * 2^e, with both zeros; a NaN carries nothing. -/
inductive XVal where
  | nan
  | inf (neg : Bool)
  | fin (neg : Bool) (m : Nat) (e : Int)
  deriving DecidableEq, Repr, Inhabited

/-- The arithmetic flags of R36, R70, R88, R89. -/
structure NFlags where
  /-- a NaN was consumed or produced -/
  nan : Bool := false
  /-- a finite result beyond the largest finite value -/
  ovf : Bool := false
  /-- an integer saturated -/
  sat : Bool := false
  /-- an invalid operation -/
  inv : Bool := false
  /-- division of a non-zero finite value by zero, or log2 of zero -/
  dz : Bool := false
  deriving DecidableEq, Repr, Inhabited

/-- Flags gathered. -/
def NFlags.or (a b : NFlags) : NFlags :=
  ⟨a.nan || b.nan, a.ovf || b.ovf, a.sat || b.sat, a.inv || b.inv, a.dz || b.dz⟩

/-- Any flag. -/
def NFlags.any (a : NFlags) : Bool := a.nan || a.ovf || a.sat || a.inv || a.dz

/-- The flags as the FLAGS field of Table 05.8: NAN, OVF, SAT, INV, DZ from bit 0. -/
def NFlags.toNat (a : NFlags) : Nat := b2n a.nan + 2 * b2n a.ovf + 4 * b2n a.sat + 8 * b2n a.inv + 16 * b2n a.dz

/-- The flags a bit pattern names. -/
def NFlags.ofNat (n : Nat) : NFlags := ⟨natBit 0 n, natBit 1 n, natBit 2 n, natBit 3 n, natBit 4 n⟩

/-! ### Floating-point layouts (Table 04.1) -/

/-- The parameters of one row of Table 04.1. -/
structure FLayout where
  /-- exponent bits -/
  eb : Nat
  /-- fraction bits -/
  fb : Nat
  /-- bias -/
  bias : Nat
  /-- the format has infinities -/
  infs : Bool
  /-- only the all-ones fraction of the top exponent is NaN (FP8-E4M3) -/
  topFin : Bool
  /-- canonical NaN (Table 04.2) -/
  qnan : Nat
  /-- largest finite encoding -/
  maxFin : Nat
  deriving DecidableEq, Repr

/-- The layout of a floating-point format (Tables 04.1, 04.2). -/
def Fmt.layout : Fmt → Option FLayout
  | .fp32 => some ⟨8, 23, 127, true, false, 0x7FC00000, 0x7F7FFFFF⟩
  | .bf16 => some ⟨8, 7, 127, true, false, 0x7FC0, 0x7F7F⟩
  | .fp16 => some ⟨5, 10, 15, true, false, 0x7E00, 0x7BFF⟩
  | .bx12 => some ⟨5, 6, 15, false, false, 0x7E0, 0x7BF⟩
  | .e4m3 => some ⟨4, 3, 7, false, true, 0x7F, 0x7E⟩
  | .e5m2 => some ⟨5, 2, 15, true, false, 0x7E, 0x7B⟩
  | _ => none

/-- FP32's layout. -/
def lay32 : FLayout := ⟨8, 23, 127, true, false, 0x7FC00000, 0x7F7FFFFF⟩

/-- Decoding an encoding (R76, R81). -/
def FLayout.decode (L : FLayout) (c : Nat) : XVal :=
  let f := c % 2 ^ L.fb
  let e := (c / 2 ^ L.fb) % 2 ^ L.eb
  let s := natBit (L.eb + L.fb) c
  let top := 2 ^ L.eb - 1
  if e = 0 then .fin s f (1 - (L.bias : Int) - L.fb)
  else if e = top then
    if L.topFin then
      if f = 2 ^ L.fb - 1 then .nan else .fin s (2 ^ L.fb + f) ((e : Int) - L.bias - L.fb)
    else if L.infs && f == 0 then .inf s
    else .nan
  else .fin s (2 ^ L.fb + f) ((e : Int) - L.bias - L.fb)

/-- A magnitude m * 2^e moved to a multiple of 2^q, ties to even (R83). -/
def rneShift (m : Nat) (e q : Int) : Nat :=
  if q ≤ e then m * 2 ^ (e - q).toNat
  else
    let k := (q - e).toNat
    let a := m / 2 ^ k
    let r := m % 2 ^ k
    let half := 2 ^ (k - 1)
    if half < r then a + 1 else if r = half then a + a % 2 else a

/-- RNE of an integer multiple: `v * 2^e` to an integer, ties to even. -/
def rneInt (neg : Bool) (m : Nat) (e : Int) : Int :=
  let a := rneShift m e 0
  if neg then -(a : Int) else a

/-- The exponent of the last place a value of magnitude m * 2^e has in a layout. -/
def FLayout.quantum (L : FLayout) (m : Nat) (e : Int) : Int :=
  max ((Nat.log2 m : Int) + e - L.fb) (1 - (L.bias : Int) - L.fb)

/-- The encoding of an already representable magnitude a * 2^q, exponent range unbounded above:
`none` when it lies above the largest finite value. -/
def FLayout.pack (L : FLayout) (a : Nat) (q : Int) : Option Nat :=
  if a = 0 then some 0
  else
    let qmin : Int := 1 - (L.bias : Int) - L.fb
    -- a is below 2^(fb+1) or equal to it
    let (a, q) := if 2 ^ (L.fb + 1) ≤ a then (a / 2, q + 1) else (a, q)
    let code : Int :=
      if a < 2 ^ L.fb then a
      else (q - qmin + 1) * 2 ^ L.fb + (a - 2 ^ L.fb : Nat)
    if code ≤ L.maxFin then some code.toNat else none

/-- The sign bit of a layout. -/
def FLayout.signBit (L : FLayout) (neg : Bool) : Nat := if neg then 2 ^ (L.eb + L.fb) else 0

/-- The infinity of a layout that has one. -/
def FLayout.infCode (L : FLayout) (neg : Bool) : Nat := L.signBit neg + (2 ^ L.eb - 1) * 2 ^ L.fb

/-- RNE of an exact value into a layout (R83): the encoding of the magnitude, or `none` when the
rounded magnitude exceeds the largest finite value. -/
def FLayout.rneMag (L : FLayout) (m : Nat) (e : Int) : Option Nat :=
  if m = 0 then some 0
  else
    let q := L.quantum m e
    L.pack (rneShift m e q) q

/-- A conversion into a float format under RNE (R86, R88, Table 04.5). -/
def FLayout.conv (L : FLayout) (x : XVal) : Nat × NFlags :=
  match x with
  | .nan => (L.qnan, { nan := true })
  | .inf s => if L.infs then (L.infCode s, {}) else (L.qnan, { nan := true, ovf := true })
  | .fin s m e =>
    match L.rneMag m e with
    | some c => (L.signBit s + c, {})
    | none => (L.signBit s + L.maxFin, { ovf := true })

/-- An arithmetic result rounded into FP32, BF16 or FP16 (R59, R88): overflow gives infinity. -/
def FLayout.arith (L : FLayout) (x : XVal) : Nat × NFlags :=
  match x with
  | .nan => (L.qnan, { nan := true })
  | .inf s => (L.infCode s, {})
  | .fin s m e =>
    match L.rneMag m e with
    | some c => (L.signBit s + c, {})
    | none => (L.infCode s, { ovf := true })

/-- Stochastic rounding of an exact value with 24 random bits u (R84). -/
def FLayout.sr (L : FLayout) (u : Nat) (x : XVal) : Nat × NFlags :=
  match x with
  | .fin s m e =>
    if m = 0 then (L.signBit s, {})
    else
      let q := L.quantum m e
      if q ≤ e then
        match L.pack (m * 2 ^ (e - q).toNat) q with
        | some c => (L.signBit s + c, {})
        | none => (L.signBit s + L.maxFin, { ovf := true })
      else
        let k := (q - e).toNat
        let a := m / 2 ^ k
        let D := ((m % 2 ^ k) * 2 ^ 24) / 2 ^ k
        let a' := if 2 ^ 24 ≤ D + u then a + 1 else a
        match L.pack a' q with
        | some c => (L.signBit s + c, {})
        | none => (L.signBit s + L.maxFin, { ovf := true })
  | x => L.conv x

/-! ### Exact arithmetic -/

/-- The integer mantissa of a finite value at exponent q, q at or below its own. -/
def finAt (neg : Bool) (m : Nat) (e q : Int) : Int :=
  let a : Int := (m : Int) * 2 ^ (e - q).toNat
  if neg then -a else a

/-- A signed integer times 2^q as a value; `z` is the sign a zero takes. -/
def XVal.ofInt (z : Bool) (v : Int) (q : Int) : XVal :=
  if v = 0 then .fin z 0 0 else .fin (decide (v < 0)) v.natAbs q

/-- Exact sum (R82: an exact zero is +0 unless every term is -0). -/
def XVal.add : XVal → XVal → XVal
  | .nan, _ => .nan
  | _, .nan => .nan
  | .inf a, .inf b => if a = b then .inf a else .nan
  | .inf a, _ => .inf a
  | _, .inf b => .inf b
  | .fin s m e, .fin t n f =>
    if m = 0 && n = 0 then .fin (s && t) 0 0
    else
      let q := min e f
      XVal.ofInt false (finAt s m e q + finAt t n f q) q

/-- Sign inversion. -/
def XVal.neg : XVal → XVal
  | .nan => .nan
  | .inf a => .inf (!a)
  | .fin s m e => .fin (!s) m e

/-- Absolute value. -/
def XVal.abs : XVal → XVal
  | .nan => .nan
  | .inf _ => .inf false
  | .fin _ m e => .fin false m e

/-- Exact difference. -/
def XVal.sub (a b : XVal) : XVal := a.add b.neg

/-- Exact product (R82: the exclusive-or of the signs). -/
def XVal.mul : XVal → XVal → XVal
  | .nan, _ => .nan
  | _, .nan => .nan
  | .inf a, .inf b => .inf (a != b)
  | .inf a, .fin t n _ => if n = 0 then .nan else .inf (a != t)
  | .fin s m _, .inf b => if m = 0 then .nan else .inf (s != b)
  | .fin s m e, .fin t n f => .fin (s != t) (m * n) (e + f)

/-- Scaling by a power of two, exact in an unbounded range (R98). -/
def XVal.scale (k : Int) : XVal → XVal
  | .fin s m e => .fin s m (e + k)
  | x => x

/-- Is it a NaN. -/
def XVal.isNan : XVal → Bool
  | .nan => true
  | _ => false

/-- Is it infinite. -/
def XVal.isInf : XVal → Bool
  | .inf _ => true
  | _ => false

/-- Is it a zero. -/
def XVal.isZero : XVal → Bool
  | .fin _ m _ => m == 0
  | _ => false

/-- Is it finite. -/
def XVal.isFin : XVal → Bool
  | .fin _ _ _ => true
  | _ => false

/-- The sign. -/
def XVal.isNeg : XVal → Bool
  | .nan => false
  | .inf s => s
  | .fin s _ _ => s

/-- Numeric order, false with a NaN; both zeros are equal. -/
def XVal.lt : XVal → XVal → Bool
  | .nan, _ => false
  | _, .nan => false
  | .inf a, .inf b => a && !b
  | .inf a, .fin _ _ _ => a
  | .fin _ _ _, .inf b => !b
  | .fin s m e, .fin t n f => let q := min e f; decide (finAt s m e q < finAt t n f q)

/-- Numeric equality, false with a NaN. -/
def XVal.eqv (a b : XVal) : Bool := !a.isNan && !b.isNan && !a.lt b && !b.lt a

/-- The smaller value: NaN if either is, -0 below +0 (Table 03.3). -/
def XVal.fmin (a b : XVal) : XVal :=
  if a.isNan || b.isNan then .nan
  else if a.lt b then a else if b.lt a then b else if a.isNeg then a else b

/-- The larger value: NaN if either is, +0 above -0 (Table 03.3). -/
def XVal.fmax (a b : XVal) : XVal :=
  if a.isNan || b.isNan then .nan
  else if a.lt b then b else if b.lt a then a else if a.isNeg then b else a

/-- The exact quotient to 96 significant bits with a last bit that records any remainder: RNE of it
into any format is RNE of the quotient itself. -/
def XVal.div : XVal → XVal → XVal
  | .nan, _ => .nan
  | _, .nan => .nan
  | .inf _, .inf _ => .nan
  | .inf a, .fin t _ _ => .inf (a != t)
  | .fin s _ _, .inf b => .fin (s != b) 0 0
  | .fin s m e, .fin t n f =>
    if n = 0 then (if m = 0 then .nan else .inf (s != t))
    else if m = 0 then .fin (s != t) 0 0
    else
      let k := 96 + Nat.log2 n
      let a := (m <<< k) / n
      let r := (m <<< k) % n
      .fin (s != t) (2 * a + (if r = 0 then 0 else 1)) (e - f - k - 1)

/-- Integer square root by Newton's iteration from above, `fuel` rounds. -/
def isqrtGo (n : Nat) : Nat → Nat → Nat
  | 0, x => x
  | fuel + 1, x =>
    let y := (x + n / x) / 2
    if y < x then isqrtGo n fuel y else x

/-- Integer square root. -/
def isqrt (n : Nat) : Nat := if n = 0 then 0 else isqrtGo n (Nat.log2 n + 2) (2 ^ (Nat.log2 n / 2 + 1))

/-- The exact square root to more than 96 bits with a last bit that records any remainder. -/
def XVal.sqrt : XVal → XVal
  | .nan => .nan
  | .inf s => if s then .nan else .inf false
  | .fin s m e =>
    if m = 0 then .fin s 0 0
    else if s then .nan
    else
      let (m, e) := if e % 2 = 0 then (m, e) else (2 * m, e - 1)
      let n := m <<< 200
      let a := isqrt n
      .fin false (2 * a + (if a * a = n then 0 else 1)) (e / 2 - 101)

/-! ### Base-2 exponential and logarithm (R59: correctly rounded)

Both are irrational except at the arguments treated first, so a value cut after 190 bits with its
last bit set rounds as the exact value does (assumption log). -/

/-- Product of 2^(2^-i) over the set bits of a fixed-point fraction, `P` bits of precision;
`r` is 2^(2^-(i)) and the list of bits is taken from the top. -/
def exp2Go (P : Nat) : Nat → Nat → Nat → Nat → Nat
  | 0, _, _, acc => acc
  | n + 1, frac, r, acc =>
    let r' := isqrt (r <<< P)
    let frac2 := 2 * frac
    if 2 ^ P ≤ frac2 then exp2Go P n (frac2 - 2 ^ P) r' ((acc * r') >>> P)
    else exp2Go P n frac2 r' acc

/-- 2^x (FEXP2). -/
def XVal.exp2 : XVal → XVal
  | .nan => .nan
  | .inf s => if s then .fin false 0 0 else .inf false
  | .fin s m e =>
    if m = 0 then .fin false 1 0
    else if 0 ≤ e || m % 2 ^ (-e).toNat = 0 then
      -- an integer argument
      let k : Int := finAt s (rneShift m e 0) 0 0
      if 4096 < k then .fin false 1 4096 else if k < -4096 then .fin false 1 (-4096) else .fin false 1 k
    else
      let d := 2 ^ (-e).toNat
      let ip := m / d
      if 4096 < ip then (if s then .fin false 1 (-4096) else .fin false 1 4096)
      else
        let v : Int := finAt s m 0 0
        let k := v / (d : Int)               -- floor
        let fr := (v % (d : Int)).toNat      -- 0 < fr < d
        let P := 256
        let frac := (fr <<< P) / d
        let a := exp2Go P 220 frac (2 <<< P) (1 <<< P)
        .fin false (2 * (a >>> 60) + 1) (k - (P - 60) - 1)

/-- Bits of log2 of a number in [1, 2) held with `P` fraction bits, by repeated squaring. -/
def log2Go (P : Nat) : Nat → Nat → Nat → Nat
  | 0, _, acc => acc
  | n + 1, x, acc =>
    let y := (x * x) >>> P
    if 2 <<< P ≤ y then log2Go P n (y >>> 1) (2 * acc + 1) else log2Go P n y (2 * acc)

/-- log2 x (FLOG2); log2 of either zero is -infinity, of a negative value NaN. -/
def XVal.log2 : XVal → XVal
  | .nan => .nan
  | .inf s => if s then .nan else .inf false
  | .fin s m e =>
    if m = 0 then .inf true
    else if s then .nan
    else
      let l := Nat.log2 m
      let k : Int := (l : Int) + e
      if m = 2 ^ l then XVal.ofInt false k 0
      else
        let P := 400
        let x := (m <<< P) >>> l
        let fr := log2Go P 190 x 0
        XVal.ofInt false (2 * (k * 2 ^ 190 + (fr : Int)) + 1) (-191)

/-! ### Integer formats (R80, R89) -/

/-- The width of an integer format. -/
def Fmt.intWidth : Fmt → Option Nat
  | .int32 => some 32 | .int16 => some 16 | .int8 => some 8 | .int4 => some 4 | _ => none

/-- An integer saturated to w bits, with SAT. -/
def satInt (w : Nat) (v : Int) : Int × Bool :=
  let hi : Int := 2 ^ (w - 1) - 1
  let lo : Int := -(2 ^ (w - 1))
  if hi < v then (hi, true) else if v < lo then (lo, true) else (v, false)

/-- A conversion into an integer format (R89). -/
def convInt (w : Nat) (x : XVal) : Nat × NFlags :=
  match x with
  | .nan => (0, { nan := true, inv := true })
  | .inf s => (intBits w (if s then -(2 ^ (w - 1)) else 2 ^ (w - 1) - 1), { sat := true })
  | .fin s m e =>
    let r := satInt w (rneInt s m e)
    (intBits w r.1, { sat := r.2 })

/-- Decoding one element code of a scalar format (R76, R80). MB8 elements need their block. -/
def Fmt.decode (f : Fmt) (c : Nat) : XVal :=
  match f.layout, f.intWidth with
  | some L, _ => L.decode c
  | none, some w => XVal.ofInt false (natSigned w c) 0
  | none, none => .nan

/-- Encoding an exact value into a scalar format by RNE (R86 to R89). -/
def Fmt.encode (f : Fmt) (x : XVal) : Nat × NFlags :=
  match f.layout, f.intWidth with
  | some L, _ => L.conv x
  | none, some w => convInt w x
  | none, none => (0, {})

/-! ### MB8 (R78, R91) -/

/-- An MB8 element: mantissa byte under block exponent field E (R78, R90). -/
def mb8Decode (mant expField : Nat) : XVal :=
  if mant = 0x80 then .nan else XVal.ofInt false (natSigned 8 mant) ((expField : Int) - 127)

/-- 2 * amax * 2^-e compared with 255: the test amax < 127.5 * 2^e of R91. -/
def mb8Fits (m : Nat) (me e : Int) : Bool :=
  let q := min (me + 1) e
  decide (finAt false m (me + 1) q < finAt false 255 e q)

/-- The smallest exponent from `e` up, `fuel` candidates, with amax < 127.5 * 2^e (R91). -/
def mb8Search (m : Nat) (me : Int) : Nat → Int → Int
  | 0, e => e
  | n + 1, e => if mb8Fits m me e then e else mb8Search m me n (e + 1)

/-- The block exponent of R91 for a largest magnitude m * 2^me. -/
def mb8Exp (m : Nat) (me : Int) : Int :=
  if m = 0 then -127
  else
    let start : Int := (Nat.log2 m : Int) + me - 7
    if start ≤ -127 then mb8Search m me 8 (-127) else min 128 (mb8Search m me 3 start)

/-- The larger magnitude of two finite values. -/
def maxMag (a b : Nat × Int) : Nat × Int :=
  let q := min a.2 b.2
  if finAt false a.1 a.2 q < finAt false b.1 b.2 q then b else a

/-- The largest finite magnitude of a list of values. -/
def amaxOf (xs : List XVal) : Nat × Int :=
  xs.foldl (fun acc x => match x with | .fin _ m e => if m = 0 then acc else if acc.1 = 0 then (m, e) else maxMag acc (m, e) | _ => acc) (0, 0)

/-- Quantisation of a block of 32 values into MB8 (R91): mantissa codes, exponent field, flags. A scaled block whose
exponent would leave the range is quantised at the limit with OVF (R104). -/
def quantiseMb8 (xs : List XVal) : List Nat × Nat × NFlags :=
  let am := amaxOf xs
  let e := mb8Exp am.1 am.2
  let big := decide (am.1 ≠ 0) && !mb8Fits am.1 am.2 e
  let ms := xs.map (fun x => match x with
    | .fin s m k => intBits 8 (clampInt (-127) 127 (rneInt s m (k - e)))
    | _ => 0x80)
  let fl : NFlags := { nan := xs.any (fun x => !x.isFin), ovf := xs.any XVal.isInf || big }
  (ms, (e + 127).toNat, fl)

/-- The 33 bytes of an MB8 block (R78). -/
def mb8Bytes (ms : List Nat) (expField : Nat) : List Byte :=
  ms.map (BitVec.ofNat 8) ++ [BitVec.ofNat 8 expField]

/-- The 32 values of a 33-byte MB8 block (R78). -/
def mb8Values (bs : List Byte) : List XVal :=
  let e := (bs.getD 32 0).toNat
  (List.range 32).map (fun i => mb8Decode (bs.getD i 0).toNat e)

/-- The amax code of a magnitude m * 2^e: the smallest a with |x| < 2^a (R99). -/
def amaxCode (m : Nat) (e : Int) : Int := (Nat.log2 m : Int) + e + 1

/-- The 16-bit record that stands for "no value seen" (R99). -/
def noAmax : Int := -32768

/-- The amax record of a list of values (R99). -/
def amaxRecord (xs : List XVal) : Int :=
  let a := amaxOf xs
  if a.1 = 0 then noAmax else amaxCode a.1 a.2

/-! ### Packing (R77, R80) -/

/-- Bytes per block and values per block of a format's packing along dimension 0 (R63, R77, R78, R80). -/
def Fmt.blockVals : Fmt → Nat
  | .mb8 => 32 | .bx12 => 16 | .int4 => 2 | _ => 1
/-- Bytes of one block. -/
def Fmt.blockBytes : Fmt → Nat
  | .fp32 => 4 | .bf16 => 2 | .fp16 => 2 | .bx12 => 24 | .e4m3 => 1 | .e5m2 => 1 | .mb8 => 33
  | .int32 => 4 | .int16 => 2 | .int8 => 1 | .int4 => 1

/-- Bytes that n values along dimension 0 take, in whole blocks. -/
def Fmt.bytesFor (f : Fmt) (n : Nat) : Nat := ceilDiv n f.blockVals * f.blockBytes

/-- The values of one stored block. -/
def Fmt.decodeBlock (f : Fmt) (bs : List Byte) : List XVal :=
  match f with
  | .mb8 => mb8Values bs
  | .bx12 => let v := leNat bs; (List.range 16).map (fun i => Fmt.decode .bx12 (natBits (12 * i + 11) (12 * i) v))
  | .int4 => let v := leNat bs; [Fmt.decode .int4 (v % 16), Fmt.decode .int4 (v / 16 % 16)]
  | f => [f.decode (leNat bs)]

/-- The stored block of one block of values, with the flags of its conversion. -/
def Fmt.encodeBlock (f : Fmt) (xs : List XVal) : List Byte × NFlags :=
  match f with
  | .mb8 => let q := quantiseMb8 xs; (mb8Bytes q.1 q.2.1, q.2.2)
  | .bx12 =>
    let cs := xs.map (Fmt.encode .bx12)
    (leBytes 24 (cs.foldr (fun c acc => c.1 + 4096 * acc) 0), cs.foldl (fun a c => a.or c.2) {})
  | .int4 =>
    let cs := xs.map (Fmt.encode .int4)
    (leBytes 1 (cs.foldr (fun c acc => c.1 + 16 * acc) 0), cs.foldl (fun a c => a.or c.2) {})
  | f =>
    let c := f.encode (xs.headD (.fin false 0 0))
    (leBytes f.blockBytes c.1, c.2)

/-- A list cut into pieces of n, `fuel` of them. -/
def chunks {α : Type} (n : Nat) : Nat → List α → List (List α)
  | 0, _ => []
  | k + 1, xs => if xs.isEmpty then [] else xs.take n :: chunks n k (xs.drop n)

/-- The values of n elements stored in whole blocks. -/
def Fmt.decodeMany (f : Fmt) (n : Nat) (bs : List Byte) : List XVal :=
  ((chunks f.blockBytes (ceilDiv n f.blockVals) bs).map f.decodeBlock).flatten.take n

/-- Values stored in whole blocks, a short last block completed with +0. -/
def Fmt.encodeMany (f : Fmt) (xs : List XVal) : List Byte × NFlags :=
  let k := ceilDiv xs.length f.blockVals
  let full := xs ++ List.replicate (k * f.blockVals - xs.length) (.fin false 0 0)
  let ps := (chunks f.blockVals k full).map f.encodeBlock
  ((ps.map (·.1)).flatten, ps.foldl (fun a p => a.or p.2) {})

/-! ### FP32 shorthands -/

/-- Decoding an FP32 word. -/
def f32 (w : Word) : XVal := lay32.decode w.toNat

/-- An exact value rounded to FP32 as an arithmetic result (R184). -/
def toF32 (x : XVal) : Word := BitVec.ofNat 32 (lay32.arith x).1

/-- An exact value converted to FP32 (R88). -/
def convF32 (x : XVal) : Word := BitVec.ofNat 32 (lay32.conv x).1

/-- The exact value 1. -/
def xOne : XVal := .fin false 1 0

/-- The exact value +0. -/
def xZero : XVal := .fin false 0 0

/-- FP32 operations, each rounded once by RNE (R59, R184). -/
def fAdd (a b : Word) : Word := toF32 ((f32 a).add (f32 b))
/-- Subtraction. -/
def fSub (a b : Word) : Word := toF32 ((f32 a).sub (f32 b))
/-- Multiplication. -/
def fMul (a b : Word) : Word := toF32 ((f32 a).mul (f32 b))
/-- a * b + c rounded once. -/
def fFma (a b c : Word) : Word := toF32 (((f32 a).mul (f32 b)).add (f32 c))
/-- Correctly rounded division. -/
def fDiv (a b : Word) : Word := toF32 ((f32 a).div (f32 b))
/-- Correctly rounded square root. -/
def fSqrt (a : Word) : Word := toF32 (f32 a).sqrt
/-- Sign inversion. -/
def fNeg (a : Word) : Word := toF32 (f32 a).neg

/-- The sum of a list in the pairwise order of a chunk of 2^n products (R33, R92): exact. -/
def pairwise : Nat → List XVal → XVal
  | 0, xs => xs.headD xZero
  | n + 1, xs => (pairwise n (xs.take (2 ^ n))).add (pairwise n (xs.drop (2 ^ n)))

/-- The largest power of two below n, for n above 1 (R92). -/
def pow2Below (n : Nat) : Nat := 2 ^ Nat.log2 (n - 1)

/-- The reference tree of R92 over a non-empty list: tree(p, 0, n). -/
def refTree {α : Type} (add : α → α → α) (d : α) : Nat → List α → α
  | 0, xs => xs.headD d
  | fuel + 1, xs =>
    match xs with
    | [] => d
    | [x] => x
    | xs =>
      let h := pow2Below xs.length
      add (refTree add d fuel (xs.take h)) (refTree add d fuel (xs.drop h))

/-- Exact sum of a list with R82's zero rule: -0 only when every term is -0; the empty sum is -0. -/
def exactSum (xs : List XVal) : XVal := xs.foldl XVal.add (.fin true 0 0)

/-! ### The generator of R85 -/

/-- mix of R85, modulo 2^64. -/
def mix64 (z : Nat) : Nat :=
  let z := z % 2 ^ 64
  let z := z ^^^ (z >>> 30)
  let z := (z * 0xBF58476D1CE4E5B9) % 2 ^ 64
  let z := z ^^^ (z >>> 27)
  let z := (z * 0x94D049BB133111EB) % 2 ^ 64
  z ^^^ (z >>> 31)

/-- sr_bits of R85. -/
def srBits (seed table row stream element step : Nat) : Nat :=
  let g := 0x9E3779B97F4A7C15
  let z := mix64 (((seed <<< 32) ||| table) + g)
  let z := mix64 ((z ^^^ row) + g)
  let z := mix64 ((z ^^^ (((step % 2 ^ 32) <<< 32) ||| (stream <<< 16) ||| element)) + g)
  z >>> 40

end Sys2Proof
end

