-- ==== Sys2Proof/Machine/Bundle.lean ====
section
/-! DEFINITION. The schedule bundle as plain data: the header of Table 11.1 and the contents of the
sections of Table 11.2, and a firmware bundle's fields (Table 14.10). -/

namespace Sys2Proof.Machine

/-- The header of a schedule bundle (Table 11.1). -/
structure BHeader where
  /-- MAGIC -/
  magic : Nat := 0
  /-- FORMAT, major in the upper byte -/
  format : Nat := 0
  /-- directory entries -/
  sections : Nat := 0
  /-- SCHEDULE_ID -/
  scheduleId : Nat := 0
  /-- DOMAIN -/
  domain : Nat := 0
  /-- RANK -/
  rank : Nat := 0
  /-- MEMBERS -/
  members : Nat := 0
  /-- PROFILE: 0 P-FULL, 1 P-MID, 2 P-LOW -/
  profile : Nat := 0
  /-- STEPPINGS mask -/
  steppings : Nat := 0
  /-- required Maltster main image version -/
  mainFw : Nat := 0
  /-- required link image version -/
  linkFw : Nat := 0
  /-- required memory-training image version -/
  memFw : Nat := 0
  /-- LENGTH -/
  length : Nat := 0
  /-- DIGEST, 64 bytes as a number -/
  digest : Nat := 0
  /-- a reserved field is not zero -/
  reservedBad : Bool := false
  deriving DecidableEq, Repr, Inhabited

/-- What a MASH sequencer instruction passes to the queue (R54). -/
inductive MashItem where
  /-- one 32-bit register instruction (R57) -/
  | reg (w : Nat)
  /-- a loop descriptor at a plot-store offset (R65) -/
  | loop (off : Nat)
  /-- a root descriptor at a plot-store offset (R72) -/
  | root (off : Nat)
  deriving DecidableEq, Repr, Inhabited

/-- One plot sequencer instruction (Table 02.2); the bundle's PROGRAMS section holds them. -/
inductive SeqInstr where
  /-- HOP, descriptor offset -/
  | hop (off : Nat)
  /-- WLOAD, descriptor offset -/
  | wload (off : Nat)
  /-- MASH -/
  | mash (m : MashItem)
  /-- MOVE, descriptor offset -/
  | move (off : Nat)
  /-- SWAIT s, n -/
  | swait (sem n : Nat)
  /-- SPOST s, d on a local semaphore -/
  | spost (sem : Nat) (d : Int)
  /-- SPOST to a remote target: rank, plot, semaphore, count -/
  | spostRemote (rank plot sem : Nat) (d : Int)
  /-- EWAIT for a named epoch -/
  | ewait (epoch : Nat)
  /-- FCLR -/
  | fclr
  /-- the bundle's tally point of the plot (R113) -/
  | tallyPoint
  /-- an arrival at a LOCAL tally (R272) -/
  | arrive (n : Nat)
  deriving DecidableEq, Repr, Inhabited

/-- One plot's program: a primary and a deferred stream (R288). -/
structure Program where
  /-- plot -/
  plot : Nat
  /-- primary stream -/
  primary : List SeqInstr
  /-- deferred stream -/
  deferred : List SeqInstr
  deriving DecidableEq, Repr, Inhabited

/-- SEMAPHORES entry: an assigned semaphore (R269). -/
structure SemDef where
  /-- plot -/
  plot : Nat
  /-- semaphore 0 to 47 -/
  sem : Nat
  /-- class, Table 11.4 -/
  cls : Nat
  /-- INIT -/
  init : Nat
  deriving DecidableEq, Repr, Inhabited

/-- SCALES: one slot (R96). -/
structure SlotDef where
  /-- plot -/
  plot : Nat
  /-- slot 1 to 63 -/
  slot : Nat
  /-- K of a FIXED slot -/
  k : Int
  /-- 0 FIXED, 1 HISTORY, 2 PRESENT -/
  mode : Nat
  /-- N - 1 -/
  nwin : Nat
  /-- format code of the target exponent -/
  tfmt : Nat
  /-- MARGIN -/
  margin : Nat
  /-- scale group -/
  group : Nat
  deriving DecidableEq, Repr, Inhabited

/-- SCALES: one scale group (R100, R101, R384). -/
structure GroupDef where
  /-- group 0 to 4095 -/
  group : Nat
  /-- KMIN -/
  kmin : Int
  /-- KMAX -/
  kmax : Int
  /-- KINIT -/
  kinit : Int
  /-- fabric tally and lane of a HISTORY group spanning modules -/
  tally : Option (Nat × Nat)
  /-- its arrival point: plan entry and flit time (R101) -/
  arriveAt : Nat × Nat := (0, 0)
  deriving DecidableEq, Repr, Inhabited

/-- REGIONS: a replay region entry of a plot (Table 05.5). -/
structure RegionDef where
  /-- plot -/
  plot : Nat
  /-- TAG -/
  tag : Nat
  /-- LEVEL -/
  level : Nat
  /-- OUT_SLOT -/
  outSlot : Nat
  /-- SCOPE_TALLY -/
  scopeTally : Nat
  /-- SCOPE_EN -/
  scopeEn : Bool
  /-- CHECK_PC -/
  checkPc : Nat
  /-- RESUME_PC -/
  resumePc : Nat
  /-- WIDE16_PC -/
  wide16 : Nat
  /-- WIDE32_PC -/
  wide32 : Nat
  /-- last instruction of the level-1 replay program -/
  end16 : Nat
  /-- last instruction of the level-2 replay program -/
  end32 : Nat
  deriving DecidableEq, Repr, Inhabited

/-- How a lane combines (R274). -/
inductive LaneOp where
  | sum | max | or
  deriving DecidableEq, Repr, Inhabited

/-- The kind of a tally (Table 11.6). -/
inductive TallyKind where
  | localT | epoch | barrier | combine
  deriving DecidableEq, Repr, Inhabited

/-- One member's record in a fabric tally's tree (R273). -/
structure TreeNode where
  /-- rank -/
  rank : Nat
  /-- parent rank, and this member's port toward it; none at the root -/
  parent : Option (Nat × Nat)
  /-- alternate parent rank and port -/
  alt : Option (Nat × Nat)
  /-- children: rank, this member's port toward it, its subtree size -/
  children : List (Nat × Nat × Nat)
  /-- subtree size -/
  size : Nat
  /-- D_group in ps -/
  dGroup : Nat
  deriving DecidableEq, Repr, Inhabited

/-- TALLIES: one tally counter definition (R272, R273). -/
structure TallyDef where
  /-- tally counter 0 to 255 -/
  n : Nat
  /-- kind -/
  kind : TallyKind
  /-- fabric tally number 0 to 63 -/
  fid : Nat
  /-- rank of the root -/
  root : Nat
  /-- TARGET of a LOCAL tally -/
  target : Nat
  /-- lanes of a COMBINE tally -/
  lanes : List LaneOp
  /-- the whole tree -/
  tree : List TreeNode
  /-- semaphores posted: plot, semaphore -/
  posts : List (Nat × Nat)
  deriving DecidableEq, Repr, Inhabited

/-- PLAN: one epoch of a step (R278). -/
structure PlanEntry where
  /-- epoch template -/
  template : Nat
  /-- flit time of the arrival for the next epoch -/
  arriveAt : Nat
  /-- the next epoch opens a step -/
  opensStep : Bool
  /-- the next epoch opens the update exchange -/
  opensUpdate : Bool
  /-- this epoch is the look-ahead start epoch (R24, R157) -/
  lookahead : Bool
  deriving DecidableEq, Repr, Inhabited

/-- The kind of a slot run (Table 10.7). -/
inductive RunKind where
  | txLocal | txForward | rxLocal | rxForward | rxBoth
  deriving DecidableEq, Repr, Inhabited

/-- One slot run (Table 10.7). -/
structure Run where
  /-- port -/
  port : Nat
  /-- first data position -/
  start : Nat
  /-- data positions -/
  len : Nat
  /-- KIND -/
  kind : RunKind
  /-- PEER_PORT -/
  peer : Nat
  /-- STREAM -/
  stream : Nat
  /-- STREAM_OFF -/
  streamOff : Nat
  /-- MARKER -/
  marker : Nat
  deriving DecidableEq, Repr, Inhabited

/-- TEMPLATES: one epoch template (Table 10.6) with the run lists it points to. -/
structure Template where
  /-- the 18 words of Table 10.6 -/
  words : List Nat
  /-- by port, the entries at RUN_BASE_p, two words each (Table 10.7) -/
  lists : List (List (Nat × Nat))
  deriving DecidableEq, Repr, Inhabited

/-- Word i of a template. -/
def Template.word (t : Template) (i : Nat) : Nat := t.words.getD i 0

/-- TEMPLATE. -/
def Template.num (t : Template) : Nat := natBits 22 20 (t.word 0)

/-- EPOCH_FLITS. -/
def Template.flits (t : Template) : Nat := natBits 19 0 (t.word 0)

/-- RUN_BASE_p. -/
def Template.base (t : Template) (p : Nat) : Nat := natBits 43 0 (t.word (2 + p))

/-- RUN_COUNT_p. -/
def Template.count (t : Template) (p : Nat) : Nat := natBits 60 44 (t.word (2 + p))

/-- KIND of a run; 5 to 7 are reserved. -/
def RunKind.ofCode : Nat → Option RunKind
  | 0 => some .txLocal
  | 1 => some .txForward
  | 2 => some .rxLocal
  | 3 => some .rxForward
  | 4 => some .rxBoth
  | _ => none

/-- The run that an entry of port p's list describes (Table 10.7), none for a reserved KIND. -/
def runEntry (p : Nat) (e : Nat × Nat) : Option Run :=
  (RunKind.ofCode (natBits 42 40 e.1)).map (fun k =>
    { port := p, start := natBits 19 0 e.1, len := natBits 39 20 e.1, kind := k, peer := natBits 46 43 e.1, stream := natBits 63 48 e.1
      streamOff := natBits 31 0 e.2, marker := natBits 47 32 e.2 })

/-- The runs of port p in list order. -/
def Template.portRuns (t : Template) (p : Nat) : List Run := (t.lists.getD p []).filterMap (runEntry p)

/-- The runs of every port. -/
def Template.runs (t : Template) : List Run := ((List.range 16).map t.portRuns).flatten

/-- Reserved fields of a template and its entries are zero, and its lists hold RUN_COUNT entries (R12, R245, R246). -/
def Template.clean (t : Template) : Bool :=
  t.words.length == 18 && natBits 63 23 (t.word 0) == 0 && t.word 1 == 0 && t.lists.length == 16 &&
    (List.range 16).all (fun p => natBits 63 61 (t.word (2 + p)) == 0 && decide (t.count p ≤ 65536) && (t.lists.getD p []).length == t.count p) &&
    t.lists.all (fun l => l.all (fun e => (RunKind.ofCode (natBits 42 40 e.1)).isSome && !natBit 47 e.1 && natBits 63 48 e.2 == 0))

/-- The bytes of port p's run list. -/
def Template.listBytes (t : Template) (p : Nat) : List Byte :=
  ((t.lists.getD p []).map (fun e => leBytes 8 e.1 ++ leBytes 8 e.2)).flatten

/-- The kind of a stream (Table 11.10). -/
inductive StreamKind where
  | plot | grnReq | grnRows | gradRec | contrib | reduced | dist | cask | reshard | split
  deriving DecidableEq, Repr, Inhabited

/-- STREAMS: one stream (Table 11.10). -/
structure StreamDef where
  /-- stream number -/
  id : Nat
  /-- KIND -/
  kind : StreamKind
  /-- DIR: RX -/
  rx : Bool
  /-- PLOT -/
  plot : Nat
  /-- SEM -/
  sem : Nat
  /-- UNIT -/
  unit : Nat
  /-- GROUP -/
  group : Nat
  /-- BASE -/
  base : Nat
  /-- FLITS -/
  flits : Nat
  /-- FLAGS_BASE -/
  flagsBase : Nat
  deriving DecidableEq, Repr, Inhabited

/-- REDUCTIONS: one reduction group (R282, R283). -/
structure ReductionDef where
  /-- group number -/
  group : Nat
  /-- REPLICA group, else DENSE -/
  replica : Bool
  /-- members in rank order -/
  members : List Nat
  /-- owner's rank -/
  owner : Nat
  /-- blocks -/
  blocks : Nat
  /-- segment block counts -/
  segs : List Nat
  /-- PRESENT slot of each segment's quantisation loop: plot and slot (R104, R283, R384) -/
  slots : List (Nat × Nat)
  /-- tensor (DENSE) or table (REPLICA) -/
  target : Nat
  /-- first dense group, or first replica record position -/
  first : Nat
  /-- CARRY_BASE -/
  carryBase : Nat
  /-- CONTRIB stream -/
  stream : Nat
  /-- device address of this module's own quantised contribution blocks -/
  srcBase : Nat
  deriving DecidableEq, Repr, Inhabited

/-- LINKS: one port's expectations (Table 11.2). -/
structure LinkDef where
  /-- port -/
  port : Nat
  /-- expected partner rank -/
  partnerRank : Nat
  /-- expected partner port -/
  partnerPort : Nat
  /-- DELAY_MAX in 25 ps units -/
  delayMax : Nat
  /-- LINK_SIG expected from the partner -/
  linkSig : Nat
  /-- LINK_SIG this port sends -/
  ownSig : Nat
  /-- ranks whose withy messages are routed over this port, and their alternate port -/
  routes : List (Nat × Option Nat)
  deriving DecidableEq, Repr, Inhabited

/-- PLACEMENT: a statically placed range (R22). -/
structure StaticDef where
  /-- first byte -/
  base : Nat
  /-- bytes -/
  size : Nat
  deriving DecidableEq, Repr, Inhabited

/-- PLACEMENT: a tun region 0 to 127 (R131). -/
structure TunDef where
  /-- region number -/
  n : Nat
  /-- BASE -/
  base : Nat
  /-- END -/
  fin : Nat
  /-- window exponent -/
  x : Int
  /-- TYPE: INT32 counters, else windows -/
  int32 : Bool
  deriving DecidableEq, Repr, Inhabited

/-- UPDATE: one dense tensor (R188 to R191). -/
structure TensorDef where
  /-- tensor number -/
  tensor : Nat
  /-- rule set -/
  ruleSet : Nat
  /-- dense groups of the tensor -/
  groups : Nat
  /-- elements of the tensor; the rest of its last group is padding (R188) -/
  elems : Nat
  /-- first group this module owns -/
  ownFirst : Nat
  /-- groups this module owns -/
  ownCount : Nat
  /-- bank bases -/
  bank0 : Nat
  /-- bank 1 -/
  bank1 : Nat
  /-- working format -/
  wcFmt : Nat
  /-- scale group of the working-copy slot -/
  wcGroup : Nat
  /-- working-copy slot: plot and slot; slot 0 for FP32 -/
  wcSlot : Nat × Nat
  /-- half addresses in the dense window -/
  wc0 : Nat
  /-- half 1 -/
  wc1 : Nat
  /-- ranks of the owners -/
  owners : List Nat
  /-- defer area -/
  deferBase : Nat
  deriving DecidableEq, Repr, Inhabited

/-- FEATURES: one sparse feature (Table 11.2). -/
structure FeatureDef where
  /-- table -/
  table : Nat
  /-- MAX_POOL -/
  maxPool : Nat
  /-- MEAN, else SUM -/
  mean : Bool
  /-- pooled output format code -/
  outFmt : Nat
  /-- plot whose store takes pooled vectors -/
  plot : Nat
  /-- plot-store offset of sample 0's vector -/
  off : Nat
  /-- bytes between samples -/
  stride : Nat
  /-- address of sample 0's gradient of the pooled vector, FP32 (R166) -/
  gradBase : Nat
  /-- bytes between the samples' gradients -/
  gradStride : Nat
  /-- PRESENT slot of that plot under which they are quantised (R166, R384) -/
  gradSlot : Nat
  deriving DecidableEq, Repr, Inhabited

/-- FEATURES: what a table exchanges with one other module (R154, R157, R165, R166). Table 11.10 gives a stream no requester or
owner, so the pair names its streams (DESIGN CHOICE, log 97). -/
structure PairDef where
  /-- rank of the other module -/
  rank : Nat
  /-- REQ_CAP with this module as the requester and that one as the owner -/
  reqCap : Nat
  /-- TX GRN_REQ stream to that owner -/
  reqStream : Nat
  /-- TX GRN_ROWS stream to that requester -/
  rowStream : Nat
  /-- TX GRAD_REC stream to that owner -/
  gradStream : Nat
  deriving DecidableEq, Repr, Inhabited

/-- FEATURES: one table (Table 11.2). -/
structure TableFDef where
  /-- table -/
  table : Nat
  /-- DIM -/
  dim : Nat
  /-- WFMT code -/
  wfmt : Nat
  /-- REQ_CAP and streams for every other module of the table -/
  pairs : List PairDef
  /-- gradient tally (fabric tally number) -/
  gradTally : Nat
  deriving DecidableEq, Repr, Inhabited

/-- CASKS: one delivery of the cask schedule (R219): for a sample of a micro-batch, a layer and a part position, where the part goes.
R219 keys the schedule by micro-batch; the model also names the sample within it, and the home whose sample it is (DESIGN CHOICE,
log 106). -/
structure CaskPart where
  /-- rank of the sample's home -/
  home : Nat
  /-- micro-batch -/
  micro : Nat
  /-- sample within the micro-batch -/
  smp : Nat
  /-- layer -/
  layer : Nat
  /-- part position: 0 for the first part that is delivered -/
  pos : Nat
  /-- destination plot -/
  plot : Nat
  /-- plot-store offset -/
  off : Nat
  /-- semaphore -/
  sem : Nat
  deriving DecidableEq, Repr, Inhabited

/-- CASKS: one copy of the spill schedule (R217): the oldest marked cask of this chain. -/
structure CaskSpill where
  /-- rank of the slot's home -/
  home : Nat
  /-- slot -/
  slot : Nat
  /-- layer -/
  layer : Nat
  deriving DecidableEq, Repr, Inhabited

/-- CASKS: one copy of the prefetch schedule (R217): a cask of a sample's chain, counted from the oldest, into a WINDOW frame. -/
structure CaskFetch where
  /-- micro-batch -/
  micro : Nat
  /-- sample within the micro-batch -/
  smp : Nat
  /-- layer -/
  layer : Nat
  /-- place in the chain -/
  idx : Nat
  /-- WINDOW frame -/
  frame : Nat
  deriving DecidableEq, Repr, Inhabited

/-- CASKS: the cask region (Table 09.1). -/
structure CaskDef where
  /-- LAYERS -/
  layers : Nat
  /-- W -/
  w : Nat
  /-- KVFMT code -/
  kvfmt : Nat
  /-- MAX_CASKS -/
  maxCasks : Nat
  /-- RES -/
  res : Nat
  /-- PART_CASKS -/
  partCasks : Nat
  /-- WINDOW frames -/
  window : Nat
  /-- SPILL: HOST, else CELLAR -/
  spillHost : Bool
  /-- SPILL_BASE -/
  spillBase : Nat
  /-- META_BASE -/
  metaBase : Nat
  /-- SPLIT slots: slot, member ranks (home first), MAX_CASKS_SPLIT -/
  split : List (Nat × List Nat × Nat)
  /-- LEAN_LAYERS, lean mode only -/
  leanLayers : Nat
  /-- the activation stash of each forward layer: first byte and size (R222) -/
  stash : List (Nat × Nat) := []
  /-- the cask schedule (R219) -/
  parts : List CaskPart := []
  /-- most images that the records of one step load or save, which admission charges (R218; DESIGN CHOICE, log 106) -/
  images : Nat := 0
  /-- the spill schedule (R217) -/
  spills : List CaskSpill := []
  /-- the prefetch schedule (R217) -/
  fetches : List CaskFetch := []
  /-- TX CASK stream to each holder of a split group: rank and stream (R221) -/
  holders : List (Nat × Nat) := []
  deriving DecidableEq, Repr, Inhabited

/-- DEADLINES: an event that must precede another (R266). An entry names the event; both instants are the Maltster's own. -/
inductive Deadline where
  /-- a stream's readiness before the check of a TX_LOCAL run: plan entry, port, run of the port's list -/
  | ready (epoch port run : Nat)
  /-- the arrival of a TX_FORWARD run's flits before their positions: plan entry, port, run -/
  | forward (epoch port run : Nat)
  /-- the arrivals of the EPOCH tally before the root's issue point: plan entry -/
  | tally (epoch : Nat)
  /-- the update's completion before the step boundary -/
  | update
  /-- a prefetch before its use: entry of the prefetch schedule -/
  | fetch (entry : Nat)
  deriving DecidableEq, Repr, Inhabited

/-- The contents of a bundle's sections (Table 11.2). -/
structure BundleBody where
  /-- PARTITIONS: six sizes in GiB -/
  parts : List Nat := []
  /-- PARTITIONS: cellar bundle area in GiB -/
  cellarGib : Nat := 0
  /-- PROGRAMS -/
  programs : List Program := []
  /-- IMAGES: device address and bytes -/
  images : List (Nat × List Byte) := []
  /-- SEMAPHORES -/
  sems : List SemDef := []
  /-- SCALES: slots -/
  slots : List SlotDef := []
  /-- SCALES: groups -/
  groups : List GroupDef := []
  /-- REGIONS -/
  regions : List RegionDef := []
  /-- TALLIES -/
  tallies : List TallyDef := []
  /-- TEMPLATES -/
  templates : List Template := []
  /-- PLAN -/
  plan : List PlanEntry := []
  /-- STREAMS -/
  streams : List StreamDef := []
  /-- REDUCTIONS -/
  reductions : List ReductionDef := []
  /-- LINKS -/
  links : List LinkDef := []
  /-- PLACEMENT: static ranges -/
  statics : List StaticDef := []
  /-- PLACEMENT: tun regions -/
  tuns : List TunDef := []
  /-- UPDATE -/
  tensors : List TensorDef := []
  /-- FEATURES: samples per step -/
  samples : Nat := 0
  /-- FEATURES: samples per micro-batch -/
  micro : Nat := 1
  /-- FEATURES: AGE_STEPS -/
  ageSteps : Nat := 64
  /-- FEATURES: batch staging area, three batches of this many bytes from this address -/
  batchBase : Nat := 0
  /-- bytes of one staged batch -/
  batchBytes : Nat := 0
  /-- FEATURES: features -/
  features : List FeatureDef := []
  /-- FEATURES: tables -/
  tablesF : List TableFDef := []
  /-- CASKS -/
  casks : Option CaskDef := none
  /-- DEADLINES -/
  deadlines : List Deadline := []
  /-- a reserved field or value of some section is not zero (R12) -/
  reservedBad : Bool := false
  deriving DecidableEq, Repr, Inhabited

/-- A bundle: its header and its sections. -/
structure Bundle where
  /-- header -/
  hdr : BHeader
  /-- sections -/
  body : BundleBody
  deriving DecidableEq, Repr, Inhabited

/-- One image entry of a firmware bundle (Table 14.10). -/
structure FwImage where
  /-- TYPE -/
  type : Nat := 0
  /-- IFVER -/
  ifver : Nat := 0
  /-- OFFSET -/
  off : Nat := 0
  /-- LENGTH -/
  len : Nat := 0
  /-- SHA-512 as a number -/
  digest : Nat := 0
  deriving DecidableEq, Repr, Inhabited

/-- A firmware bundle in a flash slot (Table 14.10): its fields and whether its bytes verify. -/
structure FwBundle where
  /-- the slot holds a bundle -/
  present : Bool := false
  /-- KEYSLOT -/
  keyslot : Nat := 0
  /-- SVN -/
  svn : Nat := 0
  /-- COMMIT_SVN -/
  commitSvn : Bool := false
  /-- REVOKE, four bits -/
  revoke : Nat := 0
  /-- STEPPINGS -/
  steppings : Nat := 0
  /-- interface versions in TYPE order: main, link, memory training, Coppice -/
  ifvers : List Nat := []
  /-- image digests in TYPE order -/
  digests : List Nat := []
  /-- TESTED_WITH entries: stepping and four versions -/
  tested : List (Nat × List Nat) := []
  /-- MAGIC, FORMAT and the Ed25519 signature verify, and every image digest matches -/
  verifies : Bool := false
  deriving DecidableEq, Repr, Inhabited

end Sys2Proof.Machine
end

