-- ==== Sys2Proof/Syntax.lean ====
section
/-! DEFINITION. The commands and events of the block: one constructor of Instr for each row of
spec/opcode_table.json, with the operands its rule gives it. The table gives no row any bits.
A mailbox command names only the mailbox: its arguments stand in the command ring (R318, R319). -/

namespace Sys2Proof

open Sys2Proof.Machine (BundleBody)

/-- The two instruction streams of a plot program (R288). -/
inductive Stream where
  | primary | deferred
  deriving DecidableEq, Repr, Inhabited

/-- What an access meets in the memory array (R142, R144). -/
inductive MemErr where
  | clean | corrected | uncorrectable
  /-- the metadata line of a cellar block holds an error that cannot be corrected (06 R123) -/
  | metadata
  /-- an error of the Malt cache's own array, corrected or answered by a refetch (06 R145) -/
  | array
  deriving DecidableEq, Repr, Inhabited

/-- The hint of an access (Table 06.5). -/
inductive Hint where
  | none | stream | keep | last
  deriving DecidableEq, Repr, Inhabited

/-- The status of a PCI Express completion (R302). -/
inductive CplStatus where
  | success | unsupported | abort
  deriving DecidableEq, Repr, Inhabited

/-- What makes the module host-detached (R310). -/
inductive DetachCause where
  | dlDown | perst | hotReset | flr | d3hot
  deriving DecidableEq, Repr, Inhabited

/-- What triggers a takeover (R331). -/
inductive TakeoverCause where
  | fwActivate | heartbeat | coreFault
  deriving DecidableEq, Repr, Inhabited

/-- Why CHANNEL_IN or CELLAR_IN fails (R367). -/
inductive ServiceFail where
  | training (channel : Nat)
  | coppice (channel : Nat)
  | check (channel : Nat)
  deriving DecidableEq, Repr, Inhabited

/-- What came for one position of a bag in the lookup exchange (R165): a row's bytes, the default row in place of a poisoned one, or
nothing. -/
inductive RowIn where
  | data (bs : List Byte)
  | poisoned
  | late
  deriving DecidableEq, Repr, Inhabited

/-- What a Hopper measured (Table 06.14); BYTES_WR and BYTES_RD follow from its parameters. -/
structure HopperRep where
  /-- ERRORS -/
  errors : Nat
  /-- FIRST_ADDR -/
  firstAddr : Nat
  /-- FIRST_MASK, 512 bits -/
  firstMask : Nat
  /-- PIN_ERRORS -/
  pinErrors : List Nat
  /-- RATE, MB/s -/
  rate : Nat
  /-- LAT_MIN, ns -/
  latMin : Nat
  /-- LAT_MAX, ns -/
  latMax : Nat
  deriving DecidableEq, Repr, Inhabited

/-- A capability record received in training (Table 10.4). -/
structure CapRec where
  /-- PROTO -/
  proto : BitVec 16
  /-- PORT -/
  port : BitVec 8
  /-- MODES -/
  modes : BitVec 8
  /-- DOMAIN -/
  domain : BitVec 32
  /-- RANK -/
  rank : BitVec 16
  /-- SYNT -/
  synt : BitVec 8
  /-- OPTIC_PS -/
  opticPs : BitVec 16
  /-- CARRIER_PS -/
  carrierPs : BitVec 16
  /-- SERIAL -/
  serial : BitVec 64
  /-- STEPPING -/
  stepping : BitVec 16
  /-- LINKFW -/
  linkFw : BitVec 32
  deriving DecidableEq, Repr, Inhabited

/-- How a training stage ends (R236). -/
inductive StageEnd where
  /-- the stage is passed: stage 1 brings what CMIS gives: the cable type, its length in cm, the maximum power in 0.25 W, and the
  applications advertised (bit 0: 4 host lanes at 400 Gb/s; bit 1: 800GBASE-CR4 or 800GBASE-DR4) -/
  | pass (cable cm power apps : Nat)
  /-- the stage failed or exceeded its limit, with the cause code of Table 10.10 -/
  | fail (cause : Nat)
  deriving DecidableEq, Repr, Inhabited

/-- What a poll of an optics module finds (R259). -/
structure CmisFlags where
  /-- temperature, supply or laser-bias high alarm -/
  alarm : Bool
  /-- its flag -/
  flag : Nat
  /-- its lane -/
  lane : Nat
  /-- the module fault state -/
  fault : Bool
  deriving DecidableEq, Repr, Inhabited

/-- The kind of a Coppice run (R371). -/
inductive CoppiceKind where
  | shutdown | start | demand
  deriving DecidableEq, Repr, Inhabited

/-- One block's Coppice result (Table 15.5). -/
structure CoppiceRec where
  /-- BLOCK -/
  block : Nat
  /-- RESULT: 0 PASS, 1 FAIL, 2 NOT_RUN, 3 SCAN_BLOCKED -/
  result : Nat
  /-- METHOD -/
  method : Nat
  /-- FAIL_DETAIL -/
  detail : Nat
  /-- SIG_OBSERVED -/
  observed : Nat
  /-- SIG_EXPECTED -/
  expected : Nat
  deriving DecidableEq, Repr, Inhabited

/-- What a live take-up replaces (R369). -/
inductive TakeUp where
  | port (p : Fin 16)
  | phy
  | coppice
  deriving DecidableEq, Repr, Inhabited

/-- The link word of a withy flit (Table 10.2). -/
structure LinkWord where
  /-- SEQ -/
  seq : BitVec 8
  /-- ACK -/
  ack : BitVec 8
  /-- EPOCH_START -/
  epochStart : Bool
  /-- TEMPLATE -/
  template : BitVec 3
  /-- EPOCH -/
  epoch : BitVec 32
  deriving DecidableEq, Repr, Inhabited

/-- The header of an Espalier frame (Table 10.8). -/
structure FrameHdr where
  /-- KIND: 0 DATA, 1 WITHY, 2 ACK -/
  kind : BitVec 4
  /-- COUNT -/
  count : BitVec 6
  /-- SRC_RANK -/
  srcRank : BitVec 15
  /-- SEQ -/
  seq : BitVec 32
  /-- ACK -/
  ack : BitVec 32
  /-- CREDIT -/
  credit : BitVec 16
  /-- FIRST_POS -/
  firstPos : BitVec 16
  deriving DecidableEq, Repr, Inhabited

/-- The cause of a failed start stage (Table 14.8, Table 14.9). -/
inductive StartCause where
  | rails | clock | signature | rollback | manifest | flash | maltster | hbmTrain | cellarTrain
  | d2dLink | serdes | selftest | thermal | memoryInit
  deriving DecidableEq, Repr, Inhabited

/-- One command or event of the block: a row of spec/opcode_table.json each. -/
inductive Instr where
  -- mailbox commands (Tables 13.8 to 13.15)
  | getInfo (m : Fin 64)
  | getStatus (m : Fin 64)
  | setProfile (m : Fin 64)
  | park (m : Fin 64)
  | unpark (m : Fin 64)
  | shutdown (m : Fin 64)
  | getAttestation (m : Fin 64)
  | setPartition (m : Fin 64)
  | allocObject (m : Fin 64)
  | freeObject (m : Fin 64)
  | moveObject (m : Fin 64)
  | setTunWindow (m : Fin 64)
  | hopperRun (m : Fin 64)
  | tableCreate (m : Fin 64)
  | tableLoad (m : Fin 64)
  | tableStageVersion (m : Fin 64)
  | tableCommitVersion (m : Fin 64)
  | tableExport (m : Fin 64)
  | replicateRows (m : Fin 64)
  | unreplicateRows (m : Fin 64)
  | granaryStats (m : Fin 64)
  | portConfig (m : Fin 64)
  /-- the exchanges' (T4 - T1, T3 - T2) in ps, and the partner's frequency offset (R239) -/
  | portMeasure (m : Fin 64) (exch : List (Nat × Nat)) (offset : Int)
  | portRetrain (m : Fin 64)
  | portStatus (m : Fin 64)
  | partnerTable (m : Fin 64)
  | setMac (m : Fin 64)
  /-- the contents of the file's sections, whose encoding the spec does not give -/
  | bundleLoad (m : Fin 64) (body : BundleBody)
  | bundleActivate (m : Fin 64)
  | stepArm (m : Fin 64)
  | stepStatus (m : Fin 64)
  | reshard (m : Fin 64)
  | reshardCancel (m : Fin 64)
  | setStragglerPolicy (m : Fin 64)
  | ruleSet (m : Fin 64)
  | setStepSize (m : Fin 64)
  | precondConfig (m : Fin 64)
  | stateExport (m : Fin 64)
  | stateImport (m : Fin 64)
  | noiseStats (m : Fin 64)
  | fwStage (m : Fin 64)
  | fwActivate (m : Fin 64)
  | channelOut (m : Fin 64)
  | channelIn (m : Fin 64) (bad : Option ServiceFail)
  | cellarOut (m : Fin 64)
  | cellarIn (m : Fin 64) (bad : Option ServiceFail)
  /-- the channels (0 to 383) and links (384 to 387) whose retraining failed (R368) -/
  | recalibrate (m : Fin 64) (failed : List Nat)
  | sensorsRead (m : Fin 64)
  | countersRead (m : Fin 64)
  | errlogRead (m : Fin 64)
  | stickyClear (m : Fin 64)
  | coppiceResults (m : Fin 64)
  | idleByCause (m : Fin 64)
  | reservedOpcode (m : Fin 64)
  | coordFail (m : Fin 64)
  | bundleCoordFail (m : Fin 64)
  -- BAR0 and BAR2, fences, host link (12, 13)
  | mbxCmdProd (m : Fin 64) (v : BitVec 16)
  | mbxRspCons (m : Fin 64) (v : BitVec 16)
  | mbxCtrlReset (m : Fin 64) (v : BitVec 64)
  | stmStickyW1c (g : Fin 16) (v : BitVec 32)
  | stmSupplyWrite
  | fncBar2BaseWrite (v : BitVec 64)
  | fncHostLatWrite (v : BitVec 64)
  /-- `low`: the write covers byte 0; `wide`: it is an 8-byte write (R304) -/
  | fncFenceReq (low wide : Bool) (v : BitVec 64)
  | segmentEnable (n : Fin 16) (w0 : BitVec 64)
  | segmentDisable (n : Fin 16) (w0 : BitVec 64)
  /-- a 4- or 8-byte write (`wide`) at a BAR0 register offset -/
  | registerWrite (off : BitVec 26) (wide : Bool) (v : BitVec 64)
  | fenceComplete
  /-- a BAR0 read of `len` bytes, or a write of `data` -/
  | bar0Access (write : Bool) (off : BitVec 26) (len : Nat) (data : List Byte)
  | bar2Read (off len : Nat)
  | bar2Write (off : Nat) (data : List Byte) (ep : Bool)
  | atomicopRequest (off : Nat)
  | configRequest (write : Bool) (reg : BitVec 12) (v : BitVec 32)
  | readCompletion (tag : Nat) (status : CplStatus) (ep : Bool) (data : List Byte)
  | cplTimeout (tag : Nat)
  | pcieRecovery (ns : Nat)
  | linkSlow (speed : BitVec 3) (width : BitVec 5)
  | hostDetach (cause : DetachCause)
  | coalesceTimeout (m : Fin 64)
  | takeover (cause : TakeoverCause)
  | maltsterRestart (served : Bool)
  | maltsterLoss
  -- plots (02, 05, 11)
  | hop (p : Fin 64) (st : Stream)
  | rowGroupStart (p : Fin 64) (h : Fin 4)
  | hedgeDrain (p : Fin 64) (h : Fin 4)
  | hopComplete (p : Fin 64)
  | wload (p : Fin 64) (st : Stream)
  | wloadComplete (p : Fin 64)
  | mash (p : Fin 64) (st : Stream)
  | move (p : Fin 64) (st : Stream)
  | moveComplete (p : Fin 64)
  | swait (p : Fin 64) (st : Stream)
  | spost (p : Fin 64) (st : Stream)
  | ewait (p : Fin 64) (st : Stream)
  | fclr (p : Fin 64) (st : Stream)
  | regionCheck (p : Fin 64)
  /-- the combined flags F' of the scope (bits NAN, OVF, SAT, INV, DZ) and its combined amax -/
  | scopeDecision (p : Fin 64)
  -- Mash engine (03)
  | loopDescriptor (p : Fin 64)
  | rootDescriptor (p : Fin 64)
  | nop (p : Fin 64)
  | fadd (p : Fin 64)
  | fsub (p : Fin 64)
  | fmul (p : Fin 64)
  | ffma (p : Fin 64)
  | fmin (p : Fin 64)
  | fmax (p : Fin 64)
  | fabs (p : Fin 64)
  | fneg (p : Fin 64)
  | fdiv (p : Fin 64)
  | fsqrt (p : Fin 64)
  | fexp2 (p : Fin 64)
  | flog2 (p : Fin 64)
  | fcmpeq (p : Fin 64)
  | fcmplt (p : Fin 64)
  | fcmple (p : Fin 64)
  | fcmpun (p : Fin 64)
  | iadd (p : Fin 64)
  | isub (p : Fin 64)
  | imul (p : Fin 64)
  | and (p : Fin 64)
  | or (p : Fin 64)
  | xor (p : Fin 64)
  | shl (p : Fin 64)
  | shra (p : Fin 64)
  | shrl (p : Fin 64)
  | imin (p : Fin 64)
  | imax (p : Fin 64)
  | icmpeq (p : Fin 64)
  | icmplt (p : Fin 64)
  | vmov (p : Fin 64)
  | fsel (p : Fin 64)
  | vbcs (p : Fin 64)
  | vscal (p : Fin 64)
  | cvtF2b (p : Fin 64)
  | cvtF2h (p : Fin 64)
  | cvtB2f (p : Fin 64)
  | cvtH2f (p : Fin 64)
  | cvtF2i (p : Fin 64)
  | cvtI2f (p : Fin 64)
  | iota (p : Fin 64)
  | rsum (p : Fin 64)
  | rsuma (p : Fin 64)
  | rmax (p : Fin 64)
  | rmin (p : Fin 64)
  | ramax (p : Fin 64)
  | irsuma (p : Fin 64)
  | mand (p : Fin 64)
  | mor (p : Fin 64)
  | mnot (p : Fin 64)
  | mset (p : Fin 64)
  | mclr (p : Fin 64)
  | mfclr (p : Fin 64)
  -- memory (06); `req` is a requester number of Table 12.8
  /-- an access within one 128-byte line: a read of `len` bytes, or a write of `data` -/
  | maltAccess (req : Nat) (addr : BitVec 44) (hint : Hint) (write : Bool) (len : Nat) (data : List Byte) (err : MemErr)
  /-- up to 8 whole lines of one frame -/
  | commitGroup (req : Nat) (lines : List (BitVec 44 × List Byte))
  | fence (req : Nat)
  /-- `fmt` is a format code; `bits` the element, an MB8 element with its exponent in [15:8] -/
  | tadd (req : Nat) (addr : BitVec 44) (fmt : BitVec 4) (bits : Word)
  | tread (req : Nat) (addr : BitVec 44)
  | treadclr (req : Nat) (addr : BitVec 44)
  | tclr (req : Nat) (addr : BitVec 44)
  | tunIadd (req : Nat) (addr : BitVec 44) (v : Word)
  | ireadclr (req : Nat) (addr : BitVec 44)
  | linkRetransmit (die : Fin 4)
  | cellarDieLost (die : Fin 4)
  /-- a scrub pass of a channel, with the addresses of the errors it meets -/
  | scrub (ch : Fin 384) (found : List (BitVec 44 × MemErr))
  | hotRefresh (stack : Fin 8) (hot : Bool)
  | driftTracking (ch : Fin 384)
  | hopperDone (h : Fin 384) (rep : HopperRep)
  -- Granary (07)
  /-- a distinct row asked for by a requester's rank in a micro-batch; with this module's own rank and a row of another owner, that
  owner's answer: the handle, or none for OVER -/
  | resolutionRequest (table : BitVec 16) (rank : BitVec 15) (micro : Nat) (row : BitVec 48) (answer : Option (BitVec 24))
  | sectorFill (entry : BitVec 22) (sector : Fin 32) (err : MemErr)
  | agingSweep
  /-- the bag of a sample and feature; a position's row data, or none when late or absent -/
  | pool (sample : Nat) (feature : Nat) (rows : List RowIn)
  | gradientRecord (table : BitVec 16) (k : BitVec 8) (blocks : List Byte) (handles : List Nat)
  | embeddingRowUpdate (table : BitVec 16) (slot : Nat)
  -- reductions and the Lauter engine (08, 11)
  /-- the contribution's bytes (R283) and the indices of its absent flits -/
  | contribArrival (group : Nat) (rank : Nat) (payload : List Byte) (absent : List Nat)
  | denseGroupUpdate (tensor : BitVec 16) (group : Nat)
  | reducedBlock (group : Nat) (block : Nat) (payload : List Byte) (absent : Bool)
  | distArrival (tensor : BitVec 16) (owner : Nat) (first : Nat) (payload : List Byte) (absent : Bool)
  | normReduction (set : Fin 64) (q : Nat) (sats : Nat)
  | reshardRecord (table : BitVec 16) (shard : BitVec 16) (index : Nat) (record : List Byte) (mirrored : Bool)
  | reshardComplete (table : BitVec 16)
  | reshardFail (table : BitVec 16)
  -- Cask store (09)
  | tokenAppend (slot : Fin 2048) (layer : Fin 8) (key value : List Byte)
  | spill (entry : Nat)
  | prefetch (entry : Nat)
  | partDelivery (sample : Nat) (layer : Fin 8) (pos : Nat) (guest : Option (Nat × Fin 2048))
  | saveImage (slot : Fin 2048)
  | loadImage (slot : Fin 2048)
  | splitPartial (sample : Nat) (layer : Fin 8) (part : Nat) (partials : Option (List Word))
  -- releases, tallies, semaphores (11)
  /-- RELEASE on a port, with ACC, and the time from its arrival at the pins to its copies' places in the withy queues, in
  25 ps units; the waits there are added at departure (R242) -/
  | release (port : Fin 16) (fid : Fin 64) (skip : Bool) (template : BitVec 3) (epoch : BitVec 32) (acc : BitVec 40) (residence : Nat)
  | releaseAct (fid : Fin 64)
  | arriveAt
  | gradTallyArrival (table : BitVec 16)
  | amaxArrival (fid : Fin 64)
  | rootIssue (fid : Fin 64)
  | tallyArrive (port : Fin 16) (fid : Fin 64) (gen : BitVec 8) (count : BitVec 16) (lane : BitVec 12) (value : BitVec 13)
  | tallyCombined (fid : Fin 64) (gen : BitVec 8) (lane : BitVec 12) (value : BitVec 13)
  | localTally (n : Fin 256)
  | tallyTimeout (fid : Fin 64)
  | semPost (rank : BitVec 15) (plot : Fin 64) (sem : Fin 64) (count : BitVec 16)
  -- Espalier links (10)
  | absent (port : Fin 16) (marker : BitVec 16) (flit : BitVec 20) (rank : BitVec 15)
  | replayNotice (port : Fin 16) (seq : BitVec 8)
  | measReq (port : Fin 16) (id : BitVec 8) (turnaround : BitVec 48)
  | measResp (port : Fin 16) (id : BitVec 8) (t41 : Nat) (turnaround : BitVec 48)
  | cap (port : Fin 16) (rec : CapRec)
  | portNotice (port : Fin 16) (event : BitVec 4) (sig : BitVec 32)
  /-- the 256 bytes of a flit received at a withy position -/
  | withyFlit (port : Fin 16) (raw : List Byte)
  /-- the 256 bytes of a flit received at a data position -/
  | dataFlit (port : Fin 16) (raw : List Byte)
  | flitTime (port : Fin 16)
  | runCheck (port : Fin 16) (run : Nat)
  | trainingStage (port : Fin 16) (outcome : StageEnd)
  | linkDown (port : Fin 16) (cause : BitVec 8)
  | autoRetrain (port : Fin 16)
  | delayMeasurement (port : Fin 16)
  | linkDegraded (port : Fin 16)
  | cmisPoll (port : Fin 16) (flags : CmisFlags)
  | syntHoldover
  | syntLost
  | syntLock (port : Option (Fin 16)) (steer : BitVec 32)
  /-- an Espalier frame and its bodies or words, in order -/
  | switchedFrame (port : Fin 16) (hdr : FrameHdr) (bodies : List (List Byte))
  | switchedResend (port : Fin 16) (rank : BitVec 15)
  | pauseRx (port : Fin 16)
  -- supply, power, thermal, start (14)
  | hold (mv : BitVec 16)
  | holdEnd (lowest : BitVec 16) (us : BitVec 32)
  | supplyPark
  | supplyReset (mv : BitVec 16) (us : BitVec 32)
  | overvolt (mv : BitVec 16) (us : BitVec 32)
  | supplyHigh (mv : BitVec 16) (us : BitVec 32)
  /-- plot clocks the power controller withholds in this 10 µs interval -/
  | powerThrottle (clocks : Nat)
  /-- whole degrees above the sensor's throttle level, and plot clocks of the interval -/
  | thermalThrottle (sensor : Fin 166) (degrees : Nat) (clocks : Nat)
  | thermalAlert (sensor : Fin 166)
  | thermtrip (sensor : Fin 166)
  | sensorSample (sensor : Fin 166) (value : Option Int)
  | shutdownReqN
  | start (mv : BitVec 16) (bladeA bladeB : Bool)
  | startStage (stage : Fin 9) (failed : Option StartCause) (channels : List (Fin 384))
  | startFailed (cause : StartCause)
  | coppiceTest (kind : CoppiceKind) (results : List CoppiceRec) (ms : Nat)
  | liveTakeUp (what : TakeUp)
  | bypass
  | idcode
  | samplePreload (pins : List Bool)
  | extest
  | pcieLinkUp (speed : BitVec 3) (width : BitVec 5) (flit : Bool)
  | standbyReady
  | railFault (rail : Nat)
  deriving DecidableEq, Repr

end Sys2Proof
end

