-- ==== Sys2Proof/Decode.lean ====
section
/-! DEFINITION. The command a word spells. spec/opcode_table.json gives no row any bits: the block's commands arrive as
register writes, mailbox slots, link messages and pin events, which the families decode. -/

namespace Sys2Proof

/-- No row of the table has bits, so no word spells a command (assumption log, entry 8). -/
def decodeTableWord (_nbits _w : Nat) : Option Instr := none

end Sys2Proof
end

