-- ==== Sys2Proof/Machine/Crypto.lean ====
section
/-! DEFINITION. SHA-512 and Ed25519, which R354, R359 and Table 14.11 name. The spec gives neither algorithm: both are
PRESUMED (FIPS 180-4 and RFC 8032, assumption log, entry 27). -/

namespace Sys2Proof.Machine

/-! ### SHA-512 -/

/-- Round constants 0 to 19. -/
def shaK0 : List Nat :=
  [0x428A2F98D728AE22, 0x7137449123EF65CD, 0xB5C0FBCFEC4D3B2F, 0xE9B5DBA58189DBBC, 0x3956C25BF348B538,
   0x59F111F1B605D019, 0x923F82A4AF194F9B, 0xAB1C5ED5DA6D8118, 0xD807AA98A3030242, 0x12835B0145706FBE,
   0x243185BE4EE4B28C, 0x550C7DC3D5FFB4E2, 0x72BE5D74F27B896F, 0x80DEB1FE3B1696B1, 0x9BDC06A725C71235,
   0xC19BF174CF692694, 0xE49B69C19EF14AD2, 0xEFBE4786384F25E3, 0x0FC19DC68B8CD5B5, 0x240CA1CC77AC9C65]

/-- Round constants 20 to 39. -/
def shaK1 : List Nat :=
  [0x2DE92C6F592B0275, 0x4A7484AA6EA6E483, 0x5CB0A9DCBD41FBD4, 0x76F988DA831153B5, 0x983E5152EE66DFAB,
   0xA831C66D2DB43210, 0xB00327C898FB213F, 0xBF597FC7BEEF0EE4, 0xC6E00BF33DA88FC2, 0xD5A79147930AA725,
   0x06CA6351E003826F, 0x142929670A0E6E70, 0x27B70A8546D22FFC, 0x2E1B21385C26C926, 0x4D2C6DFC5AC42AED,
   0x53380D139D95B3DF, 0x650A73548BAF63DE, 0x766A0ABB3C77B2A8, 0x81C2C92E47EDAEE6, 0x92722C851482353B]

/-- Round constants 40 to 59. -/
def shaK2 : List Nat :=
  [0xA2BFE8A14CF10364, 0xA81A664BBC423001, 0xC24B8B70D0F89791, 0xC76C51A30654BE30, 0xD192E819D6EF5218,
   0xD69906245565A910, 0xF40E35855771202A, 0x106AA07032BBD1B8, 0x19A4C116B8D2D0C8, 0x1E376C085141AB53,
   0x2748774CDF8EEB99, 0x34B0BCB5E19B48A8, 0x391C0CB3C5C95A63, 0x4ED8AA4AE3418ACB, 0x5B9CCA4F7763E373,
   0x682E6FF3D6B2B8A3, 0x748F82EE5DEFB2FC, 0x78A5636F43172F60, 0x84C87814A1F0AB72, 0x8CC702081A6439EC]

/-- Round constants 60 to 79. -/
def shaK3 : List Nat :=
  [0x90BEFFFA23631E28, 0xA4506CEBDE82BDE9, 0xBEF9A3F7B2C67915, 0xC67178F2E372532B, 0xCA273ECEEA26619C,
   0xD186B8C721C0C207, 0xEADA7DD6CDE0EB1E, 0xF57D4F7FEE6ED178, 0x06F067AA72176FBA, 0x0A637DC5A2C898A6,
   0x113F9804BEF90DAE, 0x1B710B35131C471B, 0x28DB77F523047D84, 0x32CAAB7B40C72493, 0x3C9EBE0A15C9BEBC,
   0x431D67C49C100D4C, 0x4CC5D4BECB3E42B6, 0x597F299CFC657E2A, 0x5FCB6FAB3AD6FAEC, 0x6C44198C4A475817]

/-- The 80 round constants. -/
def shaK : List Nat := shaK0 ++ shaK1 ++ shaK2 ++ shaK3

/-- The initial hash value. -/
def shaInit : List Nat :=
  [0x6A09E667F3BCC908, 0xBB67AE8584CAA73B, 0x3C6EF372FE94F82B, 0xA54FF53A5F1D36F1,
   0x510E527FADE682D1, 0x9B05688C2B3E6C1F, 0x1F83D9ABFB41BD6B, 0x5BE0CD19137E2179]

/-- A 64-bit word rotated right. -/
def rotr (n x : Nat) : Nat := (x >>> n) ||| ((x <<< (64 - n)) % 2 ^ 64)

/-- Sum modulo 2^64. -/
def add64 (a b : Nat) : Nat := (a + b) % 2 ^ 64

/-- A big-endian number. -/
def beNat (bs : List Byte) : Nat := bs.foldl (fun a b => 256 * a + b.toNat) 0

/-- n bytes of a big-endian number. -/
def beBytes (n v : Nat) : List Byte := (leBytes n v).reverse

/-- A message padded to whole blocks of 128 bytes. -/
def shaPad (m : List Byte) : List Byte :=
  let z := (240 - (m.length + 1) % 128) % 128
  m ++ (0x80 : Byte) :: zeros z ++ beBytes 16 (8 * m.length)

/-- The next word of the message schedule, whose words stand newest first. -/
def shaNext (w : List Nat) : Nat :=
  let s0 := let x := w.getD 14 0; rotr 1 x ^^^ rotr 8 x ^^^ (x >>> 7)
  let s1 := let x := w.getD 1 0; rotr 19 x ^^^ rotr 61 x ^^^ (x >>> 6)
  add64 (add64 (w.getD 15 0) s0) (add64 (w.getD 6 0) s1)

/-- n more words of the schedule. -/
def shaExtend : Nat → List Nat → List Nat
  | 0, w => w
  | n + 1, w => shaExtend n (shaNext w :: w)

/-- A block's 80 schedule words, oldest first. -/
def shaSchedule (blk : List Byte) : List Nat :=
  (shaExtend 64 ((List.range 16).map (fun i => beNat (slice blk (8 * i) 8))).reverse).reverse

/-- One round on the working variables a to h. -/
def shaRound (v : List Nat) (kw : Nat × Nat) : List Nat :=
  match v with
  | [a, b, c, d, e, f, g, h] =>
    let ch := (e &&& f) ^^^ ((2 ^ 64 - 1 - e) &&& g)
    let t1 := add64 (add64 h (rotr 14 e ^^^ rotr 18 e ^^^ rotr 41 e)) (add64 ch (add64 kw.1 kw.2))
    let t2 := add64 (rotr 28 a ^^^ rotr 34 a ^^^ rotr 39 a) ((a &&& b) ^^^ (a &&& c) ^^^ (b &&& c))
    [add64 t1 t2, a, b, c, add64 d t1, e, f, g]
  | _ => v

/-- One block. -/
def shaBlock (h : List Nat) (blk : List Byte) : List Nat :=
  List.zipWith add64 h ((List.zip shaK (shaSchedule blk)).foldl shaRound h)

/-- n blocks of a padded message. -/
def shaBlocks : Nat → List Byte → List Nat → List Nat
  | 0, _, h => h
  | n + 1, m, h => shaBlocks n (m.drop 128) (shaBlock h (m.take 128))

/-- The SHA-512 digest: 64 bytes. -/
def sha512 (m : List Byte) : List Byte :=
  let p := shaPad m
  ((shaBlocks (p.length / 128) p shaInit).map (beBytes 8)).flatten

/-! ### Ed25519 -/

/-- The field's prime. -/
def edP : Nat := 2 ^ 255 - 19

/-- The group's order. -/
def edL : Nat := 2 ^ 252 + 27742317777372353535851937790883648493

/-- b to the power n modulo the prime, by n's lowest `fuel` bits. -/
def powModGo : Nat → Nat → Nat → Nat → Nat
  | 0, _, _, acc => acc
  | fuel + 1, b, n, acc => powModGo fuel (b * b % edP) (n / 2) (if n % 2 = 1 then acc * b % edP else acc)

/-- A power in the field. -/
def powMod (b n : Nat) : Nat := powModGo 256 (b % edP) n 1

/-- An inverse in the field. -/
def edInv (x : Nat) : Nat := powMod x (edP - 2)

/-- A difference in the field. -/
def edSub (a b : Nat) : Nat := (a + edP - b % edP) % edP

/-- The curve's constant d. -/
def edD : Nat := (edP - 121665) * edInv 121666 % edP

/-- A point in extended coordinates. -/
structure EdPoint where
  /-- X -/
  x : Nat
  /-- Y -/
  y : Nat
  /-- Z -/
  z : Nat
  /-- T -/
  t : Nat
  deriving DecidableEq, Repr

/-- The neutral point. -/
def edZero : EdPoint := ⟨0, 1, 1, 0⟩

/-- A sum of points. -/
def edAdd (p q : EdPoint) : EdPoint :=
  let a := edSub p.y p.x * edSub q.y q.x % edP
  let b := (p.y + p.x) * (q.y + q.x) % edP
  let c := 2 * p.t * q.t * edD % edP
  let d := 2 * p.z * q.z % edP
  let e := edSub b a
  let f := edSub d c
  let g := (d + c) % edP
  let h := (b + a) % edP
  ⟨e * f % edP, g * h % edP, f * g % edP, e * h % edP⟩

/-- n times a point, by n's lowest `fuel` bits. -/
def edMulGo : Nat → Nat → EdPoint → EdPoint → EdPoint
  | 0, _, _, acc => acc
  | fuel + 1, n, p, acc => edMulGo fuel (n / 2) (edAdd p p) (if n % 2 = 1 then edAdd acc p else acc)

/-- A multiple of a point. -/
def edMul (n : Nat) (p : EdPoint) : EdPoint := edMulGo 256 n p edZero

/-- A point's negative. -/
def edNeg (p : EdPoint) : EdPoint := ⟨edSub 0 p.x, p.y, p.z, edSub 0 p.t⟩

/-- The x of sign bit `sign` that belongs to a y, where there is one. -/
def edRecover (y sign : Nat) : Option Nat :=
  let u := edSub (y * y % edP) 1
  let x2 := u * edInv ((edD * y % edP * y + 1) % edP) % edP
  let r := powMod x2 ((edP + 3) / 8)
  let r := if r * r % edP = x2 then r else r * powMod 2 ((edP - 1) / 4) % edP
  if r * r % edP ≠ x2 then none
  else if r = 0 ∧ sign = 1 then none
  else some (if r % 2 = sign then r else edP - r)

/-- A point read from its 32 bytes. -/
def edDecode (bs : List Byte) : Option EdPoint :=
  let v := leAt bs 0 32
  let y := v % 2 ^ 255
  if edP ≤ y then none else (edRecover y (v / 2 ^ 255)).map (fun x => ⟨x, y, 1, x * y % edP⟩)

/-- A point's 32 bytes. -/
def edEncode (p : EdPoint) : List Byte :=
  let i := edInv p.z
  leBytes 32 (p.y * i % edP + 2 ^ 255 * (p.x * i % edP % 2))

/-- The base point. -/
def edBase : EdPoint :=
  let y := 4 * edInv 5 % edP
  let x := (edRecover y 0).getD 0
  ⟨x, y, 1, x * y % edP⟩

/-- The secret scalar of a seed. -/
def edScalar (seed : List Byte) : Nat :=
  let a := leAt (sha512 seed) 0 32
  a % 2 ^ 254 / 8 * 8 + 2 ^ 254

/-- The public key of a seed. -/
def edPublic (seed : List Byte) : List Byte := edEncode (edMul (edScalar seed) edBase)

/-- A hash as a scalar. -/
def edHash (m : List Byte) : Nat := leNat (sha512 m) % edL

/-- The signature of a message under a seed: 64 bytes. -/
def edSign (seed m : List Byte) : List Byte :=
  let r := edHash (slice (sha512 seed) 32 32 ++ m)
  let rb := edEncode (edMul r edBase)
  rb ++ leBytes 32 ((r + edHash (rb ++ edPublic seed ++ m) * edScalar seed) % edL)

/-- A signature verifies under a public key. -/
def edVerify (key m sig : List Byte) : Bool :=
  let sc := leAt sig 32 32
  match edDecode key with
  | none => false
  | some a =>
    decide (key.length = 32) && decide (sig.length = 64) && decide (sc < edL) &&
      edEncode (edAdd (edMul sc edBase) (edMul (edHash (slice sig 0 32 ++ key ++ m)) (edNeg a))) == slice sig 0 32

end Sys2Proof.Machine
end

