-- ==== Sys2Proof/Config.lean ====
section
/-! DEFINITION. What an implementation fixes and the manual leaves open. Each constant is opaque: nothing in
Lean can evaluate it, so a statement about it holds for every value (assumption log, entries 1 to 6, 95, 98 and 111). -/

namespace Sys2Proof

/-- Sectors (1 to 8) that the Kiln codec needs for a block of 512 bytes that is not all zero: R122 gives the codec no
algorithm and only says that the size is a pure function of the bytes. -/
opaque Config.kilnSectors : List Byte → Nat

/-- The Malt cache set, within its slice, of a line: R125 gives slices, ways and line size and no index function. -/
opaque Config.maltSet : Nat → Nat

/-- What a byte of host memory that the module has not written holds: the host's business (R298). -/
opaque Config.hostByte : Nat → Byte

/-- A free value: the manual states an effect and not this value. It is applied to State.free, which every use advances. -/
opaque Config.freeValue : Nat → Nat

/-- What a weight-bank half reads as under a format other than the WLOAD's that filled it (Table 02.8 requires them equal
and R48 does not check it): raw bytes of the half, format code, row and column. -/
opaque Config.bankMismatch : List Byte → Nat → Nat → Nat → Nat

/-- Plot clocks of arbitration lost in the worst case of R44 by so many accesses of an operation against so many that the bundle
schedules on the same plot in the same interval: the rule names the charge and gives no formula. -/
opaque Config.arbWorst : Nat → Nat → Nat

/-- Plot clocks lost to arbitration or to a dependency of the running ones: which accesses collide (R43), and so in which clocks a
hedge's or Mash engine's counters see a stall (R50, R71), hangs on the instants of accesses, which no command carries. Applied to
the clock count, the plot and the port of Table 02.7 (log 111). -/
opaque Config.lostClocks : Nat → Nat → Nat → Nat

/-- A byte that a Hopper leaves in its channel (R146), for the patterns and data of which Table 06.13 gives no byte sequence: applied
to PATTERN, DATA, READ_PCT, SEED, START, LENGTH, LIMIT, to the Hopper and to the channel-relative address. -/
opaque Config.hopperByte : List Nat → Nat → Nat → Byte

/-- BYTES_WR and BYTES_RD of a Hopper where Table 06.13 does not give its accesses (R147): applied to the same parameters and to
the Hopper. -/
opaque Config.hopperMoved : List Nat → Nat → Nat × Nat

/-- What the memory-training image stores for a channel or a die-to-die link (R148: delays, Vref, equaliser, deskew): the results are
the part's own. Applied to the channel or link and to the count of trainings. -/
opaque Config.trainedWord : Nat → Nat → Nat

/-- The current record of a row at the end of a step at the module that owns it, where that is another module (R172): applied to the
table, the row and the step. -/
opaque Config.ownerRecord : Nat → Nat → Nat → List Byte

/-- The non-finite events of a skipped step on the other modules, as far as they make the combined count that STEP_STATUS reports at a
module that is not the root of the tally: the release carries SKIP and no count (R113, R114). Applied to the step (log 111). -/
opaque Config.othersCount : Nat → Nat

end Sys2Proof
end

