-- ==== Sys2Proof/Machine/State.lean ====
section
/-! DEFINITION. The state of the block as plain data, and the state right after power-on. Each field's docstring
gives its width, the rule of spec/ that names it and its reset value; every table is sparse and canonical (Tab). -/

namespace Sys2Proof.Machine

/-! ### Housekeeping, supply, start-up, firmware (13, 14, 15) -/

/-- STM_MODE.MODE (Table 13.2). -/
inductive Mode where
  | starting | fallow | ready | running | parked | hold | shuttingDown
  deriving DecidableEq, Repr, Inhabited

/-- An event log entry (Table 15.9). -/
structure LogEntry where
  /-- SEQ -/
  seq : Nat
  /-- REPEAT -/
  rep : Nat
  /-- GROUP -/
  group : Nat
  /-- BIT -/
  bit : Nat
  /-- SOURCE (Table 15.2) -/
  source : Nat
  /-- STEP -/
  step : Nat
  /-- TIME, 40 ns ticks -/
  time : Nat
  /-- DATA, 24 bytes -/
  data : List Byte
  /-- the entry has been returned by ERRLOG_READ (R378) -/
  read : Bool
  deriving DecidableEq, Repr, Inhabited

/-- A sensor's record (R346, Table 14.7): value, minimum, maximum. -/
structure Sensor where
  /-- value -/
  value : Int := 0
  /-- minimum since the last SENSORS_READ -/
  lo : Int := 0
  /-- maximum since the last SENSORS_READ -/
  hi : Int := 0
  /-- sampled since the last SENSORS_READ -/
  seen : Bool := false
  /-- the last sample failed and reads 0x8000_0000 -/
  failed : Bool := false
  deriving DecidableEq, Repr, Inhabited

/-- The housekeeping domain. -/
structure Housekeeping where
  /-- TIME, 64 bits: 40 ns ticks since the current start began; 15 R378; reset 0 -/
  now : Nat := 0
  /-- sticky error record, 16 groups of 32 bits; 15 R376; reset 0 -/
  sticky : Tab Nat := []
  /-- sticky bits an event has set in the current housekeeping cycle, by group, 32 bits: a clear in that cycle leaves them set; 15 R11; reset 0 -/
  fresh : Tab Nat := []
  /-- event log, ring of 1,024 entries of 48 bytes; 15 R378; reset empty -/
  log : List LogEntry := []
  /-- SEQ of the next log entry, 32 bits; 15 R378; reset DESIGN CHOICE 0 (never reset since manufacture) (log 29) -/
  logSeq : Nat := 0
  /-- failed-start counter, 2 bits; 14 R353; reset DESIGN CHOICE 0 (log 29) -/
  failedStarts : Nat := 0
  /-- starts since manufacture, 32 bits; 14 R359; reset DESIGN CHOICE 0 (log 29) -/
  starts : Nat := 0
  /-- STM_SUPPLY.INPUT_MV, 16 bits; 13 R316; reset 0 -/
  inputMv : Nat := 0
  /-- STM_SUPPLY.MIN_MV, 16 bits; 13 R316; reset 0xFFFF -/
  minMv : Nat := 0xFFFF
  /-- input carried by power blades P48_A and P48_B, 1 bit each, as the last START found them; 14 R334; reset DESIGN CHOICE 0 (log 29) -/
  blades : Bool × Bool := (false, false)
  /-- the input is below 42.0 V, 1 bit; 14 R338; reset DESIGN CHOICE 0 (log 29) -/
  belowWarn : Bool := false
  /-- the input is above 56.0 V, 1 bit; 14 R338; reset DESIGN CHOICE 0 (log 29) -/
  aboveHigh : Bool := false
  /-- PWRGD pin, 1 bit; 14 R336; reset 0 (low before stage 1 completes) -/
  pwrgd : Bool := false
  /-- THERMTRIP_N pin driven low, 1 bit; 14 R336; reset 0 -/
  thermtrip : Bool := false
  /-- rails other than housekeeping's are up, 1 bit; 14 R345, R358; reset 0 -/
  rails : Bool := false
  /-- sensor records, 166 of 16 bytes; 14 R346; reset DESIGN CHOICE 0 (log 29) -/
  sensors : Tab Sensor := []
  /-- sensors at or above their alert level, 166 bits; 14 R336, R344; reset 0 -/
  alerting : Tab Bool := []
  /-- sixteenths of the plot clock the thermal controller withholds, 4 bits; 14 R344; reset 0 -/
  thermal : Nat := 0
  /-- the cap is lowered by 20 %, 1 bit; 14 R344 (Table 14.6); reset 0 -/
  capLowered : Bool := false
  /-- sticky bits of the start in progress, set once its stage 4 has restored the record: group, bit, block, datum; 14 R360; reset none -/
  early : List (Nat × Nat × Nat × Nat) := []
  /-- the housekeeping domain has lost its memory since the last start restored it; 14 R342, R349; reset 1 (power-on) -/
  powerLost : Bool := true
  /-- JTAG instruction register: 0 BYPASS, 1 IDCODE, 2 SAMPLE/PRELOAD, 3 EXTEST; 14 R337; reset PRESUMED 1 (IEEE 1149.1) (log 31) -/
  jtagIr : Nat := 1
  /-- JTAG boundary-scan register; 14 R337; reset DESIGN CHOICE empty (log 31) -/
  jtagBsr : List Bool := []
  /-- pins driven by EXTEST, 1 bit; 14 R337; reset 0 -/
  jtagDrive : Bool := false
  deriving DecidableEq, Repr, Inhabited

/-- One block's stored Coppice result (Table 15.5). -/
structure CopResult where
  /-- KIND -/
  kind : Nat
  /-- RESULT -/
  result : Nat
  /-- METHOD -/
  method : Nat
  /-- FAIL_DETAIL -/
  detail : Nat
  /-- START_COUNT -/
  starts : Nat
  /-- SIG_OBSERVED -/
  observed : Nat
  /-- SIG_EXPECTED -/
  expected : Nat
  deriving DecidableEq, Repr, Inhabited

/-- The quick-start record (R350). -/
structure QuickRec where
  /-- every block passed -/
  passed : Bool
  /-- digests of the images that ran -/
  digests : List Nat
  /-- die stepping -/
  stepping : Nat
  /-- the record has been used by a start -/
  used : Bool
  /-- its Ed25519 signature with the identity key, 64 bytes -/
  sig : List Byte
  deriving DecidableEq, Repr, Inhabited

/-- Fuses: fixed at manufacture but for SVN and revoke bits (R356, R359). -/
structure Fuses where
  /-- STM_SERIAL, 64 bits; 13 Table 13.1; reset DESIGN CHOICE 0 (fused) (log 28) -/
  serial : Nat := 0
  /-- STM_IDENT.STEPPING, 8 bits; 13 Table 13.2; reset DESIGN CHOICE 0 (fused) (log 28) -/
  stepping : Nat := 0
  /-- fused secret of the identity derivation engine; 14 R359; reset DESIGN CHOICE empty (log 28) -/
  secret : List Byte := []
  /-- four Ed25519 public keys of 32 bytes; 14 R356; reset DESIGN CHOICE empty (log 28) -/
  keys : List (List Byte) := []
  /-- revoke bits, 4 bits; 14 R356; reset DESIGN CHOICE 0 (log 28) -/
  revoke : Nat := 0
  /-- fused SVN, 64-bit thermometer code held as its value 0 to 64; 14 R356; reset DESIGN CHOICE 0 (log 28) -/
  svn : Nat := 0
  /-- Coppice signatures of the test image have an entry for this stepping; 15 R374; reset DESIGN CHOICE 1 (log 28) -/
  copEntry : Bool := true
  /-- JTAG IDCODE, 32 bits; 14 R337; reset DESIGN CHOICE 0 (log 28) -/
  idcode : Nat := 0
  deriving DecidableEq, Repr, Inhabited

/-- The flash device and what the boot ROM and the firmware keep in it (14, 15). -/
structure Flash where
  /-- slot A; 14 R354; reset DESIGN CHOICE empty (log 28) -/
  slotA : FwBundle := {}
  /-- slot B; 14 R354; reset DESIGN CHOICE empty (log 28) -/
  slotB : FwBundle := {}
  /-- boot slot is B, 1 bit; 14 R357; reset DESIGN CHOICE 0 (log 28) -/
  bootB : Bool := false
  /-- the boot slot is marked TRIAL, 1 bit; 14 R357; reset DESIGN CHOICE 0 (log 28) -/
  trial : Bool := false
  /-- a bundle is staged and not yet activated, 1 bit; 14 R357; reset DESIGN CHOICE 0 (log 28) -/
  stagedFw : Bool := false
  /-- cause of the last failed start, 8 bits; 14 R353; reset DESIGN CHOICE 0 (log 28) -/
  failCause : Nat := 0
  /-- failed-start counter's copy; 14 R353; reset DESIGN CHOICE 0 (log 28) -/
  counter : Nat := 0
  /-- quick-start record; 14 R350; reset DESIGN CHOICE none (log 28) -/
  quick : Option QuickRec := none
  /-- the last thing that happened was an orderly shutdown, 1 bit; 14 R350; reset DESIGN CHOICE 0 (log 28) -/
  orderly : Bool := false
  /-- saved sticky record; 14 R342; reset DESIGN CHOICE none (log 28) -/
  savedSticky : Option (Tab Nat) := none
  /-- saved event log; 14 R342; reset DESIGN CHOICE empty (log 28) -/
  savedLog : List LogEntry := []
  /-- stored calibration: temperature of each channel 0 to 383 and link 384 to 387 in 0.001 degree plus 2^31; 06 R148; reset DESIGN CHOICE none (log 28) -/
  calib : Tab Nat := []
  /-- stored trained values of each channel and link, one word each; 06 R148; reset DESIGN CHOICE none (log 28) -/
  trained : Tab Nat := []
  /-- trainings run, a count that picks the free trained values; the model's own (log 95); reset DESIGN CHOICE 0 -/
  trainings : Nat := 0
  /-- recalibrated since the channel went out; 15 R367; reset 0 -/
  recal : Tab Bool := []
  /-- Coppice results by block; 15 R375; reset DESIGN CHOICE none (log 28) -/
  coppice : Tab (Option CopResult) := []
  /-- Coppice header of the latest run: KIND, START_COUNT, IFVER, DURATION; 15 R375; reset DESIGN CHOICE 0 (log 28) -/
  copHdr : List Nat := [0, 0, 0, 0]
  deriving DecidableEq, Repr, Inhabited

/-- The running firmware (14, 15). -/
structure Firmware where
  /-- the running slot is B; 13 GET_INFO; reset 0 -/
  slotB : Bool := false
  /-- KEYSLOT of the running bundle; 14 R359; reset DESIGN CHOICE 0 (log 29) -/
  keyslot : Nat := 0
  /-- interface versions of the running images in TYPE order, 4 of 32 bits; 13 Table 13.1; reset DESIGN CHOICE 0 (log 29) -/
  ifvers : List Nat := [0, 0, 0, 0]
  /-- SHA-512 of the running images in TYPE order; 14 R359; reset DESIGN CHOICE 0 (log 29) -/
  digests : List Nat := [0, 0, 0, 0]
  /-- digests a live activation will bring, per TYPE; 15 R369; reset none -/
  next : Option (List Nat) := none
  /-- ports that have not yet taken up the new link image; 15 R369; reset 0 -/
  portsWait : Tab Bool := []
  /-- stage of the start in progress, 0 when none; 14 R347; reset 0 -/
  stage : Nat := 0
  /-- the start in progress began with the failed-start counter at 3; 14 R353; reset 0 -/
  fallowStart : Bool := false
  /-- the start in progress is quick; 14 R350; reset 0 -/
  quick : Bool := false
  deriving DecidableEq, Repr, Inhabited

/-! ### Memory (06) -/

/-- One line held by a Malt cache set, the set's list running from LRU to MRU (R127). -/
structure MaltLine where
  /-- line number, address / 128 -/
  line : Nat
  /-- dirty -/
  dirty : Bool
  /-- protected -/
  prot : Bool
  deriving DecidableEq, Repr, Inhabited

/-- MLT_TUN_REGION_n and MLT_TUN_COUNT_n (Tables 06.6, 06.7). -/
structure TunRegion where
  /-- BASE, 44 bits -/
  base : Nat := 0
  /-- END, 44 bits -/
  fin : Nat := 0
  /-- X, 8 bits signed -/
  x : Int := 0
  /-- EN -/
  en : Bool := false
  /-- TYPE: INT32 -/
  int32 : Bool := false
  /-- SAT_ADDS, 24 bits -/
  satAdds : Nat := 0
  /-- LOW_ADDS, 24 bits -/
  lowAdds : Nat := 0
  deriving DecidableEq, Repr, Inhabited

/-- A runtime object (R137). -/
structure Obj where
  /-- BASE -/
  base : Nat
  /-- bytes, whole frames -/
  size : Nat
  /-- tun region of a TUN object -/
  region : Option Nat
  /-- the table it belongs to -/
  table : Option Nat
  deriving DecidableEq, Repr, Inhabited

/-- A HOPPER_RUN in progress (R146). -/
structure HopRun where
  /-- the mailbox that waits for it -/
  mailbox : Nat
  /-- Hoppers started -/
  mask : Nat
  /-- PATTERN, DATA, READ_PCT, SEED, START, LENGTH, LIMIT -/
  params : List Nat
  /-- results so far -/
  done : Tab (Option HopperRep)
  deriving DecidableEq, Repr, Inhabited

/-- The two tiers, the Malt cache, the Kiln codecs and the tun adders. -/
structure Memory where
  /-- bytes at device addresses (Table 01.5): HBM 512 GiB, cellar 2 TiB, plot stores 192 MiB, Lauter buffers 16 MiB, Hedgerow buffers 8 MiB; 01 R19; reset 0 for HBM and cellar (14 R351), DESIGN CHOICE 0 for on-die SRAM (log 30) -/
  cells : List Host.Cell := []
  /-- poisoned HBM lines by address / 128; 06 R144; reset 0 -/
  hbmPoison : Tab Bool := []
  /-- POISON of Kiln entries by block; 06 Table 06.4; reset 0 -/
  kilnPoison : Tab Bool := []
  /-- Malt cache sets: key slice * 65536 + set, 16 ways each; 06 R125; reset DESIGN CHOICE empty (log 29) -/
  malt : Tab (List MaltLine) := []
  /-- Kiln counts per cellar slice: 8 * die + (blocks read, sectors read, blocks written, sectors written, RAW written, ZERO written); 06 R124; reset DESIGN CHOICE 0 (log 29) -/
  kiln : Tab Nat := []
  /-- HBM frame re-placements: frame to position + 1; 06 R119; reset 0 -/
  hbmMap : Tab Nat := []
  /-- cellar frame re-placements; 06 R119; reset 0 -/
  celMap : Tab Nat := []
  /-- withdrawn frames by address / 65536; 15 R362; reset 0 -/
  withdrawn : Tab Bool := []
  /-- channels out of service, HBM 0 to 127 and cellar 128 to 383; 15 R361; reset 0 -/
  chOut : Tab Bool := []
  /-- Cellar dies out of service; 15 R361; reset 0 -/
  dieOut : Tab Bool := []
  /-- Cellar dies lost; 06 R120; reset 0 -/
  dieLost : Tab Bool := []
  /-- writes dropped per lost die; 06 R120; reset DESIGN CHOICE 0 (log 29) -/
  lostWrites : Tab Nat := []
  /-- flits retransmitted per die-to-die link; 06 R120; reset DESIGN CHOICE 0 (log 29) -/
  linkRetries : Tab Nat := []
  /-- corrected errors per channel; 06 R142; reset DESIGN CHOICE 0 (log 29) -/
  ceCount : Tab Nat := []
  /-- instants of each channel's corrected errors within the last hour, newest first, at most 1,001; 06 R142; reset empty -/
  ceTimes : Tab (List Nat) := []
  /-- scrub passes per channel; 06 R143; reset DESIGN CHOICE 0 (log 29) -/
  scrubs : Tab Nat := []
  /-- drift-tracking passes per channel; 06 R148; reset DESIGN CHOICE 0 (log 29) -/
  drift : Tab Nat := []
  /-- stacks refreshed at twice the base rate; 06 R142; reset 0 -/
  hotRefresh : Tab Bool := []
  /-- tun regions 0 to 255; 06 Tables 06.6, 06.7; reset 0 -/
  tun : Tab TunRegion := []
  /-- tun operations issued for the running step per slice; 06 R135; reset 0 -/
  tunIssued : Tab Nat := []
  /-- tun operations applied for the running step per slice; 06 R135; reset 0 -/
  tunApplied : Tab Nat := []
  /-- six HBM partitions in GiB, empty when not set; 06 R136; reset empty (14 R351) -/
  parts : List Nat := []
  /-- cellar bundle area in GiB; 06 R136; reset 0 -/
  cellarGib : Nat := 0
  /-- runtime objects by identifier; 06 R137; reset none (14 R351) -/
  objs : Tab (Option Obj) := []
  /-- last object identifier given; 13 Table 13.9; reset DESIGN CHOICE 0 (log 29) -/
  lastObj : Nat := 0
  /-- HOPPER_RUN in progress; 06 R146; reset none -/
  hop : Option HopRun := none
  /-- fences completed per requester of Table 12.8; 06 R130; reset DESIGN CHOICE 0 (log 29) -/
  fences : Tab Nat := []
  deriving DecidableEq, Repr, Inhabited

/-! ### Plots (02, 03, 05, 11) -/

/-- PLT_SEM_s (Table 11.5). -/
structure Sem where
  /-- VALUE -/
  value : Nat := 0
  /-- CLASS -/
  cls : Nat := 0
  /-- ASSIGNED -/
  assigned : Bool := false
  deriving DecidableEq, Repr, Inhabited

/-- PLT_SCALE_s and PLT_SCALE_AMAX_s (Tables 05.1, 05.2). -/
structure Slot where
  /-- K -/
  k : Int := 0
  /-- MODE -/
  mode : Nat := 0
  /-- NWIN -/
  nwin : Nat := 0
  /-- TFMT -/
  tfmt : Nat := 0
  /-- MARGIN -/
  margin : Nat := 0
  /-- OVR -/
  ovr : Bool := false
  /-- CLAMP -/
  clamp : Bool := false
  /-- GAP -/
  gap : Bool := false
  /-- AMAX -/
  amax : Int := -32768
  /-- GROUP -/
  group : Nat := 0
  deriving DecidableEq, Repr, Inhabited

/-- A weight-bank half (R39, R381): format, size and the tensor's block rows, contiguous. -/
structure WHalf where
  /-- FMT of the WLOAD that filled it; none: all zeros -/
  fmt : Option Nat := none
  /-- KW -/
  kw : Nat := 0
  /-- NW -/
  nw : Nat := 0
  /-- the stored bytes -/
  data : List Byte := []
  deriving DecidableEq, Repr, Inhabited

/-- An operation issued and not yet complete, in issue order (R30, R40). -/
structure Flight where
  /-- 0 HOP, 1 WLOAD, 2 MOVE -/
  kind : Nat
  /-- descriptor offset -/
  off : Nat
  /-- descriptor bytes, taken at issue -/
  desc : List Byte
  /-- SEM_WAIT is satisfied -/
  ready : Bool
  /-- HOP: row groups started per hedge -/
  started : Tab Nat
  /-- HOP: row groups drained per hedge -/
  drained : Tab Nat
  /-- MOVE: it read poison, or its completion is outstanding -/
  poison : Bool
  /-- MOVE: read requests outstanding to the host -/
  waiting : Nat
  deriving DecidableEq, Repr, Inhabited

/-- An accumulator set of a hedge holding a finished row group (R42): up to 64 words of 32 bits. -/
structure Acc where
  /-- its operation's descriptor offset and bytes -/
  desc : List Byte
  /-- row group -/
  group : Nat
  /-- accumulators by segment * N + column -/
  vals : List Nat
  deriving DecidableEq, Repr, Inhabited

/-- A widening replay a plot is running (R107). -/
structure Replay where
  /-- index of its program's last instruction -/
  last : Nat
  /-- TAG of its region -/
  tag : Nat
  /-- level it runs at -/
  level : Nat
  /-- plot clocks counted when the region's check was reached -/
  check : Nat
  /-- plot clocks counted when its program started -/
  start : Nat
  deriving DecidableEq, Repr, Inhabited

/-- A region check a plot waits at (R106). -/
structure Check where
  /-- TAG -/
  tag : Nat
  /-- level reached -/
  level : Nat
  /-- plot clocks counted when the check was first reached -/
  since : Nat
  /-- reported to SCOPE_TALLY -/
  reported : Bool
  deriving DecidableEq, Repr, Inhabited

/-- A plot with its four hedges, weight bank, Mash engine and semaphores. -/
structure Plot where
  /-- PLT_HFLAGS [15:0], 32 bits (ANY is computed); 02 R49; reset 0 -/
  hflags : Nat := 0
  /-- PLT_MFLAGS [5:0], 32 bits (ANY is computed); 03 R70; reset 0 -/
  mflags : Nat := 0
  /-- weight bank, two halves of 128 KiB; 02 R381; reset 0 -/
  bank : Tab WHalf := []
  /-- operations issued and not complete; 02 R30; reset none -/
  flight : List Flight := []
  /-- accumulators waiting to drain, per hedge at most two; 02 R42; reset none -/
  accs : Tab (List Acc) := []
  /-- Mash queue, four entries; 03 R54; reset empty -/
  mashQ : List MashItem := []
  /-- V0 to V31, 128 lanes of 32 bits each, a register of zeros not listed; 03 R53; reset 0 -/
  v : Tab (List Word) := []
  /-- S0 to S15, 32 bits; 03 R53; reset 0 -/
  s : Tab Word := []
  /-- M1 to M7, 256 bits (M0 reads as ones outside a loop, R62); 03 R53; reset 0 -/
  m : Tab Nat := []
  /-- 48 semaphores; 11 R269, Table 11.5; reset 0 -/
  sems : Tab Sem := []
  /-- 63 scale slots; 05 R96, Tables 05.1, 05.2; reset 0, AMAX 0x8000 -/
  slots : Tab Slot := []
  /-- flag sets of the replay regions by TAG, 5 bits each; 05 R105; reset 0 -/
  regFlags : Tab Nat := []
  /-- amax of the PRESENT passes of a region by TAG, plus 65,536, kept for the report at its check; 05 R106; reset 0 -/
  regAmax : Tab Nat := []
  /-- the loop at the head of the Mash queue has run its pass one and waits for the scope's amax; 05 R108; reset 0 -/
  passOne : Bool := false
  /-- levels reached by the regions of the running step by TAG; 05 R106; reset 0 -/
  regLevel : Tab Nat := []
  /-- the scope's combined amax for the loop that waits for it, plus 65,536; 05 R108; reset none -/
  scopeAmax : Option Nat := none
  /-- plot clocks this plot has spent in replays of the running step; 05 R112; reset 0 -/
  replayClocks : Nat := 0
  /-- unregioned flag set, 5 bits; 05 R105; reset 0 -/
  unreg : Nat := 0
  /-- program counter of the primary stream; 11 R288; reset 0 -/
  pcP : Nat := 0
  /-- program counter of the deferred stream; 11 R288; reset 0 -/
  pcD : Nat := 0
  /-- the replay program that is running; 05 R107; reset none -/
  replay : Option Replay := none
  /-- the region check the primary stream waits at; 05 R106; reset none -/
  check : Option Check := none
  /-- the rest of the step's program is abandoned; 14 R340; reset 0 -/
  stopped : Bool := false
  /-- the tally point was reached in the running step; 05 R113; reset 0 -/
  tallied : Bool := false
  /-- an aperture read of the running step was lost with the host; 12 R311; reset 0 -/
  hostLost : Bool := false
  /-- PLT_HC_* per hedge: 5 h + (ACTIVE, BUBBLE_STORE, BUBBLE_DRAIN, W_INTERLOCK, IDLE), 48 bits; 02 R50; reset 0 -/
  hc : Tab Nat := []
  /-- TAG, 16 bits, of the operation whose clocks each hedge's counters last counted; 02 R45 (Table 02.8); reset 0 -/
  htag : Tab Nat := []
  /-- PLT_MC_*: ACTIVE, STALL_DEP, STALL_STORE, WAIT_SEM, IDLE, 48 bits; 03 R71; reset 0 -/
  mc : Tab Nat := []
  /-- PLT_IC_* in the order of Table 11.11, 48 bits; 11 R292; reset 0 -/
  ic : Tab Nat := []
  /-- TAG, 16 bits, of the MOVE the idle counters last counted a wait for; 06 Table 06.10; reset 0 -/
  moveTag : Nat := 0
  deriving DecidableEq, Repr, Inhabited

/-! ### Granary and tables (07) -/

/-- A Granary directory entry (Table 07.5). -/
structure DirEntry where
  /-- TABLE -/
  table : Nat := 0
  /-- GRANULE -/
  granule : Nat := 0
  /-- STATE: 0 INVALID, 1 TRANSIT, 2 RESIDENT -/
  state : Nat := 0
  /-- DIRTY -/
  dirty : Bool := false
  /-- PIN -/
  pin : Nat := 0
  /-- FREQ -/
  freq : Nat := 0
  /-- AGE -/
  age : Nat := 0
  /-- VSLOT -/
  vslot : Nat := 0
  /-- POISON -/
  poison : Bool := false
  /-- VALID, 32 bits -/
  valid : Nat := 0
  /-- LAST -/
  last : Nat := 0
  deriving DecidableEq, Repr, Inhabited

/-- An embedding table (Table 07.1 and what the module keeps of it). -/
structure Table where
  /-- DIM -/
  dim : Nat := 0
  /-- WFMT code -/
  wfmt : Nat := 0
  /-- DEFAULT: LEARNED -/
  learned : Bool := false
  /-- SHIFT -/
  shift : Nat := 0
  /-- X -/
  x : Int := 0
  /-- ROWS -/
  rows : Nat := 0
  /-- COORD -/
  coord : Nat := 0
  /-- MEMBERS: fabric tally of the member set -/
  members : Nat := 0
  /-- SELF -/
  self : Nat := 0
  /-- SEED -/
  seed : Nat := 0
  /-- ACC_ROWS -/
  accRows : Nat := 0
  /-- local shard slots the home holds -/
  homeSlots : Nat := 0
  /-- shard map: entry value by shard (Table 07.2) -/
  map : Tab Nat := []
  /-- home object of each version slot -/
  homes : Tab Nat := []
  /-- metadata object -/
  metaObj : Nat := 0
  /-- accumulator object -/
  accObj : Nat := 0
  /-- replica object -/
  repObj : Nat := 0
  /-- tun region -/
  region : Nat := 0
  /-- current version slot -/
  cur : Nat := 0
  /-- the other slot is staged -/
  staged : Bool := false
  /-- a commit is pending -/
  committing : Bool := false
  /-- generation number of coordinated commands -/
  gen : Nat := 0
  /-- replicated rows, ascending -/
  reps : List Nat := []
  deriving DecidableEq, Repr, Inhabited

/-- What a table keeps for a step in flight, one per step parity (R156, R168, R169, R199). -/
structure TableStep where
  /-- the step -/
  step : Nat := 0
  /-- accumulator slots by row, plus 1 -/
  slotOf : Tab Nat := []
  /-- slots assigned -/
  used : Nat := 0
  /-- P of the closed gradient tally -/
  present : Option Nat := none
  /-- version slot the step uses -/
  vslot : Nat := 0
  /-- slots processed (completion bitmap, R198) -/
  done : Tab Bool := []
  /-- rows that found no way in their set (R163) -/
  full : List Nat := []
  /-- the walk over the slots is over: finished, skipped or cut (R114, R199) -/
  closed : Bool := false
  deriving DecidableEq, Repr, Inhabited

/-- Where a bag position's row is served from (R154). -/
inductive BagPos where
  | dflt
  | replica (i : Nat)
  | row (r : Nat)
  deriving DecidableEq, Repr, Inhabited

/-- The Granary. -/
structure Granary where
  /-- tables by identifier; 07 R149; reset none (14 R351) -/
  tables : Tab (Option Table) := []
  /-- directory, 4,194,304 entries of 16 bytes; 07 R158; reset DESIGN CHOICE 0 (log 29) -/
  dir : Tab DirEntry := []
  /-- ways never chosen again because their channel went out; 15 R365; reset 0 -/
  ways : Tab Bool := []
  /-- per table and step parity: key 2 table + parity; 07 R156; reset none -/
  steps : Tab TableStep := []
  /-- bags of the running step after R154 by sample * features + feature; 07 R154; reset none -/
  bags : Tab (List BagPos) := []
  /-- bags of the step in look-ahead; 07 R154; reset none -/
  bagsNext : Tab (List BagPos) := []
  /-- distinct rows asked of owners in the look-ahead: key order, (table, owner, micro-batch, row); 07 R157; reset none -/
  asks : List (Nat × Nat × Nat × Nat) := []
  /-- request lists taken as owner in the look-ahead: (table, requester, micro-batch, row); 07 R157; reset none -/
  served : List (Nat × Nat × Nat × Nat) := []
  /-- the same of the running step, whose lookup exchange sends their rows; 07 R165; reset none -/
  serving : List (Nat × Nat × Nat × Nat) := []
  /-- handles that owners returned in the look-ahead, plus 1: key 2^48 table + row; 07 R156, R166; reset none -/
  handlesNext : Tab Nat := []
  /-- the same of the running step; 07 R166; reset none -/
  handles : Tab Nat := []
  /-- bag positions that pooling replaced by the default row: key 256 (sample * features + feature) + position; 07 R166; reset none -/
  subst : Tab Bool := []
  /-- tables of which a gradient record of the running step did not leave as data; 07 R168; reset 0 -/
  gradLost : Tab Bool := []
  /-- counters of Table 07.7, 48 bits: key 32 table + index; 07 R176; reset 0 -/
  counts : Tab Nat := []
  /-- aging period the directory was last swept for; 07 R160; reset 0 -/
  swept : Nat := 0
  /-- pins taken by step parity; 07 R162; reset 0 -/
  taken : Tab Nat := []
  /-- pins released by step parity; 07 R162; reset 0 -/
  released : Tab Nat := []
  /-- books of pins held past their boundary: step, taken, released; 07 R162; reset none -/
  heldPins : Option (Nat × Nat × Nat) := none
  /-- records copied of each moving shard, sent by its old owner or taken by its new one: key 65536 table + shard; 11 R290; reset 0 -/
  moved : Tab Nat := []
  /-- mirrored writes that wait for their RESHARD stream: table and bytes; 11 R290; reset none -/
  mirrors : List (Nat × List Byte) := []
  /-- rows that came late or absent in the running step: micro-batch, table, row; 07 R165; reset none -/
  late : List (Nat × Nat × Nat) := []
  deriving DecidableEq, Repr, Inhabited

/-! ### Lauter engine (08) and reductions (11) -/

/-- A rule set (Table 08.1). -/
structure RuleSet where
  /-- RULE: 0 SGDM, 1 ADAPTIVE, 2 ROWWISE, 3 ADAGRAD, 4 PRECOND -/
  rule : Nat := 0
  /-- MODE: DEFERRED -/
  deferred : Bool := false
  /-- AVG: 0 SUM, 1 PRESENT, 2 ALL -/
  avg : Nat := 0
  /-- MULT -/
  mult : Word := 0
  /-- BETA1 -/
  beta1 : Word := 0
  /-- BETA2 -/
  beta2 : Word := 0
  /-- EPS -/
  eps : Word := 0
  /-- LAMBDA -/
  lambda : Word := 0
  /-- BIAS -/
  bias : Bool := false
  /-- CLIP_ROW -/
  clipRow : Word := 0
  /-- CLIP_GLOBAL -/
  clipGlobal : Word := 0
  /-- CATCHUP -/
  catchup : Bool := false
  /-- XN -/
  xn : Int := 0
  /-- TARGETS -/
  targets : List Nat := []
  /-- c1 = rne(1 - BETA1) -/
  c1 : Word := 0
  /-- c2 = rne(1 - BETA2) -/
  c2 : Word := 0
  deriving DecidableEq, Repr, Inhabited

/-- PRECOND_CONFIG of a tensor (R195). -/
structure Precond where
  /-- B -/
  b : Nat
  /-- p: 2 or 4 -/
  p : Nat
  /-- KR -/
  kr : Nat
  /-- ROOT_BASE -/
  rootBase : Nat
  deriving DecidableEq, Repr, Inhabited

/-- A reduced block waiting in the Lauter buffers (R182, R187). -/
structure GradBlock where
  /-- present members -/
  p : Nat
  /-- members -/
  g : Nat
  /-- the exact sums times 2^255 -/
  sums : List Int
  /-- NaN marks -/
  nans : List Bool
  deriving DecidableEq, Repr, Inhabited

/-- A dense tensor of the active bundle (R188 to R200). -/
structure Tensor where
  /-- current bank -/
  bank : Nat := 0
  /-- current working-copy half -/
  half : Nat := 0
  /-- frozen by a poisoned record -/
  frozen : Bool := false
  /-- step its update in progress belongs to -/
  step : Nat := 0
  /-- LTR_ETA_CUR.ETA of that step, kept while the update is late (R181, R199) -/
  eta : Word := 0
  /-- completion bitmap by owned group (R198) -/
  done : Tab Bool := []
  /-- the update of the previous step is unfinished (R199) -/
  late : Bool := false
  /-- its unfinished update was dropped by a supply park (R341) -/
  parkedOff : Bool := false
  /-- reduced blocks waiting, by owned group -/
  blocks : Tab (Option GradBlock) := []
  /-- gradients averaged and clipped in DEFERRED mode, by owned group (the defer area's cells hold them) -/
  deferred : Tab Bool := []
  /-- global factor f received for the step -/
  factor : Option Word := none
  /-- slices arrived present for the step, by owner rank: groups received -/
  slices : Tab Nat := []
  /-- groups whose working copy for the step has come, by group (R191) -/
  got : Tab Bool := []
  /-- owners with an absent slice in the step -/
  absent : Tab Bool := []
  /-- latched root slot per preconditioner block, plus 1 -/
  roots : Tab Nat := []
  deriving DecidableEq, Repr, Inhabited

/-- A step's norm windows of one rule set (R201): local and reduced, with counts. -/
structure Norms where
  /-- LOCAL window -/
  loc : Int := 0
  /-- REDUCED window -/
  red : Int := 0
  /-- elements in LOCAL -/
  nloc : Nat := 0
  /-- elements in REDUCED -/
  nred : Nat := 0
  /-- LOCAL saturated -/
  satLoc : Bool := false
  /-- REDUCED saturated -/
  satRed : Bool := false
  /-- local norm window of R187 -/
  glob : Int := 0
  /-- it saturated -/
  satGlob : Bool := false
  /-- what went into the rule set's norm reduction: the window and its count of saturated windows (R187) -/
  sent : Option (Int × Nat) := none
  deriving DecidableEq, Repr, Inhabited

/-- An entry of the noise statistics (R201). -/
structure Noise where
  /-- STEP -/
  step : Nat
  /-- skipped -/
  skipped : Bool
  /-- per rule set: set, XN, windows -/
  sets : List (Nat × Int × Norms)
  deriving DecidableEq, Repr, Inhabited

/-- An accumulator of a reduction group in the Lauter buffers (R282, R283). -/
structure Reduce where
  /-- per element, times 2^255 -/
  sums : List Int := []
  /-- NaN marks -/
  nans : List Bool := []
  /-- P -/
  present : Nat := 0
  /-- A -/
  absent : Nat := 0
  deriving DecidableEq, Repr, Inhabited

/-- The Lauter engine and the reduction books. -/
structure Lauter where
  /-- rule sets 0 to 63; 08 R179; reset none (14 R351) -/
  sets : Tab (Option RuleSet) := []
  /-- LTR_ETA_PEND: ETA 32 bits and VALID; 08 Table 08.3; reset 0 -/
  etaPend : Option Word := none
  /-- LTR_ETA_CUR.ETA, 32 bits; 08 Table 08.3; reset 0 -/
  eta : Word := 0
  /-- LTR_ETA_CUR.STEP, 32 bits; 08 Table 08.3; reset 0 -/
  etaStep : Nat := 0
  /-- ETA of the step before, which units finished late use, 32 bits; 08 R181, R199; reset 0 -/
  etaPrev : Word := 0
  /-- dense tensors by number; 08 R188; reset none -/
  tensors : Tab Tensor := []
  /-- PRECOND_CONFIG by tensor; 08 R195; reset none -/
  precond : Tab (Option Precond) := []
  /-- replica records processed in the running step: key 2^17 table + position; 08 R198; reset 0 -/
  repDone : Tab Bool := []
  /-- counters of Table 08.7, 48 bits: key 16 set + index; 08 R204; reset 0 -/
  counts : Tab Nat := []
  /-- norm windows of the running step by rule set; 08 R187, R201; reset 0 -/
  norms : Tab Norms := []
  /-- noise statistics, last 64 steps, oldest first; 08 R201; reset empty -/
  noise : List Noise := []
  /-- reduction accumulators: key 2^32 group + block; 11 R282; reset 0 -/
  reduce : Tab Reduce := []
  /-- reduced blocks of replica records not yet applied: key 2^32 group + block; 11 R284; reset none -/
  reduced : Tab (List Byte) := []
  /-- members whose contribution was taken: key 65536 group + rank; 11 R283; reset 0 -/
  taken : Tab Bool := []
  /-- books: key 16 group + (0 produced, 1 sent, 2 carried, 3 dropped at source, 4 present, 5 absent, 6 members, 7 applied, 8 dropped at owner); 11 R287; reset 0 -/
  books : Tab Nat := []
  /-- books of the last completed boundary; 15 R380; reset 0 -/
  lastBooks : Tab Nat := []
  /-- groups of the running bundle whose blocks were carried: key 2^32 group + block; 11 R286; reset 0 -/
  carried : Tab Bool := []
  /-- contribution blocks of the step absent at their source: key 2^32 group + block; 11 R286; reset 0 -/
  missed : Tab Bool := []
  deriving DecidableEq, Repr, Inhabited

/-! ### Cask store (09) -/

/-- What a slot does in the running step (R211 to R215). -/
structure SeqUse where
  /-- NEW -/
  new : Nat := 0
  /-- tokens written per layer -/
  written : Tab Nat := []
  /-- cask number flushed per layer, plus 1 -/
  flushed : Tab Nat := []
  /-- the record was faulty -/
  faulty : Bool := false
  /-- SAVE_CLOSE with this IMAGE address -/
  save : Option Nat := none
  deriving DecidableEq, Repr, Inhabited

/-- The Cask store control; page, sequence and steep areas lie in memory at META_BASE (R208). -/
structure Cask where
  /-- slots in the running step; 09 R211; reset none -/
  use : Tab SeqUse := []
  /-- slots in the step in look-ahead: its record's 32 bytes, one byte for a faulty one; 09 R211, R212; reset none -/
  next : Tab (List Byte) := []
  /-- images read in the look-ahead that become the slot's history at the boundary: header, then blocks, each with its poison mark; 09 R212; reset none -/
  load : Tab (List (List Byte × Bool)) := []
  /-- slots SAVING: image address, plus 1; 09 R212; reset 0 -/
  saving : Tab Nat := []
  /-- saves whose image has been written; 09 R212; reset 0 -/
  saved : Tab Bool := []
  /-- SEQ of the samples of the running step; 09 R211; reset none -/
  seqs : List Nat := []
  /-- SEQ of the samples of the step in look-ahead; 09 R211; reset none -/
  seqsNext : List Nat := []
  /-- allocated casks; 09 R210; reset 0 -/
  allocated : Nat := 0
  /-- allocated casks that are RESIDENT; 09 R210; reset 0 -/
  resident : Nat := 0
  /-- allocated casks that are spilled; 09 R210; reset 0 -/
  spilledNow : Nat := 0
  /-- casks marked for spill; 09 R217; reset none -/
  toSpill : Tab Bool := []
  /-- WINDOW frames: cask number plus 1 by window frame; 09 R217; reset 0 -/
  window : Tab Nat := []
  /-- casks of this module's split slots that other members hold: key 8 slot + layer; 09 R221; reset 0 -/
  away : Tab Nat := []
  /-- guest casks that this module holds, oldest first: key 8 (2048 home + slot) + layer; 09 R221; reset none -/
  held : Tab (List Nat) := []
  /-- casks and instructions for other members, until a CASK stream takes them: rank and record; 09 R221; reset none -/
  outbox : List (Nat × List Byte) := []
  /-- partials gathered in the running step for samples of split slots: key 8 sample + layer; 09 R221; reset none -/
  partials : Tab (List (Nat × Option (List Word))) := []
  /-- samples of the running step with an absent partial; 09 R221; reset none -/
  short : List Nat := []
  /-- counters of Table 09.7 in order, 48 bits; 09 R224; reset 0 -/
  counts : Tab Nat := []
  deriving DecidableEq, Repr, Inhabited

/-! ### Fabric (10) and synchronisation (11) -/

/-- A message waiting in a withy transmit queue: class 0 to 4 of R235 and its words. -/
structure WithyMsg where
  /-- priority class -/
  cls : Nat
  /-- words of 64 bits -/
  words : List Nat
  /-- flit time of the port at which it was queued -/
  at_ : Nat
  deriving DecidableEq, Repr, Inhabited

/-- A data flit received or to forward: its data position and body, none when absent (R230); or, among the flits held, the place of a
withy flit. -/
structure HeldFlit where
  /-- data position -/
  pos : Nat
  /-- body -/
  body : Option (List Byte)
  /-- the rank that sent it absent, when it is absent -/
  origin : Nat
  /-- EPOCH of the partner's epoch it was sent in (R232, R248) -/
  ep : Nat := 0
  /-- 0 a data flit; 1 the place of a withy flit that was uncorrectable; 2 + TEMPLATE the start of an epoch of the partner -/
  mark : Nat := 0
  deriving DecidableEq, Repr, Inhabited

/-- A frame of a switched port that is not acknowledged (R257). -/
structure SwFrame where
  /-- SEQ -/
  seq : Nat
  /-- KIND -/
  kind : Nat
  /-- FIRST_POS -/
  pos : Nat
  /-- bodies or words -/
  bodies : List (List Byte)
  deriving DecidableEq, Repr, Inhabited

/-- A switched port's exchange with one remote rank (R257). -/
structure SwPeer where
  /-- SEQ of the next frame to send -/
  txSeq : Nat := 0
  /-- last SEQ received in order, plus 1 -/
  rxNext : Nat := 0
  /-- frames sent and not acknowledged -/
  unacked : List SwFrame := []
  /-- body credits held -/
  credits : Nat := 512
  /-- credits returned to the partner and not yet sent -/
  toReturn : Nat := 0
  /-- bodies acknowledged whose credits have not come back -/
  owed : Nat := 0
  /-- an acknowledgement is due -/
  ackDue : Bool := false
  /-- resends of the oldest unacknowledged frame -/
  resends : Nat := 0
  deriving DecidableEq, Repr, Inhabited

/-- An Espalier port. -/
structure Port where
  /-- HRW_PORT_STATE.STATE, 4 bits; 10 Table 10.9; reset 0 -/
  state : Nat := 0
  /-- CAUSE, 8 bits; 10 Table 10.9; reset 0 -/
  cause : Nat := 0
  /-- ENABLE; 10 Table 10.5; reset 0 (14 R351: every port OFF) -/
  enable : Bool := false
  /-- MODE: SWITCHED; 10 Table 10.9; reset 0 -/
  switched : Bool := false
  /-- SYNT_SRC; 10 Table 10.9; reset 0 -/
  syntSrc : Bool := false
  /-- DELAY, 32 bits, 25 ps units; 10 Table 10.9; reset 0 -/
  delay : Nat := 0
  /-- last capability record; 10 R237; reset none -/
  partner : Option CapRec := none
  /-- MEDIUM; 10 Table 10.5; reset DESIGN CHOICE 0 (log 29) -/
  medium : Nat := 0
  /-- AUTO_RETRAIN; 10 Table 10.5; reset DESIGN CHOICE 0 (log 29) -/
  autoRetrain : Bool := false
  /-- USER_PS_M; 10 Table 10.5; reset DESIGN CHOICE 1000 (log 29) -/
  userPs : Nat := 1000
  /-- OPTIC_PS; 10 Table 10.5; reset DESIGN CHOICE 0 (log 29) -/
  opticPs : Nat := 0
  /-- CARRIER_PS; 10 Table 10.5; reset DESIGN CHOICE 0 (log 29) -/
  carrierPs : Nat := 0
  /-- MAX_POWER, 0.25 W; 10 Table 10.5; reset DESIGN CHOICE 0 (log 29) -/
  maxPower : Nat := 0
  /-- ETHERTYPE; 10 R256; reset 0x88B5 -/
  ethertype : Nat := 0x88B5
  /-- VLAN: VID, PCP, tagging; 10 R255; reset DESIGN CHOICE 0 (log 29) -/
  vlan : Nat := 0
  /-- MAX_BODIES; 10 R256; reset DESIGN CHOICE 1 (log 29) -/
  maxBodies : Nat := 1
  /-- PRESENT_N low; 10 R258; reset 0 -/
  present : Bool := false
  /-- cable type of CMIS, 3 bits; 10 R258; reset 0 -/
  cable : Nat := 0
  /-- CMIS length, cm; 10 R258; reset 0 -/
  cmisCm : Nat := 0
  /-- the optics are kept in low-power mode; 10 R259; reset 0 -/
  lowPower : Bool := false
  /-- training stage in progress, 0 none; 10 R236; reset 0 -/
  stage : Nat := 0
  /-- automatic retrains tried since the port went down; 10 R254; reset 0 -/
  tries : Nat := 0
  /-- carries runs from the next release on; 10 R253; reset 0 -/
  rejoin : Bool := false
  /-- counters of Table 10.12 in order, 48 bits; 10 R261; reset 0 -/
  counts : Tab Nat := []
  deriving DecidableEq, Repr, Inhabited

/-- A port's flit machinery (R229 to R235, R247 to R249). -/
structure PortFlow where
  /-- SEQ of the next withy flit to send; 10 R232; reset DESIGN CHOICE 0 (log 29) -/
  txSeq : Nat := 0
  /-- SEQ expected next; 10 R234; reset DESIGN CHOICE 0 (log 29) -/
  rxSeq : Nat := 0
  /-- withy flits sent and not acknowledged, at most 8: SEQ and messages; 10 R234; reset empty -/
  unacked : List (Nat × List WithyMsg) := []
  /-- flits of the unacknowledged list to resend; 10 R234; reset 0 -/
  resend : Nat := 0
  /-- consecutive REPLAY_NOTICEs without progress; 10 R234; reset 0 -/
  notices : Nat := 0
  /-- withy transmit queue, 1,024 words; 10 R235; reset empty -/
  queue : List WithyMsg := []
  /-- messages that a full queue keeps waiting at their sources, in order; 10 R235; reset empty -/
  stalled : List WithyMsg := []
  /-- a REPLAY_NOTICE has asked for the flit expected next; 10 R234; reset 0 -/
  asked : Bool := false
  /-- EPOCH of the partner's epoch, 32 bits; 10 Table 10.2; reset none -/
  rxEpoch : Option Nat := none
  /-- flit time t of the current epoch; 10 R229; reset 0 -/
  t : Nat := 0
  /-- flit times since the port began to send, from which waits are stamped; 10 R242; reset 0 -/
  sent : Nat := 0
  /-- template of the epoch the partner is sending; 10 R230, Table 10.2; reset none -/
  rxTemplate : Option Nat := none
  /-- data position the next received data flit has; 10 R246; reset 0 -/
  rxPos : Nat := 0
  /-- data positions of the partner's epoch dealt with so far; 10 R249; reset 0 -/
  rxDone : Nat := 0
  /-- received data flits awaiting the next withy flit; 10 R230; reset empty -/
  held : List HeldFlit := []
  /-- ABSENT markers received: MARKER, FLIT and RANK; 10 R233; reset empty -/
  markers : List (Nat × Nat × Nat) := []
  /-- forward FIFO, 1,024 flits; 10 R248; reset empty -/
  fifo : List HeldFlit := []
  /-- flits the FIFO had no room for; 10 R248; reset empty -/
  lostFwd : List Nat := []
  /-- positions whose forwarding position found no flit; 10 R248; reset empty -/
  passed : List Nat := []
  /-- runs of the current template checked ready, by run index; 10 R247; reset 0 -/
  ready : Tab Bool := []
  /-- runs checked; 10 R247; reset 0 -/
  checked : Tab Bool := []
  /-- the flit last sent, 256 bytes; 10 R228; reset empty -/
  lastTx : List Byte := []
  /-- corrected bytes in the current window; 10 R231; reset 0 -/
  corrWindow : Nat := 0
  /-- switched exchange by remote rank; 10 R257; reset none -/
  peers : Tab SwPeer := []
  /-- LINK_SIG received from the partner; 10 R237; reset none -/
  sig : Option Nat := none
  /-- last MEAS_REQ answered: ID and turnaround; 10 R239; reset none -/
  meas : Option (Nat × Nat) := none
  /-- ID of the MEAS_REQ that awaits its answer, 8 bits; 10 R239; reset none -/
  asks : Option Nat := none
  /-- delay samples of the current measurement set; 10 R239; reset empty -/
  samples : List Nat := []
  deriving DecidableEq, Repr, Inhabited

/-- A tally counter (HRW_TALLY_n, Table 11.6; its definition is the active bundle's). -/
structure Tally where
  /-- COUNT -/
  count : Nat := 0
  /-- GEN -/
  gen : Nat := 0
  /-- PROXY -/
  proxy : Bool := false
  /-- combined lanes -/
  lanes : Tab Nat := []
  /-- child ranks counted in this generation; plus 65,536 for one counted by proxy -/
  from_ : List Nat := []
  /-- this module has arrived -/
  own : Bool := false
  /-- the arrival has gone to the parent, or the root has completed it -/
  sent : Bool := false
  /-- lane words of arrivals that are not whole yet: sender, lane, value -/
  words : List (Nat × Nat × Nat) := []
  deriving DecidableEq, Repr, Inhabited

/-- A release received or issued and not yet acted on (R276). -/
structure Release where
  /-- SKIP -/
  skip : Bool
  /-- TEMPLATE -/
  template : Nat
  /-- EPOCH -/
  epoch : Nat
  /-- wait before acting, 25 ps units -/
  wait : Nat
  deriving DecidableEq, Repr, Inhabited

/-- The Hedgerow, the ports and the withy network. -/
structure Fabric where
  /-- port registers and parameters, 16 ports; 10 Tables 10.5, 10.9; reset OFF -/
  ports : Tab Port := []
  /-- port flit machinery; 10; reset empty -/
  flows : Tab PortFlow := []
  /-- DOMAIN, 32 bits; 10 Table 10.5; reset DESIGN CHOICE 0 (log 29) -/
  domain : Nat := 0
  /-- SYNT_UP: ROOT; 10 Table 10.5; reset DESIGN CHOICE 0 (log 29) -/
  syntRoot : Bool := false
  /-- SYNT_UP ports by priority; 10 Table 10.5; reset DESIGN CHOICE empty (log 29) -/
  syntUp : List Nat := []
  /-- HRW_SYNT.STATE: 0 ROOT, 1 LOCKED, 2 HOLDOVER, 3 FREE; 10 Table 10.11; reset 3 -/
  synt : Nat := 3
  /-- HRW_SYNT.SRC_PORT, 4 bits; 10 Table 10.11; reset 0 -/
  syntPort : Nat := 0
  /-- HRW_SYNT.STEER, 32 bits; 10 Table 10.11; reset 0 -/
  steer : Word := 0
  /-- after FREE, runs carry data again only from the next release; 10 R244; reset 0 -/
  syntWait : Bool := false
  /-- rank to MAC of switched partners, plus 1; 10 R256; reset none -/
  macs : Tab Nat := []
  /-- counts of R275, R276 and R281 by bit of sticky group 7: TALLY_PROXY, LATE_ARRIVAL, RELEASE_LATE, STREAM_LATE; 11 R275; reset DESIGN CHOICE 0 (log 29) -/
  syncCounts : Tab Nat := []
  /-- tally counters 0 to 255; 11 R272, Table 11.6; reset 0 -/
  tallies : Tab Tally := []
  /-- releases waiting to be acted on by fabric tally; 11 R276; reset none -/
  rel : Tab (Option Release) := []
  /-- stream positions delivered in the running step by stream; 11 R281; reset 0 -/
  delivered : Tab Nat := []
  /-- posted flit counts toward UNIT by stream; 11 R281; reset 0 -/
  unit : Tab Nat := []
  /-- engine-behind streams that are ready up to so many flits; 11 R281; reset 0 -/
  engReady : Tab Nat := []
  /-- TX flits gone absent at their source by stream: first flit and length; 11 R281; reset empty -/
  absentTx : List (Nat × Nat × Nat) := []
  deriving DecidableEq, Repr, Inhabited

/-! ### Host coupling (12) -/

/-- FNC_SEG_n (Table 12.7). -/
structure Seg where
  /-- EN -/
  en : Bool := false
  /-- DEV_BASE [43:16] -/
  base : Nat := 0
  /-- DEV_LIMIT [43:16] -/
  limit : Nat := 0
  /-- HOST_BASE [63:12] -/
  host : Nat := 0
  deriving DecidableEq, Repr, Inhabited

/-- A pending fence request (R304). -/
structure FenceReq where
  /-- ENGINE -/
  engine : Nat
  /-- FLAG_EN -/
  flag : Bool
  /-- IRQ_EN -/
  irq : Bool
  /-- VECTOR -/
  vector : Nat
  /-- TOKEN -/
  token : Nat
  deriving DecidableEq, Repr, Inhabited

/-- An outstanding read request to the host (R300, R302). -/
structure HostRead where
  /-- engine of Table 12.8 -/
  engine : Nat
  /-- device address the data go to -/
  dest : Nat
  /-- bytes -/
  len : Nat
  /-- aperture address read -/
  src : Nat
  /-- hint of the destination -/
  hint : Hint
  /-- descriptor offset of the MOVE it belongs to -/
  off : Nat
  deriving DecidableEq, Repr, Inhabited

/-- The PCIe controller, its configuration space and the host flush and fence unit. -/
structure HostLink where
  /-- FNC_LINK.SPEED, 3 bits; 12 Table 12.5; reset 0 -/
  speed : Nat := 0
  /-- FNC_LINK.WIDTH, 5 bits; 12 Table 12.5; reset 0 -/
  width : Nat := 0
  /-- FNC_LINK.FLIT; 12 Table 12.5; reset 0 -/
  flit : Bool := false
  /-- FNC_LINK.RO_EN; 12 Table 12.5; reset 0 -/
  roEn : Bool := false
  /-- FNC_LINK.DETACHED; 12 Table 12.5; reset 0 -/
  detached : Bool := false
  /-- FNC_LINK.SLOW; 12 Table 12.5; reset 0 -/
  slow : Bool := false
  /-- FNC_LINK.MPS, 3 bits; 12 Table 12.5; reset 0 -/
  mps : Nat := 0
  /-- FNC_LINK.MRRS, 3 bits; 12 Table 12.5; reset 2 -/
  mrrs : Nat := 2
  /-- FNC_BAR2_BASE, 64 bits; 12 Table 12.6; reset 0 -/
  bar2Base : Nat := 0
  /-- BAR2 window size in GiB; 12 R297; reset 16 -/
  bar2Gib : Nat := 16
  /-- FNC_HOST_LAT.LAT_NS, 32 bits; 12 Table 12.6; reset 2000 -/
  hostLat : Nat := 2000
  /-- FNC_SEG_0 to FNC_SEG_15, 256 bits each; 12 Table 12.7; reset 0 -/
  segs : Tab Seg := []
  /-- fence requests pending, at most 16; 12 R304; reset empty -/
  fences : List FenceReq := []
  /-- FNC_FENCE_DONE.TOKEN, 32 bits; 12 Table 12.9; reset 0 -/
  doneToken : Nat := 0
  /-- FNC_FENCE_DONE.FAILED; 12 Table 12.9; reset 0 -/
  doneFailed : Bool := false
  /-- FNC_FENCE_FLAG, 64 bits; 12 Table 12.9; reset 0 -/
  fenceFlag : Nat := 0
  /-- configuration space other than what the fields above hold, 32-bit words by register; 12 R294; reset PRESUMED 0 (log 13) -/
  cfg : Tab Nat := []
  /-- Memory Space Enable; 12 R297; reset PRESUMED 0 (PCI Express) (log 13) -/
  memEn : Bool := false
  /-- outstanding read requests by tag 0 to 767, and from key 1024 on those waiting for a tag; 12 R294, R302; reset none -/
  reads : Tab (Option HostRead) := []
  /-- tag given next; 12 R294; reset DESIGN CHOICE 0 (log 29) -/
  nextTag : Nat := 0
  /-- counters of Table 12.11 in order, 48 bits; 12 R313; reset 0 -/
  counts : Tab Nat := []
  /-- aperture writes issued by engine since its last fence; 12 R303; reset 0 -/
  dirtyEng : Tab Bool := []
  /-- host memory the module has written, by host bus address, byte plus 1; 12 R298; reset none -/
  hostMem : Tab Nat := []
  /-- poisoned host writes (EP set) by host bus address; 06 R144; reset none -/
  hostEp : Tab Bool := []
  /-- MSI-X table, 4,096 bytes; 12 R296; reset PRESUMED 0 but Mask bits 1 (PCI Express) (log 14) -/
  msix : Tab Nat := []
  /-- MSI-X pending bit array, 256 bits; 12 R296; reset 0 -/
  pba : Tab Bool := []
  /-- MSI-X messages sent: vectors, oldest first; 12 R304; reset empty -/
  irqs : List Nat := []
  deriving DecidableEq, Repr, Inhabited

/-! ### Maltster (13) -/

/-- A coordinated command that has arrived at its tally (R171, R268). -/
structure Coord where
  /-- fabric tally -/
  fid : Nat
  /-- the command's 128 bytes -/
  cmd : List Byte
  /-- its argument buffer -/
  arg : List Byte
  deriving DecidableEq, Repr, Inhabited

/-- A mailbox (Table 13.4). -/
structure Mailbox where
  /-- MBX_CTRL.EN; 13 Table 13.4; reset 0 -/
  en : Bool := false
  /-- IRQ_EN; 13 Table 13.4; reset 0 -/
  irqEn : Bool := false
  /-- SHADOW_EN; 13 Table 13.4; reset 0 -/
  shadowEn : Bool := false
  /-- VECTOR, 8 bits, none: the reset value m; 13 Table 13.4; reset m -/
  vector : Option Nat := none
  /-- COAL_COUNT, 8 bits; 13 Table 13.4; reset 1 -/
  coalCount : Nat := 1
  /-- COAL_US, 16 bits; 13 Table 13.4; reset 0 -/
  coalUs : Nat := 0
  /-- MBX_CMD_PROD, 16 bits; 13 Table 13.4; reset 0 -/
  cmdProd : Nat := 0
  /-- MBX_CMD_CONS, 16 bits; 13 Table 13.4; reset 0 -/
  cmdCons : Nat := 0
  /-- MBX_RSP_PROD, 16 bits; 13 Table 13.4; reset 0 -/
  rspProd : Nat := 0
  /-- MBX_RSP_CONS, 16 bits; 13 Table 13.4; reset 0 -/
  rspCons : Nat := 0
  /-- count of commands taken, 32 bits (SEQ); 13 Table 13.6; reset 0 -/
  seq : Nat := 0
  /-- MBX_STATUS.ACTIVE; 13 Table 13.4; reset 0 -/
  active : Bool := false
  /-- MBX_STATUS.DB_REJECT; 13 Table 13.4; reset 0 -/
  dbReject : Bool := false
  /-- MBX_SHADOW.ADDR, bits [43:3]; 13 Table 13.4; reset 0 -/
  shadow : Nat := 0
  /-- responses since the last interrupt; 13 R329; reset 0 -/
  coal : Nat := 0
  /-- a coordinated command awaiting its release; 13 R331; reset none -/
  coord : Option Coord := none
  deriving DecidableEq, Repr, Inhabited

/-- The Maltster. -/
structure Maltster where
  /-- mailboxes 0 to 63; 13 R317; reset as Table 13.4 -/
  mbx : Tab Mailbox := []
  /-- mailbox ring memory, 48 MiB by BAR0 offset; 13 R317; reset DESIGN CHOICE 0 (log 29) -/
  ring : Tab Byte := []
  /-- MBX_GLOBAL.ACTIVE_CORE: B; 13 R315; reset 0 -/
  coreB : Bool := false
  /-- MBX_GLOBAL.STANDBY_READY; 13 Table 13.4; reset 0 -/
  standby : Bool := false
  /-- MBX_GLOBAL.TAKEOVERS, 16 bits; 13 Table 13.4; reset 0 -/
  takeovers : Nat := 0
  /-- MBX_GLOBAL.LAST_CAUSE, 2 bits; 13 Table 13.4; reset 0 -/
  lastCause : Nat := 0
  /-- MBX_EVENT_IRQ.EN; 13 Table 13.4; reset 0 -/
  eventEn : Bool := false
  /-- MBX_EVENT_IRQ.VECTOR, 8 bits; 13 Table 13.4; reset 255 -/
  eventVec : Nat := 255
  /-- STM_MODE.MODE; 13 Table 13.2; reset STARTING -/
  mode : Mode := .starting
  /-- mode that hold interrupted; 14 R339; reset DESIGN CHOICE STARTING (log 29) -/
  heldFrom : Mode := .starting
  /-- the input has recovered and the data path resumes at the next release; 14 R340; reset 0 -/
  resume : Bool := false
  /-- STM_MODE.PARK_CAUSE; 13 Table 13.2; reset 0 -/
  parkCause : Nat := 0
  /-- STM_MODE.PARK_PENDING; 13 Table 13.2; reset 0 -/
  parkPending : Bool := false
  /-- the PARK_CAUSE the pending park will have; 13 R327; reset 0 -/
  parkWhy : Nat := 0
  /-- STM_MODE.UNPARK_PENDING; 13 Table 13.2; reset 0 -/
  unparkPending : Bool := false
  /-- STM_MODE.FALLOW_CAUSE; 13 Table 13.2; reset 0 -/
  fallowCause : Nat := 0
  /-- STM_MODE.MAILBOX_READY; 13 Table 13.2; reset 0 -/
  ready : Bool := false
  /-- a SHUTDOWN is under way: COPPICE; 14 R358; reset none -/
  shutdown : Option Bool := none
  deriving DecidableEq, Repr, Inhabited

/-! ### Schedule (11) and step state -/

/-- What a latched command changes at its boundary (Table 01.10). -/
inductive LatchWhat where
  | version (table : Nat)
  | replicate (table : Nat) (rows : List Nat)
  | unreplicate (table : Nat) (rows : List Nat)
  | straggler (entries : List (Nat × Bool))
  | profile (n : Nat)
  | activate (first : Nat)
  | unpark
  | reshardStart (table : Nat) (entries : List (Nat × Nat × Nat))
  | reshardCancel (table : Nat) (shards : List Nat)
  | reshardDone (table : Nat)
  deriving DecidableEq, Repr, Inhabited

/-- A latched command (R27). -/
structure Latch where
  /-- look-ahead bound, else boundary bound -/
  look : Bool
  /-- due at the next boundary -/
  due : Bool
  /-- the change -/
  what : LatchWhat
  deriving DecidableEq, Repr, Inhabited

/-- A step's record (STEP_STATUS, R114). -/
structure StepRec where
  /-- ran without samples -/
  unarmed : Bool := false
  /-- the step ended -/
  complete : Bool := false
  /-- SKIP -/
  skipped : Bool := false
  /-- non-finite count -/
  nonfinite : Nat := 0
  /-- replays -/
  replays : Nat := 0
  deriving DecidableEq, Repr, Inhabited

/-- What the module has gathered of a region's scope (R106, R108): one report per member plot, then the combination. -/
structure Scope where
  /-- member plots of this module that have reported flags -/
  flagged : List Nat := []
  /-- F so far, then F', 5 bits -/
  flags : Nat := 0
  /-- member plots that have reported a PRESENT pass's amax -/
  passed : List Nat := []
  /-- amax so far, then combined, plus 65,536; 0 for none -/
  amax : Nat := 0
  /-- F' has been combined over every member -/
  doneF : Bool := false
  /-- the pass's amax has been combined over every member -/
  doneA : Bool := false
  /-- the module's non-finite count when F' came, which every member's row of Table 05.6 uses -/
  events : Nat := 0
  /-- the module has arrived at the scope's fabric tally -/
  arrived : Bool := false
  /-- member plots that have acted on the combination -/
  acted : List Nat := []
  deriving DecidableEq, Repr, Inhabited

/-- A replay log entry (Table 05.8). -/
structure ReplayEntry where
  /-- STEP -/
  step : Nat
  /-- TAG -/
  tag : Nat
  /-- PLOT -/
  plot : Nat
  /-- FROM -/
  from_ : Nat
  /-- TO -/
  to_ : Nat
  /-- FLAGS -/
  flags : Nat
  /-- SUPPRESSED -/
  suppressed : Bool
  /-- MB -/
  mb : Nat
  /-- CLOCKS -/
  clocks : Nat
  /-- SCOPE_TALLY of the region, or 256 + plot for a scope of one plot: which scope the entry is of -/
  scope : Nat
  /-- returned by STEP_STATUS -/
  read : Bool
  deriving DecidableEq, Repr, Inhabited

/-- Bundles, the step and its epochs. -/
structure Schedule where
  /-- active bundle; 11 R264; reset none (14 R351) -/
  active : Option Bundle := none
  /-- staged bundle; 11 R264; reset none -/
  staged : Option Bundle := none
  /-- host-link rate the active bundle was admitted at, MB/s; 12 R295; reset 0 -/
  rate : Nat := 0
  /-- host-link rate the staged bundle was admitted at, MB/s; 12 R295; reset 0 -/
  stagedRate : Nat := 0
  /-- replay allowance A that admission found for the active bundle, ps; 05 R111; reset 0 -/
  allow : Nat := 0
  /-- that of the staged bundle; 05 R111; reset 0 -/
  stagedAllow : Nat := 0
  /-- PROFILE: 0 P-FULL, 1 P-MID, 2 P-LOW; 14 R343; reset 0 -/
  profile : Nat := 0
  /-- module step number, 32 bits; 13 Table 13.1; reset 0 -/
  step : Nat := 0
  /-- number of the current epoch, 32 bits; 11 R278; reset DESIGN CHOICE 0 (log 29) -/
  epoch : Nat := 0
  /-- place of the current epoch in the PLAN; 11 R278; reset 0 -/
  planIdx : Nat := 0
  /-- template of the current epoch; 10 R229; reset 0 -/
  template : Nat := 0
  /-- this epoch's ARRIVE_AT has passed; 11 R278; reset 0 -/
  arrived : Bool := false
  /-- look-ahead of the next step has begun; 07 R157; reset 0 -/
  lookDone : Bool := false
  /-- hold or park stopped the look-ahead of the next step before its batch was read; 13 R340; reset 0 -/
  lookHeld : Bool := false
  /-- SKIP of the running step; 05 R114; reset 0 -/
  skip : Bool := false
  /-- the update exchange of the running step is open; 05 R114; reset 0 -/
  updating : Bool := false
  /-- commands latched and not yet in effect, in order of acceptance; 01 R27; reset none -/
  latches : List Latch := []
  /-- armed steps: address of the batch in the staging area, plus 1; 13 R326; reset none -/
  armed : Tab Nat := []
  /-- the running step has no samples; 01 R25; reset 0 -/
  unarmed : Bool := false
  /-- step records, last 4,096 in full; 13 STEP_STATUS; reset none -/
  recs : Tab StepRec := []
  /-- replay log, ring of 4,096; 05 R110; reset empty -/
  replays : List ReplayEntry := []
  /-- scopes with a report in the running step: key 65536 SCOPE_TALLY + TAG; 05 R106; reset none -/
  scopes : Tab Scope := []
  /-- non-finite events of the running step; 05 R113; reset 0 -/
  events : Nat := 0
  /-- combined count of the running step's tally at its root, once issued; 05 R113, R114; reset none -/
  combined : Option Nat := none
  /-- straggler policy CARRY by group; 11 R285; reset 0 (DROP) -/
  carry : Tab Bool := []
  /-- restore mark; 14 R352; reset 0 -/
  restore : Nat := 0
  /-- group records by scale group: recent (step, record) pairs, newest first; 05 R101; reset none -/
  hist : Tab (List (Nat × Int)) := []
  /-- records of the step before by scale group, plus 65,536; 05 R101; reset none -/
  prevAmax : Tab Nat := []
  /-- steps whose group record was missed by scale group; 05 R101; reset none -/
  gaps : Tab Nat := []
  /-- plot clocks that have run since power-on, 48 bits; 02 R50; reset 0 -/
  clocks : Nat := 0
  /-- plot clocks of the current tick withheld by power and by thermal control; 11 R292; reset 0 -/
  withheld : Nat := 0
  deriving DecidableEq, Repr, Inhabited

/-- What the last access answered: a BAR0, BAR2, configuration, tun or memory access. -/
structure Ret where
  /-- data -/
  data : List Byte := []
  /-- the data carry a poison mark (EP on the host link) -/
  poison : Bool := false
  /-- 0 success, 1 Unsupported Request, 2 Request Retry Status, 3 OVER (R156), 4 a refused mirrored or stale record -/
  status : Nat := 0
  /-- SAT of a tun read -/
  sat : Bool := false
  /-- OVF of a tun read -/
  ovf : Bool := false
  deriving DecidableEq, Repr, Inhabited

/-- The whole block. -/
structure State where
  /-- housekeeping domain -/
  hk : Housekeeping := {}
  /-- fuses -/
  fuses : Fuses := {}
  /-- flash -/
  flash : Flash := {}
  /-- running firmware -/
  fw : Firmware := {}
  /-- memory -/
  mem : Memory := {}
  /-- plots 0 to 63 -/
  plots : Tab Plot := []
  /-- Granary -/
  grn : Granary := {}
  /-- Lauter engine -/
  ltr : Lauter := {}
  /-- Cask store -/
  csk : Cask := {}
  /-- fabric -/
  fab : Fabric := {}
  /-- host link -/
  host : HostLink := {}
  /-- Maltster -/
  mst : Maltster := {}
  /-- schedule -/
  sch : Schedule := {}
  /-- answer of the last access; the model's own; 12 R296; reset DESIGN CHOICE empty (log 32) -/
  ret : Ret := {}
  /-- count of free values taken; the model's own; reset DESIGN CHOICE 0 (log 32) -/
  free : Nat := 0
  /-- commands waiting, first in, first out; the model's own; reset empty -/
  pending : List Instr := []
  deriving DecidableEq, Repr, Inhabited

/-- Power-on: every register at its reset value (Table 00.6 and the register tables). -/
def State.reset : State := {}

/-- Why a step faults. No meaning of this model faults; the type is empty of reasons but one. -/
inductive Fault where
  /-- raised by nobody: every access the spec refuses has an effect (R21, R296); safe -/
  | unreachable
  deriving DecidableEq, Repr, Inhabited

/-- Why a step is refused. -/
inductive Refusal where
  /-- raised by a refused arm of exec only: the command has no meaning yet; safe -/
  | notModelled (mnemonic : String)
  deriving DecidableEq, Repr, Inhabited

end Sys2Proof.Machine
end

