-- ==== Sys2Proof/Machine/Ops.lean ====
section
/-! DEFINITION. The operations every family shares: parts of the state, the status mirror, the sticky record and the event
log, interrupts, the device address map, the Malt cache and the Kiln codec, and reads and writes of device memory. -/

namespace Sys2Proof.Machine

/-! ### Parts of the state -/

/-- A state with its housekeeping changed. -/
def State.onHk (f : Housekeeping → Housekeeping) (s : State) : State := { s with hk := f s.hk }
/-- A state with its memory changed. -/
def State.onMem (f : Memory → Memory) (s : State) : State := { s with mem := f s.mem }
/-- A state with its Granary changed. -/
def State.onGrn (f : Granary → Granary) (s : State) : State := { s with grn := f s.grn }
/-- A state with its Lauter engine changed. -/
def State.onLtr (f : Lauter → Lauter) (s : State) : State := { s with ltr := f s.ltr }
/-- A state with its Cask store changed. -/
def State.onCsk (f : Cask → Cask) (s : State) : State := { s with csk := f s.csk }
/-- A state with its fabric changed. -/
def State.onFab (f : Fabric → Fabric) (s : State) : State := { s with fab := f s.fab }
/-- A state with its host link changed. -/
def State.onHost (f : HostLink → HostLink) (s : State) : State := { s with host := f s.host }
/-- A state with its Maltster changed. -/
def State.onMst (f : Maltster → Maltster) (s : State) : State := { s with mst := f s.mst }
/-- A state with its schedule changed. -/
def State.onSch (f : Schedule → Schedule) (s : State) : State := { s with sch := f s.sch }
/-- Plot p. -/
def State.plot (s : State) (p : Nat) : Plot := s.plots.get {} p
/-- Plot p changed. -/
def State.onPlot (p : Nat) (f : Plot → Plot) (s : State) : State := { s with plots := s.plots.modify {} p f }
/-- Port p. -/
def State.port (s : State) (p : Nat) : Port := s.fab.ports.get {} p
/-- Port p changed. -/
def State.onPort (p : Nat) (f : Port → Port) : State → State :=
  State.onFab (fun b => { b with ports := b.ports.modify {} p f })
/-- Port p's flit machinery. -/
def State.flow (s : State) (p : Nat) : PortFlow := s.fab.flows.get {} p
/-- Port p's flit machinery changed. -/
def State.onFlow (p : Nat) (f : PortFlow → PortFlow) : State → State :=
  State.onFab (fun b => { b with flows := b.flows.modify {} p f })
/-- Mailbox m. -/
def State.mbx (s : State) (m : Nat) : Mailbox := s.mst.mbx.get {} m
/-- Mailbox m changed. -/
def State.onMbx (m : Nat) (f : Mailbox → Mailbox) : State → State :=
  State.onMst (fun b => { b with mbx := b.mbx.modify {} m f })
/-- A host-link counter of Table 12.11 advanced. -/
def State.countHost (i n : Nat) : State → State :=
  State.onHost (fun h => { h with counts := h.counts.modify 0 i (fun c => sat48 (c + n)) })
/-- A port counter of Table 10.12 advanced. -/
def State.countPort (p i n : Nat) : State → State :=
  State.onPort p (fun x => { x with counts := x.counts.modify 0 i (fun c => sat48 (c + n)) })
/-- The active bundle's body, empty when none is active. -/
def State.body (s : State) : BundleBody := (s.sch.active.map Bundle.body).getD {}
/-- The active bundle's header. -/
def State.bhdr (s : State) : BHeader := (s.sch.active.map Bundle.hdr).getD {}
/-- A bundle is active. -/
def State.hasBundle (s : State) : Bool := s.sch.active.isSome
/-- The module's rank, 0xFFFF while no bundle is active (R263). -/
def State.rank (s : State) : Nat := match s.sch.active with | some b => b.hdr.rank | none => 0xFFFF
/-- A free value (a number below 2^w) and the state that has taken it. -/
def State.takeFree (s : State) (w : Nat) : Nat × State := (Config.freeValue s.free % 2 ^ w, { s with free := s.free + 1 })

/-- A fold that carries the state through a list. -/
def State.each {α : Type} (f : α → State → State) (xs : List α) (s : State) : State := xs.foldl (fun s x => f x s) s

/-! ### The status mirror (Tables 13.1, 13.2) -/

/-- The code of STM_MODE.MODE. -/
def Mode.code : Mode → Nat
  | .starting => 0 | .fallow => 1 | .ready => 2 | .running => 3 | .parked => 4 | .hold => 5 | .shuttingDown => 6

/-- STM_MODE. -/
def stmMode (s : State) : Nat :=
  s.mst.mode.code + 2 ^ 4 * s.mst.parkCause + 2 ^ 8 * b2n s.host.detached + 2 ^ 9 * b2n s.mst.parkPending
    + 2 ^ 10 * b2n s.mst.unparkPending + 2 ^ 11 * b2n s.sch.staged.isSome + 2 ^ 12 * s.mst.fallowCause
    + 2 ^ 20 * b2n s.mst.ready

/-- STM_SUPPLY. -/
def stmSupply (s : State) : Nat := s.hk.inputMv + 2 ^ 16 * s.hk.minMv

/-- STM_IDENT. -/
def stmIdent (s : State) : Nat := 0x5651 + 2 ^ 16 * 0x0A09 + 2 ^ 32 * (s.fuses.stepping % 256)

/-- STM_IFVER. -/
def stmIfver (s : State) : Nat := s.fw.ifvers.getD 0 0 + 2 ^ 32 * s.fw.ifvers.getD 1 0

/-- Group g of the sticky record. -/
def stickyGroup (s : State) (g : Nat) : Nat := s.hk.sticky.get 0 g

/-- STM_STICKY_SUMMARY. -/
def stickySummary (s : State) : Nat :=
  (List.range 16).foldl (fun a g => if stickyGroup s g = 0 then a else a + 2 ^ g) 0

/-- A sticky bit is set. -/
def stickyBit (s : State) (g b : Nat) : Bool := natBit b (stickyGroup s g)

/-- ALERT_N is driven low (Table 14.3). -/
def alertLow (s : State) : Bool :=
  s.hk.belowWarn || s.hk.aboveHigh || !s.hk.alerting.isEmpty || stickyGroup s 0 != 0 || stickyGroup s 1 != 0 || stickyGroup s 13 != 0

/-- LED_STAT: green on, green blinking, amber on, amber blinking (Table 14.3); LED_PWR follows PWRGD. -/
def leds (s : State) : Bool × Bool × Bool × Bool :=
  (s.mst.mode == .running, s.mst.mode == .ready || s.mst.mode == .parked, s.mst.mode == .fallow,
    s.mst.mode == .hold || s.hk.thermtrip)

/-! ### Interrupts (R304, R329) -/

/-- What an unwritten byte of the MSI-X table reads as: Vector Control bit 0 (Mask) is 1 at reset (PRESUMED, log 14: PCI Express). -/
def msixDefault (off : Nat) : Nat := if off % 16 = 12 then 1 else 0

/-- A byte of the MSI-X table. -/
def msixByte (s : State) (off : Nat) : Nat := s.host.msix.get 0 off ^^^ msixDefault off

/-- An MSI-X vector raised: a message, or a pending bit while its entry is masked; nothing while host-detached (R311). -/
def raiseIrq (v : Nat) (s : State) : State :=
  if s.host.detached then s
  else if natBit 0 (msixByte s (16 * v + 12)) then s.onHost (fun h => { h with pba := h.pba.set false v true })
  else s.onHost (fun h => { h with irqs := h.irqs ++ [v] })

/-- The status event vector (R329). -/
def eventIrq (s : State) : State := if s.mst.eventEn then raiseIrq s.mst.eventVec s else s

/-- A change of STM_MODE raises the status event vector. -/
def announce (old new : State) : State := if stmMode old = stmMode new then new else eventIrq new

/-! ### Sticky record and event log (R10, R11, R376 to R379) -/

/-- The DATA bytes of a log entry (Table 15.9): three values of 8 bytes (DESIGN CHOICE, log 9). -/
def logData (vs : List Nat) : List Byte := padTo 24 ((vs.map (leBytes 8)).flatten)

/-- A sticky bit set; a group that was clear raises the status event vector. -/
def setSticky (g b : Nat) (s : State) : State :=
  let w := stickyGroup s g
  if natBit b w then s
  else
    let s' := s.onHk (fun h => { h with sticky := h.sticky.set 0 g (w ||| 2 ^ b) })
    if w = 0 then eventIrq s' else s'

/-- An event marks its bit as set in this housekeeping cycle, so that a clear in the same cycle leaves it set (R11). -/
def markFresh (g b : Nat) : State → State :=
  State.onHk (fun h => { h with fresh := h.fresh.modify 0 g (fun v => v ||| 2 ^ b) })

/-- The oldest entry of a full ring makes room. -/
def trimLog (es : List LogEntry) : List LogEntry := if es.length < 1024 then es else es.drop (es.length - 1023)

/-- An entry written at the end of the log, or merged into the newest (R379: same group, bit and source within 1 ms). -/
def putLog (g b src : Nat) (data : List Byte) (s : State) : State :=
  s.onHk (fun h =>
    let fresh : LogEntry := ⟨h.logSeq, 0, g, b, src, s.sch.step, h.now, data, false⟩
    let add : Housekeeping := { h with log := trimLog h.log ++ [fresh], logSeq := (h.logSeq + 1) % 2 ^ 32 }
    match h.log.getLast? with
    | some e =>
      if e.group = g && e.bit = b && e.source = src && decide (h.now ≤ e.time + 25000) then
        { h with log := h.log.dropLast ++ [{ e with rep := min 0xFFFF (e.rep + 1) }] }
      else add
    | none => add)

/-- Writing an entry now would overwrite an unread one (R378). -/
def logWraps (g b src : Nat) (s : State) : Bool :=
  decide (1024 ≤ s.hk.log.length) && !(s.hk.log.headD default).read &&
    !(match s.hk.log.getLast? with
      | some e => e.group = g && e.bit = b && e.source = src && decide (s.hk.now ≤ e.time + 25000)
      | none => false)

/-- LOG_WRAP is set, with its own entry when the bit was clear (R11, R378). -/
def wrapLog (s : State) : State :=
  let s := markFresh 14 8 s
  if stickyBit s 14 8 then s else putLog 14 8 0x7B (logData []) (setSticky 14 8 s)

/-- An event: its sticky bit and its log entry (EVENT_LOG_WRITE). -/
def event (g b src : Nat) (data : List Nat) (s : State) : State :=
  let w := logWraps g b src s
  let s := putLog g b src (logData data) (setSticky g b (markFresh g b s))
  if w then wrapLog s else s

/-- An event that sets no sticky bit: group 15 (Table 15.9). -/
def eventNote (b src : Nat) (data : List Nat) (s : State) : State :=
  let w := logWraps 15 b src s
  let s := putLog 15 b src (logData data) s
  if w then wrapLog s else s

/-- The bits of a group that a clear of `mask` clears: those set, named, and not set by an event in this housekeeping cycle. -/
def clearable (s : State) (g mask : Nat) : Nat :=
  let w := stickyGroup s g &&& mask
  w - (w &&& s.hk.fresh.get 0 g)

/-- Bits of a group cleared (R10, R11). -/
def clearSticky (g mask : Nat) (s : State) : State :=
  s.onHk (fun h => { h with sticky := h.sticky.set 0 g (stickyGroup s g - clearable s g mask) })

/-! ### The device address map (R19) -/

/-- Where a device address lies. -/
inductive Loc where
  | hbm | store (p off : Nat) | dir (off : Nat) | buffer | cellar | aperture | reserved
  deriving DecidableEq, Repr

/-- Table 01.5, with the Kiln metadata region as a reserved range (R123). -/
def locate (a : Nat) : Loc :=
  if a < 0x8000000000 then .hbm
  else if a < 0xC000000000 then .reserved
  else if a < 0xC010000000 then
    let off := (a - 0xC000000000) % 0x400000
    if off < 0x300000 then .store ((a - 0xC000000000) / 0x400000) off else .reserved
  else if a < 0xC014000000 then .dir (a - 0xC010000000)
  else if a < 0xC015800000 then .buffer
  else if a < 0x20000000000 then .reserved
  else if a < 0x3FC00000000 then .cellar
  else if a < 0x80000000000 then .reserved
  else if a < 0x100000000000 then .aperture
  else .reserved

/-- Plot p's store starts here. -/
def storeBase (p : Nat) : Nat := 0xC000000000 + p * 0x400000

/-- The cellar starts here. -/
def cellarBase : Nat := 0x20000000000

/-- The requester numbers of Table 12.8, and 69 for the PCIe controller's BAR2. -/
def reqGranary : Nat := 64
/-- Lauter engine. -/
def reqLauter : Nat := 65
/-- Cask store. -/
def reqCask : Nat := 66
/-- Maltster DMA. -/
def reqMaltster : Nat := 67
/-- Hedgerow. -/
def reqHedgerow : Nat := 68
/-- BAR2. -/
def reqBar2 : Nat := 69

/-- The block (Table 15.2) a requester is. -/
def blockOf (s : State) (req : Nat) : Nat :=
  if req < 64 then req else if req = 64 then 0x72 else if req = 65 then 0x73 else if req = 66 then 0x74
  else if req = 67 then (if s.mst.coreB then 0x77 else 0x76) else if req = 68 then 0x70 else 0x75

/-- The enabled segment that covers an aperture address (R298). -/
def segOf (s : State) (a : Nat) : Option Seg :=
  ((List.range 16).map (fun n => s.host.segs.get {} n)).find?
    (fun g => g.en && decide (g.base * 0x10000 ≤ a) && decide (a ≤ g.limit * 0x10000 + 0xFFFF))

/-- The host bus address of an aperture address under a segment (R298). -/
def segTranslate (g : Seg) (a : Nat) : Nat := g.host * 0x1000 + (a - g.base * 0x10000)

/-- An access is refused under R21; an aperture access of a detached module falls under R311 instead. -/
def refuses (s : State) (req a : Nat) (write : Bool) : Bool :=
  match locate a with
  | .reserved => true
  | .dir _ => write && !(req == reqGranary || req == reqMaltster)
  | .aperture => !s.host.detached && (segOf s a).isNone
  | .hbm => s.mem.withdrawn.get false (a / 0x10000)
  | .cellar => s.mem.withdrawn.get false (a / 0x10000)
  | _ => false

/-- ADDR_FAULT with its log entry (R21). -/
def addrFault (req a : Nat) (s : State) : State := event 4 2 (blockOf s req) [a, req] s

/-! ### Frames, channels and slices (R117, R118) -/

/-- The channel of an HBM frame position. -/
def hbmChannelOf (f : Nat) : Nat := (f % 128) ^^^ (f / 128 % 128) ^^^ (f / 16384 % 128) ^^^ (f / 2097152 % 4)

/-- The channel of a cellar frame position. -/
def celChannelOf (f : Nat) : Nat := (f % 256) ^^^ (f / 256 % 256) ^^^ (f / 65536 % 256) ^^^ (f / 16777216 % 2)

/-- The position a frame occupies: its own unless re-placed (R119). -/
def position (t : Tab Nat) (f : Nat) : Nat := let v := t.get 0 f; if v = 0 then f else v - 1

/-- The channel of an address in the numbering of R146: HBM 0 to 127, cellar 128 to 383. -/
def channelOf (s : State) (a : Nat) : Nat :=
  if a < cellarBase then hbmChannelOf (position s.mem.hbmMap (a / 0x10000))
  else 128 + celChannelOf (position s.mem.celMap ((a - cellarBase) / 0x10000))

/-- The Malt cache slice of a channel (Table 06.1). -/
def sliceOf (ch : Nat) : Nat := if ch < 128 then ch / 16 else 8 + (ch - 128) / 64

/-- The slice of an address. -/
def sliceAt (s : State) (a : Nat) : Nat := sliceOf (channelOf s a)

/-- Sets of a slice: 2 MiB or 4 MiB over 16 ways of 128 bytes (R125). -/
def sliceSets (slice : Nat) : Nat := if slice < 8 then 1024 else 2048

/-- The key of a line's set in Memory.malt. -/
def maltKey (slice line : Nat) : Nat := slice * 65536 + Config.maltSet line % sliceSets slice

/-! ### The Malt cache (R127) -/

/-- Protected lines of a set. -/
def protCount (ws : List MaltLine) : Nat := (ws.filter MaltLine.prot).length

/-- The first line that satisfies p is removed. -/
def dropFirst (p : MaltLine → Bool) : List MaltLine → List MaltLine
  | [] => []
  | w :: ws => if p w then ws else w :: dropFirst p ws

/-- The LRU protected line unprotected. -/
def unprotectLru : List MaltLine → List MaltLine
  | [] => []
  | w :: ws => if w.prot then { w with prot := false } :: ws else w :: unprotectLru ws

/-- The line a full set gives up: the LRU unprotected one, or the LRU one when all are protected. -/
def victim (ws : List MaltLine) : Option MaltLine :=
  match ws.find? (fun w => !w.prot) with
  | some w => some w
  | none => ws.head?

/-- Room for one more line: the set and the line evicted. -/
def makeRoom (ws : List MaltLine) : List MaltLine × Option MaltLine :=
  if ws.length < 16 then (ws, none)
  else
    match victim ws with
    | some v => (dropFirst (fun w => w.line == v.line) ws, some v)
    | none => (ws, none)

/-- A line put at the MRU or the LRU end of a set that does not hold it; a thirteenth protected line unprotects the LRU
protected one first. -/
def putLine (mru : Bool) (l : MaltLine) (ws : List MaltLine) : List MaltLine × Option MaltLine :=
  let ws := if l.prot && decide (12 ≤ protCount ws) then unprotectLru ws else ws
  let r := makeRoom ws
  (if mru then r.1 ++ [l] else l :: r.1, r.2)

/-- Table 06.5: the set after an access, and the line evicted; `full` for a write of the whole line, which under STREAM leaves
the line unprotected, so that it is evicted first. -/
def maltStep (hint : Hint) (write full : Bool) (line : Nat) (ws : List MaltLine) : List MaltLine × Option MaltLine :=
  let rest := ws.filter (fun w => w.line != line)
  match ws.find? (fun w => w.line == line), write with
  | none, false =>
    match hint with
    | .none => putLine true ⟨line, false, false⟩ ws
    | .keep => putLine true ⟨line, false, true⟩ ws
    | _ => (ws, none)
  | some w, false =>
    match hint with
    | .none => (rest ++ [w], none)
    | .stream => (ws, none)
    | .keep => putLine true { w with prot := true } rest
    | .last => (if w.dirty then { w with prot := false } :: rest else rest, none)
  | old, true =>
    let prot := (old.map MaltLine.prot).getD false
    match hint with
    | .none => putLine true ⟨line, true, prot⟩ rest
    | .stream => putLine false ⟨line, true, prot && !full⟩ rest
    | .keep => putLine true ⟨line, true, true⟩ rest
    | .last => putLine false ⟨line, true, false⟩ rest

/-! ### The Kiln codec (R122 to R124) -/

/-- One bit of the CRC-24 of Table 06.4. -/
def crc24Bit (c : Nat) : Nat := if c / 0x800000 % 2 = 1 then ((2 * c) % 0x1000000) ^^^ 0x864CFB else (2 * c) % 0x1000000

/-- The CRC-24 of a byte list: most significant bit first, initial value 0xB704CE. -/
def crc24 (bs : List Byte) : Nat :=
  bs.foldl (fun c b => Nat.repeat crc24Bit 8 (c ^^^ (b.toNat * 0x10000))) 0xB704CE

/-- NSECT of a block of 512 bytes (R122). -/
def kilnSect (bs : List Byte) : Nat :=
  if bs.all (· == 0) then 0
  else
    let n := Config.kilnSectors bs
    if 1 ≤ n && n ≤ 7 then n else 8

/-- Bytes of memory, before any rule of access: the directory's range shows its entries (Table 07.5). -/
def DirEntry.word (e : DirEntry) : Nat :=
  e.table + 2 ^ 16 * e.granule + 2 ^ 44 * e.state + 2 ^ 46 * b2n e.dirty + 2 ^ 47 * e.pin + 2 ^ 49 * e.freq
    + 2 ^ 57 * e.age + 2 ^ 61 * e.vslot + 2 ^ 62 * b2n e.poison + 2 ^ 64 * e.valid + 2 ^ 96 * e.last

/-- The byte at a device address. -/
def rawByte (s : State) (a : Nat) : Byte :=
  match locate a with
  | .dir off => BitVec.ofNat 8 (((s.grn.dir.get {} (off / 16)).word) / 256 ^ (off % 16))
  | _ => Tab.get 0 s.mem.cells a

/-- `n` bytes from a device address. -/
def rawBytes (s : State) (a : Nat) : Nat → List Byte
  | 0 => []
  | n + 1 => rawByte s a :: rawBytes s (a + 1) n

/-- A little-endian number of `n` bytes. -/
def rawNat (s : State) (a n : Nat) : Nat := leNat (rawBytes s a n)

/-- The canonical form of the listed bytes: addresses strictly rising, no listed byte equal to what an unlisted address
reads as, which is 0. -/
def Memory.wf (m : Memory) : Bool := Tab.wf 0 m.cells

/-- A cell written. -/
def Memory.putByte (m : Memory) (a : Nat) (b : Byte) : Memory := { m with cells := Tab.set 0 m.cells a b }

/-- Bytes written from an address on. -/
def Memory.putBytes (m : Memory) : Nat → List Byte → Memory
  | _, [] => m
  | a, b :: bs => (m.putByte a b).putBytes (a + 1) bs

/-- The 4-byte metadata entry of a block (Table 06.4). -/
def kilnEntry (s : State) (block : Nat) : Nat :=
  let bs := rawBytes s (cellarBase + 512 * block) 512
  let n := kilnSect bs
  n + 16 * b2n (n == 0) + 32 * b2n (n == 8) + 64 * b2n (s.mem.kilnPoison.get false block) + 256 * crc24 bs

/-- Kiln counts of a cellar slice advanced: 0 blocks read, 1 sectors read, 2 written, 3 sectors written, 4 RAW, 5 ZERO. -/
def Memory.kilnAdd (m : Memory) (die : Nat) (ns : List (Nat × Nat)) : Memory :=
  { m with kiln := ns.foldl (fun t x => t.modify 0 (8 * die + x.1) (fun c => sat48 (c + x.2))) m.kiln }

/-- A block read (KILN_BLOCK_READ). -/
def kilnRead (block : Nat) (s : State) : State :=
  let die := (channelOf s (cellarBase + 512 * block) - 128) / 64
  s.onMem (fun m => m.kilnAdd die [(0, 1), (1, kilnSect (rawBytes s (cellarBase + 512 * block) 512))])

/-- A block coded and written (KILN_BLOCK_WRITE); `whole` when all four lines are supplied, else it is read first. -/
def kilnWrite (whole : Bool) (block : Nat) (s : State) : State :=
  let s := if whole then s else kilnRead block s
  let die := (channelOf s (cellarBase + 512 * block) - 128) / 64
  let n := kilnSect (rawBytes s (cellarBase + 512 * block) 512)
  s.onMem (fun m => m.kilnAdd die [(2, 1), (3, n), (4, b2n (n == 8)), (5, b2n (n == 0))])

/-- A slice holds a line. -/
def Memory.holds (m : Memory) (slice line : Nat) : Bool := (m.malt.get [] (maltKey slice line)).any (fun w => w.line == line)

/-- The other three lines of a cellar line's block. -/
def blockMates (line : Nat) : List Nat := ((List.range 4).map (fun i => line / 4 * 4 + i)).filter (· != line)

/-- Lines marked clean: their data went out with their block. -/
def Memory.cleanLines (slice : Nat) (ls : List Nat) (m : Memory) : Memory :=
  { m with malt := ls.foldl (fun t l => t.modify [] (maltKey slice l) (fun ws => ws.map (fun w => if w.line == l then { w with dirty := false } else w))) m.malt }

/-- A line evicted dirty is written back (R127); in the cellar with the lines of its block the slice still holds, which are
then clean, and coded directly when it holds all of them (R124; log 90). -/
def writeBack (slice : Nat) (v : Option MaltLine) (s : State) : State :=
  match v with
  | some w =>
    if w.dirty && decide (8 ≤ slice) then
      (kilnWrite ((blockMates w.line).all (s.mem.holds slice)) ((w.line * 128 - cellarBase) / 512) s).onMem
        (Memory.cleanLines slice (blockMates w.line))
    else s
  | none => s

/-- A line that a block read delivered besides the one asked for, kept clean at MRU unless the slice holds it (R124, R127). -/
def keepLine (slice line : Nat) (s : State) : State :=
  if s.mem.holds slice line then s
  else
    let r := putLine true ⟨line, false, false⟩ (s.mem.malt.get [] (maltKey slice line))
    writeBack slice r.2 (s.onMem (fun m => { m with malt := m.malt.set [] (maltKey slice line) r.1 }))

/-- A cellar block read for one of its lines: counted, and, unless the hint is to allocate nothing, its other lines kept. -/
def blockRead (hint : Hint) (slice a : Nat) (s : State) : State :=
  let s := kilnRead ((a - cellarBase) / 512) s
  if hint = .stream ∨ hint = .last then s else State.each (keepLine slice) (blockMates (a / 128)) s

/-- One line of HBM or the cellar accessed under its hint. -/
def maltTouch (hint : Hint) (write full : Bool) (a : Nat) (s : State) : State :=
  let line := a / 128
  let slice := sliceAt s a
  let key := maltKey slice line
  let s := if decide (8 ≤ slice) && !s.mem.holds slice line && !(write && full) then blockRead hint slice a s else s
  let r := maltStep hint write full line (s.mem.malt.get [] key)
  writeBack slice r.2 (s.onMem (fun m => { m with malt := m.malt.set [] key r.1 }))

/-- The lines of some frames leave their slices, the dirty ones written back first: a frame about to be re-placed is held by
the slice of its new channel from then on (R119, R125). -/
def flushFrames (p : Nat → Bool) (s : State) : State :=
  State.each (fun kv s =>
    let s := State.each (fun w s => if p (w.line * 128 / 0x10000) then writeBack (kv.1 / 65536) (some w) s else s) kv.2 s
    s.onMem (fun m => { m with malt := m.malt.modify [] kv.1 (fun ws => ws.filter (fun w => !p (w.line * 128 / 0x10000))) })) s.mem.malt s

/-- Every line unprotected (BUNDLE_ACTIVATE, R127). -/
def unprotectAll (m : Memory) : Memory :=
  { m with malt := m.malt.map (fun kv => (kv.1, kv.2.map (fun w => { w with prot := false }))) }

/-! ### Poison (R144) -/

/-- The channel that holds a cellar block's Kiln entry (R123). -/
def entryChannel (s : State) (a : Nat) : Nat := channelOf s (0x3FC00000000 + (a - cellarBase) / 512 * 4)

/-- The line or block of an address is poisoned, or its die, or the die of its block's Kiln entry, is lost (R120, R123). -/
def poisonedAt (s : State) (a : Nat) : Bool :=
  match locate a with
  | .hbm => s.mem.hbmPoison.get false (a / 128)
  | .cellar => s.mem.kilnPoison.get false ((a - cellarBase) / 512) || s.mem.dieLost.get false ((channelOf s a - 128) / 64) ||
      s.mem.dieLost.get false ((entryChannel s a - 128) / 64)
  | _ => false

/-- The unit poison is held by at an address: 128 bytes in HBM, 512 in the cellar. -/
def poisonUnit (a : Nat) : Nat := if a < cellarBase then 128 else 512

/-- The poison of an address set or cleared. -/
def Memory.setPoison (m : Memory) (a : Nat) (v : Bool) : Memory :=
  if a < cellarBase then { m with hbmPoison := m.hbmPoison.set false (a / 128) v }
  else { m with kilnPoison := m.kilnPoison.set false ((a - cellarBase) / 512) v }

/-- The sticky group of an address's tier: 2 HBM, 3 cellar. -/
def tierGroup (a : Nat) : Nat := if a < cellarBase then 2 else 3

/-- POISON_READ with its entry. -/
def poisonRead (req a : Nat) (s : State) : State :=
  event (tierGroup a) 2 (blockOf s req) [a, channelOf s a, req] s

/-- A line or block newly poisoned: HBM_UE or CELLAR_UE with its entry. -/
def poisonLine (req a : Nat) (s : State) : State :=
  event (tierGroup a) 1 (blockOf s req) [a, channelOf s a, req] (s.onMem (·.setPoison a true))

/-! ### Accesses -/

/-- An access cut into requests that each lie within a unit of `u` bytes: address and length, `fuel` pieces. -/
def pieces (u : Nat) : Nat → Nat → Nat → List (Nat × Nat)
  | 0, _, _ => []
  | fuel + 1, a, n =>
    if n = 0 then []
    else
      let k := min n (u - a % u)
      (a, k) :: pieces u fuel (a + k) (n - k)

/-- The requests of an access: one frame each (R386). -/
def requests (a n : Nat) : List (Nat × Nat) := pieces 0x10000 (n / 0x10000 + 2) a n

/-- The lines of a request. -/
def lines (a n : Nat) : List (Nat × Nat) := pieces 128 (n / 128 + 2) a n

/-- A byte of host memory: what the module wrote, else what the host holds there. -/
def hostByteAt (s : State) (bus : Nat) : Byte :=
  let v := s.host.hostMem.get 0 bus
  if v = 0 then Config.hostByte bus else BitVec.ofNat 8 (v - 1)

/-- Bytes of host memory. -/
def hostBytes (s : State) (bus : Nat) : Nat → List Byte
  | 0 => []
  | n + 1 => hostByteAt s bus :: hostBytes s (bus + 1) n

/-- Bytes written to host memory. -/
def putHost : Tab Nat → Nat → List Byte → Tab Nat
  | t, _, [] => t
  | t, a, b :: bs => putHost (t.set 0 a (b.toNat + 1)) (a + 1) bs

/-- Requests of at most `lim` bytes that cross no 4 KiB boundary of bus addresses (R300). -/
def busRequests (lim bus n : Nat) : Nat := (((pieces 4096 (n / 4096 + 2) bus n).map (fun x => ceilDiv x.2 lim)).sum)

/-- The maximum payload size in bytes. -/
def mpsBytes (s : State) : Nat := 128 * 2 ^ s.host.mps

/-- The maximum read request size in bytes. -/
def mrrsBytes (s : State) : Nat := 128 * 2 ^ s.host.mrrs

/-- An aperture write within one granule (APERTURE_REQUEST): sent to the host, or discarded and counted while
host-detached (R311). -/
def hostWrite (req a : Nat) (bs : List Byte) (ep : Bool) (s : State) : State :=
  if s.host.detached then s.countHost 6 (max 1 (busRequests (mpsBytes s) a bs.length))
  else
    match segOf s a with
    | none => addrFault req a s
    | some g =>
      let bus := segTranslate g a
      let s := s.onHost (fun h => { h with
        hostMem := putHost h.hostMem bus bs
        hostEp := h.hostEp.setMany false bus (bs.map (fun _ => ep))
        dirtyEng := h.dirtyEng.set false req true })
      s.countHost 0 bs.length

/-- An aperture read within one granule, answered at once (the engines behind the mailbox commands): zeros while
host-detached (R311). -/
def hostReadNow (req a n : Nat) (s : State) : State × List Byte :=
  if s.host.detached then (s, zeros n)
  else
    match segOf s a with
    | none => (addrFault req a s, zeros n)
    | some g => (s.countHost 1 n, hostBytes s (segTranslate g a) n)

/-- One line of memory read: bytes, and the poison mark. -/
def lineRead (req : Nat) (hint : Hint) (a n : Nat) (s : State) : State × List Byte × Bool :=
  let bs := rawBytes s a n
  let s := maltTouch hint false false a s
  if poisonedAt s a then (poisonRead req a s, bs, true) else (s, bs, false)

/-- A fold of line reads. -/
def linesRead (req : Nat) (hint : Hint) : List (Nat × Nat) → State → State × List Byte × Bool
  | [], s => (s, [], false)
  | (a, n) :: ls, s =>
    let r := lineRead req hint a n s
    let q := linesRead req hint ls r.1
    (q.1, r.2.1 ++ q.2.1, r.2.2 || q.2.2)

/-- One request read (R21, R126, R144). -/
def requestRead (req : Nat) (hint : Hint) (a n : Nat) (s : State) : State × List Byte × Bool :=
  if refuses s req a false then (addrFault req a s, zeros n, false)
  else
    match locate a with
    | .hbm => linesRead req hint (lines a n) s
    | .cellar => linesRead req hint (lines a n) s
    | .aperture => let r := hostReadNow req a n s; (r.1, r.2, false)
    | _ => (s, rawBytes s a n, false)

/-- A fold of request reads. -/
def requestsRead (req : Nat) (hint : Hint) : List (Nat × Nat) → State → State × List Byte × Bool
  | [], s => (s, [], false)
  | (a, n) :: ls, s =>
    let r := requestRead req hint a n s
    let q := requestsRead req hint ls r.1
    (q.1, r.2.1 ++ q.2.1, r.2.2 || q.2.2)

/-- A read of device memory: the state after it, its bytes, and its poison mark. -/
def devRead (req : Nat) (hint : Hint) (a n : Nat) (s : State) : State × List Byte × Bool :=
  requestsRead req hint (requests a n) s

/-- One line written. The poison clears only when the whole line, in the cellar the whole block, is covered (`whole`). -/
def lineWrite (hint : Hint) (whole : Bool) (a : Nat) (bs : List Byte) (s : State) : State :=
  if (locate a == .cellar) && s.mem.dieLost.get false ((channelOf s a - 128) / 64) then
    s.onMem (fun m => { m with lostWrites := m.lostWrites.modify 0 ((channelOf s a - 128) / 64) (fun c => sat48 (c + 1)) })
  else
    let s := maltTouch hint true (bs.length == 128) a s
    let s := s.onMem (fun m => m.putBytes a bs)
    if whole then s.onMem (·.setPoison a false) else s

/-- The lines of a write, each with its bytes and whether its poison unit is wholly covered by the range [lo, hi). -/
def linesWrite (hint : Hint) (lo hi : Nat) : List (Nat × Nat) → List Byte → State → State
  | [], _, s => s
  | (a, n) :: ls, bs, s =>
    let u := poisonUnit a
    let whole := decide (lo ≤ a / u * u) && decide (a / u * u + u ≤ hi)
    linesWrite hint lo hi ls (bs.drop n) (lineWrite hint whole a (bs.take n) s)

/-- The directory entry a 16-byte word spells. -/
def DirEntry.ofWord (w : Nat) : DirEntry :=
  { table := natBits 15 0 w, granule := natBits 43 16 w, state := natBits 45 44 w, dirty := natBit 46 w,
    pin := natBits 48 47 w, freq := natBits 56 49 w, age := natBits 60 57 w, vslot := natBits 61 61 w,
    poison := natBit 62 w, valid := natBits 95 64 w, last := natBits 127 96 w }

/-- Bytes written over a directory entry, from byte k of it on. -/
def DirEntry.patch (e : DirEntry) (k : Nat) (bs : List Byte) : DirEntry :=
  let old := leBytes 16 e.word
  DirEntry.ofWord (leNat (old.take k ++ bs ++ old.drop (k + bs.length)))

/-- The entries of a directory write, each with its bytes (Table 07.5). -/
def dirWrite : List (Nat × Nat) → List Byte → State → State
  | [], _, s => s
  | (off, n) :: ps, bs, s =>
    dirWrite ps (bs.drop n) (s.onGrn (fun g => { g with dir := g.dir.modify {} (off / 16) (fun e => e.patch (off % 16) (bs.take n)) }))

/-- One request written (R21, R126). -/
def requestWrite (req : Nat) (hint : Hint) (a : Nat) (bs : List Byte) (s : State) : State :=
  if refuses s req a true then addrFault req a s
  else
    match locate a with
    | .hbm => linesWrite hint a (a + bs.length) (lines a bs.length) bs s
    | .cellar => linesWrite hint a (a + bs.length) (lines a bs.length) bs s
    | .aperture => hostWrite req a bs false s
    | .dir off => dirWrite (pieces 16 (bs.length / 16 + 2) off bs.length) bs s
    | _ => s.onMem (fun m => m.putBytes a bs)

/-- A fold of request writes. -/
def requestsWrite (req : Nat) (hint : Hint) : List (Nat × Nat) → List Byte → State → State
  | [], _, s => s
  | (a, n) :: ls, bs, s => requestsWrite req hint ls (bs.drop n) (requestWrite req hint a (bs.take n) s)

/-- A write of device memory. -/
def devWrite (req : Nat) (hint : Hint) (a : Nat) (bs : List Byte) (s : State) : State :=
  requestsWrite req hint (requests a bs.length) bs s

/-- A write that also marks poisoned every line or block of [a, a + n) that receives a byte (MOVE, R144). -/
def poisonRange (req a n : Nat) (s : State) : State :=
  State.each (fun x s =>
    match locate x.1 with
    | .hbm => if refuses s req x.1 true then s else poisonLine req x.1 s
    | .cellar => if refuses s req x.1 true then s else poisonLine req x.1 s
    | _ => s) (pieces 128 (n / 128 + 2) a n) s

/-! ### Fences (R130, R303, R304) -/

/-- A fence of an engine taken and completed: in this model every write a command issues has been accepted when the
command ends, so the fence completes at once; its zero-length read clears the record of aperture writes. -/
def takeFence (engine : Nat) (s : State) : State :=
  let s := s.onMem (fun m => { m with fences := m.fences.modify 0 engine (fun c => sat48 (c + 1)) })
  (s.onHost (fun h => { h with dirtyEng := h.dirtyEng.set false engine false })).countHost 9 1

/-! ### Modes -/

/-- The module's data path works: neither off, starting, fallow nor shutting down to its end. -/
def dataPath (s : State) : Bool :=
  match s.mst.mode with
  | .ready => true | .running => true | .parked => true | .hold => true | .shuttingDown => true | _ => false

/-- The data path is stopped by hold: in hold, and after it until the next release (R339, R340). -/
def paused (s : State) : Bool := s.mst.mode == .hold || s.mst.resume || s.mst.mode == .shuttingDown && s.hk.belowWarn

/-- Plots, the Granary and the Cask store may issue work (R327, R339, R340). -/
def issues (s : State) : Bool :=
  match s.mst.mode with
  | .running => !paused s
  | .ready => true
  | .shuttingDown => s.hasBundle && s.mst.parkPending && !paused s
  | _ => false

/-- The module is parked for the Lauter engine and the fabric (R327): parked, or in hold entered from park. -/
def parked (s : State) : Bool :=
  s.mst.mode == .parked || (s.mst.mode == .hold && s.mst.heldFrom == .parked) ||
    (s.mst.mode == .shuttingDown && !s.mst.parkPending)

end Sys2Proof.Machine
end

