-- ==== Sys2Proof/Machine/Flags.lean ====
section
/-! DEFINITION. Every flag computation: the arithmetic flags of an operation on exact values (R36, R70), where a plot's
flags go (R49, R70, R105), the plot semaphores (R269, R270), and a slot's amax record and K (R99, R100). -/

namespace Sys2Proof.Machine

/-! ### Arithmetic flags (Table 03.6) -/

/-- The bits of PLT_MFLAGS a flag set raises: NAN, OVF, INV, DZ, SAT. -/
def mflagBits (f : NFlags) : Nat := b2n f.nan + 2 * b2n f.ovf + 4 * b2n f.inv + 8 * b2n f.dz + 16 * b2n f.sat

/-- PLT_MFLAGS with its ANY bit, which is the OR of bits [4:0]. -/
def mflagsWord (q : Plot) : Nat := q.mflags + 2 ^ 16 * b2n (q.mflags % 32 != 0)

/-- PLT_HFLAGS with its ANY bit. -/
def hflagsWord (q : Plot) : Nat := q.hflags + 2 ^ 16 * b2n (q.hflags != 0)

/-- The bits of PLT_HFLAGS a hedge's flags raise: NAN_h, OVF_h, SAT_h. -/
def hflagBits (h : Nat) (f : NFlags) : Nat := (b2n f.nan + 2 * b2n f.ovf + 4 * b2n f.sat) * 2 ^ (4 * h)

/-- The flags of an operation with operands `xs` and exact result `r`: NAN when a NaN is consumed or produced, INV when one
is produced from none. -/
def opFlags (xs : List XVal) (r : XVal) : NFlags :=
  { nan := xs.any XVal.isNan || r.isNan, inv := r.isNan && !xs.any XVal.isNan }

/-- An exact result rounded into a layout as an arithmetic result, with the flags of its operands (R59, R70). -/
def roundOp (L : FLayout) (xs : List XVal) (r : XVal) : Nat × NFlags :=
  let a := L.arith r
  (a.1, (opFlags xs r).or a.2)

/-! ### Where a plot's flags go (R105) -/

/-- The region of plot p that a TAG names. -/
def regionOf (s : State) (p tag : Nat) : Option RegionDef :=
  s.body.regions.find? (fun r => r.plot == p && r.tag == tag)

/-- The amax of a replay's PRESENT pass joined into its region's, kept for the report at the region check (R106). -/
def keepPass (s : State) (p tag : Nat) (a : Int) (q : Plot) : Plot :=
  if q.replay.isSome && (regionOf s p tag).isSome && a != noAmax then
    { q with regAmax := q.regAmax.modify 0 tag (fun v => max v (a + 65536).toNat) } else q

/-- Flags to the region's set, or to the unregioned set when the TAG names no region. -/
def flagTag (s : State) (p : Nat) (tag : Option Nat) (f : NFlags) (q : Plot) : Plot :=
  match tag with
  | some t =>
    if (regionOf s p t).isSome then { q with regFlags := q.regFlags.modify 0 t (fun v => v ||| f.toNat) }
    else { q with unreg := q.unreg ||| f.toNat }
  | none => { q with unreg := q.unreg ||| f.toNat }

/-- INV in a plot's unregioned set (R144, R302, R377). -/
def unregInv (p : Nat) : State → State := State.onPlot p (fun q => { q with unreg := q.unreg ||| 8 })

/-! ### Plot semaphores (R269, R270) -/

/-- A post of d on semaphore n of plot p: saturating, dropped when the semaphore is unassigned. -/
def semPostAt (p n : Nat) (d : Int) (s : State) : State :=
  let q := (s.plot p).sems.get {} n
  if !q.assigned then event 7 2 p [p, n] s
  else
    let v : Int := q.value + d
    let s' := s.onPlot p (fun x => { x with sems := x.sems.set {} n { q with value := (clampInt 0 0xFFFF v).toNat } })
    if 0xFFFF < v then event 7 0 p [p, n] s'
    else if v < 0 then event 7 1 p [p, n] s'
    else s'

/-- A wait for n units on a semaphore: the state after it, or none while it is not satisfied. An unassigned semaphore's wait
completes at once and changes nothing but SEM_MISUSE. -/
def semWaitAt (p n k : Nat) (s : State) : Option State :=
  let q := (s.plot p).sems.get {} n
  if !q.assigned then some (event 7 2 p [p, n] s)
  else if k ≤ q.value then
    some (s.onPlot p (fun x => { x with sems := x.sems.set {} n { q with value := q.value - k } }))
  else none

/-- A descriptor's wait: SWAIT s, 1 when enabled. -/
def descWait (en : Bool) (p n : Nat) (s : State) : Option State := if en then semWaitAt p n 1 s else some s

/-- A descriptor's post: SPOST s, 1 when enabled. -/
def descPost (en : Bool) (p n : Nat) (s : State) : State := if en then semPostAt p n 1 s else s

/-! ### Scale slots (R96 to R100) -/

/-- Slot n of a plot; slot 0 reads K = 0 and FIXED. -/
def Plot.slot (q : Plot) (n : Nat) : Slot := if n = 0 then {} else q.slots.get {} n

/-- The target exponent T of a format (Table 05.3). -/
def targetExp (fmt : Nat) : Int :=
  match Fmt.ofCode fmt with
  | some .fp32 => 127 | some .bf16 => 127 | some .fp16 => 15 | some .bx12 => 15 | some .e5m2 => 15
  | some .e4m3 => 8 | some .mb8 => 0 | some .int32 => 30 | some .int16 => 14 | some .int8 => 6 | some .int4 => 2
  | none => 0

/-- The group definition of a scale group; a group the bundle does not define has the widest limits. -/
def groupDef (s : State) (g : Nat) : GroupDef :=
  (s.body.groups.find? (fun d => d.group == g)).getD { group := g, kmin := -128, kmax := 127, kinit := 0, tally := none }

/-- K of R100 from an amax code, and whether it was limited. -/
def slotK (d : GroupDef) (tfmt margin : Nat) (a : Int) : Int × Bool :=
  let k := targetExp tfmt - margin - a
  let c := clampInt d.kmin d.kmax k
  (c, c != k)

/-- A record joined into a slot's AMAX (R99): only HISTORY and PRESENT slots record. -/
def recordAmax (n : Nat) (a : Int) (q : Plot) : Plot :=
  let t := q.slot n
  if n = 0 || t.mode = 0 || t.mode = 3 then q
  else { q with slots := q.slots.set {} n { t with amax := max t.amax a } }

/-- A slot given the K that a record asks for (R100, R102): K is unchanged when nothing was seen; `ovr` sets OVR whatever the
record (R108); a clamp sets SCALE_CLAMP, whose entry names the step, the plot and what `tag` gives, the TAG of a loop or the
slot (R116). -/
def setSlotK (p n : Nat) (a : Int) (ovr : Bool) (tag : Nat) (s : State) : State :=
  if n = 0 then s
  else
    let t := (s.plot p).slot n
    if a = noAmax then
      (if ovr then s.onPlot p (fun q => { q with slots := q.slots.set {} n { t with ovr := true } }) else s)
    else
      let k := slotK (groupDef s t.group) t.tfmt t.margin a
      let s' := s.onPlot p (fun q => { q with
        slots := q.slots.set {} n { t with k := k.1, clamp := k.2, ovr := t.ovr || ovr } })
      if k.2 then event 8 5 p [s.sch.step, p, tag] s' else s'

end Sys2Proof.Machine
end

