-- ==== Sys2Proof/Machine/Operands.lean ====
section
/-! DEFINITION. Every operand form: the Mash registers and their packed elements (R53), tensor descriptors (R63), loop, root,
hedge, WLOAD and MOVE descriptors (Tables 03.5, 03.8, 02.8, 02.4, 06.10), and elements of tensors in memory. -/

namespace Sys2Proof.Machine

/-! ### Mash registers (R53) -/

/-- Register r of the vector file: its lanes; a register of zeros is not listed. -/
def Plot.vreg (q : Plot) (r : Nat) : List Word := q.v.get [] r

/-- The 128 lanes of a register. -/
def lanesOf (xs : List Word) : List Nat := (List.range 128).map (fun l => (xs.getD l 0).toNat)

/-- The 256 packed elements of a register: element e in half e mod 2 of lane e / 2. -/
def halvesOf (xs : List Word) : List Nat :=
  (List.range 256).map (fun e => natBits (16 * (e % 2) + 15) (16 * (e % 2)) (xs.getD (e / 2) 0).toNat)

/-- Lanes from 128 numbers. -/
def lanesTo (es : List Nat) : List Word := es.map (BitVec.ofNat 32)

/-- Lanes from 256 packed elements. -/
def halvesTo (es : List Nat) : List Word :=
  (List.range 128).map (fun l => BitVec.ofNat 32 (es.getD (2 * l) 0 % 65536 + 65536 * (es.getD (2 * l + 1) 0 % 65536)))

/-- A vector register written. -/
def Plot.putV (q : Plot) (r : Nat) (xs : List Word) : Plot :=
  { q with v := q.v.set [] r (if xs.all (· == 0) then [] else xs) }

/-- The elements of a register: packed or 32-bit. -/
def elemsOf (packed : Bool) (xs : List Word) : List Nat := if packed then halvesOf xs else lanesOf xs

/-- A register of elements. -/
def elemsTo (packed : Bool) (es : List Nat) : List Word := if packed then halvesTo es else lanesTo es

/-- All 256 mask bits. -/
def allOnes : Nat := 2 ^ 256 - 1

/-- Mask register n, where M0 is the lane mask (R62). -/
def Plot.mask (q : Plot) (m0 n : Nat) : Nat := if n = 0 then m0 else q.m.get 0 n

/-! ### Tensor descriptors (R63) -/

/-- A tensor (Table 03.4). -/
structure Tensor5 where
  /-- BASE -/
  base : Nat
  /-- FMT -/
  fmt : Fmt
  /-- HINT -/
  hint : Hint
  /-- SCALE -/
  scale : Nat
  /-- extents, those of dimensions RANK and above 1 -/
  e0 : Nat
  /-- extent 1 -/
  e1 : Nat
  /-- extent 2 -/
  e2 : Nat
  /-- extent 3 -/
  e3 : Nat
  /-- extent 4 -/
  e4 : Nat
  /-- strides in bytes -/
  s1 : Nat
  /-- stride 2 -/
  s2 : Nat
  /-- stride 3 -/
  s3 : Nat
  /-- stride 4 -/
  s4 : Nat
  deriving DecidableEq, Repr

/-- The hint a code names (Table 06.5). -/
def hintOf (n : Nat) : Hint := if n = 0 then .none else if n = 1 then .stream else if n = 2 then .keep else .last

/-- The tensor a 64-byte descriptor spells. -/
def tensorOf (bs : List Byte) : Tensor5 :=
  let w0 := leAt bs 0 8
  let rank := natBits 54 52 w0
  let ext (d : Nat) : Nat := if d < rank then leAt bs (8 * (d + 1)) 4 else 1
  let str (d at_ : Nat) : Nat := if d < rank then leAt bs at_ 4 * 2 ^ natBits 35 32 (leAt bs (8 * (d + 1)) 8) else 0
  ⟨natBits 43 0 w0, (Fmt.ofCode (natBits 51 48 w0)).getD .fp32, hintOf (natBits 57 56 w0), natBits 63 58 w0,
    ext 0, ext 1, ext 2, ext 3, ext 4, str 1 48, str 2 52, str 3 56, str 4 60⟩

/-- Bytes from the base to the end of the last element. -/
def Tensor5.span (t : Tensor5) : Nat :=
  (t.e1 - 1) * t.s1 + (t.e2 - 1) * t.s2 + (t.e3 - 1) * t.s3 + (t.e4 - 1) * t.s4 + t.fmt.bytesFor t.e0

/-- The byte address of the dimension-0 row (i1, i2, i3, i4). -/
def Tensor5.row (t : Tensor5) (i1 i2 i3 i4 : Nat) : Nat := t.base + i1 * t.s1 + i2 * t.s2 + i3 * t.s3 + i4 * t.s4

/-- Bytes from the start of a row to element i, i at the start of a block. -/
def fmtOffset (f : Fmt) (i : Nat) : Nat := (i / f.blockVals) * f.blockBytes

/-- An index held at 0 where the extent is 1 (R66). -/
def heldAt (ext i : Nat) : Nat := if ext = 1 then 0 else i

/-- The elements of a tensor from element `at_` of a row, `n` of them; a broadcast dimension 0 repeats element 0. -/
def Tensor5.load (t : Tensor5) (s : State) (i1 i2 i3 i4 at_ n : Nat) : List XVal :=
  let row := t.row (heldAt t.e1 i1) (heldAt t.e2 i2) (heldAt t.e3 i3) (heldAt t.e4 i4)
  if t.e0 = 1 then List.replicate n ((t.fmt.decodeMany 1 (rawBytes s row t.fmt.blockBytes)).headD xZero)
  else t.fmt.decodeMany n (rawBytes s (row + fmtOffset t.fmt at_) (t.fmt.bytesFor n))

/-! ### Descriptors in the plot store -/

/-- `n` bytes of plot p's store. -/
def storeBytes (s : State) (p off n : Nat) : List Byte := rawBytes s (storeBase p + off) n

/-- A loop descriptor (Table 03.5). -/
structure LoopDesc where
  /-- input tensors -/
  ins : List Tensor5
  /-- output tensor -/
  out : Tensor5
  /-- OUT_EN -/
  outEn : Bool
  /-- OUTMODE -/
  outMode : Nat
  /-- REGT -/
  regt : Nat
  /-- body -/
  body : List Nat
  /-- SEM_WAIT -/
  semWait : Nat
  /-- SEM_POST -/
  semPost : Nat
  /-- WAIT_EN -/
  waitEn : Bool
  /-- POST_EN -/
  postEn : Bool
  /-- TAG -/
  tag : Nat
  /-- CONST0 to CONST7 -/
  consts : List Nat
  deriving DecidableEq, Repr

/-- The loop descriptor at an offset of plot p's store. -/
def loopAt (s : State) (p off : Nat) : LoopDesc :=
  let bs := storeBytes s p off 128
  let w0 := leAt bs 0 8
  let w1 := leAt bs 8 8
  let w2 := leAt bs 16 8
  let t (o : Nat) : Tensor5 := tensorOf (storeBytes s p o 64)
  { ins := ([natBits 21 0 w0, natBits 43 22 w0, natBits 21 0 w1].take (natBits 45 44 w1)).map t
    out := t (natBits 43 22 w1)
    outEn := natBit 46 w1
    outMode := natBits 48 47 w1
    regt := natBits 50 49 w1
    body := (List.range (natBits 55 51 w1)).map (fun i => leAt bs (64 + 4 * i) 4)
    semWait := natBits 5 0 w2
    semPost := natBits 11 6 w2
    waitEn := natBit 12 w2
    postEn := natBit 13 w2
    tag := natBits 29 14 w2
    consts := (List.range 8).map (fun i => leAt bs (24 + 4 * i) 4) }

/-- A root descriptor (Table 03.8). -/
structure RootDesc where
  /-- A_OFF -/
  a : Nat
  /-- X_OFF -/
  x : Nat
  /-- M_OFF -/
  m : Nat
  /-- T_OFF -/
  t : Nat
  /-- W_OFF -/
  w : Nat
  /-- OUT_OFF -/
  out : Nat
  /-- N -/
  n : Nat
  /-- p: 2 or 4 -/
  p : Nat
  /-- ITER -/
  iter : Nat
  /-- EPS -/
  eps : Word
  /-- STAT_OFF -/
  stat : Nat
  /-- STAGE_FIRST -/
  first : Nat
  /-- STAGE_LAST -/
  last : Nat
  /-- SEM_WAIT -/
  semWait : Nat
  /-- SEM_POST -/
  semPost : Nat
  /-- WAIT_EN -/
  waitEn : Bool
  /-- POST_EN -/
  postEn : Bool
  /-- TAG -/
  tag : Nat
  deriving DecidableEq, Repr

/-- The root descriptor at an offset of plot p's store. -/
def rootAt (s : State) (p off : Nat) : RootDesc :=
  let bs := storeBytes s p off 64
  let w0 := leAt bs 0 8
  let w1 := leAt bs 8 8
  let w2 := leAt bs 16 8
  let w3 := leAt bs 24 8
  let w4 := leAt bs 32 8
  { a := natBits 21 0 w0, x := natBits 43 22 w0, m := natBits 21 0 w1, t := natBits 43 22 w1
    w := natBits 21 0 w2, out := natBits 43 22 w2, n := natBits 52 44 w0, p := if natBit 53 w0 then 4 else 2
    iter := natBits 58 54 w0, eps := BitVec.ofNat 32 (natBits 31 0 w3), stat := natBits 53 32 w3
    first := natBits 9 0 w4, last := natBits 19 10 w4, semWait := natBits 25 20 w4, semPost := natBits 31 26 w4
    waitEn := natBit 32 w4, postEn := natBit 33 w4, tag := natBits 49 34 w4 }

/-- The operand classes of the cells (Table 02.3). -/
inductive CellClass where
  | f32 | f16 | f8 | m8 | i16 | i8 | i4
  deriving DecidableEq, Repr

/-- The class of an operand format. -/
def classOf : Fmt → Option CellClass
  | .fp32 => some .f32 | .bf16 => some .f16 | .fp16 => some .f16 | .bx12 => some .f16
  | .e4m3 => some .f8 | .e5m2 => some .f8 | .mb8 => some .m8 | .int16 => some .i16 | .int8 => some .i8
  | .int4 => some .i4 | .int32 => none

/-- Kc: MACs per clock (Table 02.3). -/
def CellClass.kc : CellClass → Nat
  | .f32 => 1 | .f16 => 4 | .f8 => 8 | .m8 => 8 | .i16 => 2 | .i8 => 8 | .i4 => 16

/-- A class whose accumulator is FP32. -/
def CellClass.isFloat : CellClass → Bool
  | .f32 => true | .f16 => true | .f8 => true | _ => false

/-- A hedge operation descriptor (Table 02.8). -/
structure HopDesc where
  /-- OP: MMA -/
  mma : Bool
  /-- FMT_A -/
  fmtA : Fmt
  /-- FMT_W -/
  fmtW : Fmt
  /-- FMT_OUT -/
  fmtOut : Fmt
  /-- S -/
  seg : Nat
  /-- HEDGE_MASK -/
  mask : Nat
  /-- WHALF -/
  half : Nat
  /-- SCALE_A -/
  scaleA : Nat
  /-- SCALE_W -/
  scaleW : Nat
  /-- SCALE_OUT -/
  scaleOut : Nat
  /-- SEM_WAIT -/
  semWait : Nat
  /-- SEM_POST -/
  semPost : Nat
  /-- WAIT_EN -/
  waitEn : Bool
  /-- POST_EN -/
  postEn : Bool
  /-- M -/
  m : Nat
  /-- N -/
  n : Nat
  /-- K -/
  k : Nat
  /-- K0 -/
  k0 : Nat
  /-- N0 -/
  n0 : Nat
  /-- A_OFF -/
  aOff : Nat
  /-- A_STRIDE -/
  aStride : Nat
  /-- C_OFF -/
  cOff : Nat
  /-- C_STRIDE -/
  cStride : Nat
  /-- CIN_OFF -/
  cinOff : Nat
  /-- CIN_STRIDE -/
  cinStride : Nat
  /-- ANCHOR -/
  anchor : Int
  /-- TAG -/
  tag : Nat
  deriving DecidableEq, Repr

/-- The hedge operation a 64-byte descriptor spells. -/
def hopOf (bs : List Byte) : HopDesc :=
  let w0 := leAt bs 0 8
  let w1 := leAt bs 8 8
  let w2 := leAt bs 16 8
  let w3 := leAt bs 24 8
  let w4 := leAt bs 32 8
  let w5 := leAt bs 40 8
  let w6 := leAt bs 48 8
  let f (n : Nat) : Fmt := (Fmt.ofCode n).getD .fp32
  { mma := natBits 3 0 w0 == 1, fmtA := f (natBits 7 4 w0), fmtW := f (natBits 11 8 w0), fmtOut := f (natBits 15 12 w0)
    seg := 2 ^ natBits 17 16 w0, mask := natBits 21 18 w0, half := natBits 22 22 w0
    scaleA := natBits 29 24 w0, scaleW := natBits 35 30 w0, scaleOut := natBits 41 36 w0
    semWait := natBits 47 42 w0, semPost := natBits 53 48 w0, waitEn := natBit 54 w0, postEn := natBit 55 w0
    m := natBits 15 0 w1, n := natBits 22 16 w1, k := natBits 47 32 w1, k0 := natBits 15 0 w2, n0 := natBits 31 16 w2
    aOff := natBits 21 0 w3, aStride := natBits 43 22 w3, cOff := natBits 21 0 w4, cStride := natBits 43 22 w4
    cinOff := natBits 21 0 w5, cinStride := natBits 43 22 w5, anchor := natSigned 10 (natBits 9 0 w6)
    tag := natBits 31 16 w6 }

/-- A WLOAD descriptor (Table 02.4). -/
structure WloadDesc where
  /-- SRC_OFF -/
  src : Nat
  /-- SRC_STRIDE -/
  stride : Nat
  /-- FMT -/
  fmt : Fmt
  /-- HALF -/
  half : Nat
  /-- KW -/
  kw : Nat
  /-- NW -/
  nw : Nat
  deriving DecidableEq, Repr

/-- The WLOAD a 32-byte descriptor spells. -/
def wloadOf (bs : List Byte) : WloadDesc :=
  let w0 := leAt bs 0 8
  let w1 := leAt bs 8 8
  ⟨natBits 21 0 w0, natBits 43 22 w0, (Fmt.ofCode (natBits 47 44 w0)).getD .fp32, natBits 48 48 w0,
    natBits 15 0 w1, natBits 31 16 w1⟩

/-- A MOVE descriptor (Table 06.10). -/
structure MoveDesc where
  /-- SRC_OFF -/
  src : Nat
  /-- DST_OFF -/
  dst : Nat
  /-- MODE: 0 COPY, 1 TADD, 2 DCOPY -/
  mode : Nat
  /-- SEM_WAIT -/
  semWait : Nat
  /-- SEM_POST -/
  semPost : Nat
  /-- WAIT_EN -/
  waitEn : Bool
  /-- POST_EN -/
  postEn : Bool
  /-- TAG -/
  tag : Nat
  deriving DecidableEq, Repr

/-- The MOVE a 32-byte descriptor spells. -/
def moveOf (bs : List Byte) : MoveDesc :=
  let w0 := leAt bs 0 8
  ⟨natBits 21 0 w0, natBits 43 22 w0, natBits 45 44 w0, natBits 51 46 w0, natBits 57 52 w0, natBit 58 w0, natBit 59 w0,
    leAt bs 8 2⟩

end Sys2Proof.Machine
end

