-- ==== Sys2Proof/Machine/Withy.lean ====
section
/-! DEFINITION. The withy network's base: message words (Tables 10.3, 11.7), transmit queues (R235), routes (R251), and
the fabric tallies: arrivals, proxies and completion (R272 to R275). -/

namespace Sys2Proof.Machine

/-! ### Ports and links -/

/-- What the active bundle, or the staged one when none is active, says of port p's link (R268). -/
def fabricBundle (s : State) : Option Bundle := match s.sch.active with | some b => some b | none => s.sch.staged

/-- LINKS of port p in a bundle. -/
def linkIn (b : Option Bundle) (p : Nat) : Option LinkDef := b.bind (fun b => b.body.links.find? (fun l => l.port == p))

/-- A port that carries withy network messages (R227): ACTIVE, HELD with cause NONE or SCHEDULE, or SWITCHED. -/
def carriesWithy (q : Port) : Bool := q.state == 5 || (q.state == 4 && (q.cause == 0 || q.cause == 0x0B)) || q.state == 6

/-- HRW_PORT_STATE_p (Table 10.9). -/
def portStateWord (q : Port) : Nat :=
  q.state + 2 ^ 4 * q.cause + 2 ^ 12 * b2n q.switched + 2 ^ 13 * b2n q.syntSrc
    + 2 ^ 16 * ((q.partner.map (fun c => c.rank.toNat % 2 ^ 15)).getD 0) + 2 ^ 32 * q.delay

/-- HRW_SYNT (Table 10.11). -/
def hrwSynt (s : State) : Nat := s.fab.synt + 4 * s.fab.syntPort + 2 ^ 32 * s.fab.steer.toNat

/-! ### Messages and queues -/

/-- SEM_POST (R271). -/
def semPostWord (rank plot sem : Nat) (d : Int) : Nat :=
  1 + 2 ^ 8 * rank + 2 ^ 23 * plot + 2 ^ 29 * sem + 2 ^ 35 * intBits 16 d

/-- TALLY_ARRIVE (Table 11.7). -/
def tallyWord (down : Bool) (fid gen count lane value : Nat) : Nat :=
  2 + 2 ^ 8 * b2n down + 2 ^ 9 * fid + 2 ^ 15 * gen + 2 ^ 23 * count + 2 ^ 39 * lane + 2 ^ 51 * value

/-- ABSENT (Table 10.3). -/
def absentWord (marker flit rank : Nat) : Nat := 3 + 2 ^ 8 * marker + 2 ^ 24 * flit + 2 ^ 44 * rank

/-- RELEASE (Table 10.3). -/
def releaseWords (fid : Nat) (skip : Bool) (template epoch acc : Nat) : List Nat :=
  [0x81 + 2 ^ 8 * fid + 2 ^ 14 * b2n skip + 2 ^ 15 * template + 2 ^ 18 * epoch, acc % 2 ^ 40]

/-- PORT_NOTICE (Table 10.3); the event codes are the model's (DESIGN CHOICE, log 15): 0 LINK_SIG, 1 RETRAIN, 2 SHUTDOWN. -/
def noticeWord (ev sig : Nat) : Nat := 8 + 2 ^ 8 * ev + 2 ^ 16 * sig

/-- Words waiting in a queue. -/
def queuedWords (ms : List WithyMsg) : Nat := (ms.map (fun m => m.words.length)).sum

/-- A message given to port p's queue; one that a full queue has no room for waits at its source, which is a stall (R235). -/
def pushWithy (p cls : Nat) (words : List Nat) (s : State) : State :=
  let f := s.flow p
  let m : WithyMsg := ⟨cls, words, f.sent⟩
  if f.stalled.isEmpty && decide (queuedWords f.queue + words.length ≤ 1024) then s.onFlow p (fun f => { f with queue := f.queue ++ [m] })
  else event 5 4 (0x60 + p) [p, s.sch.step, s.sch.epoch] (s.onFlow p (fun f => { f with stalled := f.stalled ++ [m] }))

/-- A withy network message given to a port: only a port that carries them sends one (R227). -/
def pushNet (p cls : Nat) (words : List Nat) (s : State) : State := if carriesWithy (s.port p) then pushWithy p cls words s else s

/-- A queue without room for a word. -/
def queueFull (s : State) (p : Nat) : Bool := !(s.flow p).stalled.isEmpty || decide (1024 ≤ queuedWords (s.flow p).queue)

/-- The link delay that enters ACC: none on a switched port, whose measured round trip no release uses (R242, R255). -/
def linkDelay (q : Port) : Nat := if q.state = 6 then 0 else q.delay

/-- The withy route to a rank: the port LINKS names, or its alternate while that port carries no withy network messages (R227, R251);
none while neither carries them. -/
def routeTo (s : State) (rank : Nat) : Option Nat :=
  match fabricBundle s with
  | none => none
  | some b =>
    match b.body.links.find? (fun l => l.routes.any (fun r => r.1 == rank)) with
    | none => none
    | some l =>
      if carriesWithy (s.port l.port) then some l.port
      else
        match (l.routes.find? (fun r => r.1 == rank)).bind (·.2) with
        | some a => if carriesWithy (s.port a) then some a else none
        | none => none

/-! ### Tallies -/

/-- The definition of tally counter n. -/
def tallyDef (s : State) (n : Nat) : Option TallyDef := s.body.tallies.find? (fun d => d.n == n)

/-- An arrival of one on-die source at LOCAL tally n: at TARGET it posts its semaphores, resets COUNT and advances GEN
(R272). -/
def localArrive (n : Nat) (s : State) : State :=
  match tallyDef s n with
  | some d =>
    if d.kind = .localT then
      let t := s.fab.tallies.get {} n
      if d.target ≤ t.count + 1 then
        State.each (fun x s => semPostAt x.1 x.2 1 s) d.posts
          (s.onFab (fun f => { f with tallies := f.tallies.set {} n { t with count := 0, gen := (t.gen + 1) % 256 } }))
      else s.onFab (fun f => { f with tallies := f.tallies.set {} n { t with count := t.count + 1 } })
    else s
  | none => s

/-- LOCAL_TALLY (R272). -/
def execLocalTally (n : Fin 256) (s : State) : Host.Outcome State Fault Refusal := .next (localArrive n s)

/-- A fabric tally as this module sees it: its definition and this module's node. -/
def fabricTally (s : State) (fid : Nat) : Option (TallyDef × TreeNode) :=
  match fabricBundle s with
  | none => none
  | some b =>
    match b.body.tallies.find? (fun d => d.kind != .localT && d.fid == fid) with
    | none => none
    | some d => (d.tree.find? (fun t => t.rank == b.hdr.rank)).map (fun t => (d, t))

/-- The tally of counter n. -/
def State.tally (s : State) (n : Nat) : Tally := s.fab.tallies.get {} n

/-- The tally of counter n changed. -/
def State.onTally (n : Nat) (f : Tally → Tally) : State → State :=
  State.onFab (fun b => { b with tallies := b.tallies.modify {} n f })

/-- TARGET: all members at the root, the subtree size elsewhere. -/
def tallyTarget (d : TallyDef) (t : TreeNode) : Nat := if t.parent.isNone then d.tree.length else t.size

/-- HRW_TALLY_n (Table 11.6). -/
def tallyReg (s : State) (n : Nat) : Nat :=
  match tallyDef s n with
  | none => 0
  | some d =>
    let t := s.tally n
    let node := d.tree.find? (fun x => x.rank == s.rank)
    let target := if d.kind = .localT then d.target else (node.map (tallyTarget d)).getD 0
    let kind := match d.kind with | .localT => 0 | .epoch => 1 | .barrier => 2 | .combine => 3
    t.count + 2 ^ 16 * target + 2 ^ 32 * t.gen + 2 ^ 40 * kind + 2 ^ 43 * d.fid
      + 2 ^ 49 * b2n (d.kind != .localT && (node.map (·.parent.isNone)).getD false) + 2 ^ 50 * b2n t.proxy

/-- Two lane values combined (R274). -/
def laneJoin : LaneOp → Nat → Nat → Nat
  | .sum, a, b => min 8191 (a + b)
  | .max, a, b => max a b
  | .or, a, b => a ||| b

/-- The operation of a lane: SUM where the tally names none (the EPOCH tally's lane 0). -/
def laneOp (d : TallyDef) (lane : Nat) : LaneOp := d.lanes.getD lane .sum

/-- An event of group 7 (R293): the step, the epoch and what it concerns. -/
def syncEvent (b x : Nat) (s : State) : State := event 7 b 0x71 [s.sch.step, s.sch.epoch, x] s

/-- An event of group 7 that is also counted. -/
def syncCount (b x : Nat) (s : State) : State :=
  syncEvent b x (s.onFab (fun f => { f with syncCounts := f.syncCounts.modify 0 b (fun c => sat48 (c + 1)) }))

/-- Lane values joined into a generation. -/
def joinLanes (d : TallyDef) (vs : List (Nat × Nat)) (t : Tally) : Tally :=
  { t with lanes := vs.foldl (fun m x => m.modify 0 x.1 (fun v => laneJoin (laneOp d x.1) v x.2)) t.lanes }

/-- The lanes of a tally with a value, as messages carry them: each lane of a COMBINE tally, lane 0 otherwise. -/
def laneValues (d : TallyDef) (t : Tally) : List (Nat × Nat) :=
  (List.range (max 1 d.lanes.length)).map (fun l => (l, t.lanes.get 0 l))

/-- A generation closed: its COUNT, lanes and marks cleared and GEN advanced. -/
def closeTally (n : Nat) : State → State := State.onTally n (fun t => { gen := (t.gen + 1) % 256 })

/-- The port toward the parent: the parent port, or the alternate one when the bundle names it and the parent port carries
no withy network messages (R275); none at the root, and while neither carries them. -/
def parentPort (s : State) (t : TreeNode) : Option Nat :=
  match t.parent with
  | none => none
  | some p =>
    if carriesWithy (s.port p.2) then some p.2
    else match t.alt with | some a => if carriesWithy (s.port a.2) then some a.2 else none | none => none

/-- Messages on each child port that carries them. -/
def toChildren (t : TreeNode) (cls : Nat) (words : Nat → List Nat) (s : State) : State :=
  State.each (fun c s => pushNet c.2.1 cls (words c.2.1) s) t.children s

/-- A group record that the withy network combined, during step r, for step r - 1 (R101); none when no value was seen. -/
def putHist (g : Nat) (step : Nat) (a : Int) : State → State :=
  State.onSch (fun c => { c with hist := c.hist.modify [] g (fun h => (step, a) :: (h.filter (fun x => x.1 != step)).take 80) })

/-! ### Scopes of replay regions (R106, R108) -/

/-- Where a region's scope is gathered. -/
def scopeKey (g : RegionDef) : Nat := 65536 * g.scopeTally + g.tag

/-- The scope of a region. -/
def State.scope (s : State) (g : RegionDef) : Scope := s.sch.scopes.get {} (scopeKey g)

/-- The scope at a key changed. -/
def State.onScope (k : Nat) (f : Scope → Scope) : State → State :=
  State.onSch (fun c => { c with scopes := c.scopes.modify {} k f })

/-- The regions of the module's plots that share a region's scope. -/
def scopeMates (s : State) (g : RegionDef) : List RegionDef :=
  s.body.regions.filter (fun r => r.scopeTally == g.scopeTally && r.scopeEn && r.tag == g.tag)

/-- Every plot of the module that belongs to the scope is in a list. -/
def allMates (s : State) (g : RegionDef) (ps : List Nat) : Bool := (scopeMates s g).all (fun r => ps.contains r.plot)

/-- The amax lane value of a scope: a + 256, and 0 for none (R274). -/
def scopeLane (x : Scope) : Nat := if x.amax = 0 then 0 else (clampInt 0 8191 ((x.amax : Int) - 65536 + 256)).toNat

/-- The scope's combination is whole: a PRESENT pass's amax first, else F', with which the module's non-finite count is
taken. -/
def scopeWhole (k : Nat) (s : State) : State :=
  s.onScope k (fun x =>
    if x.passed.isEmpty || x.doneA then { x with doneF := true, arrived := false, events := s.sch.events }
    else { x with doneA := true, arrived := false })

/-- The combined lanes of a fabric tally reach the scope whose arrival it took (R274): OR on lane 0, MAX on lane 1; the last
lane makes the combination whole. -/
def scopeLaneIn (fid lane value : Nat) (s : State) : State :=
  State.each (fun kv s =>
    match tallyDef s (kv.1 / 65536) with
    | some d =>
      if d.kind != .localT && d.fid == fid && kv.2.arrived then
        let s := s.onScope kv.1 (fun x =>
          if lane = 0 then { x with flags := value % 32 }
          else if lane = 1 then { x with amax := if value = 0 then 0 else value + 65536 - 256 } else x)
        if lane + 1 = min 2 (max 1 d.lanes.length) then scopeWhole kv.1 s else s
      else s
    | none => s) s.sch.scopes s

/-- What a combined lane value does at a member: a group's record (R101), a gradient tally's P (R168), a region's scope (R106,
R108). -/
def applyCombined (fid lane value : Nat) (s : State) : State :=
  let s := scopeLaneIn fid lane value s
  let s := State.each (fun g s =>
    if g.tally == some (fid, lane) && decide (1 ≤ s.sch.step) then
      putHist g.group (s.sch.step - 1) (if value = 0 then noAmax else (value : Int) - 256) s
    else s) s.body.groups s
  State.each (fun t s =>
    if t.gradTally == fid && lane == 0 then
      s.onGrn (fun g => { g with steps := g.steps.modify {} (2 * t.table + s.sch.step % 2) (fun x => { x with present := some value }) })
    else s) s.body.tablesF s

/-- A generation complete at this node: one arrival to the parent, or, at the root, the end of the generation. At the root a
COMBINE tally closes here, elsewhere when its combined values come; a BARRIER or EPOCH generation stays until its release. A node
whose ways to its parent carry no network messages keeps its arrival until one does. -/
def tallyReach (fid : Nat) (d : TallyDef) (node : TreeNode) (s : State) : State :=
  let t := s.tally d.n
  let vs := laneValues d t
  match node.parent, parentPort s node with
  | some _, some p =>
    let s := State.each (fun x s => pushNet p 1 [tallyWord false fid t.gen t.count x.1 x.2] s) vs s
    s.onTally d.n (fun t => { t with sent := true })
  | some _, none => s
  | none, _ =>
    if d.kind = .combine then
      let s := State.each (fun x s => toChildren node 1 (fun _ => [tallyWord true fid t.gen 0 x.1 x.2]) s) vs s
      let s := closeTally d.n s
      State.each (fun x s => applyCombined fid x.1 x.2 s) vs s
    else s.onTally d.n (fun t => { t with sent := true })

/-- The generation is complete when COUNT has reached TARGET. -/
def tallyCheck (fid : Nat) (d : TallyDef) (node : TreeNode) (s : State) : State :=
  let t := s.tally d.n
  if !t.sent && decide (tallyTarget d node ≤ t.count) then tallyReach fid d node s else s

/-- An arrival counted; one that would take COUNT above TARGET is discarded and sets TALLY_BOOKS (R275). -/
def tallyAdd (fid : Nat) (d : TallyDef) (node : TreeNode) (who count : Nat) (vs : List (Nat × Nat)) (s : State) : State :=
  let t := s.tally d.n
  if tallyTarget d node < t.count + count then syncEvent 3 fid s
  else s.onTally d.n (fun t => joinLanes d vs { t with count := t.count + count, from_ := t.from_ ++ [who] })

/-- Arrivals by proxy for the children whose ports carry no withy messages and that have not arrived (R275). -/
def tallyProxies (fid : Nat) (d : TallyDef) (node : TreeNode) (s : State) : State :=
  State.each (fun c s =>
    let t := s.tally d.n
    if !t.sent && !t.from_.contains c.1 && !t.from_.contains (c.1 + 65536) && !carriesWithy (s.port c.2.1) then
      syncCount 5 fid ((tallyAdd fid d node (c.1 + 65536) c.2.2 [] s).onTally d.n (fun t => { t with proxy := true }))
    else s) node.children s

/-- This module's own arrival at a fabric tally, with its lane values; the proxies it owes follow. A COMBINE generation whose
combined values never came ends at the next arrival (R101: a member that misses a combined record), and closes with TALLY_BOOKS:
its COUNT, as far as this module ever learns it, is not that of the members (R168, R275). -/
def tallyOwn (fid : Nat) (vs : List (Nat × Nat)) (s : State) : State :=
  match fabricTally s fid with
  | none => s
  | some (d, node) =>
    let s := if d.kind == .combine && (s.tally d.n).sent then closeTally d.n (syncEvent 3 fid s) else s
    if (s.tally d.n).own then s
    else
      let s := (tallyAdd fid d node node.rank 1 vs s).onTally d.n (fun t => { t with own := true })
      tallyCheck fid d node (tallyProxies fid d node s)

/-- A member's arrival withdrawn (R171). -/
def tallyWithdraw (fid : Nat) (s : State) : State :=
  match fabricTally s fid with
  | none => s
  | some (d, node) =>
    if (s.tally d.n).own && !(s.tally d.n).sent then
      s.onTally d.n (fun t => { t with own := false, count := t.count - 1, from_ := t.from_.filter (· != node.rank) })
    else s

/-- Proxies and completion of every fabric tally looked at again, after a port changed. -/
def tallyRecheck (s : State) : State :=
  State.each (fun fid s =>
    match fabricTally s fid with
    | none => s
    | some (d, node) => if (s.tally d.n).own then tallyCheck fid d node (tallyProxies fid d node s) else s) (List.range 64) s

/-- A report to SCOPE_TALLY (R106, R108): a LOCAL tally counts the plot, and the last of the module's plots makes the
combination; at a fabric tally the module arrives once all its plots of the scope have reported, when the tally is not held by
another scope. `again` when an arrival still owed is looked at once more. -/
def scopeArrive (again : Bool) (g : RegionDef) (s : State) : State :=
  let x := s.scope g
  let ps := if x.passed.isEmpty || x.doneA then x.flagged else x.passed
  match tallyDef s g.scopeTally with
  | none => s
  | some d =>
    if d.kind = .localT then
      let s := if again then s else localArrive g.scopeTally s
      if allMates s g ps then scopeWhole (scopeKey g) s else s
    else if allMates s g ps && !x.arrived && !((s.tally d.n).own && !(s.tally d.n).sent) then
      tallyOwn d.fid [(0, x.flags), (1, scopeLane x)] (s.onScope (scopeKey g) (fun x => { x with arrived := true }))
    else s

/-- The rank at the other end of a port as LINKS gives it; a port without one counts under a number of its own. -/
def senderOf (s : State) (p : Nat) : Nat := ((linkIn (fabricBundle s) p).map (·.partnerRank)).getD (40000 + p)

/-- Lanes of a tally, one word of an arrival for each. -/
def laneCount (d : TallyDef) : Nat := max 1 d.lanes.length

/-- A TALLY_ARRIVE with DOWN = 0 (R273, R275): an arrival is one word for each lane, in lane order; its last word counts its
COUNT and joins its lanes. -/
def tallyArrive (p fid gen count lane value : Nat) (s : State) : State :=
  match fabricTally s fid with
  | none => s
  | some (d, node) =>
    let t := s.tally d.n
    let who := senderOf s p
    if gen ≠ t.gen ∨ t.sent ∨ t.from_.contains (who + 65536) then syncCount 6 fid s
    else if t.from_.contains who then tallyCheck fid d node (s.onTally d.n (joinLanes d [(lane, value)]))
    else if lane + 1 < laneCount d then s.onTally d.n (fun t => { t with words := t.words ++ [(who, lane, value)] })
    else
      let vs := (t.words.filter (fun w => w.1 == who)).map (·.2)
      tallyCheck fid d node (tallyAdd fid d node who count (vs ++ [(lane, value)])
        (s.onTally d.n (fun t => { t with words := t.words.filter (fun w => w.1 != who) })))

/-- TALLY_ARRIVE. -/
def execTallyArrive (port : Fin 16) (fid : Fin 64) (gen : BitVec 8) (count : BitVec 16) (lane : BitVec 12) (value : BitVec 13)
    (s : State) : Host.Outcome State Fault Refusal :=
  .next (tallyArrive port fid gen.toNat count.toNat lane.toNat value.toNat s)

/-- A combined value with DOWN = 1 (R274), passed on to the children and, in its generation, taken here; the last lane's closes the
tally. -/
def tallyCombined (fid gen lane value : Nat) (s : State) : State :=
  match fabricTally s fid with
  | none => s
  | some (d, node) =>
    if d.kind = .combine then
      let t := toChildren node 1 (fun _ => [tallyWord true fid gen 0 lane value]) s
      if gen ≠ (s.tally d.n).gen then t
      else
        let t := applyCombined fid lane value t
        if lane + 1 < laneCount d then t else closeTally d.n t
    else s

/-- TALLY_COMBINED. -/
def execTallyCombined (fid : Fin 64) (gen : BitVec 8) (lane : BitVec 12) (value : BitVec 13) (s : State) :
    Host.Outcome State Fault Refusal :=
  .next (tallyCombined fid gen.toNat lane.toNat value.toNat s)

/-- TALLY_TIMEOUT (R275): the root completes the generation with the COUNT it holds. -/
def execTallyTimeout (fid : Fin 64) (s : State) : Host.Outcome State Fault Refusal :=
  .next (match fabricTally s fid with
    | none => s
    | some (d, node) =>
      let t := s.tally d.n
      if node.parent.isNone && !t.sent && (d.kind == .epoch || (d.kind == .barrier && decide (0 < t.count))) then
        syncEvent 3 fid (syncEvent 4 fid (tallyReach fid d node s))
      else s)

/-- The EPOCH tally's arrival by the Hedgerow at ARRIVE_AT (R113, R278): its lane 0 carries the non-finite count when the
next epoch opens the update exchange. -/
def arriveAt (s : State) : State :=
  let e := s.body.plan.getD s.sch.planIdx ⟨0, 0, false, false, false⟩
  let n := if e.opensUpdate && !parked s then s.sch.events else 0
  tallyOwn 1 [(0, min 8191 n)] (s.onSch (fun c => { c with arrived := true }))

/-- ARRIVE_AT: once per epoch, while a bundle is active. -/
def execArriveAt (s : State) : Host.Outcome State Fault Refusal := .next (if s.hasBundle && !s.sch.arrived then arriveAt s else s)

/-- The module brings no values to a collective: in hold, parked or host-detached (R101, R168). -/
def apart (s : State) : Bool := parked s || s.mst.mode == .hold || s.host.detached

/-- The lane value of a scale group's record of the step before: a + 256, 0 for none (R274); a record of -256 or less is
carried as 0 (log 80). -/
def amaxLane (s : State) (g : Nat) : Nat :=
  let v := s.sch.prevAmax.get 0 g
  if v = 0 then 0 else (clampInt 0 8191 ((v : Int) - 65536 + 256)).toNat

/-- AMAX_ARRIVAL (R101): the Hedgerow's arrival at a COMBINE tally of the SCALES section. -/
def execAmaxArrival (fid : Fin 64) (s : State) : Host.Outcome State Fault Refusal :=
  .next (let vs := s.body.groups.filterMap (fun g =>
      match g.tally with
      | some (f, l) => if f = fid.val ∧ !apart s then some (l, amaxLane s g.group) else none
      | none => none)
    tallyOwn fid vs s)

/-- GRAD_TALLY_ARRIVAL (R168): lane 0 is 1 when every gradient record of the module for the table left as data. -/
def execGradTallyArrival (table : BitVec 16) (s : State) : Host.Outcome State Fault Refusal :=
  .next (match s.body.tablesF.find? (fun t => t.table == table.toNat) with
    | none => s
    | some t =>
      tallyOwn t.gradTally [(0, if s.grn.gradLost.get false table.toNat || s.sch.unarmed || apart s then 0 else 1)] s)

/-- The release the root of a completed generation issues (R276): SKIP when the generation opens the update exchange with
a count above zero (R113). -/
def rootRelease (s : State) (d : TallyDef) (node : TreeNode) : Release :=
  let e := s.body.plan.getD s.sch.planIdx ⟨0, 0, false, false, false⟩
  let nxt := s.body.plan.getD ((s.sch.planIdx + 1) % max 1 s.body.plan.length) ⟨0, 0, false, false, false⟩
  if d.kind = .epoch then
    ⟨e.opensUpdate && decide (0 < (s.tally d.n).lanes.get 0 0), nxt.template, (s.sch.epoch + 1) % 2 ^ 32, node.dGroup / 25⟩
  else ⟨false, 0, 0, node.dGroup / 25⟩

/-- ROOT_ISSUE (R276, R278): one RELEASE on each child port; ACC is the link delay here and its wait is added at
departure. The root acts at issue + D_group. -/
def execRootIssue (fid : Fin 64) (s : State) : Host.Outcome State Fault Refusal :=
  .next (match fabricTally s fid with
    | none => s
    | some (d, node) =>
      if node.parent.isNone && (s.tally d.n).sent && (s.fab.rel.get none fid).isNone && d.kind != .combine then
        let r := rootRelease s d node
        let opens := (s.body.plan.getD s.sch.planIdx ⟨0, 0, false, false, false⟩).opensUpdate
        let s := if d.kind = .epoch ∧ opens then s.onSch (fun c => { c with combined := some ((s.tally d.n).lanes.get 0 0) }) else s
        (toChildren node 0 (fun p => releaseWords fid r.skip r.template r.epoch (linkDelay (s.port p))) s).onFab
          (fun f => { f with rel := f.rel.set none fid (some r) })
      else s)

/-- RELEASE (R242, R276): forwarded to the children at once; this module acts after D_group - ACC, or on arrival when ACC
exceeds D_group or the port is switched (R255). -/
def release (p fid : Nat) (skip : Bool) (template epoch acc residence : Nat) (s : State) : State :=
  match fabricTally s fid with
  | none => s
  | some (d, node) =>
    if d.kind = .combine ∨ (s.fab.rel.get none fid).isSome then s
    else
      let s := toChildren node 0 (fun c => releaseWords fid skip template epoch (acc + residence + linkDelay (s.port c))) s
      let late := decide (node.dGroup < 25 * acc)
      let wait := if late || (s.port p).switched then 0 else node.dGroup / 25 - acc
      let s := s.onFab (fun f => { f with rel := f.rel.set none fid (some ⟨skip, template, epoch, wait⟩) })
      if late then syncCount 7 fid s else s

/-- RELEASE. -/
def execRelease (port : Fin 16) (fid : Fin 64) (skip : Bool) (template : BitVec 3) (epoch : BitVec 32) (acc : BitVec 40)
    (residence : Nat) (s : State) : Host.Outcome State Fault Refusal :=
  .next (release port fid skip template.toNat epoch.toNat acc.toNat residence s)

/-- A SEM_POST (R271): for this module's rank the post takes effect at the plot; otherwise it is passed on along the route. -/
def semPost (rank plot sem : Nat) (count : Int) (s : State) : State :=
  if rank = s.rank then semPostAt plot sem count s
  else
    match routeTo s rank with
    | some p => pushWithy p 3 [semPostWord rank plot sem count] s
    | none => s

/-- SEM_POST. -/
def execSemPost (rank : BitVec 15) (plot : Fin 64) (sem : Fin 64) (count : BitVec 16) (s : State) : Host.Outcome State Fault Refusal :=
  .next (semPost rank.toNat plot sem count.toInt s)

end Sys2Proof.Machine
end

