-- ==== Sys2Proof/Machine/Mash.lean ====
section
/-! DEFINITION. The Mash engine: its instruction set (Table 03.3), descriptor loops (R65 to R67), PRESENT loops
(R102, R108) and the root descriptor (R72 to R74). -/

namespace Sys2Proof.Machine

/-! ### Fields of an instruction (R57) -/

/-- OP. -/
def mOp (w : Nat) : Nat := natBits 7 0 w
/-- VD. -/
def mVd (w : Nat) : Nat := natBits 12 8 w
/-- VA. -/
def mVa (w : Nat) : Nat := natBits 17 13 w
/-- VB. -/
def mVb (w : Nat) : Nat := natBits 22 18 w
/-- VC. -/
def mVc (w : Nat) : Nat := natBits 27 23 w
/-- MSK. -/
def mMsk (w : Nat) : Nat := natBits 30 28 w

/-- What surrounds one instruction: the lane mask M0, whether untyped moves work on packed elements, and whether an
accumulating reduction is in the first tile of its group (R62, R66, R67). The element width of the untyped VMOV, FSEL and VBCS
is the model's (DESIGN CHOICE, log 85): R58 gives them none. -/
structure MashCtx where
  /-- M0 -/
  m0 : Nat
  /-- packed register type -/
  packed : Bool
  /-- first tile of the reduction group -/
  first : Bool
  deriving DecidableEq, Repr

/-- The surroundings of a single instruction outside a loop: untyped moves work on 32-bit lanes (DESIGN CHOICE, log 85). -/
def soloCtx : MashCtx := ⟨allOnes, false, false⟩

/-- The effective mask of an instruction (R62). -/
def effMask (c : MashCtx) (w : Nat) (q : Plot) : Nat := q.mask c.m0 (mMsk w) &&& c.m0

/-- Flags of an instruction set in PLT_MFLAGS. -/
def Plot.raiseM (q : Plot) (f : NFlags) : Plot := { q with mflags := q.mflags ||| mflagBits f }

/-! ### Element-wise instructions -/

/-- Element results with their flags merged into a destination: inactive elements keep their value and set no flag (R61). -/
def mergeElems (mask : Nat) (old : List Nat) (new : List (Nat × NFlags)) : List Nat × NFlags :=
  let zs := (List.range old.length).map (fun e => if natBit e mask then new.getD e (0, {}) else (old.getD e 0, {}))
  (zs.map (·.1), zs.foldl (fun a z => a.or z.2) {})

/-- An element-wise instruction: per-element function of the three sources. -/
def elementwise (packed : Bool) (f : Nat → Nat → Nat → Nat × NFlags) (c : MashCtx) (w : Nat) (q : Plot) : Plot × NFlags :=
  let xa := elemsOf packed (q.vreg (mVa w))
  let xb := elemsOf packed (q.vreg (mVb w))
  let xc := elemsOf packed (q.vreg (mVc w))
  let old := elemsOf packed (q.vreg (mVd w))
  let new := (List.range old.length).map (fun e => f (xa.getD e 0) (xb.getD e 0) (xc.getD e 0))
  let r := mergeElems (effMask c w q) old new
  ((q.putV (mVd w) (elemsTo packed r.1)).raiseM r.2, r.2)

/-- The mask with bit e set for each active element e that satisfies a test; every other bit clear (R61). After a compare of
32-bit elements bits 128 to 255 are clear: R61 clears inactive elements' bits and names none beyond them (DESIGN CHOICE, log
86). -/
def compareMask (mask n : Nat) (t : Nat → Bool) : Nat :=
  (List.range n).foldl (fun a e => if natBit e mask && t e then a + 2 ^ e else a) 0

/-- A mask register written; nothing writes M0 (R69). -/
def Plot.putM (q : Plot) (n v : Nat) : Plot := if n = 0 then q else { q with m := q.m.set 0 n v }

/-- A compare. -/
def compare (packed : Bool) (t : Nat → Nat → Bool) (fl : Nat → Nat → NFlags) (c : MashCtx) (w : Nat) (q : Plot) :
    Plot × NFlags :=
  let xa := elemsOf packed (q.vreg (mVa w))
  let xb := elemsOf packed (q.vreg (mVb w))
  let mask := effMask c w q
  let n := xa.length
  let f := (List.range n).foldl (fun a e => if natBit e mask then a.or (fl (xa.getD e 0) (xb.getD e 0)) else a) {}
  ((q.putM (mVd w % 8) (compareMask mask n (fun e => t (xa.getD e 0) (xb.getD e 0)))).raiseM f, f)

/-- The layout a typed opcode's first digit names: 1 FP32, 2 packed BF16, 3 packed FP16 (R58). -/
def mashLayout (op : Nat) : FLayout :=
  if op / 16 = 2 then ⟨8, 7, 127, true, false, 0x7FC0, 0x7F7F⟩
  else if op / 16 = 3 then ⟨5, 10, 15, true, false, 0x7E00, 0x7BFF⟩
  else lay32

/-- A typed opcode works on packed elements. -/
def mashPacked (op : Nat) : Bool := op / 16 == 2 || op / 16 == 3

/-- A float instruction of one or two sources. -/
def floatOp (op : Nat) (f : XVal → XVal → XVal) (one : Bool) : Nat → Nat → Nat → Nat × NFlags := fun a b _ =>
  let L := mashLayout op
  let x := L.decode a
  let y := L.decode b
  roundOp L (if one then [x] else [x, y]) (f x y)

/-- FFMA: exact, one rounding; INV when the product or the sum is invalid. -/
def ffmaOp (op : Nat) : Nat → Nat → Nat → Nat × NFlags := fun a b c =>
  let L := mashLayout op
  let x := L.decode a
  let y := L.decode b
  let z := L.decode c
  let p := x.mul y
  let r := L.arith (p.add z)
  (r.1, ((opFlags [x, y] p).or (opFlags [p, z] (p.add z))).or r.2)

/-- FDIV: 0/0 sets INV, a non-zero finite value over zero DZ; infinity over infinity is a NaN (Table 03.6 names no INV). -/
def fdivOp : Nat → Nat → Nat → Nat × NFlags := fun a b _ =>
  let x := lay32.decode a
  let y := lay32.decode b
  let r := lay32.arith (x.div y)
  (r.1, ({ nan := x.isNan || y.isNan || (x.div y).isNan, inv := x.isZero && y.isZero
           dz := x.isFin && !x.isZero && y.isZero : NFlags }).or r.2)

/-- FLOG2: log2 of a zero sets DZ. -/
def flog2Op : Nat → Nat → Nat → Nat × NFlags := fun a _ _ =>
  let x := lay32.decode a
  let r := roundOp lay32 [x] x.log2
  (r.1, ({ dz := x.isZero : NFlags }).or r.2)

/-- A 32-bit integer instruction on signed values, saturating with SAT. -/
def intOp (f : Int → Int → Int) : Nat → Nat → Nat → Nat × NFlags := fun a b _ =>
  let r := satInt 32 (f (natSigned 32 a) (natSigned 32 b))
  (intBits 32 r.1, { sat := r.2 })

/-- A bitwise or shift instruction. -/
def bitOp (f : Nat → Nat → Nat) : Nat → Nat → Nat → Nat × NFlags := fun a b _ => (f a b % 2 ^ 32, {})

/-- Flags of a float compare: NAN when a NaN is consumed. -/
def cmpFlags (op : Nat) (a b : Nat) : NFlags :=
  { nan := ((mashLayout op).decode a).isNan || ((mashLayout op).decode b).isNan }

/-- A float compare. -/
def floatCmp (op : Nat) (t : XVal → XVal → Bool) : MashCtx → Nat → Plot → Plot × NFlags :=
  compare (mashPacked op) (fun a b => t ((mashLayout op).decode a) ((mashLayout op).decode b)) (cmpFlags op)

/-! ### Moves and conversions -/

/-- VMOV, on the loop's elements (DESIGN CHOICE, log 85). -/
def vmovOp (c : MashCtx) (w : Nat) (q : Plot) : Plot × NFlags := elementwise c.packed (fun a _ _ => (a, {})) c w q

/-- FSEL: every element of VD, from VA where M[MSK] is set and from VB elsewhere (R58, R61); the loop's elements (DESIGN CHOICE,
log 85). -/
def fselOp (c : MashCtx) (w : Nat) (q : Plot) : Plot × NFlags :=
  let sel := q.mask c.m0 (mMsk w)
  let xa := elemsOf c.packed (q.vreg (mVa w))
  let xb := elemsOf c.packed (q.vreg (mVb w))
  let es := (List.range xa.length).map (fun e => if natBit e sel then xa.getD e 0 else xb.getD e 0)
  (q.putV (mVd w) (elemsTo c.packed es), {})

/-- VBCS: a scalar to every lane; with packed elements each takes its half of it (DESIGN CHOICE, log 85). -/
def vbcsOp (c : MashCtx) (w : Nat) (q : Plot) : Plot × NFlags :=
  let v := (q.s.get 0 (mVa w % 16)).toNat
  let old := elemsOf c.packed (q.vreg (mVd w))
  let new := (List.range old.length).map (fun e => ((if c.packed then natBits (16 * (e % 2) + 15) (16 * (e % 2)) v else v), ({} : NFlags)))
  let r := mergeElems (effMask c w q) old new
  (q.putV (mVd w) (elemsTo c.packed r.1), {})

/-- VSCAL: lane 0 to a scalar. -/
def vscalOp (c : MashCtx) (w : Nat) (q : Plot) : Plot × NFlags :=
  if natBit 0 (effMask c w q) then ({ q with s := q.s.set 0 (mVd w % 16) ((q.vreg (mVa w)).getD 0 0) }, {}) else (q, {})

/-- CVT.F2B and CVT.F2H: VA and VB to the packed elements of VD, RNE. -/
def cvtDown (f : Fmt) (c : MashCtx) (w : Nat) (q : Plot) : Plot × NFlags :=
  let src := lanesOf (q.vreg (mVa w)) ++ lanesOf (q.vreg (mVb w))
  let r := mergeElems (effMask c w q) (halvesOf (q.vreg (mVd w))) (src.map (fun a => f.encode (lay32.decode a)))
  ((q.putV (mVd w) (halvesTo r.1)).raiseM r.2, r.2)

/-- CVT.B2F and CVT.H2F: packed elements 0 to 127 or 128 to 255 of VA to the lanes of VD, exact. -/
def cvtUp (f : Fmt) (hi : Bool) (c : MashCtx) (w : Nat) (q : Plot) : Plot × NFlags :=
  let src := (halvesOf (q.vreg (mVa w))).drop (if hi then 128 else 0)
  let r := mergeElems (effMask c w q) (lanesOf (q.vreg (mVd w))) ((src.take 128).map (fun a => lay32.conv (f.decode a)))
  ((q.putV (mVd w) (lanesTo r.1)).raiseM r.2, r.2)

/-- IOTA. -/
def iotaOp (c : MashCtx) (w : Nat) (q : Plot) : Plot × NFlags :=
  let r := mergeElems (effMask c w q) (lanesOf (q.vreg (mVd w))) ((List.range 128).map (fun l => (l, {})))
  (q.putV (mVd w) (lanesTo r.1), {})

/-! ### Reductions (R60, R67) -/

/-- The active lanes of VA. -/
def activeLanes (c : MashCtx) (w : Nat) (q : Plot) : List Nat :=
  let m := effMask c w q
  let xs := lanesOf (q.vreg (mVa w))
  ((List.range 128).filter (fun l => natBit l m)).map (fun l => xs.getD l 0)

/-- Lane 0 of VD written; lanes 1 to 127 unchanged. -/
def Plot.putLane0 (q : Plot) (r : Nat) (v : Nat) : Plot :=
  let xs := lanesOf (q.vreg r)
  q.putV r (lanesTo (v :: xs.tail))

/-- Lane 0 of VD, or the identity of the reduction in the first tile of its group. -/
def accLane (c : MashCtx) (w : Nat) (ident : Nat) (q : Plot) : Nat :=
  if c.first then ident else (lanesOf (q.vreg (mVd w))).headD 0

/-- RSUM, and RSUMA with lane 0 of VD. -/
def rsumOp (acc : Bool) (c : MashCtx) (w : Nat) (q : Plot) : Plot × NFlags :=
  let xs := (activeLanes c w q).map lay32.decode
  let xs := if acc then lay32.decode (accLane c w 0x80000000 q) :: xs else xs
  let r := roundOp lay32 xs (exactSum xs)
  ((q.putLane0 (mVd w) r.1).raiseM r.2, r.2)

/-- RMAX, RMIN and RAMAX. -/
def rextOp (f : XVal → XVal → XVal) (ident : Nat) (mag : Bool) (c : MashCtx) (w : Nat) (q : Plot) : Plot × NFlags :=
  let xs := ((activeLanes c w q).map lay32.decode).map (fun x => if mag then x.abs else x)
  let a := lay32.decode (accLane c w ident q)
  let r := roundOp lay32 (a :: xs) (xs.foldl f a)
  ((q.putLane0 (mVd w) r.1).raiseM r.2, r.2)

/-- IRSUMA, saturating once. -/
def irsumaOp (c : MashCtx) (w : Nat) (q : Plot) : Plot × NFlags :=
  let a := natSigned 32 (accLane c w 0 q)
  let r := satInt 32 ((activeLanes c w q).foldl (fun t x => t + natSigned 32 x) a)
  let f : NFlags := { sat := r.2 }
  ((q.putLane0 (mVd w) (intBits 32 r.1)).raiseM f, f)

/-! ### Mask instructions -/

/-- Mask register VD with its active bits replaced. -/
def maskOp (f : Nat → Nat → Nat) (c : MashCtx) (w : Nat) (q : Plot) : Plot × NFlags :=
  let m := effMask c w q
  let old := q.mask c.m0 (mVd w % 8)
  let v := f (q.mask c.m0 (mVa w % 8)) (q.mask c.m0 (mVb w % 8))
  (q.putM (mVd w % 8) ((v &&& m) ||| (old &&& (allOnes ^^^ m))), {})

/-! ### The instruction set (Table 03.3) -/

/-- One Mash instruction: the plot after it and the flags it raised. A reserved opcode, which no admitted bundle holds
(R69), does nothing. -/
def mashExec (c : MashCtx) (w : Nat) (q : Plot) : Plot × NFlags :=
  let op := mOp w
  let pk := mashPacked op
  if op = 0x10 || op = 0x20 || op = 0x30 then elementwise pk (floatOp op XVal.add false) c w q
  else if op = 0x11 || op = 0x21 || op = 0x31 then elementwise pk (floatOp op XVal.sub false) c w q
  else if op = 0x12 || op = 0x22 || op = 0x32 then elementwise pk (floatOp op XVal.mul false) c w q
  else if op = 0x13 || op = 0x23 || op = 0x33 then elementwise pk (ffmaOp op) c w q
  else if op = 0x14 || op = 0x24 || op = 0x34 then elementwise pk (floatOp op XVal.fmin false) c w q
  else if op = 0x15 || op = 0x25 || op = 0x35 then elementwise pk (floatOp op XVal.fmax false) c w q
  else if op = 0x16 || op = 0x26 || op = 0x36 then elementwise pk (floatOp op (fun x _ => x.abs) true) c w q
  else if op = 0x17 || op = 0x27 || op = 0x37 then elementwise pk (floatOp op (fun x _ => x.neg) true) c w q
  else if op = 0x18 then elementwise false fdivOp c w q
  else if op = 0x19 then elementwise false (floatOp op (fun x _ => x.sqrt) true) c w q
  else if op = 0x1A then elementwise false (floatOp op (fun x _ => x.exp2) true) c w q
  else if op = 0x1B then elementwise false flog2Op c w q
  else if op = 0x1C || op = 0x2C || op = 0x3C then floatCmp op XVal.eqv c w q
  else if op = 0x1D || op = 0x2D || op = 0x3D then floatCmp op XVal.lt c w q
  else if op = 0x1E || op = 0x2E || op = 0x3E then floatCmp op (fun x y => x.lt y || x.eqv y) c w q
  else if op = 0x1F || op = 0x2F || op = 0x3F then floatCmp op (fun x y => x.isNan || y.isNan) c w q
  else if op = 0x40 then elementwise false (intOp (· + ·)) c w q
  else if op = 0x41 then elementwise false (intOp (· - ·)) c w q
  else if op = 0x42 then elementwise false (intOp (· * ·)) c w q
  else if op = 0x43 then elementwise false (bitOp (· &&& ·)) c w q
  else if op = 0x44 then elementwise false (bitOp (· ||| ·)) c w q
  else if op = 0x45 then elementwise false (bitOp (· ^^^ ·)) c w q
  else if op = 0x46 then elementwise false (bitOp (fun a b => a <<< (b % 32))) c w q
  else if op = 0x47 then elementwise false (bitOp (fun a b => intBits 32 (natSigned 32 a / (2 ^ (b % 32) : Int)))) c w q
  else if op = 0x48 then elementwise false (bitOp (fun a b => a >>> (b % 32))) c w q
  else if op = 0x49 then elementwise false (intOp min) c w q
  else if op = 0x4A then elementwise false (intOp max) c w q
  else if op = 0x4C then compare false (fun a b => a == b) (fun _ _ => {}) c w q
  else if op = 0x4D then compare false (fun a b => decide (natSigned 32 a < natSigned 32 b)) (fun _ _ => {}) c w q
  else if op = 0x50 then vmovOp c w q
  else if op = 0x51 then fselOp c w q
  else if op = 0x52 then vbcsOp c w q
  else if op = 0x53 then vscalOp c w q
  else if op = 0x54 then cvtDown .bf16 c w q
  else if op = 0x55 then cvtDown .fp16 c w q
  else if op = 0x56 then cvtUp .bf16 false c w q
  else if op = 0x57 then cvtUp .bf16 true c w q
  else if op = 0x58 then cvtUp .fp16 false c w q
  else if op = 0x59 then cvtUp .fp16 true c w q
  else if op = 0x5A then elementwise false (fun a _ _ => convInt 32 (lay32.decode a)) c w q
  else if op = 0x5B then elementwise false (fun a _ _ => lay32.conv (Fmt.decode .int32 a)) c w q
  else if op = 0x5C then iotaOp c w q
  else if op = 0x60 then rsumOp false c w q
  else if op = 0x61 then rsumOp true c w q
  else if op = 0x62 then rextOp XVal.fmax 0xFF800000 false c w q
  else if op = 0x63 then rextOp XVal.fmin 0x7F800000 false c w q
  else if op = 0x64 then rextOp XVal.fmax 0 true c w q
  else if op = 0x65 then irsumaOp c w q
  else if op = 0x70 then maskOp (· &&& ·) c w q
  else if op = 0x71 then maskOp (· ||| ·) c w q
  else if op = 0x72 then maskOp (fun a _ => allOnes ^^^ a) c w q
  else if op = 0x73 then maskOp (fun _ _ => allOnes) c w q
  else if op = 0x74 then maskOp (fun _ _ => 0) c w q
  else if op = 0x80 then ({ q with mflags := 0 }, {})
  else (q, {})

/-- The register instruction at the head of plot p's Mash queue runs. Its flags carry no TAG (R105). -/
def mashReg (p w : Nat) (rest : List MashItem) (s : State) : State :=
  s.onPlot p (fun q =>
    let r := mashExec soloCtx w { q with mashQ := rest }
    flagTag s p none r.2 r.1)

/-- The instruction at the head of plot p's Mash queue runs when its opcode is one of those named; otherwise the row does
not apply and nothing changes. -/
def mashRow (ops : List Nat) (p : Nat) (s : State) : State :=
  match (s.plot p).mashQ with
  | .reg w :: rest => if ops.contains (mOp w) then mashReg p w rest s else s
  | _ => s

/-! ### Loops (R65 to R67) -/

/-- The register format of REGT. -/
def regFmt (t : Nat) : Fmt := if t = 0 then .fp32 else if t = 1 then .bf16 else if t = 2 then .fp16 else .int32

/-- Packed register type. -/
def regPacked (t : Nat) : Bool := t == 1 || t == 2

/-- Tile length L. -/
def tileLen (t : Nat) : Nat := if regPacked t then 256 else 128

/-- What a running loop carries. -/
structure LoopRun where
  /-- state -/
  s : State
  /-- flags of the operation -/
  fl : NFlags
  /-- largest magnitude met at stores -/
  amax : Int
  deriving Repr

/-- Flags joined, in PLT_MFLAGS and in the operation's set. -/
def LoopRun.raise (r : LoopRun) (p : Nat) (f : NFlags) : LoopRun :=
  { r with s := r.s.onPlot p (·.raiseM f), fl := r.fl.or f }

/-- Values encoded element by element into the register format, with flags. -/
def encodeRegs (f : Fmt) (xs : List XVal) : List Nat × NFlags :=
  let es := xs.map f.encode
  (es.map (·.1), es.foldl (fun a e => a.or e.2) {})

/-- Vj loaded with the tile's elements of input j; elements outside the tail are +0. -/
def loadTile (p : Nat) (d : LoopDesc) (i1 i2 i3 i4 at_ n : Nat) (j : Nat) (t : Tensor5) (r : LoopRun) : LoopRun :=
  let k := ((r.s.plot p).slot t.scale).k
  let e := encodeRegs (regFmt d.regt) ((t.load r.s i1 i2 i3 i4 at_ n).map (XVal.scale (-k)))
  let full := e.1 ++ List.replicate (tileLen d.regt - n) 0
  ({ r with s := r.s.onPlot p (fun q => q.putV j (elemsTo (regPacked d.regt) full)) }).raise p e.2

/-- The body run once. -/
def runBody (p : Nat) (c : MashCtx) : List Nat → LoopRun → LoopRun
  | [], r => r
  | w :: ws, r =>
    let x := mashExec c w (r.s.plot p)
    runBody p c ws { r with s := r.s.onPlot p (fun _ => x.1), fl := r.fl.or x.2 }

/-- The first n elements of V3 as values. -/
def outValues (p : Nat) (d : LoopDesc) (n : Nat) (r : LoopRun) : List XVal :=
  ((elemsOf (regPacked d.regt) ((r.s.plot p).vreg 3)).take n).map (regFmt d.regt).decode

/-- Values stored to OUT at a row and element: scaled exactly, converted once (R98), the amax taken before (R99). -/
def storeOut (p : Nat) (d : LoopDesc) (i1 i2 i3 i4 at_ n : Nat) (dry : Bool) (r : LoopRun) : LoopRun :=
  let xs := outValues p d n r
  let am := max r.amax (amaxRecord xs)
  if dry then { r with amax := am }
  else
    let k := ((r.s.plot p).slot d.out.scale).k
    let e := d.out.fmt.encodeMany (xs.map (XVal.scale k))
    let a := d.out.row i1 i2 i3 i4 + fmtOffset d.out.fmt at_
    ({ r with s := r.s.onMem (·.putBytes a e.1), amax := am }).raise p e.2

/-- One tile. The groups of R67 are those of OUTMODE 1, a row, and 2, the whole tensor; in OUTMODE 0, for which R67 defines
none, the model takes the whole tensor (DESIGN CHOICE, log 87). -/
def runTile (p : Nat) (d : LoopDesc) (dry : Bool) (e0 i1 i2 i3 i4 tiles t : Nat) (r : LoopRun) : LoopRun :=
  let L := tileLen d.regt
  let n := min L (e0 - t * L)
  let m0 := 2 ^ n - 1
  let first := t == 0 && (d.outMode == 1 || (i1 == 0 && i2 == 0 && i3 == 0 && i4 == 0))
  let r := (List.range d.ins.length).foldl
    (fun r j => loadTile p d i1 i2 i3 i4 (t * L) n j (d.ins.getD j d.out) r) r
  let r := runBody p ⟨m0, regPacked d.regt, first⟩ d.body r
  if d.outEn && d.outMode == 0 then storeOut p d i1 i2 i3 i4 (t * L) n dry r
  else if d.outEn && d.outMode == 1 && t + 1 == tiles then storeOut p d i1 i2 i3 i4 0 1 dry r
  else r

/-- All tiles of the iteration space, i1 fastest, then the store of a full reduction. -/
def runLoop (p : Nat) (d : LoopDesc) (dry : Bool) (s : State) : LoopRun :=
  let t0 := d.ins.headD d.out
  let s := s.onPlot p (fun q => { q with
    s := (List.range 8).foldl (fun v i => v.set 0 (8 + i) (BitVec.ofNat 32 (d.consts.getD i 0))) q.s })
  let tiles := ceilDiv t0.e0 (tileLen d.regt)
  let r := (List.range t0.e4).foldl (fun r i4 => (List.range t0.e3).foldl (fun r i3 => (List.range t0.e2).foldl (fun r i2 =>
    (List.range t0.e1).foldl (fun r i1 => (List.range tiles).foldl
      (fun r t => runTile p d dry t0.e0 i1 i2 i3 i4 tiles t r) r) r) r) r) (⟨s, {}, noAmax⟩ : LoopRun)
  if d.outEn && d.outMode == 2 then storeOut p d 0 0 0 0 0 1 dry r else r

/-- The region whose replay program plot p is running. -/
def replayRegion (s : State) (p : Nat) : Option RegionDef :=
  match (s.plot p).replay with
  | some r => regionOf s p r.tag
  | none => none

/-- The loop stores under the OUT_SLOT of the region being replayed, so it runs as a PRESENT loop (R108). -/
def replayLoop (s : State) (p : Nat) (d : LoopDesc) : Option RegionDef :=
  match replayRegion s p with
  | some g => if d.outEn && g.outSlot == d.out.scale && decide (d.out.scale ≠ 0) then some g else none
  | none => none

/-- The loop ends: its amax record and its flags, its post, and its queue entry. -/
def endLoop (p : Nat) (d : LoopDesc) (r : LoopRun) : State :=
  let s := r.s.onPlot p (fun q => flagTag r.s p (some d.tag) r.fl { (recordAmax d.out.scale r.amax q) with mashQ := q.mashQ.tail })
  descPost d.postEn p d.semPost s

/-- The second pass, with the tag's passing amounts cleared. -/
def secondPass (p : Nat) (d : LoopDesc) (s : State) : State := endLoop p d (runLoop p d false s)

/-- Pass one of a PRESENT loop: nothing is stored; the record goes into the slot and, for the region check, into its region. -/
def firstPass (p : Nat) (d : LoopDesc) (s : State) : State × Int :=
  let r := runLoop p d true s
  (r.s.onPlot p (fun q => flagTag r.s p (some d.tag) r.fl (keepPass r.s p d.tag r.amax (recordAmax d.out.scale r.amax q))), r.amax)

/-- The amax of plot p's pass one reported to its scope (R108). -/
def reportPass (p : Nat) (g : RegionDef) (a : Int) (s : State) : State :=
  scopeArrive false g ((s.onPlot p (fun q => { q with passOne := true })).onScope (scopeKey g) (fun x => { x with
    passed := x.passed ++ [p], amax := if a = noAmax then x.amax else max x.amax (a + 65536).toNat }))

/-- A loop descriptor once its wait is satisfied (R66, R102, R108). In a replay whose scope is more than this plot, pass one
reports its amax to the scope and the loop waits at the head of the queue for the combination. -/
def loopBody (p : Nat) (d : LoopDesc) (s : State) : State :=
  match replayLoop s p d with
  | some g =>
    let f := firstPass p d s
    if g.scopeEn then reportPass p g f.2 f.1 else secondPass p d (setSlotK p d.out.scale f.2 true d.tag f.1)
  | none =>
    if d.outEn && ((s.plot p).slot d.out.scale).mode == 2 then
      let f := firstPass p d s
      secondPass p d (setSlotK p d.out.scale f.2 false d.tag f.1)
    else secondPass p d s

/-- The scope still holds a combination that some member has not taken, so that no new pass is reported to it. -/
def scopeHeld (s : State) (p : Nat) (d : LoopDesc) : Bool :=
  match replayLoop s p d with
  | some g => g.scopeEn && ((s.scope g).doneA || (s.scope g).doneF)
  | none => false

/-- The amax a combined scope value stands for. -/
def scopeRecord (v : Nat) : Int := if v = 0 then noAmax else (v : Int) - 65536

/-- A loop whose pass one is done: its module's arrival, when it is still owed, or pass two once the scope's amax has come. -/
def loopWaits (p : Nat) (d : LoopDesc) (s : State) : State :=
  match (s.plot p).scopeAmax with
  | some v =>
    secondPass p d (setSlotK p d.out.scale (scopeRecord v) true d.tag
      (s.onPlot p (fun q => { q with passOne := false, scopeAmax := none })))
  | none =>
    match replayLoop s p d with
    | some g => if (s.scope g).doneA then s else scopeArrive true g s
    | none => s.onPlot p (fun q => { q with passOne := false })

/-- LOOP_DESCRIPTOR: the loop at the head of plot p's Mash queue. -/
def runLoopEntry (p off : Nat) (s : State) : State :=
  let d := loopAt s p off
  if (s.plot p).passOne then loopWaits p d s
  else if scopeHeld s p d then s
  else
    match descWait d.waitEn p d.semWait s with
    | some s => loopBody p d s
    | none => s

/-! ### The Newton iteration for preconditioner roots (R72 to R75) -/

/-- An FP32 matrix by rows. -/
abbrev Mat := List (List Word)

/-- The n by n matrix at a store offset, row stride 4n. -/
def matAt (s : State) (p off n : Nat) : Mat :=
  (List.range n).map (fun i => (List.range n).map (fun j => BitVec.ofNat 32 (rawNat s (storeBase p + off + 4 * (n * i + j)) 4)))

/-- A matrix stored. -/
def putMat (p off : Nat) (m : Mat) : State → State :=
  State.onMem (·.putBytes (storeBase p + off) ((m.flatten.map (fun w => leBytes 4 w.toNat)).flatten))

/-- Element (i, j). -/
def matGet (m : Mat) (i j : Nat) : Word := (m.getD i []).getD j 0

/-- A matrix from a function of its indices. -/
def matOf (n : Nat) (f : Nat → Nat → Word) : Mat := (List.range n).map (fun i => (List.range n).map (f i))

/-- The matrix product of R73: fma in ascending k from +0. -/
def matMul (n : Nat) (a b : Mat) : Mat :=
  matOf n (fun i j => (List.range n).foldl (fun acc k => fFma (matGet a i k) (matGet b k j) acc) 0)

/-- A NaN or an infinity. -/
def nonFin (w : Word) : Bool := !(f32 w).isFin

/-- A matrix holds a NaN or an infinity. -/
def matNonFin (m : Mat) : Bool := m.any (·.any nonFin)

/-- The sum of squares of R73: rounded products, summed tile by tile of 128 as RSUMA does, rows ascending. -/
def sumSquares (n : Nat) (m : Mat) : Word :=
  m.foldl (fun acc row => (chunks 128 (n / 128 + 1) row).foldl (fun acc tile =>
    toF32 (exactSum (f32 acc :: tile.map (fun w => f32 (fMul w w))))) acc) 0x80000000

/-- What a root entry carries: matrices and status flags. -/
structure RootRun where
  /-- state -/
  s : State
  /-- NONFINITE -/
  nonfin : Bool
  /-- BAD_NORM -/
  badNorm : Bool
  /-- PUBLISHED -/
  published : Bool
  /-- the publish failed -/
  failed : Bool
  deriving Repr

/-- A stage's matrix stored, noting a NaN or an infinity. -/
def RootRun.put (r : RootRun) (p off : Nat) (m : Mat) : RootRun :=
  { r with s := putMat p off m r.s, nonfin := r.nonfin || matNonFin m }

/-- FP32 integers and quarters used by the stages. -/
def wOne : Word := 0x3F800000

/-- Stage 0. -/
def rootInit (p : Nat) (d : RootDesc) (s : State) : RootRun :=
  let a := matAt s p d.a d.n
  let m := matOf d.n (fun i j => if i = j then fAdd (matGet a i j) d.eps else fAdd (matGet a i j) 0)
  let f := sumSquares d.n m
  let g := fSqrt f
  let c := if d.p = 2 then fSqrt g else fSqrt (fSqrt g)
  let m' := matOf d.n (fun i j => fDiv (matGet m i j) g)
  let rc := fDiv wOne c
  let x := matOf d.n (fun i j => if i = j then rc else 0)
  let bad := (f32 g).isZero || nonFin g
  let r : RootRun := ⟨s, matNonFin m || nonFin f || nonFin g || nonFin c, bad, false, false⟩
  (r.put p d.m m').put p d.x x

/-- The factor stage. -/
def rootFactor (p : Nat) (d : RootDesc) (r : RootRun) : RootRun :=
  let m := matAt r.s p d.m d.n
  let pp1 : Word := if d.p = 2 then 0x40400000 else 0x40A00000
  let inv : Word := if d.p = 2 then 0x3F000000 else 0x3E800000
  let t := matOf d.n (fun i j => fMul (fSub (if i = j then pp1 else 0) (matGet m i j)) inv)
  r.put p d.t t

/-- A product stage: W = P . Q, and the destination = W. -/
def rootProduct (p : Nat) (d : RootDesc) (a b dst : Nat) (r : RootRun) : RootRun :=
  let w := matMul d.n (matAt r.s p a d.n) (matAt r.s p b d.n)
  (r.put p d.w w).put p dst w

/-- The publish stage. -/
def rootPublish (p : Nat) (d : RootDesc) (r : RootRun) : RootRun :=
  if r.nonfin || r.badNorm then { r with failed := true }
  else { r with s := putMat p d.out (matAt r.s p d.x d.n) r.s, published := true }

/-- One stage (R73). -/
def rootStage (p : Nat) (d : RootDesc) (k : Nat) (r : RootRun) : RootRun :=
  let q := d.p + 2
  if k = 0 then rootInit p d r.s
  else if k = 1 + d.iter * q then rootPublish p d r
  else if (k - 1) % q = 0 then rootFactor p d r
  else if (k - 1) % q = 1 then rootProduct p d d.x d.t d.x r
  else rootProduct p d d.t d.m d.m r

/-- The status word after the last stage run. -/
def rootStatus (last : Nat) (r : RootRun) : Nat := last + 2 ^ 16 * b2n r.nonfin + 2 ^ 17 * b2n r.badNorm + 2 ^ 18 * b2n r.published

/-- ROOT_FAIL in PLT_MFLAGS; never a bit of [4:0]. -/
def rootFailFlag (p : Nat) : State → State := State.onPlot p (fun q => { q with mflags := q.mflags ||| 32 })

/-- STAGE_FIRST is neither 0 nor the stage after the last one completed. -/
def rootMismatch (s : State) (p : Nat) (d : RootDesc) : Bool :=
  d.first != 0 && d.first != natBits 9 0 (rawNat s (storeBase p + d.stat) 4) + 1

/-- The stages of a root descriptor and its post (R73, R74; LAST_STAGE stays when STAGE_LAST lies below it). -/
def rootBody (p : Nat) (d : RootDesc) (s : State) : State :=
  let st := rawNat s (storeBase p + d.stat) 4
  let r0 : RootRun := ⟨s, natBit 16 st, natBit 17 st, natBit 18 st, false⟩
  let top := min d.last (1 + d.iter * (d.p + 2))
  let r := (List.range (top + 1 - d.first)).foldl (fun r i => rootStage p d (d.first + i) r) r0
  let s := r.s.onMem (·.putBytes (storeBase p + d.stat) (leBytes 4 (rootStatus (max top (d.first - 1)) r)))
  descPost d.postEn p d.semPost (if r.failed then event 8 4 p [s.sch.step, p, d.tag] (rootFailFlag p s) else s)

/-- ROOT_DESCRIPTOR: the entry at the head of plot p's Mash queue. An entry out of sequence does nothing except set ROOT_FAIL:
R74 does not place its wait, and the model takes the words as they stand, no wait and no post (DEDUCED, log 64). -/
def runRootEntry (p off : Nat) (s : State) : State :=
  let d := rootAt s p off
  let pop (s : State) : State := s.onPlot p (fun q => { q with mashQ := q.mashQ.tail })
  if rootMismatch s p d then pop (rootFailFlag p s)
  else
    match descWait d.waitEn p d.semWait s with
    | some s => pop (rootBody p d s)
    | none => s

/-! ### The rows -/

/-- The entry at the head of plot p's Mash queue, whatever it is. -/
def mashHead (p : Nat) (s : State) : State :=
  match (s.plot p).mashQ with
  | .reg w :: rest => mashReg p w rest s
  | .loop off :: _ => runLoopEntry p off s
  | .root off :: _ => runRootEntry p off s
  | [] => s

/-- LOOP_DESCRIPTOR (R66, R102). -/
def execLoopDescriptor (p : Fin 64) (s : State) : Host.Outcome State Fault Refusal :=
  .next (match (s.plot p).mashQ with | .loop off :: _ => runLoopEntry p off s | _ => s)

/-- ROOT_DESCRIPTOR (R74). -/
def execRootDescriptor (p : Fin 64) (s : State) : Host.Outcome State Fault Refusal :=
  .next (match (s.plot p).mashQ with | .root off :: _ => runRootEntry p off s | _ => s)

/-- NOP (Table 03.3). -/
def execNop (p : Fin 64) (s : State) : Host.Outcome State Fault Refusal := .next (mashRow [0x00] p s)
/-- FADD (Table 03.3). -/
def execFadd (p : Fin 64) (s : State) : Host.Outcome State Fault Refusal := .next (mashRow [0x10, 0x20, 0x30] p s)
/-- FSUB (Table 03.3). -/
def execFsub (p : Fin 64) (s : State) : Host.Outcome State Fault Refusal := .next (mashRow [0x11, 0x21, 0x31] p s)
/-- FMUL (Table 03.3). -/
def execFmul (p : Fin 64) (s : State) : Host.Outcome State Fault Refusal := .next (mashRow [0x12, 0x22, 0x32] p s)
/-- FFMA (Table 03.3). -/
def execFfma (p : Fin 64) (s : State) : Host.Outcome State Fault Refusal := .next (mashRow [0x13, 0x23, 0x33] p s)
/-- FMIN (Table 03.3). -/
def execFmin (p : Fin 64) (s : State) : Host.Outcome State Fault Refusal := .next (mashRow [0x14, 0x24, 0x34] p s)
/-- FMAX (Table 03.3). -/
def execFmax (p : Fin 64) (s : State) : Host.Outcome State Fault Refusal := .next (mashRow [0x15, 0x25, 0x35] p s)
/-- FABS (Table 03.3). -/
def execFabs (p : Fin 64) (s : State) : Host.Outcome State Fault Refusal := .next (mashRow [0x16, 0x26, 0x36] p s)
/-- FNEG (Table 03.3). -/
def execFneg (p : Fin 64) (s : State) : Host.Outcome State Fault Refusal := .next (mashRow [0x17, 0x27, 0x37] p s)
/-- FDIV (Table 03.3). -/
def execFdiv (p : Fin 64) (s : State) : Host.Outcome State Fault Refusal := .next (mashRow [0x18] p s)
/-- FSQRT (Table 03.3). -/
def execFsqrt (p : Fin 64) (s : State) : Host.Outcome State Fault Refusal := .next (mashRow [0x19] p s)
/-- FEXP2 (Table 03.3). -/
def execFexp2 (p : Fin 64) (s : State) : Host.Outcome State Fault Refusal := .next (mashRow [0x1A] p s)
/-- FLOG2 (Table 03.3). -/
def execFlog2 (p : Fin 64) (s : State) : Host.Outcome State Fault Refusal := .next (mashRow [0x1B] p s)
/-- FCMPEQ (Table 03.3). -/
def execFcmpeq (p : Fin 64) (s : State) : Host.Outcome State Fault Refusal := .next (mashRow [0x1C, 0x2C, 0x3C] p s)
/-- FCMPLT (Table 03.3). -/
def execFcmplt (p : Fin 64) (s : State) : Host.Outcome State Fault Refusal := .next (mashRow [0x1D, 0x2D, 0x3D] p s)
/-- FCMPLE (Table 03.3). -/
def execFcmple (p : Fin 64) (s : State) : Host.Outcome State Fault Refusal := .next (mashRow [0x1E, 0x2E, 0x3E] p s)
/-- FCMPUN (Table 03.3). -/
def execFcmpun (p : Fin 64) (s : State) : Host.Outcome State Fault Refusal := .next (mashRow [0x1F, 0x2F, 0x3F] p s)
/-- IADD (Table 03.3). -/
def execIadd (p : Fin 64) (s : State) : Host.Outcome State Fault Refusal := .next (mashRow [0x40] p s)
/-- ISUB (Table 03.3). -/
def execIsub (p : Fin 64) (s : State) : Host.Outcome State Fault Refusal := .next (mashRow [0x41] p s)
/-- IMUL (Table 03.3). -/
def execImul (p : Fin 64) (s : State) : Host.Outcome State Fault Refusal := .next (mashRow [0x42] p s)
/-- AND (Table 03.3). -/
def execAnd (p : Fin 64) (s : State) : Host.Outcome State Fault Refusal := .next (mashRow [0x43] p s)
/-- OR (Table 03.3). -/
def execOr (p : Fin 64) (s : State) : Host.Outcome State Fault Refusal := .next (mashRow [0x44] p s)
/-- XOR (Table 03.3). -/
def execXor (p : Fin 64) (s : State) : Host.Outcome State Fault Refusal := .next (mashRow [0x45] p s)
/-- SHL (Table 03.3). -/
def execShl (p : Fin 64) (s : State) : Host.Outcome State Fault Refusal := .next (mashRow [0x46] p s)
/-- SHRA (Table 03.3). -/
def execShra (p : Fin 64) (s : State) : Host.Outcome State Fault Refusal := .next (mashRow [0x47] p s)
/-- SHRL (Table 03.3). -/
def execShrl (p : Fin 64) (s : State) : Host.Outcome State Fault Refusal := .next (mashRow [0x48] p s)
/-- IMIN (Table 03.3). -/
def execImin (p : Fin 64) (s : State) : Host.Outcome State Fault Refusal := .next (mashRow [0x49] p s)
/-- IMAX (Table 03.3). -/
def execImax (p : Fin 64) (s : State) : Host.Outcome State Fault Refusal := .next (mashRow [0x4A] p s)
/-- ICMPEQ (Table 03.3). -/
def execIcmpeq (p : Fin 64) (s : State) : Host.Outcome State Fault Refusal := .next (mashRow [0x4C] p s)
/-- ICMPLT (Table 03.3). -/
def execIcmplt (p : Fin 64) (s : State) : Host.Outcome State Fault Refusal := .next (mashRow [0x4D] p s)
/-- VMOV (Table 03.3). -/
def execVmov (p : Fin 64) (s : State) : Host.Outcome State Fault Refusal := .next (mashRow [0x50] p s)
/-- FSEL (Table 03.3). -/
def execFsel (p : Fin 64) (s : State) : Host.Outcome State Fault Refusal := .next (mashRow [0x51] p s)
/-- VBCS (Table 03.3). -/
def execVbcs (p : Fin 64) (s : State) : Host.Outcome State Fault Refusal := .next (mashRow [0x52] p s)
/-- VSCAL (Table 03.3). -/
def execVscal (p : Fin 64) (s : State) : Host.Outcome State Fault Refusal := .next (mashRow [0x53] p s)
/-- CVT.F2B (Table 03.3). -/
def execCvtF2b (p : Fin 64) (s : State) : Host.Outcome State Fault Refusal := .next (mashRow [0x54] p s)
/-- CVT.F2H (Table 03.3). -/
def execCvtF2h (p : Fin 64) (s : State) : Host.Outcome State Fault Refusal := .next (mashRow [0x55] p s)
/-- CVT.B2F.LO and HI (Table 03.3). -/
def execCvtB2f (p : Fin 64) (s : State) : Host.Outcome State Fault Refusal := .next (mashRow [0x56, 0x57] p s)
/-- CVT.H2F.LO and HI (Table 03.3). -/
def execCvtH2f (p : Fin 64) (s : State) : Host.Outcome State Fault Refusal := .next (mashRow [0x58, 0x59] p s)
/-- CVT.F2I (Table 03.3). -/
def execCvtF2i (p : Fin 64) (s : State) : Host.Outcome State Fault Refusal := .next (mashRow [0x5A] p s)
/-- CVT.I2F (Table 03.3). -/
def execCvtI2f (p : Fin 64) (s : State) : Host.Outcome State Fault Refusal := .next (mashRow [0x5B] p s)
/-- IOTA (Table 03.3). -/
def execIota (p : Fin 64) (s : State) : Host.Outcome State Fault Refusal := .next (mashRow [0x5C] p s)
/-- RSUM (Table 03.3). -/
def execRsum (p : Fin 64) (s : State) : Host.Outcome State Fault Refusal := .next (mashRow [0x60] p s)
/-- RSUMA (Table 03.3). -/
def execRsuma (p : Fin 64) (s : State) : Host.Outcome State Fault Refusal := .next (mashRow [0x61] p s)
/-- RMAX (Table 03.3). -/
def execRmax (p : Fin 64) (s : State) : Host.Outcome State Fault Refusal := .next (mashRow [0x62] p s)
/-- RMIN (Table 03.3). -/
def execRmin (p : Fin 64) (s : State) : Host.Outcome State Fault Refusal := .next (mashRow [0x63] p s)
/-- RAMAX (Table 03.3). -/
def execRamax (p : Fin 64) (s : State) : Host.Outcome State Fault Refusal := .next (mashRow [0x64] p s)
/-- IRSUMA (Table 03.3). -/
def execIrsuma (p : Fin 64) (s : State) : Host.Outcome State Fault Refusal := .next (mashRow [0x65] p s)
/-- MAND (Table 03.3). -/
def execMand (p : Fin 64) (s : State) : Host.Outcome State Fault Refusal := .next (mashRow [0x70] p s)
/-- MOR (Table 03.3). -/
def execMor (p : Fin 64) (s : State) : Host.Outcome State Fault Refusal := .next (mashRow [0x71] p s)
/-- MNOT (Table 03.3). -/
def execMnot (p : Fin 64) (s : State) : Host.Outcome State Fault Refusal := .next (mashRow [0x72] p s)
/-- MSET (Table 03.3). -/
def execMset (p : Fin 64) (s : State) : Host.Outcome State Fault Refusal := .next (mashRow [0x73] p s)
/-- MCLR (Table 03.3). -/
def execMclr (p : Fin 64) (s : State) : Host.Outcome State Fault Refusal := .next (mashRow [0x74] p s)
/-- MFCLR (Table 03.3). -/
def execMfclr (p : Fin 64) (s : State) : Host.Outcome State Fault Refusal := .next (mashRow [0x80] p s)

end Sys2Proof.Machine
end

