-- ==== Sys2Proof/Machine/Mailbox.lean ====
section
/-! DEFINITION. The mailbox protocol: taking a command, its checks, its response, shadow word and interrupt, and the
mailbox's own registers (R317 to R325, R329, R333). -/

namespace Sys2Proof.Machine

/-! ### Status codes (Table 13.7) -/

/-- A status code. -/
inductive Status where
  | ok | busy | refusedDeadline | refusedVersion | refusedCapacity | refusedMode | badArgument | badSignature | notPresent
  | interrupted | internal
  deriving DecidableEq, Repr

/-- Its code. -/
def Status.code : Status → Nat
  | .ok => 0 | .busy => 1 | .refusedDeadline => 0x10 | .refusedVersion => 0x11 | .refusedCapacity => 0x12
  | .refusedMode => 0x13 | .badArgument => 0x20 | .badSignature => 0x21 | .notPresent => 0x30 | .interrupted => 0x40
  | .internal => 0xFF

/-! ### Ring memory (Table 13.3) -/

/-- Offset of mailbox m's area in ring memory. -/
def areaOf (m : Nat) : Nat := m * 0xC0000

/-- Bytes of ring memory. -/
def ringBytes (s : State) (off : Nat) : Nat → List Byte
  | 0 => []
  | n + 1 => s.mst.ring.get 0 off :: ringBytes s (off + 1) n

/-- Bytes written to ring memory. -/
def putRing (off : Nat) (bs : List Byte) : State → State := State.onMst (fun m => { m with ring := m.ring.setMany 0 off bs })

/-! ### A command -/

/-- A command taken from a ring: its mailbox, its 128 bytes, and its argument buffer (Table 13.5). -/
structure Cmd where
  /-- mailbox -/
  m : Nat
  /-- slot bytes -/
  slot : List Byte
  /-- argument buffer -/
  arg : List Byte
  deriving DecidableEq, Repr

/-- OPCODE. -/
def Cmd.op (c : Cmd) : Nat := leAt c.slot 0 2
/-- FLAGS. -/
def Cmd.flags (c : Cmd) : Nat := leAt c.slot 2 1
/-- ARG_ADDR. -/
def Cmd.argAddr (c : Cmd) : Nat := leAt c.slot 8 8
/-- ARG_LEN. -/
def Cmd.argLen (c : Cmd) : Nat := leAt c.slot 16 4
/-- RES_LEN. -/
def Cmd.resLen (c : Cmd) : Nat := leAt c.slot 20 4
/-- RES_ADDR. -/
def Cmd.resAddr (c : Cmd) : Nat := leAt c.slot 24 8
/-- ARG_LOCAL. -/
def Cmd.argLocal (c : Cmd) : Bool := natBit 0 c.flags
/-- RES_LOCAL. -/
def Cmd.resLocal (c : Cmd) : Bool := natBit 1 c.flags
/-- Inline arguments: n bytes at offset off of ARGS. -/
def Cmd.at_ (c : Cmd) (off n : Nat) : Nat := leAt c.slot (32 + off) n

/-- A response to be written (Table 13.6). -/
structure Reply where
  /-- STATUS -/
  status : Status
  /-- DETAIL -/
  detail : Nat := 0
  /-- STEP: none is the module step number at completion -/
  step : Option Nat := none
  /-- RESULT -/
  inline : List Byte := []
  /-- result buffer -/
  res : List Byte := []
  deriving DecidableEq, Repr

/-- How a command ends: answered, or taken and waiting (a coordinated command, a HOPPER_RUN). -/
inductive CmdOut where
  | reply (r : Reply) (s : State)
  | pend (s : State)
  deriving Repr

/-- A refusal changes nothing (R324). -/
def refuse (st : Status) (s : State) (detail : Nat := 0) (inline : List Byte := []) : CmdOut :=
  .reply { status := st, detail := detail, inline := inline } s

/-- BAD_ARGUMENT naming an inline field by its offset in ARGS. -/
def badField (off : Nat) (s : State) : CmdOut := refuse .badArgument s (32 + off)

/-- BAD_ARGUMENT naming an offset of the argument buffer. -/
def badArgByte (off : Nat) (s : State) : CmdOut := refuse .badArgument s (0x80000000 + off)

/-- OK with an inline result. -/
def okWith (inline : List Byte) (s : State) : CmdOut := .reply { status := .ok, inline := inline } s

/-- What STEP reads for a latched command that applies from the release of the next BUNDLE_ACTIVATE. -/
def noStep : Nat := 2 ^ 64 - 1

/-- Commands that move data (R330): they pause in hold (R339). -/
def movesData (op : Nat) : Bool :=
  [0x0206, 0x0302, 0x0303, 0x0305, 0x0503, 0x0604, 0x0605, 0x0204, 0x0701, 0x0703, 0x0704, 0x0705, 0x0706, 0x0707].contains op

/-- Commands a module in fallow mode accepts (R333). -/
def fallowOk (op : Nat) : Bool :=
  [0x0101, 0x0102, 0x0106, 0x0107, 0x0701, 0x0702, 0x0801, 0x0802, 0x0803, 0x0804, 0x0805].contains op

/-- The opcodes of Tables 13.8 to 13.15. -/
def knownOp (op : Nat) : Bool :=
  (decide (0x0101 ≤ op) && decide (op ≤ 0x0107)) || (decide (0x0201 ≤ op) && decide (op ≤ 0x0206)) ||
    (decide (0x0301 ≤ op) && decide (op ≤ 0x0308)) || (decide (0x0401 ≤ op) && decide (op ≤ 0x0405)) ||
    (decide (0x0501 ≤ op) && decide (op ≤ 0x0506)) || (decide (0x0601 ≤ op) && decide (op ≤ 0x0606)) ||
    (decide (0x0701 ≤ op) && decide (op ≤ 0x0707)) || (decide (0x0801 ≤ op) && decide (op ≤ 0x0806))

/-- The command mailbox m waits to have taken: enabled, served in this mode, none executing (R320, R333). -/
def waiting (s : State) (m : Nat) : Option Cmd :=
  let b := s.mbx m
  if b.en && s.mst.ready && !b.active && b.coord.isNone && b.cmdCons != b.cmdProd && (s.mst.mode != .fallow || decide (m < 4)) then
    let c : Cmd := ⟨m, ringBytes s (areaOf m + 128 * (b.cmdCons % 256)) 128, []⟩
    if s.mst.mode == .hold && movesData c.op then none else some c
  else none

/-! ### Buffers (R323) -/

/-- A local buffer lies in the data area; one in memory is not refused; one in the aperture lies in enabled segments. -/
def bufferOk (s : State) (isLocal : Bool) (a n : Nat) (write : Bool) : Bool :=
  if isLocal then decide (a + n ≤ 0xB0000)
  else decide (a + n ≤ 2 ^ 44) && (requests a n).all (fun x =>
    match locate x.1 with
    | .aperture => (segOf s x.1).isSome
    | _ => !refuses s reqMaltster x.1 write)

/-- A buffer touches the host aperture. -/
def bufferHost (isLocal : Bool) (a n : Nat) : Bool := !isLocal && (requests a n).any (fun x => locate x.1 == .aperture)

/-- A buffer read. -/
def bufferRead (m : Nat) (isLocal : Bool) (a n : Nat) (s : State) : State × List Byte :=
  if isLocal then (s, ringBytes s (areaOf m + 0x10000 + a) n)
  else let r := devRead reqMaltster .none a n s; (r.1, r.2.1)

/-- A buffer written. -/
def bufferWrite (m : Nat) (isLocal : Bool) (a : Nat) (bs : List Byte) (s : State) : State :=
  if isLocal then putRing (areaOf m + 0x10000 + a) bs s else devWrite reqMaltster .none a bs s

/-! ### Responses -/

/-- An interrupt for the response just written (R329). -/
def respIrq (m : Nat) (now : Bool) (s : State) : State :=
  let b := s.mbx m
  if b.irqEn && (now || decide (max 1 b.coalCount ≤ b.coal) || b.coalUs == 0) then
    raiseIrq (b.vector.getD m) (s.onMbx m (fun b => { b with coal := 0 }))
  else s

/-- The shadow word (R321); a write that would be refused is dropped and clears SHADOW_EN. -/
def shadowWord (m : Nat) (s : State) : State :=
  let b := s.mbx m
  if b.shadowEn then
    if refuses s reqMaltster b.shadow true then s.onMbx m (fun b => { b with shadowEn := false })
    else devWrite reqMaltster .none b.shadow (leBytes 8 b.rspProd) s
  else s

/-- The 128 bytes of a response. -/
def responseBytes (s : State) (c : Cmd) (seq : Nat) (r : Reply) : List Byte :=
  slice c.slot 0 2 ++ leBytes 2 r.status.code ++ slice c.slot 4 4 ++ leBytes 4 seq ++ leBytes 4 r.res.length
    ++ leBytes 8 (r.step.getD s.sch.step) ++ leBytes 8 r.detail ++ padTo 96 r.inline

/-- A response written: result buffer, fence of the Maltster's DMA, response slot, counters, shadow word, interrupt
(R304, R318, R321, R329). -/
def respond (c : Cmd) (r : Reply) (s : State) : State :=
  let s := if r.res.isEmpty then s else bufferWrite c.m c.resLocal c.resAddr r.res s
  let s := takeFence reqMaltster s
  let b := s.mbx c.m
  let seq := (b.seq + 2 ^ 32 - 1) % 2 ^ 32
  let s := putRing (areaOf c.m + 0x8000 + 128 * (b.rspProd % 256)) (responseBytes s c seq r) s
  let s := s.onMbx c.m (fun b => { b with rspProd := (b.rspProd + 1) % 65536, coal := b.coal + 1, active := false, coord := none })
  respIrq c.m (natBit 2 c.flags) (shadowWord c.m s)

/-! ### Taking a command -/

/-- The command's commands-taken counts advance; it executes until its response. -/
def takeCmd (m : Nat) : State → State :=
  State.onMbx m (fun b => { b with cmdCons := (b.cmdCons + 1) % 65536, seq := (b.seq + 1) % 2 ^ 32, active := true })

/-- A byte of ARGS lies in one of the fields a command uses. -/
def usedByte (fs : List (Nat × Nat)) (i : Nat) : Bool := fs.any (fun f => decide (f.1 ≤ i) && decide (i < f.1 + f.2))

/-- The first reserved field of the slot that is not zero, by its offset (R12, R322). -/
def reservedAt (c : Cmd) (fs : List (Nat × Nat)) : Option Nat :=
  if 8 ≤ c.flags then some 2
  else if leAt c.slot 3 1 ≠ 0 then some 3
  else if 2 ^ 44 ≤ c.argAddr then some 8
  else if 2 ^ 44 ≤ c.resAddr then some 24
  else ((List.range 96).find? (fun i => !usedByte fs i && leAt c.slot (32 + i) 1 != 0)).map (· + 32)

/-- What a command's row of its table allows: the fields of ARGS it uses as (offset, bytes), whether an argument buffer of
a length is allowed, and whether it has a result buffer. -/
structure Shape where
  /-- used inline fields -/
  fields : List (Nat × Nat) := []
  /-- ARG_LEN allowed -/
  argOk : Nat → Bool := fun n => n == 0
  /-- a result buffer -/
  hasRes : Bool := false

/-- The checks of R12, R322, R323 and R333 that stand before a command's own, and the host loss of R311. -/
def precheck (c : Cmd) (sh : Shape) (s : State) : Option Reply :=
  if s.mst.mode == .fallow && !fallowOk c.op then some { status := .refusedMode }
  else if !knownOp c.op then some { status := .badArgument }
  else
    match reservedAt c sh.fields with
    | some o => some { status := .badArgument, detail := o }
    | none =>
      if !sh.argOk c.argLen then some { status := .badArgument, detail := 16 }
      else if c.argLen ≠ 0 && !bufferOk s c.argLocal c.argAddr c.argLen false then some { status := .badArgument, detail := 8 }
      else if sh.hasRes && c.resLen ≠ 0 && !bufferOk s c.resLocal c.resAddr c.resLen true then some { status := .badArgument, detail := 24 }
      else if s.host.detached && ((c.argLen ≠ 0 && bufferHost c.argLocal c.argAddr c.argLen) ||
          (sh.hasRes && c.resLen ≠ 0 && bufferHost c.resLocal c.resAddr c.resLen)) then some { status := .interrupted }
      else none

/-- A result of a size known beforehand must fit RES_LEN (R323). -/
def fits (c : Cmd) (n : Nat) : Bool := decide (n ≤ c.resLen)

/-- BAD_ARGUMENT for a RES_LEN too small. -/
def tooSmall (s : State) : CmdOut := refuse .badArgument s 20

/-- The answer of a command's body. -/
def finish (c : Cmd) : CmdOut → State
  | .reply r s => respond c r s
  | .pend s => s

/-- A mailbox command: the command mailbox m waits with, when its opcode (and sub-operation) is the row's; otherwise the
row does not apply and nothing changes. A change of STM_MODE raises the status event. -/
def serve (m : Nat) (is : Cmd → Bool) (sh : Cmd → Shape) (body : Cmd → State → CmdOut) (s : State) : State :=
  match waiting s m with
  | none => s
  | some c =>
    if is c then
      let t := takeCmd m s
      match precheck c (sh c) t with
      | some r => announce s (respond c r t)
      | none =>
        let a := if c.argLen = 0 then (t, []) else bufferRead m c.argLocal c.argAddr c.argLen t
        let c := { c with arg := a.2 }
        announce s (finish c (body c a.1))
    else s

/-- A command served by its opcode alone. -/
def serveOp (op : Nat) (sh : Shape) (m : Nat) (body : Cmd → State → CmdOut) (s : State) : State :=
  serve m (fun c => c.op == op) (fun _ => sh) body s

/-- A coordinated command waits for its tally in its mailbox (R171, R268). -/
def holdFor (c : Cmd) (fid : Nat) (s : State) : CmdOut :=
  .pend (s.onMbx c.m (fun b => { b with coord := some ⟨fid, c.slot, c.arg⟩ }))

/-- The waiting command of a mailbox. -/
def heldCmd (s : State) (m : Nat) : Option Cmd := (s.mbx m).coord.map (fun k => ⟨m, k.cmd, k.arg⟩)

/-- A command of another mailbox waits on table n (R320). -/
def tableBusy (s : State) (m n : Nat) : Bool :=
  (List.range 64).any (fun j => j != m && match heldCmd s j with
    | some c => (c.op == 0x0304 || c.op == 0x0306 || c.op == 0x0307 || c.op == 0x0505) && c.at_ 0 2 == n
    | none => false)

/-- STEP of a boundary-bound command accepted now (R27). -/
def boundStep (s : State) : Nat := if s.hasBundle then s.sch.step + 1 else noStep

/-- STEP of a look-ahead bound command accepted now. With no bundle active it answers 0xFFFF_FFFF_FFFF_FFFF, the value that R27 gives
for a boundary-bound command (DESIGN CHOICE, log 66). -/
def lookStep (s : State) : Nat := if s.hasBundle then s.sch.step + (if s.sch.lookDone then 2 else 1) else noStep

/-- A latched command added (R27). -/
def latch (look : Bool) (w : LatchWhat) : State → State :=
  State.onSch (fun c => { c with latches := c.latches ++ [⟨look, !look, w⟩] })

/-! ### Mailbox registers -/

/-- A doorbell (R319). -/
def doorbell (m v : Nat) (s : State) : State :=
  let b := s.mbx m
  let d := (v + 65536 - b.rspCons) % 65536
  let o := (b.cmdProd + 65536 - b.rspCons) % 65536
  if b.en && decide (d ≤ 256) && decide (o ≤ d) then s.onMbx m (fun b => { b with cmdProd := v, dbReject := false })
  else s.onMbx m (fun b => { b with dbReject := true })

/-- MBX_RSP_CONS (R319): a write that would pass RSP_PROD is ignored. -/
def consume (m v : Nat) (s : State) : State :=
  let b := s.mbx m
  if (v + 65536 - b.rspCons) % 65536 ≤ (b.rspProd + 65536 - b.rspCons) % 65536 then s.onMbx m (fun b => { b with rspCons := v }) else s

/-- MBX_CTRL as a number. -/
def ctrlWord (m : Nat) (b : Mailbox) : Nat :=
  b2n b.en + 2 * b2n b.irqEn + 4 * b2n b.shadowEn + 2 ^ 8 * b.vector.getD m + 2 ^ 16 * b.coalCount + 2 ^ 24 * b.coalUs

/-- A mailbox with no command taken and unanswered: ACTIVE reads 0 (Table 13.4). -/
def mbxIdle (b : Mailbox) : Bool := !b.active && b.coord.isNone

/-- MBX_CTRL written: RESET acts with EN clear and the mailbox idle. -/
def ctrlWrite (m v : Nat) (s : State) : State :=
  let s := s.onMbx m (fun b => { b with en := natBit 0 v, irqEn := natBit 1 v, shadowEn := natBit 2 v
                                        vector := if natBits 15 8 v = m then none else some (natBits 15 8 v)
                                        coalCount := natBits 23 16 v, coalUs := natBits 39 24 v })
  if natBit 3 v && !natBit 0 v && mbxIdle (s.mbx m) then
    s.onMbx m (fun b => { b with cmdProd := 0, cmdCons := 0, rspProd := 0, rspCons := 0, seq := 0 })
  else s

/-- MBX_CMD_PROD: a doorbell (R319). -/
def execMbxCmdProd (m : Fin 64) (v : BitVec 16) (s : State) : Host.Outcome State Fault Refusal := .next (doorbell m v.toNat s)

/-- MBX_RSP_CONS (R319). -/
def execMbxRspCons (m : Fin 64) (v : BitVec 16) (s : State) : Host.Outcome State Fault Refusal := .next (consume m v.toNat s)

/-- MBX_CTRL with RESET (Table 13.4). -/
def execMbxCtrlReset (m : Fin 64) (v : BitVec 64) (s : State) : Host.Outcome State Fault Refusal := .next (ctrlWrite m v.toNat s)

/-- COALESCE_TIMEOUT (R329): COAL_US has passed since the first response not yet announced. -/
def execCoalesceTimeout (m : Fin 64) (s : State) : Host.Outcome State Fault Refusal :=
  let b := s.mbx m
  .next (if b.irqEn && decide (0 < b.coal) then raiseIrq (b.vector.getD m) (s.onMbx m (fun b => { b with coal := 0 })) else s)

/-- A command with a reserved opcode completes with BAD_ARGUMENT (R324). -/
def execReservedOpcode (m : Fin 64) (s : State) : Host.Outcome State Fault Refusal :=
  .next (serve m (fun c => !knownOp c.op) (fun _ => {}) (fun _ s => refuse .badArgument s 0) s)

end Sys2Proof.Machine
end

