-- ==== Sys2Proof/Machine/Memory.lean ====
section
/-! DEFINITION. The memory commands: accesses through the Malt cache, commit groups, fences, the tun adders, errors,
refresh and scrubbing (06_memory_tiers.md; SRAM errors by 15 R377). -/

namespace Sys2Proof.Machine

/-! ### Errors met in the arrays (R142, R144, R377) -/

/-- One hour of housekeeping time in 40 ns ticks. -/
def hourTicks : Nat := 90000000000

/-- A corrected error of a channel: counted, and the rate of the last hour checked (R142). -/
def corrected (ch a : Nat) (s : State) : State :=
  let recent := (s.hk.now :: (s.mem.ceTimes.get [] ch).filter (fun t => decide (s.hk.now < t + hourTicks))).take 1001
  let s := s.onMem (fun m => { m with ceCount := m.ceCount.modify 0 ch (· + 1), ceTimes := m.ceTimes.set [] ch recent })
  if 1000 < recent.length then event (if ch < 128 then 2 else 3) 0 (if ch < 128 then 0x100 + ch else 0x200 + (ch - 128)) [a, ch] s
  else s

/-- The 16 blocks that one metadata line describes, by an address of one of them (R123). -/
def metadataBlocks (a : Nat) : List Nat := (List.range 16).map (fun i => cellarBase + ((a - cellarBase) / 8192 * 16 + i) * 512)

/-- What the array meets at an address of HBM or the cellar. -/
def meetError (req a : Nat) (err : MemErr) (s : State) : State :=
  match err with
  | .corrected => corrected (channelOf s a) a s
  | .uncorrectable => poisonLine req a s
  | .metadata => if a < cellarBase then s else State.each (poisonLine req) (metadataBlocks a) s
  | _ => s

/-- A term of a group's contribution books (R287) advanced. -/
def bookAdd (g i n : Nat) : State → State := State.onLtr (fun l => { l with books := l.books.modify 0 (16 * g + i) (· + n) })

/-- The reduction group that feeds an owned dense group. -/
def denseSource (s : State) (t j : Nat) : Option ReductionDef :=
  s.body.reductions.find? (fun r => !r.replica && r.target == t && decide (r.first ≤ j) && decide (j < r.first + r.blocks) && r.owner == s.rank)

/-- The reduced blocks held whole in the Lauter buffers, as (tensor, group). -/
def lauterBlocks (s : State) : List (Nat × Nat) :=
  (s.ltr.tensors.map (fun kv => (kv.2.blocks.filter (fun b => !kv.2.deferred.get false b.1)).map (fun b => (kv.1, b.1)))).flatten

/-- Entry i of the Lauter buffers, which hold an entry of 2,176 bytes for each accumulator and then for each block not yet applied (the
order is the model's, DESIGN CHOICE, log 110), met an uncorrectable error: what it held is an absent delivery (R190, R377), and its
contributions, present until then, become absent or count as dropped. -/
def lauterLoss (i : Nat) (s : State) : State :=
  match s.ltr.reduce[i]? with
  | some kv => s.onLtr (fun l => { l with reduce := l.reduce.set {} kv.1 { present := 0, absent := kv.2.present + kv.2.absent } })
  | none =>
    match (lauterBlocks s)[i - s.ltr.reduce.length]? with
    | none => s
    | some (t, j) =>
      let p := (((s.ltr.tensors.get {} t).blocks.get none j).map GradBlock.p).getD 0
      let s := match denseSource s t j with
        | some r => bookAdd r.group 8 p s
        | none => s
      s.onLtr (fun l => { l with tensors := l.tensors.modify {} t (fun x =>
        { x with blocks := x.blocks.set none j ((x.blocks.get none j).map (fun b => { b with p := 0 })) }) })

/-- Flit i of port p's forward FIFO, whose 1,024 places of 256 bytes lie port after port at the start of the Hedgerow buffers (DESIGN
CHOICE, log 110), met an uncorrectable error: it is absent, sent so by this module (R231, R377). -/
def hedgerowLoss (p i : Nat) (s : State) : State :=
  s.onFlow p (fun f => { f with fifo := f.fifo.modify i (fun h => if h.body.isSome then { h with body := none, origin := s.rank } else h) })

/-- An uncorrectable error at a place of the Lauter or the Hedgerow buffers (Table 01.5). -/
def bufferLoss (a : Nat) (s : State) : State :=
  if a < 0xC015000000 then lauterLoss ((a - 0xC014000000) / 2176) s
  else hedgerowLoss ((a - 0xC015000000) / 262144) ((a - 0xC015000000) % 262144 / 256) s

/-- The block of an on-die buffer (Table 15.2). -/
def bufferBlock (a : Nat) : Nat := if a < 0xC015000000 then 0x73 else 0x70

/-- An on-die SRAM error (R377): corrected, or with its effect by place. -/
def sramError (a : Nat) (err : MemErr) (s : State) : State :=
  match err, locate a with
  | .corrected, .store p _ => event 4 0 p [a] s
  | .corrected, .dir _ => event 4 0 0x72 [a] s
  | .corrected, .buffer => event 4 0 (bufferBlock a) [a] s
  | .uncorrectable, .store p _ => unregInv p (event 4 1 p [a] s)
  | .uncorrectable, .dir off =>
    event 4 3 0x72 [a] (event 4 1 0x72 [a] (s.onGrn (fun g => { g with dir := g.dir.modify {} (off / 16) (fun e => { e with state := 0 }) })))
  | .uncorrectable, .buffer => bufferLoss a (event 4 1 (bufferBlock a) [a] s)
  | _, _ => s

/-- The line of an address is held by its slice. -/
def maltHit (s : State) (a : Nat) : Bool :=
  (s.mem.malt.get [] (maltKey (sliceAt s a) (a / 128))).any (fun w => w.line == a / 128)

/-- The access reads the array: a read miss, or a partial-line write that misses (R127). -/
def readsArray (s : State) (a len : Nat) (write : Bool) : Bool := !maltHit s a && (!write || decide (len < 128))

/-- An access of the two tiers: an error of the slice's own array on a line it holds sets SLICE_ARRAY; the memory's array
errs only when it is read (R145). -/
def tierError (req a len : Nat) (write : Bool) (err : MemErr) (s : State) : State :=
  if err = .array then (if maltHit s a then event (tierGroup a) 8 (0x40 + sliceAt s a) [a, channelOf s a, req] s else s)
  else if readsArray s a len write then meetError req a err s else s

/-- What the arrays meet before an access. -/
def beforeAccess (req a len : Nat) (write : Bool) (err : MemErr) (s : State) : State :=
  if refuses s req a write then s
  else
    match locate a with
    | .hbm => tierError req a len write err s
    | .cellar => tierError req a len write err s
    | .aperture => s
    | .reserved => s
    | _ => sramError a err s

/-- Bytes of an access that lie within the line of its address. -/
def inLine (a n : Nat) : Nat := min n (128 - a % 128)

/-- MALT_ACCESS (R126): a read answers in Ret; a plot that reads poison takes INV (R144). -/
def execMaltAccess (req : Nat) (addr : BitVec 44) (hint : Hint) (write : Bool) (len : Nat) (data : List Byte) (err : MemErr)
    (s : State) : Host.Outcome State Fault Refusal :=
  let a := addr.toNat
  if write then
    let bs := data.take (inLine a data.length)
    .next (devWrite req hint a bs (beforeAccess req a bs.length true err s))
  else
    let n := inLine a len
    let r := devRead req hint a n (beforeAccess req a n false err s)
    let t := if r.2.2 && decide (req < 64) then unregInv req r.1 else r.1
    .next { t with ret := { data := r.2.1, poison := r.2.2 } }

/-- A commit group is 1 to 8 lines of one 64 KiB frame (R129). -/
def commitOk (ls : List (BitVec 44 × List Byte)) : Bool :=
  decide (1 ≤ ls.length) && decide (ls.length ≤ 8) &&
    ls.all (fun l => l.1.toNat / 0x10000 == (ls.headD (0, [])).1.toNat / 0x10000)

/-- A group covers the whole unit that the poison of an address is held by: the line in HBM, all four lines of the block in the
cellar (R144). -/
def groupCovers (as : List Nat) (a : Nat) : Bool :=
  decide (a < cellarBase) || (List.range 4).all (fun i => as.contains (a / 512 * 512 + 128 * i))

/-- One line of a group whose line addresses are `as`. -/
def groupLine (req : Nat) (as : List Nat) (l : BitVec 44 × List Byte) (s : State) : State :=
  let a := l.1.toNat / 128 * 128
  match locate a with
  | .hbm => if refuses s req a true then addrFault req a s else lineWrite .none true a (padTo 128 l.2) s
  | .cellar => if refuses s req a true then addrFault req a s else lineWrite .none (groupCovers as a) a (padTo 128 l.2) s
  | _ => requestWrite req .none a (padTo 128 l.2) s

/-- The lines of a group installed. -/
def installGroup (req : Nat) (ls : List (BitVec 44 × List Byte)) (s : State) : State :=
  State.each (groupLine req (ls.map (fun l => l.1.toNat / 128 * 128))) ls s

/-- COMMIT_GROUP (R129): installed whole; lines that form no group are no commit group and change nothing. -/
def execCommitGroup (req : Nat) (lines : List (BitVec 44 × List Byte)) (s : State) : Host.Outcome State Fault Refusal :=
  .next (if commitOk lines then installGroup req lines s else s)

/-- FENCE (R130). -/
def execFence (req : Nat) (s : State) : Host.Outcome State Fault Refusal := .next (takeFence req s)

/-! ### Tun adders (R131 to R135) -/

/-- The enabled tun region that holds an address. -/
def tunRegionOf (s : State) (a : Nat) : Option (Nat × TunRegion) :=
  ((List.range 256).map (fun n => (n, s.mem.tun.get {} n))).find?
    (fun r => r.2.en && decide (r.2.base ≤ a) && decide (a < r.2.fin))

/-- A dropped tun operation: TUN_FAULT (R131). -/
def tunFault (req a : Nat) (s : State) : State := event (tierGroup a) 6 (0x40 + sliceAt s a) [a, req] s

/-- The NaN mark. -/
def nanMark : Int := -(2 ^ 127)

/-- The bound of a window. -/
def winMax : Int := 2 ^ 127 - 1

/-- A 16-byte window in memory. -/
def windowAt (s : State) (a : Nat) : Int := natSigned 128 (rawNat s a 16)

/-- The rounded input w of R132, and whether it was rounded. -/
def tunInput (x : Int) (m : Nat) (neg : Bool) (e : Int) : Int × Bool :=
  let k := e + 95 - x
  (rneInt neg m k, decide (k < 0) && m % 2 ^ (-k).toNat != 0)

/-- The window after an input, with (saturated, rounded). An add to a window that holds the NaN mark counts as neither: R132 says
that the mark stays and nothing of the counts (DESIGN CHOICE, log 91). -/
def tunStep (x : Int) (w : Int) (v : XVal) : Int × Bool × Bool :=
  if w = nanMark then (w, false, false)
  else
    match v with
    | .nan => (nanMark, false, false)
    | .inf neg => (if neg then -winMax else winMax, true, false)
    | .fin neg m e =>
      let i := tunInput x m neg e
      let t := w + i.1
      (clampInt (-winMax) winMax t, decide (t < -winMax) || decide (winMax < t), i.2)

/-- Counts of a region advanced, stopping at 0xFF_FFFF. -/
def tunCount (n : Nat) (sat low : Bool) : State → State :=
  State.onMem (fun m => { m with tun := m.tun.modify {} n (fun r => { r with
    satAdds := min 0xFFFFFF (r.satAdds + b2n sat), lowAdds := min 0xFFFFFF (r.lowAdds + b2n low) }) })

/-- The die of an address is lost (R120). -/
def onLostDie (s : State) (a : Nat) : Bool :=
  (locate a == .cellar) && s.mem.dieLost.get false ((channelOf s a - 128) / 64)

/-- A tun operation entered in the books of its slice; on a lost die it is issued and never applied (R135). -/
def tunBook (a : Nat) (s : State) : State :=
  let sl := sliceAt s a
  s.onMem (fun m => { m with tunIssued := m.tunIssued.modify 0 sl (· + 1)
                             tunApplied := if onLostDie s a then m.tunApplied else m.tunApplied.modify 0 sl (· + 1) })

/-- Bytes stored by a tun adder: through the slice under a hint, dropped on a lost die. -/
def tunStore (hint : Hint) (a : Nat) (bs : List Byte) (s : State) : State := lineWrite hint false a bs s

/-- A tun operation admitted to its region, or dropped: refused addresses by R21, the rest by R131. -/
def tunAdmit (req a : Nat) (int32 : Bool) (s : State) (f : Nat → TunRegion → State → State) : State :=
  if refuses s req a true then addrFault req a s
  else
    match tunRegionOf s a with
    | some (n, r) =>
      if a % (if int32 then 4 else 16) = 0 && r.int32 == int32 then f n r (tunBook a s) else tunFault req a s
    | none => tunFault req a s

/-- The value added: a float format's element, or an MB8 element with its exponent in bits [15:8]; none for another. -/
def tunValue (fmt bits : Nat) : Option XVal :=
  match Fmt.ofCode fmt with
  | some .mb8 => some (mb8Decode (bits % 256) (bits / 256 % 256))
  | some f => f.layout.map (fun L => L.decode bits)
  | none => none

/-- TADD of a value (R132), under the hint of a MOVE's destination or none (R140). -/
def tunAddVal (hint : Hint) (req a : Nat) (v : XVal) (s : State) : State :=
  tunAdmit req a false s (fun n r s =>
    let t := tunStep r.x (windowAt s a) v
    let s := tunCount n t.2.1 t.2.2 (tunStore hint a (leBytes 16 (intBits 128 t.1)) s)
    if t.2.1 then event (tierGroup a) 5 (0x40 + sliceAt s a) [n, s.sch.step] s else s)

/-- What a window reads as: FP32 word, SAT, OVF (R133). -/
def tunRead (x : Int) (w : Int) : Word × Bool × Bool :=
  if w = nanMark then (0x7FC00000, false, false)
  else
    let c := lay32.conv (XVal.ofInt false w (x - 95))
    (BitVec.ofNat 32 c.1, decide (w = winMax) || decide (w = -winMax), c.2.ovf)

/-- The answer of a tun read, with the poison its line carries. -/
def tunAnswer (req a : Nat) (v : Word) (sat ovf : Bool) (s : State) : State :=
  let p := poisonedAt s a
  let s := if p then poisonRead req a s else s
  { s with ret := { data := leBytes 4 v.toNat, poison := p, sat := sat, ovf := ovf } }

/-- The answer of a read that was dropped: zeros, SAT and OVF clear (DESIGN CHOICE, log 92: R131 says that it is dropped and not
what comes back). -/
def noAnswer (s : State) : State := { s with ret := { data := zeros 4 } }

/-- TREAD and TREADCLR. -/
def tunReadOp (clr : Bool) (req a : Nat) (s : State) : State :=
  tunAdmit req a false (noAnswer s) (fun _ r s =>
    let t := tunRead r.x (windowAt s a)
    let s := tunAnswer req a t.1 t.2.1 t.2.2 (maltTouch .none false false a s)
    if clr then tunStore .none a (zeros 16) s else s)

/-- TCLR. -/
def tunClear (req a : Nat) (s : State) : State := tunAdmit req a false s (fun _ _ s => tunStore .none a (zeros 16) s)

/-- IADD of a signed value. -/
def tunAddInt (req a : Nat) (v : Int) (s : State) : State :=
  tunAdmit req a true s (fun n _ s =>
    let t := satInt 32 (natSigned 32 (rawNat s a 4) + v)
    let s := tunCount n t.2 false (tunStore .none a (leBytes 4 (intBits 32 t.1)) s)
    if t.2 then event (tierGroup a) 5 (0x40 + sliceAt s a) [n, s.sch.step] s else s)

/-- IREADCLR. -/
def tunReadInt (req a : Nat) (s : State) : State :=
  tunAdmit req a true (noAnswer s) (fun _ _ s =>
    let w := rawNat s a 4
    tunStore .none a (zeros 4) (tunAnswer req a (BitVec.ofNat 32 w) false false (maltTouch .none false false a s)))

/-- A TADD whose input is of no format that R132 accepts does not suit the region's TYPE: dropped. -/
def tunUnfit (req a : Nat) (s : State) : State := if refuses s req a true then addrFault req a s else tunFault req a s

/-- TADD (R132); an integer or reserved format does not suit a WINDOW region. -/
def execTadd (req : Nat) (addr : BitVec 44) (fmt : BitVec 4) (bits : Word) (s : State) : Host.Outcome State Fault Refusal :=
  .next (match tunValue fmt.toNat bits.toNat with
    | some v => tunAddVal .none req addr.toNat v s
    | none => tunUnfit req addr.toNat s)

/-- TREAD (R133). -/
def execTread (req : Nat) (addr : BitVec 44) (s : State) : Host.Outcome State Fault Refusal :=
  .next (tunReadOp false req addr.toNat s)

/-- TREADCLR (R133). -/
def execTreadclr (req : Nat) (addr : BitVec 44) (s : State) : Host.Outcome State Fault Refusal :=
  .next (tunReadOp true req addr.toNat s)

/-- TCLR (R133). -/
def execTclr (req : Nat) (addr : BitVec 44) (s : State) : Host.Outcome State Fault Refusal :=
  .next (tunClear req addr.toNat s)

/-- The tun IADD (R133). -/
def execTunIadd (req : Nat) (addr : BitVec 44) (v : Word) (s : State) : Host.Outcome State Fault Refusal :=
  .next (tunAddInt req addr.toNat v.toInt s)

/-- IREADCLR (R133). -/
def execIreadclr (req : Nat) (addr : BitVec 44) (s : State) : Host.Outcome State Fault Refusal :=
  .next (tunReadInt req addr.toNat s)

/-! ### Links, dies, refresh, scrubbing -/

/-- LINK_RETRANSMIT (R120): a flit of a die-to-die link sent again; data unchanged. -/
def execLinkRetransmit (die : Fin 4) (s : State) : Host.Outcome State Fault Refusal :=
  .next (event 3 4 (0x58 + die) [die] (s.onMem (fun m => { m with linkRetries := m.linkRetries.modify 0 die (fun c => sat48 (c + 1)) })))

/-- CELLAR_DIE_LOST (R120): every later access to the die's channels is poisoned, every write dropped. -/
def execCellarDieLost (die : Fin 4) (s : State) : Host.Outcome State Fault Refusal :=
  .next (event 3 9 (0x5C + die) [die] (s.onMem (fun m => { m with dieLost := m.dieLost.set false die true })))

/-- An error a scrub meets on its channel; the log names the Maltster's DMA as requester (DESIGN CHOICE, log 10). -/
def scrubFound (ch : Nat) (x : BitVec 44 × MemErr) (s : State) : State :=
  if channelOf s x.1.toNat = ch then meetError reqMaltster x.1.toNat x.2 s else s

/-- Blocks of a cellar channel: 131,072 frames less the 1,024 of the metadata region (R118, R123), 128 blocks each. -/
def channelBlocks : Nat := (131072 - 1024) * 128

/-- Cellar blocks of a channel with a byte that is not zero. -/
def listedBlocks (ch : Nat) (s : State) : List Nat :=
  (((s.mem.cells.filter (fun c => locate c.1 == .cellar)).map (fun c => (c.1 - cellarBase) / 512)).eraseDups).filter
    (fun b => channelOf s (cellarBase + 512 * b) == ch)

/-- A block whose four lines its slice holds, so that a read of it never goes to the channel. -/
def blockHeld (s : State) (b : Nat) : Bool :=
  let line := (cellarBase + 512 * b) / 128
  (List.range 4).all (fun i => s.mem.holds (sliceAt s (cellarBase + 512 * b)) (line + i))

/-- Cellar blocks of a channel that its slice holds. -/
def heldBlocks (ch : Nat) (s : State) : List Nat :=
  ((((s.mem.malt.map (fun kv => kv.2.map (fun w => w.line * 128))).flatten.filter (fun a => locate a == .cellar)).map
    (fun a => (a - cellarBase) / 512)).eraseDups).filter (fun b => channelOf s (cellarBase + 512 * b) == ch && blockHeld s b)

/-- The Kiln reads of a scrub pass: every block of a cellar channel that its slice does not hold. -/
def scrubKiln (ch : Nat) (s : State) : State :=
  if ch < 128 then s
  else
    let bs := (listedBlocks ch s).filter (fun b => !blockHeld s b)
    s.onMem (fun m => m.kilnAdd ((ch - 128) / 64) [(0, channelBlocks - (heldBlocks ch s).length),
      (1, (bs.map (fun b => kilnSect (rawBytes s (cellarBase + 512 * b) 512))).sum)])

/-- The poisoned lines and blocks of a channel that a scrub pass reads (R144). -/
def scrubPoison (ch : Nat) (s : State) : State :=
  let as := s.mem.hbmPoison.map (fun kv => kv.1 * 128) ++ s.mem.kilnPoison.map (fun kv => cellarBase + kv.1 * 512)
  State.each (fun a s => if channelOf s a = ch then poisonRead reqMaltster a s else s) as s

/-- SCRUB (R143): one pass of a channel, which reads all of it through its slice, keeping nothing there (DESIGN CHOICE, log 10), and
meets the errors found; it never changes a value. -/
def execScrub (ch : Fin 384) (found : List (BitVec 44 × MemErr)) (s : State) : Host.Outcome State Fault Refusal :=
  .next (scrubPoison ch (State.each (scrubFound ch) found
    (scrubKiln ch (s.onMem (fun m => { m with scrubs := m.scrubs.modify 0 ch (· + 1) })))))

/-- HOT_REFRESH (R142): a stack above 85 degrees is refreshed at twice the base rate. -/
def execHotRefresh (stack : Fin 8) (hot : Bool) (s : State) : Host.Outcome State Fault Refusal :=
  let t := s.onMem (fun m => { m with hotRefresh := m.hotRefresh.set false stack hot })
  .next (if hot then event 2 4 (0x50 + stack) [stack] t else t)

/-- DRIFT_TRACKING (R148): within a refresh interval; no data and no value change. -/
def execDriftTracking (ch : Fin 384) (s : State) : Host.Outcome State Fault Refusal :=
  .next (s.onMem (fun m => { m with drift := m.drift.modify 0 ch (· + 1) }))

end Sys2Proof.Machine
end

