-- ==== Sys2Proof/Machine/Timing.lean ====
section
/-! DEFINITION. The timing model of admission (R266): the worst case of each thing that the bundle schedules, in picoseconds. It takes
no duration from the bundle. -/

namespace Sys2Proof.Machine

/-- What a timing check assumes: the bundle, the module's maps and tables with the contents that the bundle's IMAGES give, the profile's
plot clock, the host link's charged rate and latency, the channels of each tier out of service, and a migration's traffic in MB/s
(R363). -/
structure TimeEnv where
  /-- bundle -/
  b : Bundle
  /-- the module as the bundle finds it -/
  st : State
  /-- profile code -/
  profile : Nat
  /-- charged host-link rate, MB/s (R295) -/
  hostRate : Nat
  /-- FNC_HOST_LAT, ns -/
  hostLat : Nat
  /-- HBM channels out -/
  hbmOut : Nat
  /-- cellar channels out -/
  celOut : Nat
  /-- migration, MB/s -/
  mig : Nat
  deriving DecidableEq, Repr

/-- The plot clock of a profile in MHz (Table 14.5). -/
def plotMhz (profile : Nat) : Nat := if profile = 0 then 1500 else if profile = 1 then 1300 else 1000

/-- Plot clocks in ps. -/
def clocksPs (e : TimeEnv) (n : Nat) : Nat := ceilDiv (n * 1000000) (plotMhz e.profile)

/-- Bytes at a rate in MB/s, in ps; at no rate they never pass. -/
def bytesPs (n rate : Nat) : Nat := if n = 0 then 0 else if rate = 0 then 2 ^ 64 else ceilDiv (n * 1000000) rate

/-- The memory a bundle's IMAGES spell, as a state to read descriptors from. -/
def imageState (b : Bundle) : State :=
  { mem := b.body.images.foldl (fun m x => m.putBytes x.1 x.2) {}
    plots := b.body.slots.foldl (fun t d => t.modify {} d.plot (fun q => { q with slots := q.slots.set {} d.slot { mode := d.mode } })) [] }

/-- The module as a bundle finds it: its maps, tables and rule sets, with the store contents and slots of the bundle. -/
def viewState (s : State) (b : Bundle) : State :=
  let i := imageState b
  { s with mem := { s.mem with cells := i.mem.cells, malt := [] }, plots := i.plots, sch := { s.sch with active := some b } }

/-- A hedge operation (R42): the slowest of its hedges, with the clocks that CIN takes at the activation port (R47). -/
def hopClocks (d : HopDesc) : Nat :=
  let kc := ((classOf d.fmtA).map CellClass.kc).getD 1
  let c := ceilDiv d.k kc
  let dr := ceilDiv (d.n * d.seg * d.fmtOut.blockBytes) (64 * d.fmtOut.blockVals)
  let hs := ((List.range 4).filter (fun h => natBit h d.mask)).length
  let g := ceilDiv (ceilDiv d.m d.seg) (max 1 hs)
  let cin := if d.mma then ceilDiv (4 * d.n * d.seg) 64 else 0
  8 + max (g * (c + cin) + dr) (c + cin + g * dr) + 1

/-- A WLOAD (R39). -/
def wloadClocks (d : WloadDesc) : Nat := ceilDiv (d.kw * d.nw * d.fmt.blockBytes) (256 * d.fmt.blockVals) + 4

/-- Occupancy of a Mash instruction (Table 03.2). -/
def mashClocks (w : Nat) : Nat := if decide (0x18 ≤ w % 256) && decide (w % 256 ≤ 0x1B) then 8 else 1

/-- Bytes of n elements of a format, rounded up. -/
def elemBytes (f : Fmt) (n : Nat) : Nat := ceilDiv (n * f.blockBytes) f.blockVals

/-- One tile of n elements of a loop, with or without its stores (R68). -/
def tileClocks (d : LoopDesc) (stores : Bool) (n : Nat) : Nat :=
  let ins := (d.ins.map (fun t => elemBytes t.fmt (if t.e0 = 1 then 1 else n))).sum
  let out := if stores && d.outEn then elemBytes d.out.fmt (if d.outMode = 0 then n else 1) else 0
  max (d.body.map mashClocks).sum (max (ceilDiv ins 1024) (ceilDiv out 512))

/-- A loop with or without its stores (R68): the full tiles of a row and its tail, for every row. -/
def loopClocksAt (d : LoopDesc) (stores : Bool) : Nat :=
  let t0 := d.ins.headD d.out
  let len := if d.regt = 1 ∨ d.regt = 2 then 256 else 128
  let row := t0.e0 / len * tileClocks d stores len + (if t0.e0 % len = 0 then 0 else tileClocks d stores (t0.e0 % len))
  12 + row * t0.e1 * t0.e2 * t0.e3 * t0.e4

/-- A loop, in two passes when its output slot is PRESENT (R102). -/
def loopClocks (s : State) (p : Nat) (d : LoopDesc) : Nat :=
  if d.out.scale ≠ 0 ∧ ((s.plot p).slots.get {} d.out.scale).mode = 2 then loopClocksAt d false + 8 + loopClocksAt d true
  else loopClocksAt d true

/-- A root's stages (Table 03.9). -/
def rootClocks (d : RootDesc) : Nat :=
  let n := d.n * ceilDiv d.n 128
  let stage (k : Nat) : Nat :=
    if k = 0 then 11 * n + 64
    else if k = 1 + d.iter * (d.p + 2) then n + 64
    else if (k - 1) % (d.p + 2) = 0 then n + 64
    else d.n * n + n + 64
  ((List.range (d.last + 1 - d.first)).map (fun i => stage (d.first + i))).sum

/-! ### Rates -/

/-- A rate left over after migration traffic and the 0.01 % that scrubbing takes (R143, R363). -/
def lessMig (e : TimeEnv) (rate : Nat) : Nat := rate * 9999 / 10000 - e.mig

/-- The rate of n channels of a tier (Table 06.1) with the excluded ones removed. -/
def tierRate (e : TimeEnv) (n : Nat) (cellar : Bool) : Nat :=
  if cellar then lessMig e (min n (256 - e.celOut) * 21400) else lessMig e (min n (128 - e.hbmOut) * 89600)

/-- The host link's share for the bundle (R295). -/
def hostShare (e : TimeEnv) : Nat := e.hostRate * 3 / 4

/-- The latency of Table 06.3: 0 Malt cache hit, 1 HBM miss, 2 cellar miss, 3 tun add, 4 commit group. -/
def accessPs (kind : Nat) : Nat :=
  if kind = 0 then 60000 else if kind = 1 then 450000 else if kind = 2 then 1100000 else if kind = 3 then 120000 else 200000

/-- A crossing between the plot's clock and the fabric-side clock: one cycle of the slower one, which the plot's is in every profile.
R17 says that a crossing's time varies by up to that, and gives no other number (DESIGN CHOICE, log 18). -/
def crossPs (e : TimeEnv) : Nat := clocksPs e 1

/-- The bundle's share of a channel's time that others take in the same interval: their bytes on that tier at its rate. The rule asks
for the contention that the bundle schedules (R121) and gives no formula (DESIGN CHOICE, log 107). -/
def tierPs (e : TimeEnv) (own others n : Nat) (cellar : Bool) : Nat := if own = 0 then 0 else bytesPs (own + others) (tierRate e n cellar)

end Sys2Proof.Machine
end

