-- ==== Sys2Proof/Machine/MemCmd.lean ====
section
/-! DEFINITION. The memory commands: partitions, runtime objects, frame re-placement, tun windows and the Hoppers (R119, R131,
R136 to R138, R146, R147). -/

namespace Sys2Proof.Machine

/-! ### Partitions (R136) -/

/-- One GiB. -/
def gib : Nat := 0x40000000

/-- The cellar's data end where the Kiln metadata region begins (R123). -/
def cellarEnd : Nat := 0x3FC00000000

/-- The range of a partition: 0 to 5 HBM in the order of Table 06.9, 6 the cellar bundle area, 7 the cellar runtime area;
nothing before SET_PARTITION. -/
def partRange (s : State) (i : Nat) : Nat × Nat :=
  if s.mem.parts.isEmpty then (0, 0)
  else if i < 6 then
    let a := ((s.mem.parts.take i).sum) * gib
    (a, a + s.mem.parts.getD i 0 * gib)
  else if i = 6 then (cellarBase, cellarBase + s.mem.cellarGib * gib)
  else if i = 7 then (cellarBase + s.mem.cellarGib * gib, cellarEnd)
  else (0, 0)

/-- The range lies in a partition. -/
def inPart (s : State) (i a n : Nat) : Bool := decide ((partRange s i).1 ≤ a) && decide (a + n ≤ (partRange s i).2)

/-- Runtime objects. -/
def objList (s : State) : List (Nat × Obj) := s.mem.objs.filterMap (fun kv => kv.2.map (fun o => (kv.1, o)))

/-- A bundle is loaded, active or staged. -/
def bundleLoaded (s : State) : Bool := s.sch.active.isSome || s.sch.staged.isSome

/-! ### Frame re-placement (R119, R138) -/

/-- Bytes of a frame. -/
def frameBytes64 : Nat := 0x10000

/-- The tier of an address: its re-placement table. -/
def mapOf (m : Memory) (cellar : Bool) : Tab Nat := if cellar then m.celMap else m.hbmMap

/-- A tier's re-placement table set. -/
def putMap (cellar : Bool) (t : Tab Nat) (m : Memory) : Memory := if cellar then { m with celMap := t } else { m with hbmMap := t }

/-- A frame's position entry, not listed when it is the frame's own. -/
def putPos (t : Tab Nat) (f pos : Nat) : Tab Nat := t.set 0 f (if pos = f then 0 else pos + 1)

/-- Two frames exchange positions. -/
def swapPos (t : Tab Nat) (f u : Nat) : Tab Nat := putPos (putPos t f (position t u)) u (position t f)

/-- The frame that holds a position. -/
def holderOf (t : Tab Nat) (pos : Nat) : Nat :=
  match t.find? (fun kv => kv.2 == pos + 1) with | some kv => kv.1 | none => pos

/-- A frame back at its own position: the frame that holds it takes the other one. -/
def returnHome (t : Tab Nat) (f : Nat) : Tab Nat := swapPos t f (holderOf t f)

/-- The channel of a frame of a tier in the numbering of R146. -/
def frameChannel (s : State) (cellar : Bool) (f : Nat) : Nat :=
  if cellar then 128 + celChannelOf (position s.mem.celMap f) else hbmChannelOf (position s.mem.hbmMap f)

/-- The device address of a tier's frame. -/
def frameAddr (cellar : Bool) (f : Nat) : Nat := (if cellar then cellarBase else 0) + f * frameBytes64

/-- A channel out of service, itself or with its die. -/
def channelDown (s : State) (ch : Nat) : Bool :=
  s.mem.chOut.get false ch || (decide (128 ≤ ch) && s.mem.dieOut.get false ((ch - 128) / 64))

/-- The frame at an address belongs to a runtime object. -/
def allocatedAt (s : State) (a : Nat) : Bool := (objList s).any (fun o => decide (o.2.base ≤ a) && decide (a < o.2.base + o.2.size))

/-- An unallocated frame of a host-runtime partition, in service and not withdrawn. -/
def freeFrame (s : State) (cellar : Bool) (f : Nat) : Bool :=
  let a := frameAddr cellar f
  (if cellar then inPart s 7 a frameBytes64 else inPart s 1 a frameBytes64 || inPart s 5 a frameBytes64)
    && !allocatedAt s a && !s.mem.withdrawn.get false (a / frameBytes64)

/-- Frames of a tier. -/
def tierFrames (cellar : Bool) : Nat := if cellar then 0x2000000 else 0x800000

/-- Up to n frames below a bound that satisfy p, highest first. -/
def framesDown (p : Nat → Bool) : Nat → Nat → List Nat
  | 0, _ => []
  | f + 1, n => if n = 0 then [] else if p f then f :: framesDown p f (n - 1) else framesDown p f n

/-- Re-placements a tier holds: frames in use away from their own position (R119). -/
def replacements (s : State) (cellar : Bool) : Nat :=
  ((mapOf s.mem cellar).filter (fun kv => !freeFrame s cellar kv.1 && !s.mem.withdrawn.get false (frameAddr cellar kv.1 / frameBytes64))).length

/-- The limit of R119. -/
def replacementLimit : Nat := 1048576

/-- Pairs of frames swapped. -/
def swapAll (cellar : Bool) (fs : List (Nat × Nat)) (m : Memory) : Memory :=
  putMap cellar (fs.foldl (fun t x => swapPos t x.1 x.2) (mapOf m cellar)) m

/-! ### SET_PARTITION -/

/-- Sets of the granary store: a power of two from 1,024 to 65,536 of 4 MiB (R158). -/
def granaryOk (n : Nat) : Bool := [4, 8, 16, 32, 64, 128, 256].contains n

/-- SET_PARTITION (R136). -/
def execSetPartition (m : Fin 64) (s : State) : Host.Outcome State Fault Refusal :=
  .next (serveOp 0x0201 { fields := [(0, 28)] } m (fun c s =>
    let ps := (List.range 6).map (fun i => c.at_ (4 * i) 4)
    let k := c.at_ 24 4
    if bundleLoaded s || !(objList s).isEmpty then refuse .refusedMode s
    else if ps.sum ≠ 512 || !granaryOk (ps.headD 0) then badField 0 s
    else if 2032 < k then badField 24 s
    else
      let back (cellar : Bool) (m : Memory) : Memory :=
        putMap cellar (((mapOf m cellar).map (·.1)).foldl (fun t f =>
          let home := if cellar then 128 + celChannelOf f else hbmChannelOf f
          if channelDown s home || s.mem.withdrawn.get false (frameAddr cellar f / frameBytes64) then t else returnHome t f) (mapOf m cellar)) m
      let moved (cellar : Bool) (u : Nat) : Bool := (mapOf s.mem cellar).any (fun kv => frameAddr cellar kv.1 / frameBytes64 == u)
      okWith [] ((flushFrames (fun u => moved false u || moved true u) s).onMem
        (fun m => { back true (back false m) with parts := ps, cellarGib := k }))) s)

/-! ### Objects (R137, R138) -/

/-- A range overlaps no object and holds no withdrawn frame. -/
def rangeFree (s : State) (a n : Nat) : Bool :=
  (objList s).all (fun o => decide (a + n ≤ o.2.base) || decide (o.2.base + o.2.size ≤ a)) &&
    s.mem.withdrawn.all (fun kv => decide ((kv.1 + 1) * frameBytes64 ≤ a) || decide (a + n ≤ kv.1 * frameBytes64))

/-- The smallest of a list that satisfies p. -/
def leastWhere (p : Nat → Bool) (xs : List Nat) : Option Nat :=
  (xs.filter p).foldl (fun a x => match a with | some y => some (min x y) | none => some x) none

/-- The lowest range of a partition that fits: it starts at the partition, after an object, or after a withdrawn frame. -/
def lowestFit (s : State) (part n : Nat) : Option Nat :=
  let r := partRange s part
  leastWhere (fun a => decide (r.1 ≤ a) && decide (a + n ≤ r.2) && rangeFree s a n)
    (r.1 :: (objList s).map (fun o => o.2.base + o.2.size) ++ s.mem.withdrawn.map (fun kv => (kv.1 + 1) * frameBytes64))

/-- Bytes rounded up to whole frames. -/
def wholeFrames (n : Nat) : Nat := ceilDiv n frameBytes64 * frameBytes64

/-- A free tun region of 128 to 255, the lowest (DESIGN CHOICE, log 19). -/
def freeRegion (s : State) : Option Nat :=
  ((List.range 128).map (· + 128)).find? (fun n => !(s.mem.tun.get {} n).en && (objList s).all (fun o => o.2.region != some n))

/-- An object placed: its identifier, base and region; none when it does not fit (R137). The region of a TUN object covers the
whole object, whose size is in whole frames, so that END is aligned (Table 06.6; DEDUCED, log 93). -/
def placeObj (part size : Nat) (tun : Bool) (x : Int) (table : Option Nat) (s : State) : Option (State × Nat × Nat × Nat) :=
  let n := wholeFrames size
  if 4096 ≤ (objList s).length then none
  else
    match lowestFit s part n, (if tun then freeRegion s else some 0) with
    | some a, some r =>
      let id := s.mem.lastObj + 1
      let t := s.onMem (fun m => { m with
        lastObj := id
        objs := m.objs.set none id (some ⟨a, n, if tun then some r else none, table⟩)
        tun := if tun then m.tun.set {} r { base := a, fin := a + n, x := x, en := true } else m.tun })
      some (t, id, a, r)
    | _, _ => none

/-- ALLOC_OBJECT. -/
def execAllocObject (m : Fin 64) (s : State) : Host.Outcome State Fault Refusal :=
  .next (serveOp 0x0202 { fields := [(0, 11)] } m (fun c s =>
    let part := c.at_ 9 1
    if c.at_ 0 8 = 0 then badField 0 s
    else if 1 < c.at_ 8 1 then badField 8 s
    else if part ≠ 1 ∧ part ≠ 5 ∧ part ≠ 7 then badField 9 s
    else
      match placeObj part (c.at_ 0 8) (c.at_ 8 1 == 1) (natSigned 8 (c.at_ 10 1)) none s with
      | none => refuse .refusedCapacity s
      | some (t, id, a, r) => okWith (leBytes 8 a ++ leBytes 4 id ++ leBytes 1 r) t) s)

/-- The device addresses that the bundle names, with their sizes: static and tun regions, images, stream buffers and bitmaps, carry, source
and defer areas, and the tensors of its MOVE descriptors as its IMAGES spell them. -/
def bundleRanges (b : Bundle) : List (Nat × Nat) :=
  let y := b.body
  let i := imageState b
  y.statics.map (fun r => (r.base, r.size)) ++ y.tuns.map (fun r => (r.base, r.fin - r.base)) ++ y.images.map (fun x => (x.1, x.2.length)) ++
    (y.streams.map (fun d => [(d.base, 248 * d.flits), (d.flagsBase, ceilDiv d.flits 8)])).flatten ++
    (y.reductions.map (fun d => [(d.carryBase, 128 * d.blocks), (d.srcBase, 33 * d.blocks)])).flatten ++
    (y.tensors.map (fun d => [(d.deferBase, 128 * d.groups)])).flatten ++
    (y.programs.map (fun g => ((g.primary ++ g.deferred).map (fun x => match x with
      | .move off =>
        let d := moveOf (storeBytes i g.plot off 32)
        let t (o : Nat) : Nat × Nat := let t := tensorOf (storeBytes i g.plot o 64); (t.base, if d.mode = 1 ∧ o = d.dst then 16 * t.e0 else t.span)
        [t d.src, t d.dst]
      | _ => [])).flatten)).flatten

/-- The active bundle names a byte of the object. -/
def bundleRefers (s : State) (o : Obj) : Bool :=
  match s.sch.active with
  | none => false
  | some b => (bundleRanges b).any (fun r => decide (0 < r.2) && decide (r.1 < o.base + o.size) && decide (o.base < r.1 + r.2))

/-- An object removed with its region. -/
def dropObj (id : Nat) (s : State) : State :=
  match s.mem.objs.get none id with
  | none => s
  | some o => s.onMem (fun m => { m with
      objs := m.objs.set none id none
      tun := match o.region with | some r => m.tun.set {} r {} | none => m.tun })

/-- FREE_OBJECT. -/
def execFreeObject (m : Fin 64) (s : State) : Host.Outcome State Fault Refusal :=
  .next (serveOp 0x0203 { fields := [(0, 4)] } m (fun c s =>
    match s.mem.objs.get none (c.at_ 0 4) with
    | none => refuse .notPresent s
    | some o => if o.table.isSome || bundleRefers s o then refuse .refusedMode s else okWith [] (dropObj (c.at_ 0 4) s)) s)

/-- A channel is in the exclusion set. -/
def excluded (unit mask ch : Nat) : Bool := if unit = 0 then natBit ch mask else decide (128 ≤ ch) && natBit ((ch - 128) / 64) mask

/-- Frames of an object. -/
def objFrames (o : Obj) : List Nat :=
  let b := if o.base < cellarBase then o.base else o.base - cellarBase
  (List.range (o.size / frameBytes64)).map (fun i => b / frameBytes64 + i)

/-- MOVE_OBJECT: targets are taken highest address first (DESIGN CHOICE, log 20). -/
def execMoveObject (m : Fin 64) (s : State) : Host.Outcome State Fault Refusal :=
  .next (serveOp 0x0204 { fields := [(0, 5), (8, 48)] } m (fun c s =>
    let unit := c.at_ 4 1
    let mask := c.at_ 8 48
    if 1 < unit then badField 4 s
    else if unit = 1 ∧ 16 ≤ mask then badField 8 s
    else
      match s.mem.objs.get none (c.at_ 0 4) with
      | none => refuse .notPresent s
      | some o =>
        let cel := decide (cellarBase ≤ o.base)
        let re (fs : List Nat) (g : Memory → Memory) (s : State) : State :=
          (flushFrames (fun u => fs.any (fun f => frameAddr cel f / frameBytes64 == u)) s).onMem g
        if mask = 0 then
          let fs := (objFrames o).filter (fun f => decide (position (mapOf s.mem cel) f ≠ f)
            && !channelDown s (if cel then 128 + celChannelOf f else hbmChannelOf f))
          let hs := fs.map (holderOf (mapOf s.mem cel))
          okWith (leBytes 8 fs.length) (re (fs ++ hs) (fun m => putMap cel (fs.foldl returnHome (mapOf m cel)) m) s)
        else
          let fs := (objFrames o).filter (fun f => excluded unit mask (frameChannel s cel f))
          let ts := framesDown (fun f => freeFrame s cel f && !excluded unit mask (frameChannel s cel f)
            && !channelDown s (frameChannel s cel f)) (tierFrames cel) fs.length
          let t := re (fs ++ ts) (swapAll cel (List.zip fs ts)) s
          if ts.length < fs.length || decide (replacementLimit < replacements t cel) then refuse .refusedCapacity s
          else okWith (leBytes 8 fs.length) t) s)

/-- SET_TUN_WINDOW (R131, R134): every tun operation has been applied when its command ends, so none is in flight. -/
def execSetTunWindow (m : Fin 64) (s : State) : Host.Outcome State Fault Refusal :=
  .next (serveOp 0x0205 { fields := [(0, 2)] } m (fun c s =>
    let r := s.mem.tun.get {} (c.at_ 0 1)
    if !r.en then refuse .notPresent s
    else okWith [] (s.onMem (fun m => { m with
      tun := m.tun.set {} (c.at_ 0 1) { r with x := natSigned 8 (c.at_ 1 1), satAdds := 0, lowAdds := 0 } }))) s)

/-! ### Hoppers (R146, R147) -/

/-- Capacity of a channel in bytes. -/
def channelBytes (ch : Nat) : Nat := if ch < 128 then 0x100000000 else 0x200000000

/-- The Hoppers of a mask. -/
def hoppersOf (mask : Nat) : List Nat := (List.range 384).filter (fun h => natBit h mask)

/-- A Hopper may run on its channel. -/
def hopperMayRun (s : State) (h : Nat) : Bool := channelDown s h || (!bundleLoaded s && (objList s).isEmpty)

/-- A field of HOPPER_RUN that breaks Table 06.13. -/
def hopperBad (c : Cmd) : Option Nat :=
  let len := c.at_ 64 8
  if 3 < c.at_ 48 1 then some 48 else if 4 < c.at_ 49 1 then some 49 else if 100 < c.at_ 50 1 then some 50
  else if c.at_ 56 8 % 64 ≠ 0 then some 56
  else if len % 64 ≠ 0 || (hoppersOf (c.at_ 0 48)).any (fun h => decide (channelBytes h < c.at_ 56 8 + len)) then some 64
  else none

/-- HOPPER_RUN: the Hoppers start; the response follows the last HOPPER_DONE. -/
def execHopperRun (m : Fin 64) (s : State) : Host.Outcome State Fault Refusal :=
  .next (serveOp 0x0206 { fields := [(0, 51), (52, 28)], hasRes := true } m (fun c s =>
    let hs := hoppersOf (c.at_ 0 48)
    match hopperBad c with
    | some o => badField o s
    | none =>
      if !fits c (384 * hs.length) then tooSmall s
      else if s.mem.hop.isSome || hs.any (fun h => !hopperMayRun s h) then refuse (if s.mem.hop.isSome then .busy else .refusedMode) s
      else if hs.isEmpty then okWith (leBytes 4 0) s
      else holdFor c 64 (s.onMem (fun x => { x with hop := some ⟨c.m, c.at_ 0 48,
        [c.at_ 48 1, c.at_ 49 1, c.at_ 50 1, c.at_ 52 4, c.at_ 56 8, c.at_ 64 8, c.at_ 72 8, s.hk.now], []⟩ }))) s)

/-- The length of a run's range on a Hopper's channel; LENGTH 0 means the whole channel. -/
def hopperLength (params : List Nat) (h : Nat) : Nat :=
  if params.getD 5 0 = 0 then channelBytes h - params.getD 4 0 else params.getD 5 0

/-- BYTES_WR and BYTES_RD of a run (R147): the parameters fix a Hopper's accesses. One pass of SEQ writes and reads its range once;
March C− writes it five times and reads it five times (PRESUMED, log 95: the march of that name). The other sequences are not
given: free values of the parameters. -/
def hopperMoves (params : List Nat) (h : Nat) : Nat × Nat :=
  let n := hopperLength params h
  if params.getD 6 0 = 0 ∧ params.getD 0 0 = 0 then (n, n)
  else if params.getD 6 0 = 0 ∧ params.getD 0 0 = 2 then (5 * n, 5 * n)
  else Config.hopperMoved (params.take 7) h

/-- A byte that a run leaves at a channel-relative address (R146): SEQ and MARCH leave all zeros and all ones as they are named; no
other sequence of bytes is given (log 95). -/
def hopperLeaves (params : List Nat) (h rel : Nat) : Byte :=
  let whole := params.getD 0 0 = 0 ∨ params.getD 0 0 = 2
  if whole ∧ params.getD 1 0 = 1 then 0 else if whole ∧ params.getD 1 0 = 2 then 0xFF else Config.hopperByte (params.take 7) h rel

/-- A Hopper's record (Table 13.16). -/
def hopperBytes (params : List Nat) (h : Nat) (r : HopperRep) : List Byte :=
  let moved := hopperMoves params h
  padTo 384 (leBytes 2 h ++ zeros 2 ++ leBytes 4 r.rate ++ leBytes 8 moved.1 ++ leBytes 8 moved.2 ++ leBytes 8 r.errors
    ++ leBytes 8 r.firstAddr ++ leBytes 4 r.latMin ++ leBytes 4 r.latMax ++ leBytes 64 r.firstMask
    ++ ((List.range 64).map (fun i => leBytes 4 (r.pinErrors.getD i 0))).flatten)

/-- The channel and channel-relative address of a device address of the two tiers. The manual says that a frame is contiguous on its
channel and not where it lies there: the model puts the frames of a channel in the order of their aligned runs (DESIGN CHOICE,
log 94). -/
def channelRel (s : State) (a : Nat) : Nat × Nat :=
  if a < cellarBase then
    let p := position s.mem.hbmMap (a / frameBytes64)
    (hbmChannelOf p, p / 128 * frameBytes64 + a % frameBytes64)
  else
    let p := position s.mem.celMap ((a - cellarBase) / frameBytes64)
    (128 + celChannelOf p, p / 256 * frameBytes64 + a % frameBytes64)

/-- An address that the end of a Hopper run makes read zero: in the tested range of an HBM channel, or in a cellar block
that lies on a tested channel or whose Kiln entry does. -/
def hopZeroed (s : State) (chs : List Nat) (start len : Nat) (a : Nat) : Bool :=
  match locate a with
  | .hbm =>
    let r := channelRel s a
    chs.contains r.1 && decide (start ≤ r.2) && (len == 0 || decide (r.2 < start + len))
  | .cellar => chs.contains (channelOf s a) || chs.contains (entryChannel s a)
  | _ => false

/-- Frames of a tier on a set of channels. -/
def framesOn (s : State) (cellar : Bool) (chs : List Nat) : List Nat :=
  (List.range (tierFrames cellar)).filter (fun f => chs.contains (frameChannel s cellar f))

/-- A frame as its channel's Hopper leaves it: the tested bytes are the pattern's, HBM code words are written whole, and no Kiln block
keeps its CRC (R146). -/
def hopperFrame (params : List Nat) (h : Nat) (s : State) (f : Nat) (m : Memory) : Memory :=
  let base := frameAddr (decide (128 ≤ h)) f
  (List.range 1024).foldl (fun m i =>
    let a := base + 64 * i
    let rel := (channelRel s a).2
    if params.getD 4 0 ≤ rel ∧ rel < params.getD 4 0 + hopperLength params h then
      (m.putBytes a ((List.range 64).map (fun j => hopperLeaves params h (rel + j)))).setPoison a (decide (128 ≤ h))
    else m) m

/-- A run's patterns in a channel that was taken out: its contents are destroyed until it comes back (R146, R367). -/
def hopperFill (params : List Nat) (s : State) (h : Nat) : State :=
  s.onMem (fun m => (framesOn s (decide (128 ≤ h)) [h]).foldl (fun m f => hopperFrame params h s f m) m)

/-- Memory with a set of addresses reading zero and unpoisoned. -/
def zeroWhere (p : Nat → Bool) (m : Memory) : Memory :=
  { m with cells := m.cells.filter (fun c => !p c.1)
           hbmPoison := m.hbmPoison.filter (fun kv => !p (kv.1 * 128))
           kilnPoison := m.kilnPoison.filter (fun kv => !p (cellarBase + kv.1 * 512)) }

/-- The end of a HOPPER_RUN. -/
def hopperEnd (r : HopRun) (s : State) : State :=
  let hs := hoppersOf r.mask
  let chs := hs.filter (fun h => !channelDown s h)
  let s := (hs.filter (channelDown s)).foldl (hopperFill r.params) s
  let t := s.onMem (fun m => zeroWhere (hopZeroed s chs (r.params.getD 4 0) (r.params.getD 5 0)) { m with hop := none })
  match heldCmd s r.mailbox with
  | none => t
  | some c =>
    let late := decide (r.params.getD 7 0 + 90000000000 ≤ s.hk.now)
    respond c { status := .ok, detail := b2n late, inline := leBytes 4 hs.length
                res := (hs.map (fun h => match r.done.get none h with | some x => hopperBytes r.params h x | none => zeros 384)).flatten } t

/-- HOPPER_DONE: a Hopper ends with its report. -/
def execHopperDone (h : Fin 384) (rep : HopperRep) (s : State) : Host.Outcome State Fault Refusal :=
  .next (match s.mem.hop with
    | none => s
    | some r =>
      if natBit h r.mask then
        let r := { r with done := r.done.set none h (some rep) }
        let t := s.onMem (fun m => { m with hop := some r })
        if (hoppersOf r.mask).all (fun x => (r.done.get none x).isSome) then announce s (hopperEnd r t) else t
      else s)

end Sys2Proof.Machine
end

