-- ==== Sys2Proof/Machine/Cask.lean ====
section
/-! DEFINITION. The Cask store: page and sequence tables in memory (R207 to R210), appends and their commitment (R214, R215),
spill and prefetch (R217), delivery (R219), images (R213), split sequences (R221), and what happens to it (R223). -/

namespace Sys2Proof.Machine

/-! ### Geometry (R207, R208) -/

/-- The cask region of the active bundle. -/
def caskDef (s : State) : Option CaskDef := s.body.casks

/-- KVFMT. -/
def CaskDef.fmt (k : CaskDef) : Fmt := if k.kvfmt = 1 then .bf16 else .bx12

/-- Bytes of one token's key or value. -/
def CaskDef.row (k : CaskDef) : Nat := k.fmt.bytesFor k.w

/-- CASK_BYTES. -/
def CaskDef.bytes (k : CaskDef) : Nat := 32 * k.row

/-- Casks of a 64 KiB frame. -/
def CaskDef.per (k : CaskDef) : Nat := 65536 / k.bytes

/-- Place f of an area packed per to each 64 KiB frame. -/
def CaskDef.place (k : CaskDef) (base f : Nat) : Nat := base + f / k.per * 0x10000 + f % k.per * k.bytes

/-- Cask numbers and frames that are used at most. -/
def caskLimit : Nat := 2097152

/-- Frames of the cask store partition. -/
def caskFrames (s : State) (k : CaskDef) : Nat :=
  let r := partRange s 4
  min caskLimit ((r.2 - r.1) / 65536 * k.per)

/-- The address of frame f. -/
def frameAt (s : State) (k : CaskDef) (f : Nat) : Nat := k.place (partRange s 4).1 f

/-- The spill address of cask c. -/
def spillAt (k : CaskDef) (c : Nat) : Nat := k.place k.spillBase c

/-- A page table entry's address. -/
def pageAt (k : CaskDef) (c : Nat) : Nat := k.metaBase + 16 * c

/-- A sequence table entry's address. -/
def seqAt (k : CaskDef) (slot : Nat) : Nat := k.metaBase + 16 * caskLimit + 64 * slot

/-- A steep buffer's address; they follow one another by slot, layer and buffer (DEDUCED, log 24). -/
def steepAt (k : CaskDef) (slot layer buf : Nat) : Nat :=
  k.place (k.metaBase + 16 * caskLimit + 64 * 2048) ((slot * k.layers + layer) * 2 + buf)

/-! ### Page table (Table 09.3) -/

/-- A page table entry. -/
structure Page where
  /-- NEXT -/
  next : Nat := 0
  /-- LAYER -/
  layer : Nat := 0
  /-- SLOT -/
  slot : Nat := 0
  /-- STATE: 0 FREE, 1 PENDING, 2 LINKED -/
  state : Nat := 0
  /-- LOC: 0 RESIDENT, 1 SPILLED_CELLAR, 2 SPILLED_HOST -/
  loc : Nat := 0
  /-- POISON -/
  poison : Bool := false
  /-- LAST -/
  last : Bool := false
  /-- ABS -/
  abs : Nat := 0
  /-- FRAME -/
  frame : Nat := 0
  deriving DecidableEq, Repr

/-- Its 16 bytes. -/
def Page.word (p : Page) : Nat :=
  p.next + 2 ^ 21 * p.layer + 2 ^ 24 * p.slot + 2 ^ 35 * p.state + 2 ^ 37 * p.loc + 2 ^ 39 * b2n p.poison + 2 ^ 40 * b2n p.last
    + 2 ^ 64 * (p.abs % 2 ^ 28) + 2 ^ 96 * p.frame

/-- The entry that 16 bytes spell. -/
def Page.ofWord (w : Nat) : Page :=
  { next := natBits 20 0 w, layer := natBits 23 21 w, slot := natBits 34 24 w, state := natBits 36 35 w, loc := natBits 38 37 w
    poison := natBit 39 w, last := natBit 40 w, abs := natBits 91 64 w, frame := natBits 116 96 w }

/-- Entry c. -/
def page (s : State) (k : CaskDef) (c : Nat) : Page := Page.ofWord (rawNat s (pageAt k c) 16)

/-- Entry c written. -/
def putPage (k : CaskDef) (c : Nat) (p : Page) : State → State := devWrite reqCask .none (pageAt k c) (leBytes 16 p.word)

/-- A free cask allocated, RESIDENT (R209, R210). -/
def allocPage (k : CaskDef) (c : Nat) (p : Page) (s : State) : State :=
  (putPage k c p s).onCsk (fun x => { x with allocated := x.allocated + 1, resident := x.resident + 1 })

/-- The entries that are not FREE, by number: those of the page table whose bytes are not all zero. -/
def pages (s : State) (k : CaskDef) : List (Nat × Page) :=
  (((s.mem.cells.filter (fun kv => decide (k.metaBase ≤ kv.1) && decide (kv.1 < k.metaBase + 16 * caskLimit))).map
    (fun kv => (kv.1 - k.metaBase) / 16)).dedup.map (fun c => (c, page s k c))).filter (fun x => x.2.state != 0)

/-- The lowest number not in a list. -/
def leastNot (xs : List Nat) : Nat → Nat → Nat
  | 0, n => n
  | fuel + 1, n => if xs.contains n then leastNot xs fuel (n + 1) else n

/-- The lowest free cask number and frame (R209); window frames are the highest ones (DESIGN CHOICE, log 25). -/
def allocCask (s : State) (k : CaskDef) : Option (Nat × Nat) :=
  let ps := pages s k
  let c := leastNot (ps.map (·.1)) ps.length 0
  let f := leastNot ((ps.filter (fun x => x.2.loc == 0)).map (fun x => x.2.frame)) ps.length 0
  if c < caskLimit ∧ f < caskFrames s k - k.window then some (c, f) else none

/-! ### Sequence table (Table 09.4) -/

/-- A field of a slot's entry. -/
def seqField (s : State) (k : CaskDef) (slot off n : Nat) : Nat := rawNat s (seqAt k slot + off) n

/-- A field of a slot's entry written. -/
def putSeq (k : CaskDef) (slot off n v : Nat) : State → State := devWrite reqCask .none (seqAt k slot + off) (leBytes n v)

/-- TOKENS. -/
def seqTokens (s : State) (k : CaskDef) (slot : Nat) : Nat := seqField s k slot 8 4

/-- STATE: 0 CLOSED, 1 OPEN, 2 SAVING. -/
def seqState (s : State) (k : CaskDef) (slot : Nat) : Nat := seqField s k slot 12 1

/-- The current steep buffer of a layer. -/
def seqSteep (s : State) (k : CaskDef) (slot layer : Nat) : Nat := b2n (natBit layer (seqField s k slot 13 1))

/-- HEAD, TAIL and EMPTY of a layer. -/
def seqLayer (s : State) (k : CaskDef) (slot layer : Nat) : Nat × Nat × Bool :=
  let w := seqField s k slot (16 + 6 * layer) 6
  (natBits 20 0 w, natBits 41 21 w, natBit 42 w)

/-- They written. -/
def putLayer (k : CaskDef) (slot layer head tail : Nat) (empty : Bool) : State → State :=
  putSeq k slot (16 + 6 * layer) 6 (if empty then 2 ^ 42 else head + 2 ^ 21 * tail)

/-- SPLIT_MAP of a slot of a home: the group's members, home first, and MAX_CASKS_SPLIT. -/
def splitOf (k : CaskDef) (home slot : Nat) : Option (List Nat × Nat) :=
  (k.split.find? (fun x => x.1 == slot && x.2.1.head? == some home)).map (fun x => (x.2.1, x.2.2))

/-- The member that keeps the cask with absolute index a of a slot of this module, if another one does (R221). -/
def caskHolder (s : State) (k : CaskDef) (slot a : Nat) : Option Nat :=
  (splitOf k s.rank slot).bind (fun x =>
    let r := x.1.getD (a / max 1 k.partCasks % max 1 x.1.length) s.rank
    if r = s.rank then none else some r)

/-- Casks that a chain of this module's slot may keep. -/
def chainLimit (s : State) (k : CaskDef) (slot : Nat) : Nat := match splitOf k s.rank slot with | some x => x.2 | none => k.maxCasks

/-- A chain from a cask on, oldest first. -/
def chainFrom (s : State) (k : CaskDef) : Nat → Nat → List Nat
  | 0, _ => []
  | fuel + 1, c => let p := page s k c; c :: (if p.last then [] else chainFrom s k fuel p.next)

/-- The casks of a slot and layer linked at this module, oldest first. -/
def chain (s : State) (k : CaskDef) (slot layer : Nat) : List Nat :=
  let h := seqLayer s k slot layer
  if seqState s k slot = 0 || h.2.2 then [] else chainFrom s k (chainLimit s k slot + 2) h.1

/-- Casks of a slot and layer held at other members. -/
def awayOf (s : State) (slot layer : Nat) : Nat := s.csk.away.get 0 (8 * slot + layer)

/-- That count changed. -/
def onAway (slot layer : Nat) (f : Nat → Nat) : State → State :=
  State.onCsk (fun c => { c with away := c.away.modify 0 (8 * slot + layer) f })

/-- The key of a guest chain. -/
def guestKey (home slot layer : Nat) : Nat := 8 * (2048 * home + slot) + layer

/-- The guest casks of a slot of another home that this module holds, oldest first (R221). -/
def guestChain (s : State) (home slot layer : Nat) : List Nat := s.csk.held.get [] (guestKey home slot layer)

/-- The linked casks here of a slot of any home. -/
def chainAt (s : State) (k : CaskDef) (home slot layer : Nat) : List Nat :=
  if home = s.rank then chain s k slot layer else guestChain s home slot layer

/-- A guest cask of another home. -/
def isGuest (s : State) (c : Nat) : Bool := s.csk.held.any (fun kv => kv.2.contains c)

/-! ### Counters and events (R224, R225) -/

/-- A counter of Table 09.7 advanced: 0 TOKENS_APPENDED, 1 FLUSHES, 2 RETIRED, 3 SPILLED, 4 PREFETCHED, 5 PARTS_DELIVERED,
6 APPEND_LOST, 7 APPEND_TRUNC, 8 SEQ_FAULT, 9 PART_ABSENT. -/
def countCsk (i n : Nat) : State → State := State.onCsk (fun c => { c with counts := c.counts.modify 0 i (fun x => sat48 (x + n)) })

/-- An event of group 11: the step, the slot and the cask. -/
def cskEvent (b slot c : Nat) (s : State) : State := event 11 b 0x74 [s.sch.step, slot, c] s

/-- The gauges: allocated, resident, spilled, open slots. -/
def caskGauges (s : State) : List Nat :=
  match caskDef s with
  | none => [0, 0, 0, 0]
  | some k =>
    [s.csk.allocated, s.csk.resident, s.csk.spilledNow,
      ((List.range 2048).filter (fun i => decide (seqState s k i = 1) || decide (seqState s k i = 2))).length]

/-- The page table's own counts: entries that are not FREE, those of them RESIDENT, the others. -/
def tableGauges (s : State) (k : CaskDef) : Nat × Nat × Nat :=
  let ps := pages s k
  (ps.length, (ps.filter (fun x => x.2.loc == 0)).length, (ps.filter (fun x => x.2.loc != 0)).length)

/-- PAGE_BOOKS (R210): the store's counts against each other and against the page table. -/
def pageBooks (s : State) : State :=
  match caskDef s with
  | none => s
  | some k =>
    let c := s.csk
    if c.allocated = c.resident + c.spilledNow ∧ tableGauges s k = (c.allocated, c.resident, c.spilledNow) then s else cskEvent 0 0 0 s

/-- A bundle's cask region comes into force. With the region of before the counts stand; another one starts from what its page table
holds (DESIGN CHOICE, log 106). -/
def startCasks (old : Option CaskDef) (s : State) : State :=
  match caskDef s with
  | none => s
  | some k =>
    if (old.map (fun q => (q.metaBase, q.bytes))) = some (k.metaBase, k.bytes) then s
    else
      let g := tableGauges s k
      s.onCsk (fun c => { c with allocated := g.1, resident := g.2.1, spilledNow := g.2.2, held := [], away := [], toSpill := [], window := [] })

/-- What a slot does in the running step. -/
def useOf (s : State) (slot : Nat) : SeqUse := s.csk.use.get {} slot

/-- A slot's use changed. -/
def onUse (slot : Nat) (f : SeqUse → SeqUse) : State → State := State.onCsk (fun c => { c with use := c.use.modify {} slot f })

/-! ### Casks freed, linked, read -/

/-- A cask freed: its entry, its mark and its copies in the window. -/
def freeCask (k : CaskDef) (c : Nat) (s : State) : State :=
  let p := page s k c
  (putPage k c {} s).onCsk (fun x => { x with
    toSpill := x.toSpill.set false c false, window := x.window.select (fun _ v => v != c + 1)
    allocated := if p.state = 0 then x.allocated else x.allocated - 1
    resident := if p.state = 0 ∨ p.loc ≠ 0 then x.resident else x.resident - 1
    spilledNow := if p.state = 0 ∨ p.loc = 0 then x.spilledNow else x.spilledNow - 1 })

/-- Every cask of a slot of this module in a state freed. -/
def freeCasks (k : CaskDef) (slot : Nat) (p : Page → Bool) (s : State) : State :=
  State.each (fun x s => if x.2.slot = slot && p x.2 && !isGuest s x.1 then freeCask k x.1 s else s) (pages s k) s

/-- POISON set in an entry, CASK_POISON with it. -/
def poisonCask (k : CaskDef) (c : Nat) (s : State) : State :=
  let p := page s k c
  cskEvent 1 p.slot c (if p.poison then s else putPage k c { p with poison := true } s)

/-- Where a cask's bytes stand: its frame, else the window frame it was fetched into, else its spill copy. -/
def caskAt (s : State) (k : CaskDef) (c : Nat) : Nat :=
  let p := page s k c
  if p.loc = 0 then frameAt s k p.frame
  else
    match s.csk.window.find? (fun kv => kv.2 == c + 1) with
    | some kv => frameAt s k kv.1
    | none => spillAt k c

/-- A cask read whole: none when it is poisoned (R223). -/
def caskRead (k : CaskDef) (c : Nat) (s : State) : State × Option (List Byte) :=
  if (page s k c).poison then (cskEvent 1 (page s k c).slot c s, none)
  else
    let r := devRead reqCask .none (caskAt s k c) k.bytes s
    if r.2.2 then (poisonCask k c r.1, none) else (r.1, some r.2.1)

/-- A cask linked as TAIL of its chain. -/
def linkCask (k : CaskDef) (c : Nat) (s : State) : State :=
  let p := page s k c
  let h := seqLayer s k p.slot p.layer
  let s := putPage k c { p with state := 2, last := true, next := 0 } s
  if h.2.2 then putLayer k p.slot p.layer c c false s
  else
    let t := page s k h.2.1
    putLayer k p.slot p.layer h.1 c false (putPage k h.2.1 { t with next := c, last := false } s)

/-- HEAD retired and freed. -/
def retireHead (k : CaskDef) (slot layer : Nat) (s : State) : State :=
  let h := seqLayer s k slot layer
  if h.2.2 then s
  else
    let p := page s k h.1
    let s := if p.last then putLayer k slot layer 0 0 true s else putLayer k slot layer p.next h.2.1 false s
    countCsk 2 1 (freeCask k h.1 s)

/-! ### Casks that another member holds (R221) -/

/-- A record on a CASK stream: 64 bytes (action 1 link, 2 retire, 3 free the whole slot; layer; home; slot; ABS; poison mark), then the
cask of a link (DESIGN CHOICE, log 106). -/
def caskRecord (action layer home slot a : Nat) (poison : Bool) (body : List Byte) : List Byte :=
  padTo 64 (leBytes 1 action ++ leBytes 1 layer ++ leBytes 2 home ++ leBytes 2 slot ++ leBytes 2 (b2n poison) ++ leBytes 4 a) ++ body

/-- A record for another member, until a CASK stream takes it. -/
def sendCask (r : Nat) (bs : List Byte) : State → State := State.onCsk (fun c => { c with outbox := c.outbox ++ [(r, bs)] })

/-- Flits of a record. -/
def CaskDef.recFlits (k : CaskDef) : Nat := ceilDiv (64 + k.bytes) 248

/-- The waiting records put on the CASK stream to their holder, each at its own flits, as many as the stream has room for in a step;
the others wait for the next step. The stream is ready with the rest of it empty. -/
def fillCaskStream (k : CaskDef) (r : Nat) (d : StreamDef) (s : State) : State :=
  let n := d.flits / k.recFlits
  let mine := (s.csk.outbox.filter (fun x => x.1 == r)).map (·.2)
  let s := State.each (fun x s => devWrite reqCask .none (d.base + 248 * k.recFlits * x.1) x.2 s)
    (List.zip (List.range n) (mine.take n ++ List.replicate (n - mine.length) (zeros 64))) s
  let s := s.onCsk (fun c => { c with outbox := c.outbox.filter (fun x => x.1 != r) ++ (mine.drop n).map (fun b => (r, b)) })
  s.onFab (fun f => { f with engReady := f.engReady.set 0 d.id d.flits })

/-- What goes to every holder in the step that opens. -/
def fillCaskStreams (s : State) : State :=
  match caskDef s with
  | none => s
  | some k => State.each (fun x s =>
      match s.body.streams.find? (fun d => d.id == x.2) with
      | some d => fillCaskStream k x.1 d s
      | none => s) k.holders s

/-- A guest cask linked in this module's own page table. -/
def linkGuest (k : CaskDef) (home slot layer a : Nat) (poison : Bool) (bs : List Byte) (s : State) : State :=
  match allocCask s k with
  | none => s
  | some (c, f) =>
    let cs := guestChain s home slot layer
    let s := devWrite reqCask .none (frameAt s k f) bs s
    let s := allocPage k c { layer := layer, slot := slot, state := 2, last := true, abs := a, frame := f, poison := poison } s
    let s := match cs.getLast? with
      | some t => putPage k t { page s k t with next := c, last := false } s
      | none => s
    s.onCsk (fun x => { x with held := x.held.set [] (guestKey home slot layer) (cs ++ [c]) })

/-- A guest cask given up. -/
def dropGuest (k : CaskDef) (key c : Nat) (s : State) : State :=
  (freeCask k c s).onCsk (fun x => { x with held := x.held.modify [] key (fun cs => cs.filter (· != c)) })

/-- A record of a CASK stream acted on at its holder. A record of which a flit is absent is not acted on, so its cask is absent there
(R223). -/
def takeRecord (k : CaskDef) (h body : List Byte) (s : State) : State :=
  let layer := leAt h 1 1
  let home := leAt h 2 2
  let slot := leAt h 4 2
  let key := guestKey home slot layer
  match leAt h 0 1 with
  | 1 => linkGuest k home slot layer (leAt h 8 4) (leAt h 6 2 != 0) body s
  | 2 => State.each (fun c s => if (page s k c).abs = leAt h 8 4 then countCsk 2 1 (dropGuest k key c s) else s) (s.csk.held.get [] key) s
  | 3 => State.each (fun l s => State.each (dropGuest k (guestKey home slot l)) (guestChain s home slot l) s) (List.range k.layers) s
  | _ => s

/-- Flit i of an RX CASK stream has been written: the last flit of a record has its record acted on. -/
def caskFlit (d : StreamDef) (i : Nat) (s : State) : State :=
  match caskDef s with
  | none => s
  | some k =>
    if (i + 1) % k.recFlits ≠ 0 then s
    else
      let first := i + 1 - k.recFlits
      if (List.range k.recFlits).any (fun j => natBit ((first + j) % 8) (rawNat s (d.flagsBase + (first + j) / 8) 1)) then s
      else
        let r := devRead reqCask .none (d.base + 248 * first) (64 + k.bytes) s
        takeRecord k (r.2.1.take 64) (r.2.1.drop 64) r.1

/-- The oldest cask of a chain retired: here, or by an instruction to its holder (R221). -/
def retireOldest (k : CaskDef) (slot layer a : Nat) (s : State) : State :=
  match caskHolder s k slot a with
  | some r => countCsk 2 1 (sendCask r (caskRecord 2 layer s.rank slot a false []) (onAway slot layer (· - 1) s))
  | none => retireHead k slot layer s

/-- The holders of a slot are told to free its casks. -/
def freeAway (k : CaskDef) (slot : Nat) (s : State) : State :=
  match splitOf k s.rank slot with
  | none => s
  | some x => State.each (fun r s => if r = s.rank then s else sendCask r (caskRecord 3 0 s.rank slot 0 false []) s) x.1 s

/-! ### TOKEN_APPEND (R214) -/

/-- A full steep buffer flushed to a PENDING cask. Of a cask that another member will keep, the buffer itself holds the bytes until the
step's appends commit (DESIGN CHOICE, log 106). -/
def flushCask (k : CaskDef) (slot layer buf : Nat) (s : State) : State :=
  let a := seqTokens s k slot / 16
  if (caskHolder s k slot a).isSome then countCsk 1 1 (onUse slot (fun u => { u with flushed := u.flushed.set 0 layer (caskLimit + 1) }) s)
  else
    match allocCask s k with
    | none => s
    | some (c, f) =>
      let r := devRead reqCask .none (steepAt k slot layer buf) k.bytes s
      let s := devWrite reqCask .none (frameAt s k f) r.2.1 r.1
      let s := allocPage k c { layer := layer, slot := slot, state := 1, last := true, abs := a, frame := f } s
      let s := if r.2.2 then poisonCask k c s else s
      countCsk 1 1 (onUse slot (fun u => { u with flushed := u.flushed.set 0 layer (c + 1) }) s)

/-- A token's key and value written; position 15 flushes the buffer. -/
def tokenAppend (slot layer : Nat) (key value : List Byte) (s : State) : State :=
  match caskDef s with
  | none => s
  | some k =>
    let u := useOf s slot
    let i := u.written.get 0 layer
    if u.faulty || decide (k.layers ≤ layer) || decide (u.new ≤ i) || seqState s k slot != 1 || !issues s then s
    else
      let p := seqTokens s k slot % 16 + i
      let cur := seqSteep s k slot layer
      let buf := if p < 16 then cur else 1 - cur
      let a := steepAt k slot layer buf
      let s := devWrite reqCask .none (a + p % 16 * k.row) (padTo k.row key) s
      let s := devWrite reqCask .none (a + (16 + p % 16) * k.row) (padTo k.row value) s
      let s := onUse slot (fun u => { u with written := u.written.set 0 layer (i + 1) }) s
      if p = 15 then flushCask k slot layer buf s else s

/-- TOKEN_APPEND. -/
def execTokenAppend (slot : Fin 2048) (layer : Fin 8) (key value : List Byte) (s : State) : Host.Outcome State Fault Refusal :=
  .next (tokenAppend slot layer key value s)

/-! ### Commitment at the boundary (R215) -/

/-- Every one of the slot's new tokens has been written for every layer, and every flush has its cask. -/
def appendsWhole (s : State) (k : CaskDef) (slot : Nat) (u : SeqUse) : Bool :=
  (List.range k.layers).all (fun l => u.written.get 0 l == u.new &&
    (decide (seqTokens s k slot % 16 + u.new < 16) || u.flushed.get 0 l != 0))

/-- A committed cask sent to the member that keeps it (R221). -/
def shipCask (k : CaskDef) (slot layer a r : Nat) (s : State) : State :=
  let q := devRead reqCask .none (steepAt k slot layer (seqSteep s k slot layer)) k.bytes s
  onAway slot layer (· + 1) (sendCask r (caskRecord 1 layer s.rank slot a q.2.2 q.2.1) q.1)

/-- A layer's flush linked, its buffer changed, its chain cut to its limit. -/
def commitLayer (k : CaskDef) (slot : Nat) (u : SeqUse) (layer : Nat) (s : State) : State :=
  let c := u.flushed.get 0 layer
  if c = 0 then s
  else
    let newest := seqTokens s k slot / 16
    let s := match caskHolder s k slot newest with
      | some r => shipCask k slot layer newest r s
      | none => linkCask k (c - 1) s
    let s := putSeq k slot 13 1 (seqField s k slot 13 1 ^^^ 2 ^ layer) s
    let total := (chain s k slot layer).length + awayOf s slot layer
    if chainLimit s k slot < total then retireOldest k slot layer (newest + 1 - total) s else s

/-- A slot's appends committed, or discarded. -/
def commitSlot (k : CaskDef) (skip : Bool) (slot : Nat) (u : SeqUse) (s : State) : State :=
  if u.faulty || u.new == 0 then s
  else if !skip && appendsWhole s k slot u then
    let s := State.each (commitLayer k slot u) (List.range k.layers) s
    countCsk 0 u.new (putSeq k slot 8 4 (seqTokens s k slot + u.new) s)
  else
    let s := countCsk 6 u.new (freeCasks k slot (fun p => p.state == 1) s)
    if skip then s else cskEvent 2 slot 0 s

/-- The casks of a chain that are no longer among its newest RES are marked for spill (R217). -/
def markChain (k : CaskDef) (cs : List Nat) (s : State) : State :=
  State.each (fun c s =>
    if (page s k c).loc = 0 then s.onCsk (fun x => { x with toSpill := x.toSpill.set false c true }) else s) (cs.take (cs.length - k.res)) s

/-- Every chain here, this module's own and the guests. -/
def markSpills (k : CaskDef) (s : State) : State :=
  let own := (((pages s k).filter (fun x => !isGuest s x.1)).map (fun x => x.2.slot)).dedup
  let s := State.each (fun slot s => State.each (fun layer s => markChain k (chain s k slot layer) s) (List.range k.layers) s) own s
  State.each (fun kv s => markChain k kv.2 s) s.csk.held s

/-! ### Sequence records (R211, R212) -/

/-- ACTION of a record. -/
def recAction (bs : List Byte) : Nat := natBits 12 11 (leAt bs 0 4)

/-- NEW of a record. -/
def recNew (bs : List Byte) : Nat := natBits 17 13 (leAt bs 0 4)

/-- SEQ_FAULT. -/
def seqFault (slot : Nat) (s : State) : State := cskEvent 4 slot 0 (countCsk 8 1 s)

/-- The state a slot will have in the step in look-ahead. -/
def stateNext (s : State) (k : CaskDef) (slot : Nat) : Nat :=
  if (useOf s slot).save.isSome then 2 else if seqState s k slot = 2 then 0 else seqState s k slot

/-- One record of a staged batch: kept for the step, or found faulty (R212). -/
def takeSeqRecord (k : CaskDef) (bs : List Byte) (s : State) : State :=
  let slot := natBits 10 0 (leAt bs 0 4)
  let st := stateNext s k slot
  let bad := st == 2 || (st == 0 && (recAction bs == 0 || recAction bs == 3))
  let s := if bad then seqFault slot s else s
  s.onCsk (fun c => { c with next := c.next.set [] slot (if bad then [0xFF] else bs) })

/-- The SEQ fields and the sequence section of a staged batch read in the look-ahead (R211, Table 13.17). -/
def caskLook (base : Nat) (s : State) : State :=
  match caskDef s with
  | none => s
  | some k =>
    let seqs := (List.range (rawNat s base 4)).map (fun i => rawNat s (base + rawNat s (base + 24) 8 + 2 * i) 2)
    let off := rawNat s (base + 32) 8
    State.each (fun i s => takeSeqRecord k (rawBytes s (base + off + 32 * i) 32) s)
      (List.range (rawNat s (base + 4) 4)) (s.onCsk (fun c => { c with next := [], load := [], seqsNext := seqs }))

/-- A slot with an empty history for a user. -/
def openSlot (k : CaskDef) (slot user : Nat) (s : State) : State :=
  let s := freeAway k slot (freeCasks k slot (fun _ => true) s)
  let s := State.each (fun l s => onAway slot l (fun _ => 0) (putLayer k slot l 0 0 true s)) (List.range k.layers) s
  putSeq k slot 13 1 0 (putSeq k slot 12 1 1 (putSeq k slot 8 4 0 (putSeq k slot 0 8 user s)))

/-- A loaded cask: allocated, written and linked, or sent to the member that keeps it. -/
def loadCask (k : CaskDef) (slot layer a : Nat) (blk : List Byte × Bool) (s : State) : State :=
  match caskHolder s k slot a with
  | some r => onAway slot layer (· + 1) (sendCask r (caskRecord 1 layer s.rank slot a blk.2 (padTo k.bytes blk.1)) s)
  | none =>
    match allocCask s k with
    | none => s
    | some (c, f) =>
      let s := devWrite reqCask .none (frameAt s k f) (padTo k.bytes blk.1) s
      let s := allocPage k c { layer := layer, slot := slot, state := 1, last := true, abs := a, frame := f, poison := blk.2 } s
      linkCask k c s

/-- The newest casks of a layer's blocks brought in, then the steep block. -/
def loadLayer (k : CaskDef) (slot layer first ncask : Nat) (blks : List (List Byte × Bool)) (s : State) : State :=
  let cut := ncask - chainLimit s k slot
  let s := State.each (fun x s => loadCask k slot layer (first + x.1) x.2 s)
    ((List.zip (List.range ncask) blks).drop cut) s
  devWrite reqCask .none (steepAt k slot layer 0) (padTo k.bytes ((blks.getD ncask ([], false)).1)) s

/-- A loaded image becomes the slot's history; the user is the record's (Table 09.5). -/
def loadHistory (k : CaskDef) (slot user : Nat) (img : List (List Byte × Bool)) (s : State) : State :=
  let h := (img.headD ([], false)).1
  let n := leAt h 20 4
  let s := openSlot k slot user s
  let s := State.each (fun l s => loadLayer k slot l (leAt h 16 4) n (((img.drop 1).drop (l * (n + 1))).take (n + 1)) s) (List.range k.layers) s
  putSeq k slot 8 4 (leAt h 8 4) s

/-- The record of a slot begins its step: its action, and its NEW limited to 16 tokens and to what TOKENS can hold (R214). -/
def beginSlot (k : CaskDef) (slot : Nat) (bs : List Byte) (s : State) : State :=
  if bs.length ≠ 32 then onUse slot (fun _ => { faulty := true }) s
  else if recAction bs = 2 && (s.csk.load.get [] slot).isEmpty then onUse slot (fun _ => { faulty := true }) (seqFault slot s)
  else
    let s := if recAction bs = 1 then openSlot k slot (leAt bs 8 8) s
      else if recAction bs = 2 then loadHistory k slot (leAt bs 8 8) (s.csk.load.get [] slot) s else s
    let n := min (min 16 (recNew bs)) (2 ^ 32 - 1 - seqTokens s k slot)
    let s := if n < recNew bs then cskEvent 3 slot 0 (countCsk 7 (recNew bs - n) s) else s
    onUse slot (fun _ => { new := n, save := if recAction bs = 3 then some (leAt bs 16 8 % 2 ^ 44) else none }) s

/-- A slot that has been SAVING since the boundary before closes once its image is written. -/
def closeSaved (k : CaskDef) (slot : Nat) (s : State) : State :=
  if s.csk.saved.get false slot then
    let s := putSeq k slot 12 1 0 (freeAway k slot (freeCasks k slot (fun _ => true) s))
    let s := State.each (fun l s => onAway slot l (fun _ => 0) s) (List.range k.layers) s
    s.onCsk (fun c => { c with saving := c.saving.set 0 slot 0, saved := c.saved.set false slot false })
  else s

/-- A slot whose SAVE_CLOSE was in the step that ended becomes SAVING; with the host lost its image is lost and it stays OPEN. -/
def beginSave (k : CaskDef) (slot : Nat) (u : SeqUse) (s : State) : State :=
  match u.save with
  | some a =>
    if s.host.detached && (locate a == .aperture) then cskEvent 5 slot 0 s
    else (putSeq k slot 12 1 2 s).onCsk (fun c => { c with saving := c.saving.set 0 slot (a + 1) })
  | none => s

/-- The Cask store at the boundary that ends a step: appends committed, images, the records of the step that opens, and the casks that
are to be spilled in it. -/
def caskBoundary (skip : Bool) (s : State) : State :=
  match caskDef s with
  | none => s
  | some k =>
    let uses := s.csk.use
    let s := State.each (fun kv s => commitSlot k skip kv.1 kv.2 s) uses s
    let s := State.each (fun kv s => closeSaved k kv.1 s) s.csk.saving s
    let s := State.each (fun kv s => beginSave k kv.1 kv.2 s) uses s
    let next := s.csk.next
    let s := s.onCsk (fun c => { c with use := [], next := [], partials := [], short := [], seqs := c.seqsNext, seqsNext := [] })
    let s := State.each (fun kv s => beginSlot k kv.1 kv.2 s) next s
    (if skip then s else markSpills k s).onCsk (fun c => { c with load := [] })

/-! ### SPILL and PREFETCH (R217) -/

/-- A marked cask's copy fenced, its LOC changed, its frame freed. -/
def spillCask (k : CaskDef) (c : Nat) (s : State) : State :=
  let p := page s k c
  let r := devRead reqCask .stream (frameAt s k p.frame) k.bytes s
  let s := devWrite reqCask .stream (spillAt k c) r.2.1 r.1
  let s := putPage k c { p with loc := if k.spillHost then 2 else 1, frame := 0 } (takeFence reqCask s)
  let s := if r.2.2 then poisonCask k c s else s
  countCsk 3 1 (s.onCsk (fun x => { x with toSpill := x.toSpill.set false c false, resident := x.resident - 1, spilledNow := x.spilledNow + 1 }))

/-- SPILL: an entry of the spill schedule copies the oldest marked cask of its chain. -/
def execSpill (entry : Nat) (s : State) : Host.Outcome State Fault Refusal :=
  .next (match caskDef s with
    | none => s
    | some k =>
      match k.spills[entry]? with
      | none => s
      | some e =>
        if !issues s || (k.spillHost && s.host.detached) then s
        else
          match (chainAt s k e.home e.slot e.layer).find? (fun c => s.csk.toSpill.get false c && (page s k c).loc == 0) with
          | some c => spillCask k c s
          | none => s)

/-- The slot whose history a sample attends over: 0xFFFF, no slot of the table, a sample past the batch's, and a slot whose record was
faulty have none (R212). -/
def sampleSlot (seqs : List Nat) (n : Nat) : Option Nat := let q := seqs.getD n 0xFFFF; if q < 2048 then some q else none

/-- A spilled cask copied into a window frame. -/
def fetchCask (k : CaskDef) (c frame : Nat) (s : State) : State :=
  let f := caskFrames s k - k.window + frame
  let r := devRead reqCask .none (spillAt k c) k.bytes s
  let s := devWrite reqCask .none (frameAt s k f) r.2.1 r.1
  let s := if r.2.2 then poisonCask k c s else s
  countCsk 4 1 (s.onCsk (fun x => { x with window := (x.window.select (fun _ v => v != c + 1)).set 0 f (c + 1) }))

/-- PREFETCH: an entry of the prefetch schedule copies its cask, when that is spilled. The entries of the first micro-batch serve the step
in look-ahead. -/
def execPrefetch (entry : Nat) (s : State) : Host.Outcome State Fault Refusal :=
  .next (match caskDef s with
    | none => s
    | some k =>
      match k.fetches[entry]? with
      | none => s
      | some e =>
        match sampleSlot (if e.micro = 0 then s.csk.seqsNext else s.csk.seqs) (e.micro * s.body.micro + e.smp) with
        | none => s
        | some slot =>
          match (chain s k slot e.layer)[e.idx]? with
          | none => s
          | some c => if (page s k c).loc = 0 ∨ !issues s ∨ k.window ≤ e.frame then s else fetchCask k c e.frame s)

/-! ### Delivery (R219) -/

/-- The header of a part: part number, cask count, then a mask of 16 bits per cask as far as they fit (DESIGN CHOICE, log 26). -/
def partHeader (part : Nat) (masks : List Nat) : List Byte :=
  padTo 64 (leBytes 2 part ++ leBytes 2 masks.length ++ (masks.map (leBytes 2)).flatten)

/-- Casks read for a part: bytes and masks, a poisoned one as zeros under mask zero. -/
def partCasks (k : CaskDef) : List Nat → State → State × List Byte × List Nat
  | [], s => (s, [], [])
  | c :: cs, s =>
    let r := caskRead k c s
    let q := partCasks k cs r.1
    match r.2 with
    | some bs => (q.1, bs ++ q.2.1, 0xFFFF :: q.2.2)
    | none => (q.1, zeros k.bytes ++ q.2.1, 0 :: q.2.2)

/-- The part of a cask. -/
def partNo (s : State) (k : CaskDef) (c : Nat) : Nat := (page s k c).abs / max 1 k.partCasks

/-- The parts of a chain that lie here, ascending. -/
def partsOf (s : State) (k : CaskDef) (cs : List Nat) : List Nat := (cs.map (partNo s k)).eraseDups

/-- The number of the steep part: after the last part of full casks. -/
def steepPart (s : State) (k : CaskDef) (slot : Nat) : Nat :=
  let n := seqTokens s k slot / 16
  if n = 0 then 0 else (n - 1) / max 1 k.partCasks + 1

/-- A part of linked casks: header and casks. -/
def linkedPart (k : CaskDef) (cs : List Nat) (part : Nat) (s : State) : State × List Byte :=
  let r := partCasks k (cs.filter (fun c => partNo s k c == part)) s
  (r.1, partHeader part r.2.2 ++ r.2.1)

/-- The steep part: its mask covers the committed positions. -/
def steepBytes (k : CaskDef) (slot layer : Nat) (s : State) : State × List Byte :=
  let r := devRead reqCask .none (steepAt k slot layer (seqSteep s k slot layer)) k.bytes s
  (r.1, partHeader (steepPart s k slot) [2 ^ (seqTokens s k slot % 16) - 1] ++ r.2.1)

/-- An empty history: one steep part with mask zero. -/
def emptyPart (k : CaskDef) : List Byte := partHeader 0 [0] ++ zeros k.bytes

/-- The bytes at a part position of a sample of this module: its parts here in ascending order, then the steep part; nothing lies at
a later position (DESIGN CHOICE, log 106). -/
def ownPart (k : CaskDef) (sample layer pos : Nat) (s : State) : State × Option (List Byte) :=
  match sampleSlot s.csk.seqs sample with
  | none => (s, if pos = 0 then some (emptyPart k) else none)
  | some slot =>
    if (useOf s slot).faulty || seqState s k slot == 0 then (s, if pos = 0 then some (emptyPart k) else none)
    else
      let cs := chain s k slot layer
      match (partsOf s k cs)[pos]? with
      | some j => let r := linkedPart k cs j s; (r.1, some r.2)
      | none =>
        if pos = (partsOf s k cs).length then
          let r := steepBytes k slot layer s
          (r.1, some r.2)
        else (s, none)

/-- The bytes at a part position of a guest: its parts held here, in ascending order (R221). -/
def guestPart (k : CaskDef) (home slot layer pos : Nat) (s : State) : State × Option (List Byte) :=
  let cs := guestChain s home slot layer
  match (partsOf s k cs)[pos]? with
  | some j => let r := linkedPart k cs j s; (r.1, some r.2)
  | none => (s, none)

/-- The entry of the cask schedule for a sample, a layer and a part position. -/
def partEntry (s : State) (k : CaskDef) (home sample layer pos : Nat) : Option CaskPart :=
  let m := max 1 s.body.micro
  k.parts.find? (fun e => e.home == home && e.micro == sample / m && e.smp == sample % m && e.layer == layer && e.pos == pos)

/-- PART_DELIVERY: the bundle's cask schedule says where the part goes (R219). For a guest, the home and the slot are those that the
home's query brought (R221). -/
def execPartDelivery (sample : Nat) (layer : Fin 8) (pos : Nat) (guest : Option (Nat × Fin 2048)) (s : State) :
    Host.Outcome State Fault Refusal :=
  .next (match caskDef s with
    | none => s
    | some k =>
      match partEntry s k ((guest.map (·.1)).getD s.rank) sample layer pos with
      | none => s
      | some e =>
        if !issues s || decide (k.layers ≤ layer.val) then s
        else
          let r := match guest with
            | some g => guestPart k g.1 g.2 layer pos s
            | none => ownPart k sample layer pos s
          match r.2 with
          | some bs => semPostAt e.plot e.sem 1 (countCsk 5 1 (devWrite reqCask .none (storeBase e.plot + e.off) bs r.1))
          | none => r.1)

/-! ### Images (R213) -/

/-- Blocks read: bytes and poison marks. -/
def readBlocks (req a n : Nat) : Nat → State → State × List (List Byte × Bool)
  | 0, s => (s, [])
  | m + 1, s =>
    let r := devRead req .none a n s
    let q := readBlocks req (a + n) n m r.1
    (q.1, (r.2.1, r.2.2) :: q.2)

/-- The image's header is the bundle's: LAYERS, W, KVFMT, and reserved fields zero. -/
def imageOk (k : CaskDef) (h : List Byte) : Bool :=
  leAt h 12 1 == k.layers && leAt h 13 1 == k.kvfmt && leAt h 14 2 == k.w && leAt h 24 40 == 0

/-- LOAD_IMAGE: the image of a LOAD record read in the look-ahead, or the record found faulty. -/
def execLoadImage (slot : Fin 2048) (s : State) : Host.Outcome State Fault Refusal :=
  .next (match caskDef s with
    | none => s
    | some k =>
      let bs := s.csk.next.get [] slot
      if bs.length ≠ 32 || recAction bs != 2 || !issues s then s
      else
        let a := leAt bs 16 8 % 2 ^ 44
        let h := devRead reqCask .none a 64 s
        if !imageOk k h.2.1 then (seqFault slot h.1).onCsk (fun c => { c with next := c.next.set [] slot [0xFF] })
        else
          let r := readBlocks reqCask (a + 64) k.bytes (k.layers * (leAt h.2.1 20 4 + 1)) h.1
          r.1.onCsk (fun c => { c with load := c.load.set [] slot ((h.2.1, h.2.2) :: r.2) }))

/-- The casks of an image by ascending ABS from a on: those held here, and free values for those that other members hold (log 52); a
poisoned one as zeros. -/
def imageCasks (k : CaskDef) (slot a : Nat) : Nat → List Nat → State → State × List Byte
  | 0, _, s => (s, [])
  | n + 1, cs, s =>
    if (caskHolder s k slot a).isSome then
      let fr := s.takeFree (8 * k.bytes)
      let q := imageCasks k slot (a + 1) n cs fr.2
      (q.1, leBytes k.bytes fr.1 ++ q.2)
    else
      match cs with
      | [] => (s, [])
      | c :: cs =>
        let r := caskRead k c s
        let q := imageCasks k slot (a + 1) n cs r.1
        (q.1, r.2.getD (zeros k.bytes) ++ q.2)

/-- The blocks of a layer in an image: its casks oldest first, then the steep block with its first tokens. -/
def imageLayer (k : CaskDef) (slot layer : Nat) (s : State) : State × List Byte :=
  let cs := chain s k slot layer
  let n := cs.length + awayOf s slot layer
  let r := imageCasks k slot (seqTokens s k slot / 16 - n) n cs s
  let f := seqTokens s k slot % 16
  let st := devRead reqCask .none (steepAt k slot layer (seqSteep s k slot layer)) k.bytes r.1
  (st.1, r.2 ++ padTo (16 * k.row) (st.2.1.take (f * k.row)) ++ padTo (16 * k.row) ((st.2.1.drop (16 * k.row)).take (f * k.row)))

/-- The blocks of every layer. -/
def imageLayers (k : CaskDef) (slot : Nat) : List Nat → State → State × List Byte
  | [], s => (s, [])
  | l :: ls, s =>
    let r := imageLayer k slot l s
    let q := imageLayers k slot ls r.1
    (q.1, r.2 ++ q.2)

/-- The image header. -/
def imageHeader (s : State) (k : CaskDef) (slot : Nat) : List Byte :=
  let n := (chain s k slot 0).length + awayOf s slot 0
  padTo 64 (leBytes 8 (seqField s k slot 0 8) ++ leBytes 4 (seqTokens s k slot) ++ leBytes 1 k.layers ++ leBytes 1 k.kvfmt
    ++ leBytes 2 k.w ++ leBytes 4 (seqTokens s k slot / 16 - n) ++ leBytes 4 n)

/-- SAVE_IMAGE: the history of a SAVING slot written as an image. -/
def execSaveImage (slot : Fin 2048) (s : State) : Host.Outcome State Fault Refusal :=
  .next (match caskDef s with
    | none => s
    | some k =>
      let a := s.csk.saving.get 0 slot
      if a = 0 || s.csk.saved.get false slot || seqState s k slot != 2 || !issues s then s
      else
        let r := imageLayers k slot (List.range k.layers) s
        let s := devWrite reqCask .none (a - 1) (imageHeader s k slot ++ r.2) r.1
        s.onCsk (fun c => { c with saved := c.saved.set false slot true }))

/-! ### SPLIT_PARTIAL (R221) and host loss (R223) -/

/-- SPLIT_PARTIAL: a holder's partial taken by the home; an absent one stands for a part with no valid token, and its sample counts once
(R221). -/
def execSplitPartial (sample : Nat) (layer : Fin 8) (part : Nat) (partials : Option (List Word)) (s : State) :
    Host.Outcome State Fault Refusal :=
  .next (match caskDef s, sampleSlot s.csk.seqs sample with
    | some k, some slot =>
      if (splitOf k s.rank slot).isNone then s
      else
        let s := s.onCsk (fun c => { c with partials := c.partials.modify [] (8 * sample + layer) (fun xs => xs ++ [(part, partials)]) })
        if partials.isSome then s
        else
          cskEvent 6 slot 0 (if s.csk.short.contains sample then s
            else countCsk 9 1 (s.onCsk (fun c => { c with short := c.short ++ [sample] })))
    | _, _ => s)

/-! ### Lean mode (R222, R223) -/

/-- A plot's program moves data of an activation stash that lean mode keeps in host memory. -/
def needsStash (s : State) (k : CaskDef) (p : Nat) : Bool :=
  let host := (k.stash.take k.leanLayers).filter (fun x => locate x.1 == .aperture)
  let at_ (off : Nat) : Nat := (tensorOf (storeBytes s p off 64)).base
  s.body.programs.any (fun g => g.plot == p && (g.primary ++ g.deferred).any (fun i => match i with
    | .move off =>
      let d := moveOf (storeBytes s p off 32)
      host.any (fun x => [at_ d.src, at_ d.dst].any (fun a => decide (x.1 ≤ a) && decide (a < x.1 + x.2)))
    | _ => false))

/-- With the host lost, the contributions of the plots that need a host-placed stash go absent in the current step. -/
def stashLoss (k : CaskDef) (s : State) : State :=
  if k.leanLayers = 0 then s
  else State.each (fun p s => if needsStash s k p then s.onPlot p (fun q => { q with hostLost := true }) else s) (List.range 64) s

/-- The host is lost: SPILLED_HOST casks are poisoned, host images not yet written are given up and their slots OPEN again. -/
def caskHostLoss (s : State) : State :=
  match caskDef s with
  | none => s
  | some k =>
    let s := State.each (fun x s => if x.2.loc = 2 then poisonCask k x.1 s else s) (pages s k) (stashLoss k s)
    State.each (fun kv s =>
      if (locate (kv.2 - 1) == .aperture) && !s.csk.saved.get false kv.1 then
        cskEvent 5 kv.1 0 ((putSeq k kv.1 12 1 1 s).onCsk (fun c => { c with saving := c.saving.set 0 kv.1 0 }))
      else s) s.csk.saving s

end Sys2Proof.Machine
end

