-- ==== Sys2Proof/Machine/Host.lean ====
section
/-! DEFINITION. The host link: BAR0 and its registers, BAR2, configuration space, segments, host-requested fences,
completions of the module's reads, link speed, recovery and host loss (12_host_coupling.md; 13 R316, R317, R333). -/

namespace Sys2Proof.Machine

/-! ### Fences requested by the host (R303, R304) -/

/-- The drain of one engine: every write of an earlier command has been accepted. -/
def drainEngine (e : Nat) (s : State) : State :=
  (s.onMem (fun m => { m with fences := m.fences.modify 0 e (fun c => sat48 (c + 1)) })).onHost
    (fun h => { h with dirtyEng := h.dirtyEng.set false e false })

/-- The fence of an engine number: 127 is every engine of Table 12.8. -/
def drainNamed (e : Nat) (s : State) : State := if e = 127 then State.each drainEngine (List.range 69) s else drainEngine e s

/-- A fence request (Table 12.9). -/
def fenceRequest (v : Nat) (s : State) : State :=
  let e := natBits 6 0 v
  if (69 ≤ e ∧ e ≤ 126) ∨ 16 ≤ s.host.fences.length then event 6 7 0x75 [e] s
  else
    (drainNamed e s).onHost (fun h => { h with fences := h.fences ++ [⟨e, natBit 7 v, natBit 8 v, natBits 23 16 v, natBits 63 32 v⟩] })

/-- FNC_FENCE_REQ (R304): a write that covers byte 0; bytes not covered are zero. -/
def execFncFenceReq (low wide : Bool) (v : BitVec 64) (s : State) : Host.Outcome State Fault Refusal :=
  .next (if low then fenceRequest (if wide then v.toNat else v.toNat % 2 ^ 32) s else s)

/-- The completion word of a fence (R304). -/
def fenceWord (f : FenceReq) : List Byte := leBytes 4 f.token ++ leBytes 1 f.engine ++ zeros 3

/-- FENCE_COMPLETE (R304): the oldest pending request ends. -/
def execFenceComplete (s : State) : Host.Outcome State Fault Refusal :=
  .next (match s.host.fences with
    | [] => s
    | f :: fs =>
      let s := (s.onHost (fun h => { h with fences := fs, doneToken := f.token, doneFailed := false
                                            hostMem := if f.flag then putHost h.hostMem h.fenceFlag (fenceWord f) else h.hostMem })).countHost 9 1
      if f.irq then raiseIrq f.vector s else s)

/-! ### Segments (R298, R299) -/

/-- First and last aperture address of a segment. -/
def segRange (g : Seg) : Nat × Nat := (g.base * 0x10000, g.limit * 0x10000 + 0xFFFF)

/-- The faults that refuse an enable. -/
def segBad (s : State) (n : Nat) (g : Seg) : Bool :=
  let r := segRange g
  !natBit 43 r.1 || decide (g.limit < g.base) || decide (2 ^ 64 ≤ g.host * 0x1000 + (r.2 - r.1)) ||
    (List.range 16).any (fun j => let o := s.host.segs.get {} j
      j != n && o.en && decide ((segRange o).1 ≤ r.2) && decide (r.1 ≤ (segRange o).2))

/-- Segment n written. -/
def putSeg (n : Nat) (g : Seg) : State → State := State.onHost (fun h => { h with segs := h.segs.set {} n g })

/-- Word 0 of FNC_SEG_n written: DEV_BASE only while EN is clear; setting EN is checked. -/
def segWord0 (n v : Nat) (s : State) : State :=
  let g := s.host.segs.get {} n
  let g := if g.en then g else { g with base := natBits 43 16 v }
  if natBit 0 v then
    if g.en then s
    else if segBad s n g then event 6 6 0x75 [n] (putSeg n g s)
    else putSeg n { g with en := true } s
  else putSeg n { g with en := false } s

/-- Word 1: DEV_LIMIT. -/
def segWord1 (n v : Nat) (s : State) : State :=
  let g := s.host.segs.get {} n
  if g.en then s else putSeg n { g with limit := natBits 43 16 v } s

/-- Word 2: HOST_BASE. -/
def segWord2 (n v : Nat) (s : State) : State :=
  let g := s.host.segs.get {} n
  if g.en then s else putSeg n { g with host := natBits 63 12 v } s

/-- SEGMENT_ENABLE (R299): a write of word 0 with EN set. -/
def execSegmentEnable (n : Fin 16) (w0 : BitVec 64) (s : State) : Host.Outcome State Fault Refusal :=
  .next (segWord0 n (w0.toNat ||| 1) s)

/-- SEGMENT_DISABLE (R299): a write of word 0 with EN clear. -/
def execSegmentDisable (n : Fin 16) (w0 : BitVec 64) (s : State) : Host.Outcome State Fault Refusal :=
  .next (segWord0 n (w0.toNat - w0.toNat % 2) s)

/-! ### Registers of BAR0 -/

/-- FNC_LINK (Table 12.5). -/
def fncLink (s : State) : Nat :=
  let h := s.host
  h.speed + 2 ^ 3 * h.width + 2 ^ 8 * b2n h.flit + 2 ^ 9 * b2n h.roEn + 2 ^ 10 * b2n h.detached + 2 ^ 11 * b2n h.slow
    + 2 ^ 12 * h.mps + 2 ^ 15 * h.mrrs

/-- The BAR2 base in force: bits below the window size read as zero (Table 12.6). -/
def bar2Base (s : State) : Nat := s.host.bar2Base / (s.host.bar2Gib * 2 ^ 30) * (s.host.bar2Gib * 2 ^ 30)

/-- FNC_FENCE_DONE. -/
def fenceDone (s : State) : Nat := s.host.doneToken + 2 ^ 32 * s.host.fences.length + 2 ^ 37 * b2n s.host.doneFailed

/-- Word k of FNC_SEG_n. -/
def segWord (g : Seg) (k : Nat) : Nat :=
  if k = 0 then b2n g.en + 2 ^ 16 * g.base else if k = 1 then 2 ^ 16 * g.limit else if k = 2 then 2 ^ 12 * g.host else 0

/-- MBX_GLOBAL. -/
def mbxGlobal (s : State) : Nat :=
  b2n s.mst.coreB + 2 * b2n s.mst.standby + 4 * s.mst.takeovers + 2 ^ 18 * s.mst.lastCause

/-- A register of mailbox m (Table 13.4). -/
def mbxReg (s : State) (m k : Nat) : Nat :=
  let b := s.mbx m
  if k = 0 then 0x1000000 + areaOf m
  else if k = 0x08 then ctrlWord m b
  else if k = 0x10 then b.cmdProd
  else if k = 0x18 then b.cmdCons
  else if k = 0x20 then b.rspProd
  else if k = 0x28 then b.rspCons
  else if k = 0x30 then b2n (b.active || b.coord.isSome) + 2 * b2n b.dbReject + 4 * b2n (s.mst.mode == .fallow && decide (m < 4))
  else if k = 0x38 then b.shadow
  else 0

/-- Eight bytes of the MSI-X table or the pending bit array. -/
def msixReg (s : State) (off : Nat) : Nat :=
  if off < 0x401000 then leNat ((List.range 8).map (fun i => BitVec.ofNat 8 (msixByte s (off - 0x400000 + i))))
  else (List.range 64).foldl (fun a i => if s.host.pba.get false (8 * (off - 0x401000) + i) then a + 2 ^ i else a) 0

/-- The 64-bit register at an 8-byte aligned BAR0 offset; reserved ranges read zero (Tables 12.3, 12.4, 13.1, 13.4). -/
def bar0Reg (s : State) (off : Nat) : Nat :=
  if off = 0 then stmIdent s
  else if off = 0x8 then s.fuses.serial
  else if off = 0x10 then stmIfver s
  else if 0x10000 ≤ off ∧ off < 0x14000 then mbxReg s ((off - 0x10000) / 0x100) (off % 0x100)
  else if off = 0x18000 then mbxGlobal s
  else if off = 0x18008 then b2n s.mst.eventEn + 2 ^ 8 * s.mst.eventVec
  else if off = 0x100000 then fncLink s
  else if off = 0x100008 then bar2Base s
  else if off = 0x100010 then s.host.hostLat
  else if off = 0x100028 then fenceDone s
  else if off = 0x100030 then s.host.fenceFlag
  else if 0x100100 ≤ off ∧ off < 0x100300 then segWord (s.host.segs.get {} ((off - 0x100100) / 32)) (off % 32 / 8)
  else if off = 0x200000 then stmMode s
  else if off = 0x200008 then stmSupply s
  else if off = 0x200010 then s.sch.step
  else if off = 0x200018 then stickySummary s
  else if 0x200100 ≤ off ∧ off < 0x200180 then stickyGroup s ((off - 0x200100) / 8)
  else if 0x400000 ≤ off ∧ off < 0x401020 then msixReg s off
  else 0

/-- A register's value after a 4- or 8-byte write: bytes not covered keep theirs. -/
def merged (old off : Nat) (wide : Bool) (v : Nat) : Nat :=
  if wide then v else if off % 8 = 0 then old / 2 ^ 32 * 2 ^ 32 + v % 2 ^ 32 else old % 2 ^ 32 + v % 2 ^ 32 * 2 ^ 32

/-- FNC_BAR2_BASE written. -/
def putBar2Base (v : Nat) : State → State := State.onHost (fun h => { h with bar2Base := natBits 43 30 v * 2 ^ 30 })

/-- FNC_HOST_LAT written: ignored outside 500 to 100,000. -/
def putHostLat (v : Nat) (s : State) : State :=
  let n := v % 2 ^ 32
  if 500 ≤ n ∧ n ≤ 100000 then s.onHost (fun h => { h with hostLat := n }) else s

/-- STM_SUPPLY written: MIN_MV returns to 0xFFFF. -/
def clearMinMv : State → State := State.onHk (fun h => { h with minMv := 0xFFFF })

/-- Bytes of the MSI-X table written; an unmasked entry with its pending bit set sends its message (PRESUMED, log 14). -/
def msixWrite (off : Nat) (bs : List Byte) (s : State) : State :=
  let s := s.onHost (fun h =>
    let t := (List.range bs.length).foldl (fun t i => Tab.set 0 t (off + i) ((bs.getD i 0).toNat ^^^ msixDefault (off + i))) h.msix
    { h with msix := t })
  let v := off / 16
  if s.host.pba.get false v && !natBit 0 (msixByte s (16 * v + 12)) then
    raiseIrq v (s.onHost (fun h => { h with pba := h.pba.set false v false }))
  else s

/-- A 4- or 8-byte naturally aligned write of a register: RW fields take it, every other bit ignores it (R10, R12). -/
def bar0Write (off : Nat) (wide : Bool) (v : Nat) (s : State) : State :=
  let o := off / 8 * 8
  let low := wide || off % 8 == 0
  let m := merged (bar0Reg s o) off wide v
  if 0x10000 ≤ o ∧ o < 0x14000 then
    let b := (o - 0x10000) / 0x100
    let k := o % 0x100
    if k = 0x08 then ctrlWrite b m s
    else if k = 0x10 then (if low then doorbell b (m % 65536) s else s)
    else if k = 0x28 then (if low then consume b (m % 65536) s else s)
    else if k = 0x38 then s.onMbx b (fun x => { x with shadow := natBits 43 3 m * 8 })
    else s
  else if o = 0x18008 then s.onMst (fun x => { x with eventEn := natBit 0 m, eventVec := natBits 15 8 m })
  else if o = 0x100008 then putBar2Base m s
  else if o = 0x100010 then (if low then putHostLat m s else s)
  else if o = 0x100020 then (if low then fenceRequest (if wide then v else v % 2 ^ 32) s else s)
  else if o = 0x100030 then s.onHost (fun h => { h with fenceFlag := natBits 63 3 m * 8 })
  else if 0x100100 ≤ o ∧ o < 0x100300 then
    let n := (o - 0x100100) / 32
    let k := o % 32 / 8
    if k = 0 then segWord0 n m s else if k = 1 then segWord1 n m s else if k = 2 then segWord2 n m s else s
  else if o = 0x200008 then clearMinMv s
  else if 0x200100 ≤ o ∧ o < 0x200180 then (if low then clearSticky ((o - 0x200100) / 8) (v % 2 ^ 32) s else s)
  else if 0x400000 ≤ o ∧ o < 0x401000 then msixWrite (off - 0x400000) (leBytes (if wide then 8 else 4) v) s
  else s

/-- STM_STICKY_g (R10, R316). -/
def execStmStickyW1c (g : Fin 16) (v : BitVec 32) (s : State) : Host.Outcome State Fault Refusal :=
  .next (clearSticky g v.toNat s)

/-- STM_SUPPLY (R316). -/
def execStmSupplyWrite (s : State) : Host.Outcome State Fault Refusal := .next (clearMinMv s)

/-- FNC_BAR2_BASE (R297). -/
def execFncBar2BaseWrite (v : BitVec 64) (s : State) : Host.Outcome State Fault Refusal := .next (putBar2Base v.toNat s)

/-- FNC_HOST_LAT (Table 12.6). -/
def execFncHostLatWrite (v : BitVec 64) (s : State) : Host.Outcome State Fault Refusal := .next (putHostLat v.toNat s)

/-- A refused BAR access: BAR_FAULT and its counter (R296, R297). -/
def barFault (data : List Nat) (s : State) : State := (event 6 5 0x75 data s).countHost 10 1

/-- An access answered with Unsupported Request. -/
def unsupported (s : State) : State := { s with ret := { status := 1 } }

/-- The shape BAR0 accepts at a register offset (R296). -/
def regShape (off len : Nat) : Bool := (len == 4 && off % 4 == 0) || (len == 8 && off % 8 == 0)

/-- The shape BAR0 accepts in ring memory (R296). -/
def ringShape (s : State) (off len : Nat) : Bool :=
  decide (0x1000000 ≤ off) && decide (off + len ≤ 0x4000000) && decide (len ≤ mpsBytes s) && decide (0 < len) &&
    decide (off / 4096 = (off + len - 1) / 4096)

/-- A BAR0 read (R296). -/
def bar0Read (off len : Nat) (s : State) : State :=
  if 0x1000000 ≤ off then
    if ringShape s off len then { s with ret := { data := ringBytes s (off - 0x1000000) len } } else unsupported (barFault [off] s)
  else if regShape off len then { s with ret := { data := slice (leBytes 8 (bar0Reg s (off / 8 * 8))) (off % 8) len } }
  else unsupported (barFault [off] s)

/-- A BAR0 write (R296). -/
def bar0Put (off : Nat) (bs : List Byte) (s : State) : State :=
  if 0x1000000 ≤ off then
    if ringShape s off bs.length then putRing (off - 0x1000000) bs s else barFault [off] s
  else if regShape off bs.length then bar0Write off (bs.length == 8) (leNat bs) s
  else barFault [off] s

/-- REGISTER_WRITE (R10): a naturally aligned 4- or 8-byte write. -/
def execRegisterWrite (off : BitVec 26) (wide : Bool) (v : BitVec 64) (s : State) : Host.Outcome State Fault Refusal :=
  .next (bar0Put off.toNat (leBytes (if wide then 8 else 4) v.toNat) s)

/-- BAR0_ACCESS (R296). -/
def execBar0Access (write : Bool) (off : BitVec 26) (len : Nat) (data : List Byte) (s : State) :
    Host.Outcome State Fault Refusal :=
  .next (if !s.host.memEn then (if write then s else unsupported s)
    else if write then bar0Put off.toNat data s else bar0Read off.toNat len s)

/-! ### BAR2 (R297) -/

/-- A byte of a BAR2 access is refused: by R21, or because it lies in the host aperture. -/
def bar2Refused (s : State) (a n : Nat) (write : Bool) : Bool :=
  (requests a n).any (fun x => (locate x.1 == .aperture) || refuses s reqBar2 x.1 write)

/-- The refusal is also one of R21. -/
def bar2R21 (s : State) (a n : Nat) (write : Bool) : Option Nat :=
  ((requests a n).find? (fun x => !(locate x.1 == .aperture) && refuses s reqBar2 x.1 write)).map (·.1)

/-- The first 16 bytes of the header of a memory request: its format and length, the free value of its requester ID and tag, which no
command carries, and its address (PRESUMED, log 13: the base specification's layout). -/
def tlpHeader (x n ids : Nat) (write : Bool) : List Nat :=
  [(if write then 0x60000000 else 0x20000000) + (n + 3) / 4 % 1024, ids, x / 2 ^ 32, x % 2 ^ 32]

/-- The bus address of a BAR2 offset. -/
def bar2Bus (s : State) (off : Nat) : Nat :=
  let k := s.host.bar2Gib * 2 ^ 30
  (s.host.cfg.get 0 0x18 / 16 * 16 + 2 ^ 32 * s.host.cfg.get 0 0x1C) / k * k + off

/-- AER logs a refused TLP: Unsupported Request, and its header when no earlier one is held (PRESUMED registers, log 13). -/
def aerLog (off n : Nat) (write : Bool) (s : State) : State :=
  if natBit 20 (s.host.cfg.get 0 0x104) then s
  else
    let q := s.takeFree 32
    let hs := tlpHeader (bar2Bus s off) n q.1 write
    q.2.onHost (fun h => { h with cfg := (List.range 4).foldl (fun t i => t.set 0 (0x11C + 4 * i) (hs.getD i 0)) (h.cfg.modify 0 0x104 (fun v => v ||| 2 ^ 20)) })

/-- A refused TLP: BAR_FAULT, AER's record of it, and R21's effects where they apply. -/
def bar2Fault (a n : Nat) (write : Bool) (s : State) : State :=
  let r := bar2R21 s a n write
  let s := aerLog (a - bar2Base s) n write (barFault [a, n] s)
  match r with
  | some x => addrFault reqBar2 x s
  | none => s

/-- The BAR claims the access: Memory Space Enable is set and it lies in the window. -/
def bar2Claims (s : State) (off n : Nat) : Bool := s.host.memEn && decide (off + n ≤ s.host.bar2Gib * 2 ^ 30)

/-- BAR2_READ. -/
def execBar2Read (off len : Nat) (s : State) : Host.Outcome State Fault Refusal :=
  .next (if !bar2Claims s off len then unsupported s
    else
      let a := bar2Base s + off
      if bar2Refused s a len false then unsupported (bar2Fault a len false s)
      else
        let r := devRead reqBar2 .none a len s
        { r.1.countHost 3 len with ret := { data := r.2.1, poison := r.2.2 } })

/-- BAR2_WRITE. -/
def execBar2Write (off : Nat) (data : List Byte) (ep : Bool) (s : State) : Host.Outcome State Fault Refusal :=
  .next (if !bar2Claims s off data.length then s
    else
      let a := bar2Base s + off
      if ep then event 6 4 0x75 [a] s
      else if bar2Refused s a data.length true then bar2Fault a data.length true s
      else (devWrite reqBar2 .none a data s).countHost 2 data.length)

/-- ATOMICOP_REQUEST (Table 12.1): Unsupported Request. -/
def execAtomicopRequest (off : Nat) (s : State) : Host.Outcome State Fault Refusal :=
  .next { s with ret := { data := zeros (0 * off), status := 1 } }

/-! ### Link speed (R295) -/

/-- Charged rate per lane in MB/s by the speed code (Table 12.2). -/
def laneRate (speed : Nat) : Nat :=
  if speed = 6 then 6240 else if speed = 5 then 3070 else if speed = 4 then 1540 else if speed = 3 then 768
  else if speed = 2 then 390 else if speed = 1 then 195 else 0

/-- The charged rate of the link as negotiated. -/
def linkRate (s : State) : Nat := laneRate s.host.speed * s.host.width

/-- FNC_LINK.SLOW follows the rate; LINK_SLOW is set each time it goes from 0 to 1. -/
def updateSlow (s : State) : State :=
  let v := s.hasBundle && decide (linkRate s < s.sch.rate)
  let t := s.onHost (fun h => { h with slow := v })
  if v && !s.host.slow then event 6 1 0x75 [s.host.speed, s.host.width] t else t

/-- LINK_SLOW: the link retrains. -/
def execLinkSlow (speed : BitVec 3) (width : BitVec 5) (s : State) : Host.Outcome State Fault Refusal :=
  .next (updateSlow (s.onHost (fun h => { h with speed := speed.toNat, width := width.toNat })))

/-- PCIE_LINK_UP: the link completes training. -/
def execPcieLinkUp (speed : BitVec 3) (width : BitVec 5) (flit : Bool) (s : State) : Host.Outcome State Fault Refusal :=
  .next (updateSlow (s.onHost (fun h => { h with speed := speed.toNat, width := width.toNat, flit := flit })))

/-- PCIE_RECOVERY (R309): transparent, and counted. -/
def execPcieRecovery (ns : Nat) (s : State) : Host.Outcome State Fault Refusal := .next ((s.countHost 4 1).countHost 5 ns)

/-! ### Completions of the module's reads (R302) -/

/-- A tag is freed, and the first read that waits for one takes it. -/
def freeTag (tag : Nat) (s : State) : State :=
  s.onHost (fun h =>
    let t := h.reads.set none tag none
    match t.find? (fun kv => decide (1024 ≤ kv.1)) with
    | some kv => { h with reads := (t.set none kv.1 none).set none tag kv.2 }
    | none => { h with reads := t })

/-- The requester receives data, or zeros with a poison mark: a plot takes INV, and a destination in memory is marked
(R144, R302). -/
def deliver (r : HostRead) (bs : List Byte) (bad : Bool) (s : State) : State :=
  let s := devWrite r.engine r.hint r.dest bs s
  if bad then
    let s := poisonRange r.engine r.dest bs.length s
    if r.engine < 64 then unregInv r.engine s else s
  else s

/-- READ_COMPLETION. -/
def execReadCompletion (tag : Nat) (status : CplStatus) (ep : Bool) (data : List Byte) (s : State) :
    Host.Outcome State Fault Refusal :=
  .next (if 768 ≤ tag then s
    else
      match s.host.reads.get none tag with
      | none => s
      | some r =>
        let s := freeTag tag s
        match status with
        | .success => if ep then deliver r (zeros r.len) true (event 6 4 0x75 [r.src] s) else deliver r (padTo r.len data) false s
        | _ => deliver r (zeros r.len) true ((event 6 3 0x75 [r.src] s).countHost 7 1))

/-- CPL_TIMEOUT. -/
def execCplTimeout (tag : Nat) (s : State) : Host.Outcome State Fault Refusal :=
  .next (if 768 ≤ tag then s
    else
      match s.host.reads.get none tag with
      | none => s
      | some r => deliver r (zeros r.len) true ((event 6 2 0x75 [r.src] (freeTag tag s)).countHost 8 1))

/-! ### Host loss (R310, R311, R333) -/

/-- The number of a cause in the log. -/
def detachCode : DetachCause → Nat
  | .dlDown => 0 | .perst => 1 | .hotReset => 2 | .flr => 3 | .d3hot => 4

/-- Outstanding reads return zeros to their requesters, with no flag; the plots concerned are noted. -/
def dropReads (s : State) : State :=
  let rs := s.host.reads.filterMap (·.2)
  State.each (fun r s =>
    let s := devWrite r.engine r.hint r.dest (zeros r.len) s
    if r.engine < 64 then s.onPlot r.engine (fun q => { q with hostLost := true }) else s) rs
    (s.onHost (fun h => { h with reads := [] }))

/-- Mailboxes disabled, commands not taken discarded (R333); a HOPPER_RUN whose result goes to host memory is interrupted. -/
def detachMailboxes (s : State) : State :=
  State.each (fun m s => s.onMbx m (fun b => { b with en := false, shadowEn := false, cmdProd := b.cmdCons })) (List.range 64) s

/-- Commands taken that would move data to host memory complete with INTERRUPTED (R311). -/
def interruptHost (s : State) : State :=
  match s.mem.hop with
  | some r =>
    match heldCmd s r.mailbox with
    | some c =>
      if bufferHost c.resLocal c.resAddr c.resLen then respond c { status := .interrupted } (s.onMem (fun m => { m with hop := none })) else s
    | none => s
  | none => s

/-- The registers that a host loss resets: configuration space and MSI-X, but on entry to D3hot (No_Soft_Reset), and the
flush and fence unit but FNC_BAR2_BASE and FNC_HOST_LAT. -/
def detachHost (cause : DetachCause) (h : HostLink) : HostLink :=
  let h := { h with detached := true, segs := h.segs.map (fun kv => (kv.1, { kv.2 with en := false }))
                    doneFailed := h.doneFailed || !h.fences.isEmpty, fences := [] }
  let h := if cause = .dlDown ∨ cause = .perst then { h with speed := 0, width := 0, flit := false, slow := false } else h
  if cause = .d3hot then h
  else { h with cfg := [], memEn := false, msix := [], pba := [], mps := 0, mrrs := 2, roEn := false, bar2Gib := 16 }

/-- Segments with no field set are not listed. -/
def tidySegs (h : HostLink) : HostLink := { h with segs := h.segs.filter (fun kv => kv.2 != ({} : Seg)) }

/-- A pending UNPARK gives way to a later PARK (R328). -/
def dropUnpark : State → State :=
  State.onSch (fun c => { c with latches := c.latches.filter (fun l => l.what != .unpark) })

/-- The module parks at the next boundary, or at once when no bundle is active (R311, R327). -/
def parkFor (cause : Nat) (s : State) : State :=
  let s := dropUnpark (s.onMst (fun m => { m with unparkPending := false }))
  match s.mst.mode with
  | .running => s.onMst (fun m => { m with parkWhy := cause })
  | .hold =>
    if s.hasBundle then s.onMst (fun m => { m with parkWhy := cause })
    else s.onMst (fun m => { m with heldFrom := .parked, parkCause := cause })
  | .ready => s.onMst (fun m => { m with mode := .parked, parkCause := cause })
  | _ => s

/-- Becoming host-detached: the responses of interrupted commands are written with the mailboxes disabled, so that no message and no
shadow word goes out for them. -/
def detach (cause : DetachCause) (s : State) : State :=
  let t := s.onHost (fun h => tidySegs (detachHost cause h))
  let t := interruptHost (detachMailboxes t)
  let t := caskHostLoss (dropReads t)
  announce s (parkFor 2 (event 6 0 0x75 [detachCode cause] t))

/-- HOST_DETACH (R311). A module already detached stays so. -/
def execHostDetach (cause : DetachCause) (s : State) : Host.Outcome State Fault Refusal :=
  .next (if s.host.detached then s else detach cause s)

/-! ### Configuration space (R294, R347; the places of its registers are PRESUMED, log 13) -/

/-- The other capabilities of Table 12.1, each with the place of the next: Secondary PCI Express, Data Link Feature, Physical Layer 16.0,
32.0 and 64.0 GT/s, and Lane Margining at the Receiver. -/
def capHeaders : List (Nat × Nat) :=
  [(0x170, 0x1A010019), (0x1A0, 0x1B010025), (0x1B0, 0x1E010026), (0x1E0, 0x21010027), (0x210, 0x2501002A), (0x250, 0x00010031)]

/-- A configuration register. -/
def cfgRead (s : State) (reg : Nat) : Nat :=
  let h := s.host
  let w := h.cfg.get 0 reg
  if reg = 0x00 then 0x0A095651
  else if reg = 0x04 then 2 * b2n h.memEn + (w &&& 0x4) + 2 ^ 20
  else if reg = 0x10 then (w &&& 0xFC000000) + 4
  else if reg = 0x14 then w
  else if reg = 0x18 then (w - w % min (2 ^ 32) (h.bar2Gib * 2 ^ 30)) + 12
  else if reg = 0x1C then (if h.bar2Gib ≤ 4 then w else w - w % (h.bar2Gib / 4))
  else if reg = 0x34 then 0x40
  else if reg = 0x3C then w % 256
  else if reg = 0x40 then 0x5001
  else if reg = 0x44 then w % 4 + 8
  else if reg = 0x50 then 0x00FF7011 + (w &&& 0xC0000000)
  else if reg = 0x54 then 0x400000
  else if reg = 0x58 then 0x401000
  else if reg = 0x70 then 0x00020010
  else if reg = 0x74 then 0x10008022
  else if reg = 0x78 then 16 * b2n h.roEn + 32 * h.mps + 4096 * h.mrrs
  else if reg = 0x7C then 0x106
  else if reg = 0x80 then 2 ^ 16 * h.speed + 2 ^ 20 * h.width
  else if reg = 0x94 then 0x0003000F
  else if reg = 0x98 then w &&& 0x100F
  else if reg = 0x100 then 0x14820001
  else if reg = 0x104 then w
  else if reg = 0x148 then 0x15810003
  else if reg = 0x14C then s.fuses.serial % 2 ^ 32
  else if reg = 0x150 then s.fuses.serial / 2 ^ 32
  else if 0x11C ≤ reg ∧ reg < 0x12C then w
  else if reg = 0x158 then 0x17010015
  else if reg = 0x15C then 0x000FF000
  else if reg = 0x160 then 2 + 32 + 2 ^ 8 * (Nat.log2 h.bar2Gib + 10)
  else ((capHeaders.find? (fun c => c.1 == reg)).map (·.2)).getD 0

/-- A configuration register written. -/
def cfgWrite (reg v : Nat) (s : State) : State :=
  let put (x : Nat) : State := s.onHost (fun h => { h with cfg := h.cfg.set 0 reg x })
  if reg = 0x04 then (put (v &&& 4)).onHost (fun h => { h with memEn := natBit 1 v })
  else if reg = 0x10 then put (v &&& 0xFC000000)
  else if reg = 0x14 ∨ reg = 0x18 ∨ reg = 0x1C then put v
  else if reg = 0x3C then put (v % 256)
  else if reg = 0x44 then
    let t := put (v % 4)
    if v % 4 = 3 && !s.host.detached then detach .d3hot t else t
  else if reg = 0x50 then put (v &&& 0xC0000000)
  else if reg = 0x78 then
    let t := s.onHost (fun h => { h with roEn := natBit 4 v, mps := if natBits 7 5 v ≤ 2 then natBits 7 5 v else h.mps
                                         mrrs := if natBits 14 12 v ≤ 5 then natBits 14 12 v else h.mrrs })
    if natBit 15 v && !s.host.detached then detach .flr t else t
  else if reg = 0x98 then put (v &&& 0x100F)
  else if reg = 0x104 then put (s.host.cfg.get 0 reg - (s.host.cfg.get 0 reg &&& v))
  else if reg = 0x160 then
    let n := natBits 13 8 v
    if !s.host.memEn && decide (10 ≤ n) && decide (n ≤ 17) then s.onHost (fun h => { h with bar2Gib := 2 ^ (n - 10) }) else s
  else s

/-- Until the end of start stage 2 configuration requests complete with Request Retry Status (R347). -/
def retrying (s : State) : Bool := s.mst.mode == .starting && decide (s.fw.stage ≤ 2)

/-- CONFIG_REQUEST. -/
def execConfigRequest (write : Bool) (reg : BitVec 12) (v : BitVec 32) (s : State) : Host.Outcome State Fault Refusal :=
  let r := reg.toNat / 4 * 4
  .next (if retrying s then { s with ret := { status := 2 } }
    else if write then { cfgWrite r v.toNat s with ret := {} }
    else { s with ret := { data := leBytes 4 (cfgRead s r) } })

end Sys2Proof.Machine
end

