-- ==== Sys2Proof/Machine/Granary.lean ====
section
/-! DEFINITION. Embedding tables: records and homes, the Granary directory, versions, replicas, and the table commands
(R149 to R153, R158 to R164, R170 to R177). -/

namespace Sys2Proof.Machine

/-! ### Tables and records (R149 to R153) -/

/-- Table t. -/
def State.table (s : State) (t : Nat) : Option Table := s.grn.tables.get none t

/-- Table t changed. -/
def State.onTable (t : Nat) (f : Table → Table) : State → State :=
  State.onGrn (fun g => { g with tables := match g.tables.get none t with
                                           | some x => g.tables.set none t (some (f x))
                                           | none => g.tables })

/-- A counter of Table 07.7 advanced. -/
def countGrn (t i n : Nat) : State → State :=
  State.onGrn (fun g => { g with counts := g.counts.modify 0 (32 * t + i) (fun c => sat48 (c + n)) })

/-- An event of group 10 (R177): the table, the step and what it concerns. -/
def grnEvent (b t x : Nat) (s : State) : State := event 10 b 0x72 [t, s.sch.step, x] s

/-- The working-weight format. -/
def Table.fmt (tb : Table) : Fmt := if tb.wfmt = 1 then .bf16 else .bx12

/-- Bytes of a row's working weights. -/
def Table.wBytes (tb : Table) : Nat := tb.fmt.bytesFor tb.dim

/-- Bytes of a record (R152). -/
def Table.recLen (tb : Table) : Nat := 16 + tb.wBytes + tb.dim

/-- Sr: the record stride. -/
def Table.sr (tb : Table) : Nat := ceilDiv tb.recLen 32 * 32

/-- Records of a granule (R153). -/
def Table.per (tb : Table) : Nat := 65536 / tb.sr

/-- Shard of a row. -/
def Table.shard (tb : Table) (r : Nat) : Nat := r / 2 ^ tb.shift

/-- OWNER of a shard. -/
def Table.owner (tb : Table) (sh : Nat) : Nat := tb.map.get 0 sh % 2 ^ 15

/-- MOVING of a shard. -/
def Table.moving (tb : Table) (sh : Nat) : Bool := natBit 15 (tb.map.get 0 sh)

/-- SLOT of a shard. -/
def Table.slot (tb : Table) (sh : Nat) : Nat := natBits 31 16 (tb.map.get 0 sh)

/-- NEW_OWNER of a shard. -/
def Table.newOwner (tb : Table) (sh : Nat) : Nat := natBits 46 32 (tb.map.get 0 sh)

/-- NEW_SLOT of a shard. -/
def Table.newSlot (tb : Table) (sh : Nat) : Nat := natBits 63 48 (tb.map.get 0 sh)

/-- Shards of a table. -/
def Table.shards (tb : Table) : Nat := ceilDiv tb.rows (2 ^ tb.shift)

/-- The row is a row of the table that this module owns (R151). -/
def Table.owns (tb : Table) (r : Nat) : Bool := decide (r < tb.rows) && tb.owner (tb.shard r) == tb.self

/-- Local index of a row in the home, at a local shard slot. -/
def Table.localAt (tb : Table) (slot r : Nat) : Nat := slot * 2 ^ tb.shift + r % 2 ^ tb.shift

/-- Local index of an owned row. -/
def Table.localOf (tb : Table) (r : Nat) : Nat := tb.localAt (tb.slot (tb.shard r)) r

/-- The row whose record a local index holds, if any. -/
def Table.rowAt (tb : Table) (l : Nat) : Option Nat :=
  ((List.range tb.shards).find? (fun sh => tb.owner sh == tb.self && tb.slot sh == l / 2 ^ tb.shift)).bind
    (fun sh => let r := sh * 2 ^ tb.shift + l % 2 ^ tb.shift; if r < tb.rows then some r else none)

/-- The base of an object, 0 when it does not exist. -/
def objBase (s : State) (id : Nat) : Nat := ((s.mem.objs.get none id).map Obj.base).getD 0

/-- HOME_BASE of a version slot. -/
def homeBase (s : State) (tb : Table) (v : Nat) : Nat := objBase s (tb.homes.get 0 v)

/-- home_address of R153. -/
def homeAddr (s : State) (tb : Table) (v l : Nat) : Nat := homeBase s tb v + l / tb.per * 0x10000 + l % tb.per * tb.sr

/-- Base of the metadata object's slot table of a step (R149). -/
def slotTable (s : State) (tb : Table) (step : Nat) : Nat := objBase s tb.metaObj + step % 2 * tb.accRows * 16

/-- The address of a slot entry (Table 07.4). -/
def slotEntry (s : State) (tb : Table) (step slot : Nat) : Nat := slotTable s tb step + 16 * slot

/-- The address of candidate i (R170). -/
def hotEntry (s : State) (tb : Table) (i : Nat) : Nat := objBase s tb.metaObj + 2 * tb.accRows * 16 + 16 * i

/-- The window of an accumulator slot's element (R156). -/
def accWindow (s : State) (tb : Table) (step slot e : Nat) : Nat :=
  objBase s tb.accObj + ((step % 2 * tb.accRows + slot) * tb.dim + e) * 16

/-- The window of a replica record position's element (R149). -/
def repWindow (s : State) (tb : Table) (pos e : Nat) : Nat :=
  objBase s tb.accObj + ((2 * tb.accRows + pos) * tb.dim + e) * 16

/-- The position of the learned default row in the replica object. -/
def defaultPos : Nat := 65536

/-- A replica record position's address (R149). -/
def repAddr (s : State) (tb : Table) (pos : Nat) : Nat := objBase s tb.repObj + 65536 * 8 + pos * tb.sr

/-! ### The directory (R158 to R164) -/

/-- Sets of the directory. -/
def dirSets (s : State) : Nat := s.mem.parts.headD 0 * 256

/-- The set of a granule (R158). -/
def dirSet (s : State) (t v g : Nat) : Nat :=
  mix64 (((t <<< 32) ||| (v <<< 31) ||| g) + 0x9E3779B97F4A7C15) / 2 ^ (64 - Nat.log2 (dirSets s))

/-- Entry e. -/
def dirEntry (s : State) (e : Nat) : DirEntry := s.grn.dir.get {} e

/-- Entry e changed. -/
def onDir (e : Nat) (f : DirEntry → DirEntry) : State → State := State.onGrn (fun g => { g with dir := g.dir.modify {} e f })

/-- The address of way e. -/
def wayAddr (e : Nat) : Nat := e * 0x10000

/-- The ways of a set. -/
def setWays (set : Nat) : List Nat := (List.range 64).map (fun w => set * 64 + w)

/-- The way that holds a granule of a version slot. -/
def findWay (s : State) (t v g : Nat) : Option Nat :=
  if s.mem.parts.isEmpty then none
  else (setWays (dirSet s t v g)).find? (fun e =>
    let d := dirEntry s e
    d.state != 0 && d.table == t && d.granule == g && d.vslot == v)

/-- The current aging period A (R160). -/
def agePeriod (s : State) : Nat := s.sch.step / max 1 s.body.ageSteps

/-- The effective FREQ. -/
def effFreq (a : Nat) (d : DirEntry) : Nat := d.freq >>> min 8 ((a + 16 - d.age % 16) % 16)

/-- An entry brought up to date. -/
def DirEntry.aged (a : Nat) (d : DirEntry) : DirEntry := { d with freq := effFreq a d, age := a % 16 }

/-- The way of a list with the lowest effective FREQ, the lower way at ties. -/
def coldest (s : State) (ws : List Nat) : Option Nat :=
  ws.foldl (fun b e => match b with
    | none => some e
    | some x => if effFreq (agePeriod s) (dirEntry s e) < effFreq (agePeriod s) (dirEntry s x) then some e else some x) none

/-- The way a new granule takes in its set, and whether it is a forced displacement (R161); ways being withdrawn are never
chosen (R365). -/
def chooseWay (s : State) (set : Nat) : Option (Nat × Bool) :=
  let ws := (setWays set).filter (fun e => !s.grn.ways.get false e)
  match ws.find? (fun e => (dirEntry s e).state == 0) with
  | some e => some (e, false)
  | none =>
    match coldest s (ws.filter (fun e => (dirEntry s e).state == 1 && (dirEntry s e).pin == 0)) with
    | some e => some (e, false)
    | none => (coldest s (ws.filter (fun e => (dirEntry s e).state == 2 && (dirEntry s e).pin == 0))).map (fun e => (e, true))

/-- Bytes copied from one place to another with their poison. -/
def copyBytes (req src dst n : Nat) (s : State) : State × Bool :=
  let r := devRead req .none src n s
  let t := devWrite req .none dst r.2.1 r.1
  (if r.2.2 then poisonRange req dst n t else t, r.2.2)

/-- Bytes copied Kiln block by Kiln block, so that poison stays with its block. -/
def copyBlocks (req src dst n : Nat) (s : State) : State :=
  State.each (fun j s => (copyBytes req (src + 512 * j) (dst + 512 * j) 512 s).1) (List.range (n / 512)) s

/-- Every valid sector of a dirty way written back to its home (R159). -/
def writeBackWay (e : Nat) (s : State) : State :=
  let d := dirEntry s e
  match s.table d.table with
  | none => s
  | some tb =>
    if d.dirty then
      State.each (fun i s =>
        if natBit i d.valid then
          countGrn d.table 4 1 (copyBlocks reqGranary (wayAddr e + 2048 * i)
            (homeBase s tb d.vslot + d.granule * 0x10000 + 2048 * i) 2048 s)
        else s) (List.range 32) s
    else s

/-- A way emptied: written back, then INVALID. -/
def emptyWay (e : Nat) (s : State) : State :=
  (writeBackWay e s).onGrn (fun g => { g with dir := g.dir.set {} e {} })

/-- A PIN bit of a way cleared and counted (R162). -/
def unpin (b e : Nat) (s : State) : State :=
  let d := dirEntry s e
  if natBit b d.pin then
    countGrn d.table 16 1 ((onDir e (fun d => { d with pin := d.pin - 2 ^ b }) s).onGrn (fun g => { g with released := g.released.modify 0 b (· + 1) }))
  else s

/-- An entry invalidated without write-back; a pin it still holds is released with it. -/
def dropWay (e : Nat) (s : State) : State := (unpin 1 e (unpin 0 e s)).onGrn (fun g => { g with dir := g.dir.set {} e {} })

/-- A record at an address was read poisoned: the entry of the way that holds it says so (R164). -/
def poisonWay (t a : Nat) (s : State) : State :=
  let e := a / 0x10000
  if inPart s 0 a 1 && (dirEntry s e).state != 0 && (dirEntry s e).table == t then onDir e (fun d => { d with poison := true }) s else s

/-- A new granule placed in its set as TRANSIT with FREQ 1: the way, or none when every way is pinned (R161, R163). -/
def placeGranule (t v g : Nat) (s : State) : State × Option Nat :=
  match chooseWay s (dirSet s t v g) with
  | none => (s, none)
  | some (e, forced) =>
    let s := emptyWay e s
    let s := if forced then countGrn t 6 1 s else s
    (s.onGrn (fun x => { x with dir := x.dir.set {} e { table := t, granule := g, state := 1, freq := 1, age := agePeriod s % 16, vslot := v } }), some e)

/-- The sectors of a granule that a record covers. -/
def recSectors (tb : Table) (l : Nat) : List Nat :=
  let o := l % tb.per * tb.sr
  let a := o / 2048
  let b := (o + tb.recLen - 1) / 2048
  if a = b then [a] else [a, b]

/-- Where a record's bytes stand now: address and length of each piece, in the way where its sector is valid, else in the
home. -/
def recPieces (s : State) (t : Nat) (tb : Table) (v l n : Nat) : List (Nat × Nat) :=
  let o := l % tb.per * tb.sr
  match findWay s t v (l / tb.per) with
  | none => [(homeAddr s tb v l, n)]
  | some e =>
    (pieces 2048 3 o n).map (fun x =>
      if natBit (x.1 / 2048) (dirEntry s e).valid then (wayAddr e + x.1, x.2)
      else (homeBase s tb v + l / tb.per * 0x10000 + x.1, x.2))

/-- Pieces read. -/
def piecesRead (req : Nat) : List (Nat × Nat) → State → State × List Byte × Bool
  | [], s => (s, [], false)
  | (a, n) :: ls, s =>
    let r := devRead req .none a n s
    let q := piecesRead req ls r.1
    (q.1, r.2.1 ++ q.2.1, r.2.2 || q.2.2)

/-- A record of an owned row read through the Granary: state, bytes, poison. -/
def recRead (t : Nat) (tb : Table) (v l : Nat) (s : State) : State × List Byte × Bool :=
  piecesRead reqGranary (recPieces s t tb v l tb.recLen) s

/-- Pieces written. -/
def piecesWrite (req : Nat) : List (Nat × Nat) → List Byte → State → State
  | [], _, s => s
  | (a, n) :: ls, bs, s => piecesWrite req ls (bs.drop n) (devWrite req .none a (bs.take n) s)

/-- A record written where it stands: in the way, which becomes DIRTY, or in the home. -/
def recWrite (t : Nat) (tb : Table) (v l : Nat) (bs : List Byte) (s : State) : State :=
  let s' := piecesWrite reqGranary (recPieces s t tb v l tb.recLen) bs s
  match findWay s t v (l / tb.per) with
  | some e => if (recSectors tb l).any (fun i => natBit i (dirEntry s e).valid) then onDir e (fun d => { d with dirty := true }) s' else s'
  | none => s'

/-! ### Record headers (Table 07.3) -/

/-- STEP. -/
def recStep (bs : List Byte) : Nat := leAt bs 0 4

/-- A record's VSLOT, DEFROW and REPLICA bits set. -/
def recFlags (v : Nat) (defrow replica : Bool) (bs : List Byte) : List Byte :=
  bs.take 13 ++ [BitVec.ofNat 8 (v + 2 * b2n defrow + 4 * b2n replica)] ++ bs.drop 14

/-- The replica position of a row: a replicated row's place in the list, or the default row's. -/
def Table.repPos (tb : Table) (r : Nat) : Option Nat :=
  if r = tb.rows then (if tb.learned then some defaultPos else none) else tb.reps.findIdx? (· == r)

/-! ### Versions and replicas at a boundary (R172, R173) -/

/-- Rows of two ascending lists merged. -/
def mergeRows (xs ys : List Nat) : List Nat := ((xs ++ ys).mergeSort (fun a b => decide (a ≤ b)))

/-- Shard map entries with MOVING set (R289). -/
def markMoving (es : List (Nat × Nat × Nat)) (m : Tab Nat) : Tab Nat :=
  es.foldl (fun m e => m.modify 0 e.1 (fun v => v % 2 ^ 15 + 2 ^ 15 + natBits 31 16 v * 2 ^ 16 + e.2.1 * 2 ^ 32 + e.2.2 * 2 ^ 48)) m

/-- Shard map entries with MOVING cleared (R291). -/
def clearMoving (shs : List Nat) (m : Tab Nat) : Tab Nat :=
  shs.foldl (fun m sh => m.modify 0 sh (fun v => v % 2 ^ 15 + natBits 31 16 v * 2 ^ 16)) m

/-- The entries of moving shards under the completion marker (R291). -/
def finishMoving (shs : List Nat) (m : Tab Nat) : Tab Nat :=
  shs.foldl (fun m sh => m.modify 0 sh (fun v => if natBit 15 v then natBits 46 32 v + natBits 63 48 v * 2 ^ 16 else v)) m

/-- The moving shards of a table. -/
def Table.movingShards (tb : Table) : List Nat := (tb.map.filter (fun kv => natBit 15 kv.2)).map (·.1)

/-- What a latched command makes of a table's own description; its data follow at the boundary. -/
def Table.after (t : Nat) (w : LatchWhat) (tb : Table) : Table :=
  match w with
  | .version u => if u = t then { tb with cur := 1 - tb.cur, staged := false, committing := false } else tb
  | .replicate u rows => if u = t then { tb with reps := mergeRows tb.reps rows } else tb
  | .unreplicate u rows => if u = t then { tb with reps := tb.reps.filter (fun r => !rows.contains r) } else tb
  | .reshardStart u es => if u = t then { tb with map := markMoving es tb.map } else tb
  | .reshardCancel u shs => if u = t then { tb with map := clearMoving shs tb.map } else tb
  | .reshardDone u => if u = t then { tb with map := finishMoving tb.movingShards tb.map } else tb
  | _ => tb

/-- The table as the step in look-ahead sees it: with the look-ahead bound commands due at the boundary that opens it. -/
def nextTable (s : State) (t : Nat) (tb : Table) : Table :=
  (s.sch.latches.filter (fun l => l.look && l.due)).foldl (fun tb l => tb.after t l.what) tb

/-- The table with every accepted command. -/
def latestTable (s : State) (t : Nat) (tb : Table) : Table := s.sch.latches.foldl (fun tb l => tb.after t l.what) tb

/-- At the boundary the new slot becomes current: entries of the old one dropped, its home freed (R173). -/
def commitVersion (t : Nat) (s : State) : State :=
  match s.table t with
  | none => s
  | some tb =>
    let s := State.each (fun kv s => if kv.2.table == t && kv.2.vslot == tb.cur && kv.2.state != 0 then dropWay kv.1 s else s) s.grn.dir s
    let s := dropObj (tb.homes.get 0 tb.cur) s
    s.onTable t (fun tb => { tb with homes := tb.homes.set 0 tb.cur 0, cur := 1 - tb.cur, staged := false, committing := false })

/-- The replica object's list and records written for a new row list: each record's bytes, and whether they are poisoned (R164,
R172). -/
def putReplicas (tb : Table) (rows : List Nat) (recs : List (List Byte × Bool)) (s : State) : State :=
  State.each (fun x s =>
    let a := repAddr s tb x.1
    let s := devWrite reqGranary .none (objBase s tb.repObj + 8 * x.1) (leBytes 8 x.2.1) s
    let s := devWrite reqGranary .none a (recFlags tb.cur false true x.2.2.1) s
    if x.2.2.2 then poisonRange reqGranary a tb.recLen s else s) (List.zip (List.range rows.length) (List.zip rows recs)) s

/-- A replica record read: state, bytes, poison. -/
def repRead (tb : Table) (pos : Nat) (s : State) : State × List Byte × Bool := devRead reqGranary .none (repAddr s tb pos) tb.recLen s

/-- The record a row of a new replica list takes: its replica, this module's own current record, or the record of another owner,
which no command carries: a free value of the table, the row and the step (log 98). -/
def replicaSource (t : Nat) (tb : Table) (r : Nat) (s : State) : State × List Byte × Bool :=
  match tb.reps.findIdx? (· == r) with
  | some i => repRead tb i s
  | none => if tb.owns r then recRead t tb tb.cur (tb.localOf r) s else (s, padTo tb.recLen (Config.ownerRecord t r s.sch.step), false)

/-- The records of a new replica list. -/
def replicaSources (t : Nat) (tb : Table) : List Nat → State → State × List (List Byte × Bool)
  | [], s => (s, [])
  | r :: rs, s =>
    let a := replicaSource t tb r s
    let b := replicaSources t tb rs a.1
    (b.1, a.2 :: b.2)

/-- REPLICATE_ROWS at its boundary. -/
def addReplicas (t : Nat) (rows : List Nat) (s : State) : State :=
  match s.table t with
  | none => s
  | some tb =>
    let all := mergeRows tb.reps rows
    let q := replicaSources t tb all s
    (putReplicas tb all q.2 q.1).onTable t (fun tb => { tb with reps := all })

/-- The owner's record takes its replica, with its poison. -/
def homeReplica (t : Nat) (tb : Table) (r i : Nat) (s : State) : State :=
  let l := tb.localOf r
  let q := repRead tb i s
  let u := recWrite t tb tb.cur l (recFlags tb.cur false false q.2.1) q.1
  if q.2.2 then State.each (fun x s => poisonRange reqGranary x.1 x.2 s) (recPieces u t tb tb.cur l tb.recLen) u else u

/-- UNREPLICATE_ROWS at its boundary: the owner's record takes its replica. -/
def dropReplicas (t : Nat) (rows : List Nat) (s : State) : State :=
  match s.table t with
  | none => s
  | some tb =>
    let keep := tb.reps.filter (fun r => !rows.contains r)
    let q := replicaSources t tb keep s
    let s := State.each (fun r s =>
      match tb.reps.findIdx? (· == r) with
      | some i => if tb.owns r then homeReplica t tb r i s else s
      | none => s) rows q.1
    (putReplicas tb keep q.2 s).onTable t (fun tb => { tb with reps := keep })

/-! ### TABLE_CREATE -/

/-- A field of TABLE_CREATE outside Table 07.1, by its offset in ARGS. -/
def createBad (c : Cmd) : Option Nat :=
  if c.at_ 2 2 < 32 ∨ 256 < c.at_ 2 2 ∨ c.at_ 2 2 % 32 ≠ 0 then some 2
  else if c.at_ 4 1 ≠ 1 ∧ c.at_ 4 1 ≠ 3 then some 4
  else if 1 < c.at_ 5 1 then some 5
  else if c.at_ 6 1 < 10 ∨ 30 < c.at_ 6 1 then some 6
  else if c.at_ 8 6 = 0 ∨ 2 ^ 47 < c.at_ 8 6 ∨ 65536 < ceilDiv (c.at_ 8 6) (2 ^ c.at_ 6 1) then some 8
  else if 32767 < c.at_ 14 2 then some 14
  else if 63 < c.at_ 16 1 then some 16
  else if c.at_ 17 1 ≠ 1 ∧ c.at_ 17 1 ≠ 5 then some 17
  else if 32767 < c.at_ 18 2 then some 18
  else if c.at_ 24 4 = 0 ∨ 2 ^ 24 < c.at_ 24 4 then some 24
  else none

/-- A shard map entry TABLE_CREATE refuses: MOVING, NEW_OWNER, NEW_SLOT or bit 47 set, or a SLOT of SELF named before. -/
def mapBad (self : Nat) : List Nat → List Nat → Nat → Option Nat
  | [], _, _ => none
  | v :: vs, seen, i =>
    if natBit 15 v || v / 2 ^ 32 != 0 then some i
    else if v % 2 ^ 15 = self then
      if seen.contains (natBits 31 16 v) then some i else mapBad self vs (natBits 31 16 v :: seen) (i + 1)
    else mapBad self vs seen (i + 1)

/-- The table a TABLE_CREATE defines, before its objects. -/
def createTable (c : Cmd) (map : List Nat) : Table :=
  let self := c.at_ 18 2
  let top := ((map.filter (fun v => v % 2 ^ 15 == self)).map (fun v => natBits 31 16 v + 1)).foldl max 0
  { dim := c.at_ 2 2, wfmt := c.at_ 4 1, learned := c.at_ 5 1 == 1, shift := c.at_ 6 1, x := natSigned 8 (c.at_ 7 1)
    rows := c.at_ 8 6, coord := c.at_ 14 2, members := c.at_ 16 1, self := self, seed := c.at_ 20 4, accRows := c.at_ 24 4
    homeSlots := if c.at_ 28 2 = 0 then max 1 top else c.at_ 28 2
    map := (List.zip (List.range map.length) map).foldl (fun t x => t.set 0 x.1 x.2) [] }

/-- Bytes of a table's home (R149). -/
def homeBytes (tb : Table) : Nat := ceilDiv (tb.homeSlots * 2 ^ tb.shift) tb.per * 0x10000

/-- The four objects of a table placed, or none: home, metadata, accumulator, replica. -/
def placeTable (t part : Nat) (tb : Table) (s : State) : Option (State × Table) :=
  (placeObj 7 (homeBytes tb) false 0 (some t) s).bind (fun h =>
    (placeObj part (2 * tb.accRows * 16 + 1024 * 16) false 0 (some t) h.1).bind (fun m =>
      (placeObj part ((2 * tb.accRows + 65537) * tb.dim * 16) true tb.x (some t) m.1).bind (fun a =>
        (placeObj 1 (65536 * 8 + 65537 * tb.sr) false 0 (some t) a.1).map (fun r =>
          (r.1, { tb with homes := [(0, h.2.1)], metaObj := m.2.1, accObj := a.2.1, repObj := r.2.1, region := a.2.2.2 })))))

/-- TABLE_CREATE (R149 to R151). -/
def execTableCreate (m : Fin 64) (s : State) : Host.Outcome State Fault Refusal :=
  .next (serveOp 0x0301 { fields := [(0, 30)], argOk := fun _ => true } m (fun c s =>
    let t := c.at_ 0 2
    if (s.table t).isSome then badField 0 s
    else
      match createBad c with
      | some o => badField o s
      | none =>
        let n := ceilDiv (c.at_ 8 6) (2 ^ c.at_ 6 1)
        if c.argLen ≠ 8 * n then refuse .badArgument s 16
        else
          let map := (List.range n).map (fun i => leAt c.arg (8 * i) 8)
          let tb := createTable c map
          match mapBad tb.self map [] 0 with
          | some i => badArgByte (8 * i) s
          | none =>
            if map.any (fun v => v % 2 ^ 15 == tb.self && decide (tb.homeSlots ≤ natBits 31 16 v)) then badField 28 s
            else
              match placeTable t (c.at_ 17 1) tb s with
              | none => refuse .refusedCapacity s
              | some (u, tb) =>
                let u := u.onGrn (fun g => { g with
                  tables := g.tables.set none t (some tb)
                  counts := g.counts.filter (fun kv => kv.1 / 32 != t) })
                okWith (leBytes 8 (homeBase u tb 0) ++ leBytes 8 (objBase u tb.accObj) ++ leBytes 8 (objBase u tb.metaObj)) u) s)

/-! ### TABLE_LOAD (R174, R352) -/

/-- A field of a range command that is wrong: the version slot, the mode or the rows. -/
def rangeBad (tb : Table) (c : Cmd) : Option (Nat × Status) :=
  if 1 < c.at_ 2 1 then some (34, .badArgument)
  else if 1 < c.at_ 3 1 then some (35, .badArgument)
  else if c.at_ 2 1 ≠ tb.cur ∧ !tb.staged then some (0, .notPresent)
  else if tb.rows + b2n tb.learned < c.at_ 8 6 + c.at_ 16 8 then some (40, .badArgument)
  else none

/-- The record that a loaded row takes. -/
def loadRec (tb : Table) (v : Nat) (full : Bool) (r : Nat) (bs : List Byte) : List Byte :=
  let isDef := decide (r = tb.rows)
  recFlags v isDef isDef (if full then bs.take tb.recLen else zeros 16 ++ slice bs 16 tb.wBytes ++ zeros tb.dim)

/-- The first supplied record that FULL mode refuses: reserved header bits, or a STEP above the running step (R12, R174). -/
def loadBad (s : State) (tb : Table) (c : Cmd) : Option Nat :=
  (List.range (c.at_ 16 8)).findSome? (fun i =>
    let o := i * tb.sr
    if leAt c.arg (o + 13) 3 / 8 ≠ 0 then some (o + 13)
    else if s.hasBundle && decide (s.sch.step < leAt c.arg o 4) then some o
    else none)

/-- A poisoned Kiln block of a home is written whole when every record in it has been loaded (R174). -/
def clearLoaded (tb : Table) (v : Nat) (rows : List Nat) (s : State) : State :=
  let base := homeBase s tb v
  let size := homeBytes tb
  State.each (fun kv s =>
    let a := cellarBase + kv.1 * 512
    if base ≤ a ∧ a < base + size then
      let g := (a - base) / 0x10000
      let o := (a - base) % 0x10000
      let ls := (List.range tb.per).filter (fun j => decide (j * tb.sr < o + 512) && decide (o < j * tb.sr + tb.recLen))
      let held := ls.filterMap (fun j => (tb.rowAt (g * tb.per + j)).map (fun r => (j, r)))
      if held.any (fun x => rows.contains x.2) && held.all (fun x => rows.contains x.2) then
        let keep (i : Nat) : Bool := held.any (fun x => decide (x.1 * tb.sr ≤ o + i) && decide (o + i < x.1 * tb.sr + tb.recLen))
        let bs := (List.range 512).map (fun i => if keep i then rawByte s (a + i) else 0)
        devWrite reqGranary .none a bs s
      else s
    else s) s.mem.kilnPoison s

/-- TABLE_LOAD. -/
def execTableLoad (m : Fin 64) (s : State) : Host.Outcome State Fault Refusal :=
  .next (serveOp 0x0302 { fields := [(0, 4), (8, 6), (16, 8)], argOk := fun _ => true } m (fun c s =>
    match s.table (c.at_ 0 2) with
    | none => refuse .notPresent s
    | some tb =>
      let t := c.at_ 0 2
      let v := c.at_ 2 1
      let full := c.at_ 3 1 == 1
      match rangeBad tb c with
      | some (d, st) => refuse st s d
      | none =>
        if c.argLen ≠ c.at_ 16 8 * tb.sr then refuse .badArgument s 16
        else if v = tb.cur && s.hasBundle && !parked s then refuse .refusedMode s
        else
          match (if full then loadBad s tb c else none) with
          | some o => badArgByte o s
          | none =>
            let rows := ((List.range (c.at_ 16 8)).map (fun i => (c.at_ 8 6 + i, i))).filter (fun x => tb.owns x.1 || x.1 == tb.rows)
            let u := State.each (fun x s =>
              let bs := loadRec tb v full x.1 (slice c.arg (x.2 * tb.sr) tb.sr)
              if x.1 = tb.rows then devWrite reqGranary .none (repAddr s tb defaultPos) bs s
              else
                let s := devWrite reqGranary .none (homeAddr s tb v (tb.localOf x.1)) bs s
                match findWay s t v (tb.localOf x.1 / tb.per) with
                | some e => dropWay e s
                | none => s) rows s
            let u := clearLoaded tb v (rows.map (·.1)) u
            let top := if full && !s.hasBundle then (rows.map (fun x => leAt c.arg (x.2 * tb.sr) 4)).foldl max 0 else 0
            okWith (leBytes 8 rows.length) (u.onSch (fun k => { k with restore := max k.restore top }))) s)

/-! ### TABLE_EXPORT (R175) -/

/-- One row exported: its record at stride Sr, or zeros; the flag tells a poisoned record. A replicated row's current record is its
replica until UNREPLICATE_ROWS overwrites the owner's (R172): it is exported from there, with REPLICA clear (DEDUCED, log 60). -/
def exportRow (t : Nat) (tb : Table) (v r : Nat) (s : State) : State × List Byte × Bool :=
  let out (q : State × List Byte × Bool) : State × List Byte × Bool :=
    if q.2.2 then (grnEvent 2 t r (countGrn t 14 1 q.1), zeros tb.sr, true) else (q.1, padTo tb.sr (q.2.1.take tb.recLen), false)
  if r = tb.rows then out (devRead reqGranary .none (repAddr s tb defaultPos) tb.recLen s)
  else if tb.owns r then
    match (if v = tb.cur then tb.reps.findIdx? (· == r) else none) with
    | some i => let q := repRead tb i s; out (q.1, recFlags v false false q.2.1, q.2.2)
    | none => out (recRead t tb v (tb.localOf r) s)
  else (s, zeros tb.sr, false)

/-- Rows exported: bytes and the number of poisoned records. -/
def exportRows (t : Nat) (tb : Table) (v : Nat) : List Nat → State → State × List Byte × Nat
  | [], s => (s, [], 0)
  | r :: rs, s =>
    let a := exportRow t tb v r s
    let b := exportRows t tb v rs a.1
    (b.1, a.2.1 ++ b.2.1, b2n a.2.2 + b.2.2)

/-- The export header (Table 07.6). -/
def exportHeader (s : State) (c : Cmd) (tb : Table) : List Byte :=
  padTo 64 (slice c.slot 32 2 ++ slice c.slot 34 2 ++ leBytes 2 tb.dim ++ leBytes 1 tb.wfmt ++ zeros 1 ++ leBytes 2 tb.sr
    ++ slice c.slot 40 6 ++ leBytes 6 (c.at_ 16 8) ++ zeros 2 ++ leBytes 4 s.sch.step)

/-- TABLE_EXPORT. -/
def execTableExport (m : Fin 64) (s : State) : Host.Outcome State Fault Refusal :=
  .next (serveOp 0x0305 { fields := [(0, 4), (8, 6), (16, 8)], hasRes := true } m (fun c s =>
    match s.table (c.at_ 0 2) with
    | none => refuse .notPresent s
    | some tb =>
      match rangeBad tb c with
      | some (d, st) => refuse st s d
      | none =>
        if c.at_ 3 1 = 0 && s.hasBundle && !parked s then refuse .refusedMode s
        else if !fits c (64 + c.at_ 16 8 * tb.sr) then tooSmall s
        else
          let r := exportRows (c.at_ 0 2) tb (c.at_ 2 1) ((List.range (c.at_ 16 8)).map (c.at_ 8 6 + ·)) s
          .reply { status := .ok, detail := r.2.2, res := exportHeader s c tb ++ r.2.1 } r.1) s)

/-! ### Versions (R173) -/

/-- The rows a module owns. -/
def ownedRows (tb : Table) : List Nat := (List.range tb.rows).filter tb.owns

/-- One record copied to the other version slot. -/
def copyRec (t : Nat) (tb : Table) (r : Nat) (s : State) : State :=
  let l := tb.localOf r
  let q := recRead t tb tb.cur l s
  let a := homeAddr s tb (1 - tb.cur) l
  let u := devWrite reqGranary .none a (recFlags (1 - tb.cur) false false q.2.1) q.1
  if q.2.2 then poisonRange reqGranary a tb.recLen u else u

/-- TABLE_STAGE_VERSION. -/
def execTableStageVersion (m : Fin 64) (s : State) : Host.Outcome State Fault Refusal :=
  .next (serveOp 0x0303 { fields := [(0, 3)] } m (fun c s =>
    match s.table (c.at_ 0 2) with
    | none => refuse .notPresent s
    | some tb =>
      if 2 < c.at_ 2 1 then badField 2 s
      else if tb.staged || tb.committing then refuse .refusedMode s
      else
        match placeObj 7 (homeBytes tb) false 0 (some (c.at_ 0 2)) s with
        | none => refuse .refusedCapacity s
        | some (u, id, a, _) =>
          let tb2 := { tb with homes := tb.homes.set 0 (1 - tb.cur) id, staged := true }
          let u := u.onTable (c.at_ 0 2) (fun _ => tb2)
          let u := if c.at_ 2 1 = 0 then State.each (copyRec (c.at_ 0 2) tb2) (ownedRows tb2) u
            else if c.at_ 2 1 = 1 then u.onMem (fun x => zeroWhere (fun b => decide (a ≤ b) && decide (b < a + homeBytes tb)) x)
            else u
          okWith (leBytes 1 (1 - tb.cur)) u) s)

/-! ### Coordinated table commands (R171) -/

/-- A coordinated command that has passed its checks arrives at the table's coordination tally and waits. -/
def coordinate (c : Cmd) (fid : Nat) (s : State) : CmdOut := holdFor c fid (tallyOwn fid [] s)

/-- The checks every coordinated table command begins with. -/
def coordCheck (c : Cmd) (s : State) (k : Table → CmdOut) : CmdOut :=
  match s.table (c.at_ 0 2) with
  | none => refuse .notPresent s
  | some tb =>
    if tableBusy s c.m (c.at_ 0 2) then refuse .busy s
    else if c.at_ 4 4 ≠ (tb.gen + 1) % 2 ^ 32 then badField 4 s
    else k tb

/-- TABLE_COMMIT_VERSION. -/
def execTableCommitVersion (m : Fin 64) (s : State) : Host.Outcome State Fault Refusal :=
  .next (serveOp 0x0304 { fields := [(0, 2), (4, 4)] } m (fun c s =>
    coordCheck c s (fun tb => if !tb.staged || tb.committing then refuse .refusedMode s else coordinate c tb.members s)) s)

/-- The row indices of an argument buffer. -/
def argRows (c : Cmd) : List Nat := (List.range (c.at_ 8 4)).map (fun i => leAt c.arg (8 * i) 8)

/-- The first row index that is out of order or outside the table. -/
def rowsBad (rows : Nat) : List Nat → Nat → Option Nat
  | [], _ => none
  | [x], i => if rows ≤ x then some i else none
  | x :: y :: xs, i => if rows ≤ x then some i else if y ≤ x then some (i + 1) else rowsBad rows (y :: xs) (i + 1)

/-- The checks of REPLICATE_ROWS (`add`) and UNREPLICATE_ROWS. R172 names no answer to an UNREPLICATE_ROWS of a row that is not
replicated: the model completes it with BAD_ARGUMENT (DESIGN CHOICE, log 96). -/
def replicaCheck (add : Bool) (c : Cmd) (s : State) : CmdOut :=
  coordCheck c s (fun tb =>
    if c.at_ 8 4 = 0 ∨ 65536 < c.at_ 8 4 then badField 8 s
    else if c.argLen ≠ 8 * c.at_ 8 4 then refuse .badArgument s 16
    else
      match rowsBad tb.rows (argRows c) 0 with
      | some i => badArgByte (8 * i) s
      | none =>
        let now := (latestTable s (c.at_ 0 2) tb).reps
        match (argRows c).findIdx? (fun r => now.contains r == add) with
        | some i => badArgByte (8 * i) s
        | none => if add && decide (65536 < now.length + c.at_ 8 4) then refuse .refusedCapacity s else coordinate c tb.members s)

/-- REPLICATE_ROWS (R172). -/
def execReplicateRows (m : Fin 64) (s : State) : Host.Outcome State Fault Refusal :=
  .next (serveOp 0x0306 { fields := [(0, 2), (4, 8)], argOk := fun _ => true } m (replicaCheck true) s)

/-- UNREPLICATE_ROWS (R172). -/
def execUnreplicateRows (m : Fin 64) (s : State) : Host.Outcome State Fault Refusal :=
  .next (serveOp 0x0307 { fields := [(0, 2), (4, 8)], argOk := fun _ => true } m (replicaCheck false) s)

/-- COORD_FAIL (R171): the member withdraws and changes nothing. -/
def execCoordFail (m : Fin 64) (s : State) : Host.Outcome State Fault Refusal :=
  .next (match (s.mbx m).coord, heldCmd s m with
    | some k, some c =>
      if c.op = 0x0304 ∨ c.op = 0x0306 ∨ c.op = 0x0307 ∨ c.op = 0x0505 then
        announce s (respond c { status := .interrupted } (grnEvent 6 (c.at_ 0 2) 0 (tallyWithdraw k.fid s)))
      else s
    | _, _ => s)

/-! ### GRANARY_STATS and the hot-row candidates (R170, R176) -/

/-- The candidates that hold a row: (row, count), by place. -/
def hotList (s : State) (tb : Table) : List (Nat × Nat) :=
  (List.range 1024).map (fun i => (rawNat s (hotEntry s tb i) 8, rawNat s (hotEntry s tb i + 8) 4))

/-- A candidate written. -/
def putHot (tb : Table) (i row count : Nat) (s : State) : State :=
  devWrite reqGranary .none (hotEntry s tb i) (leBytes 8 row ++ leBytes 4 count ++ zeros 4) s

/-- The candidates returned: count at least HOT_MIN, descending count, then ascending row; an empty place is none. -/
def hotChosen (s : State) (tb : Table) (lo : Nat) : List (Nat × Nat) :=
  ((hotList s tb).filter (fun x => decide (0 < x.2) && decide (lo ≤ x.2))).mergeSort
    (fun a b => decide (b.2 < a.2) || (a.2 == b.2 && decide (a.1 ≤ b.1)))

/-- GRANARY_STATS. -/
def execGranaryStats (m : Fin 64) (s : State) : Host.Outcome State Fault Refusal :=
  .next (serveOp 0x0308 { fields := [(0, 4)], hasRes := true } m (fun c s =>
    match s.table (c.at_ 0 2) with
    | none => refuse .notPresent s
    | some tb =>
      let hot := hotChosen s tb (c.at_ 2 2)
      let res := ((List.range 17).map (fun i => leBytes 8 (s.grn.counts.get 0 (32 * c.at_ 0 2 + i)))).flatten
        ++ (hot.map (fun x => leBytes 8 x.1 ++ leBytes 4 x.2 ++ zeros 4)).flatten
      if !fits c res.length then tooSmall s
      else .reply { status := .ok, inline := leBytes 4 hot.length, res := res } s) s)

/-- AGING_SWEEP (R160, R170): once per aging period every entry's FREQ is brought up to date and the candidates' counts are
halved. -/
def execAgingSweep (s : State) : Host.Outcome State Fault Refusal :=
  let a := agePeriod s
  .next (if a = s.grn.swept then s
    else
      let n := a - s.grn.swept
      let s := s.onGrn (fun g => { g with swept := a, dir := g.dir.map (fun kv => (kv.1, kv.2.aged a)) })
      let s := s.onGrn (fun g => { g with dir := g.dir.filter (fun kv => kv.2 != ({} : DirEntry)) })
      State.each (fun kv s =>
        match kv.2 with
        | none => s
        | some tb => State.each (fun x s => if x.2.2 = 0 then s else putHot tb x.1 x.2.1 (x.2.2 / 2 ^ n) s)
            (List.zip (List.range 1024) (hotList s tb)) s) s.grn.tables s)

end Sys2Proof.Machine
end

