-- ==== Sys2Proof/Machine/Lookup.lean ====
section
/-! DEFINITION. The Granary's work for a step: ingestion of the index batch (R154), resolution by the owner (R156, R157, R160 to
R163), sector fills (R159, R164), pooling (R165), gradient records (R167), and pins (R162). -/

namespace Sys2Proof.Machine

/-! ### What a table keeps of a step -/

/-- The entry of a table for a step. -/
def stepEntry (s : State) (t n : Nat) : TableStep := s.grn.steps.get {} (2 * t + n % 2)

/-- It changed. -/
def onStepEntry (t n : Nat) (f : TableStep → TableStep) : State → State :=
  State.onGrn (fun g => { g with steps := g.steps.modify {} (2 * t + n % 2) f })

/-- Windows of slots that the walk of an earlier step of this parity did not read are cleared before the half is used again
(R169). -/
def clearHalf (tb : Table) (e : TableStep) (s : State) : State :=
  State.each (fun k s =>
    if e.done.get false k then s
    else State.each (fun x s => tunClear reqGranary (accWindow s tb e.step k x) s) (List.range tb.dim) s) (List.range e.used) s

/-- The entry of a table for step n, opened when the step's look-ahead first meets it. -/
def openStep (t n : Nat) (s : State) : State :=
  match s.table t with
  | none => s
  | some tb =>
    let e := stepEntry s t n
    if e.step = n then s
    else (clearHalf tb e s).onGrn (fun g => { g with steps := g.steps.set {} (2 * t + n % 2) { step := n, vslot := (nextTable s t tb).cur } })

/-! ### Hot-row sampling (R170) -/

/-- A resolution sampled into the candidate list; the lowest place goes first among equal counts. -/
def sampleRow (tb : Table) (row n : Nat) (s : State) : State :=
  if mix64 (row + n) % 64 ≠ 0 then s
  else
    let hs := hotList s tb
    match hs.findIdx? (fun x => x.1 == row && decide (0 < x.2)) with
    | some i => putHot tb i row (min (2 ^ 32 - 1) ((hs.getD i (0, 0)).2 + 1)) s
    | none =>
      let lo := (hs.map (·.2)).foldl min (2 ^ 32)
      let i := (hs.findIdx? (fun x => x.2 == lo)).getD 0
      putHot tb i row (min (2 ^ 32 - 1) (lo + 1)) s

/-! ### Resolution by the owner -/

/-- A RESIDENT way's state is given to a TRANSIT one whose FREQ has grown (R161). -/
def promote (t set e : Nat) (s : State) : State :=
  let d := dirEntry s e
  let res := (setWays set).filter (fun w => (dirEntry s w).state == 2)
  if d.state ≠ 1 then s
  else if decide (res.length < 48) && decide (2 ≤ d.freq) then countGrn t 5 1 (onDir e (fun d => { d with state := 2 }) s)
  else
    match coldest s res with
    | some w =>
      if effFreq (agePeriod s) (dirEntry s w) < d.freq then
        countGrn t 5 1 (onDir w (fun d => { d with state := 1 }) (onDir e (fun d => { d with state := 2 }) s))
      else s
    | none => s

/-- A way pinned for a step; its pin is counted the first time (R162). -/
def pinWay (t e n : Nat) (s : State) : State :=
  let d := dirEntry s e
  let b := n % 2
  let s := onDir e (fun d => { d with last := n % 2 ^ 32 }) s
  if natBit b d.pin then s
  else countGrn t 15 1 ((onDir e (fun d => { d with pin := d.pin ||| 2 ^ b }) s).onGrn (fun g => { g with taken := g.taken.modify 0 b (· + 1) }))

/-- A resolution request into the granule of a local index: the way that holds it, none when its set has no way to give. -/
def resolveGranule (t : Nat) (tb : Table) (l n : Nat) (s : State) : State × Option Nat :=
  let g := l / tb.per
  match findWay s t tb.cur g with
  | some e =>
    let d := dirEntry s e
    let hit := (recSectors tb l).all (fun i => natBit i d.valid)
    let s := if hit then countGrn t (if d.state = 2 then 1 else 2) 1 s else s
    let s := onDir e (fun d => let d := d.aged (agePeriod s); { d with freq := min 255 (d.freq + 1) }) s
    (pinWay t e n (promote t (e / 64) e s), some e)
  | none =>
    let r := placeGranule t tb.cur g s
    match r.2 with
    | some e => (pinWay t e n r.1, some e)
    | none => (r.1, none)

/-- A slot entry of Table 07.4. -/
def slotWord (row : Nat) (touch poison : Bool) (addr : Nat) : Nat := row + 2 ^ 48 * b2n touch + 2 ^ 49 * b2n poison + 2 ^ 64 * addr

/-- A new slot's entry written to the slot table. -/
def putSlot (tb : Table) (n slot row addr : Nat) (s : State) : State :=
  devWrite reqGranary .none (slotEntry s tb n slot) (leBytes 16 (slotWord row false false addr)) s

/-- What an owner answers a request with: a handle, or OVER. -/
def answerSlot (slot : Option Nat) (s : State) : State :=
  match slot with
  | some k => { s with ret := { data := leBytes 4 k } }
  | none => { s with ret := { data := zeros 4, status := 3 } }

/-- A row that found no way: counted and set once for the row (R163). -/
def setFull (t n row : Nat) (s : State) : State :=
  grnEvent 0 t row (countGrn t 12 1 (onStepEntry t n (fun x => { x with full := x.full ++ [row] }) s))

/-- A row's resolution for step n, under the table as that step sees it. The first request of each requester is a resolution
request; a later one of the step receives the same handle (R157). A row that found no way is not placed later in the step: its
slot entry names its home (R163). -/
def resolveRow (t rank mb row : Nat) (s : State) : State :=
  let n := s.sch.step + 1
  match s.table t with
  | none => s
  | some tb0 =>
    let tb := nextTable s t tb0
    if !tb.owns row then s
    else
      let s := openStep t n s
      let e := stepEntry s t n
      let again := s.grn.served.any (fun x => x.1 == t && x.2.1 == rank && x.2.2.2 == row)
      let s := s.onGrn (fun g => { g with served := g.served ++ [(t, rank, mb, row)] })
      let l := tb.localOf row
      let k := e.slotOf.get 0 row
      if k ≠ 0 then
        if again then answerSlot (some (k - 1)) s
        else if e.full.contains row then answerSlot (some (k - 1)) (sampleRow tb row n s)
        else answerSlot (some (k - 1)) (sampleRow tb row n (resolveGranule t tb l n s).1)
      else if tb.accRows ≤ e.used then
        let s := if rank = s.rank then grnEvent 5 t row (countGrn t 11 1 s) else s
        answerSlot none s
      else
        let r := resolveGranule t tb l n s
        let addr := match r.2 with | some w => wayAddr w + l % tb.per * tb.sr | none => homeAddr s tb tb.cur l
        let s := putSlot tb n e.used row addr (countGrn t 0 1 r.1)
        let s := onStepEntry t n (fun x => { x with slotOf := x.slotOf.set 0 row (e.used + 1), used := e.used + 1 }) s
        let s := if r.2.isNone then setFull t n row s else s
        answerSlot (some e.used) (sampleRow tb row n s)

/-- The Granary resolves: the module issues work, or it is parked and the look-ahead of the step at which an accepted UNPARK
takes effect has begun (R328). -/
def grnIssues (s : State) : Bool :=
  issues s || (s.mst.mode == .parked && s.sch.latches.any (fun l => l.what == .unpark && l.due))

/-- The owner of a row this module asked for answered OVER: the row is mapped to the default row in every bag that names it,
and ACC_FULL is counted (R156). -/
def overRow (t row : Nat) (s : State) : State :=
  let fs := s.body.features
  let ofTable (k : Nat) : Bool := match fs[k % max 1 fs.length]? with | some d => d.table == t | none => false
  grnEvent 5 t row (countGrn t 11 1 (s.onGrn (fun g => { g with
    bagsNext := g.bagsNext.map (fun kv => (kv.1, if ofTable kv.1 then kv.2.map (fun p => if p = .row row then .dflt else p) else kv.2)) })))

/-- The key of a row's handle. -/
def handleKey (t row : Nat) : Nat := 2 ^ 48 * t + row

/-- A request at its row's owner, or the owner's answer at the requester, a handle or OVER (R156, R157). -/
def requestRow (t rank mb row : Nat) (answer : Option Nat) (s : State) : State :=
  match s.table t with
  | none => s
  | some tb =>
    if (nextTable s t tb).owns row then resolveRow t rank mb row s
    else if rank == s.rank && s.grn.asks.any (fun a => a.1 == t && a.2.2.2 == row) then
      match answer with
      | none => overRow t row s
      | some h => s.onGrn (fun g => { g with handlesNext := g.handlesNext.set 0 (handleKey t row) (h + 1) })
    else s

/-- RESOLUTION_REQUEST. -/
def execResolutionRequest (table : BitVec 16) (rank : BitVec 15) (micro : Nat) (row : BitVec 48) (answer : Option (BitVec 24)) (s : State) :
    Host.Outcome State Fault Refusal :=
  .next (if grnIssues s then requestRow table.toNat rank.toNat micro row.toNat (answer.map BitVec.toNat) s else s)

/-! ### Ingestion (R154) -/

/-- The staged batch's bytes from an offset. -/
def batchNat (s : State) (base off n : Nat) : Nat := rawNat s (base + off) n

/-- The bag of a sample and feature: its indices. -/
def batchBag (s : State) (base features smp f : Nat) : List Nat :=
  let bag := batchNat s base 8 8
  let idx := batchNat s base 16 8
  let a := batchNat s base (bag + 4 * (smp * features + f)) 4
  let b := batchNat s base (bag + 4 * (smp * features + f + 1)) 4
  (List.range (b - a)).map (fun i => batchNat s base (idx + 8 * (a + i)) 8 % 2 ^ 48)

/-- What ingestion carries. -/
structure Ingest where
  /-- state -/
  s : State
  /-- distinct rows asked: table, owner, micro-batch, row -/
  asks : List (Nat × Nat × Nat × Nat)
  /-- tables whose rows exceeded REQ_CAP -/
  capped : List Nat
  deriving Repr

/-- What the bundle gives a table and another module. -/
def pairOf (s : State) (t o : Nat) : Option PairDef :=
  (s.body.tablesF.find? (fun d => d.table == t)).bind (fun d => d.pairs.find? (fun p => p.rank == o))

/-- REQ_CAP of a table with this module as the requester and another as the owner; the bundle sizes no slots for a pair it does not
name. -/
def reqCap (s : State) (t o : Nat) : Nat := ((pairOf s t o).map PairDef.reqCap).getD 0

/-- One index of a bag after truncation (R154 steps 2 to 4). -/
def ingestIndex (rank t mb : Nat) (tb : Table) (r : Nat) (x : Ingest) : Ingest × BagPos :=
  if r = 0xFFFFFFFFFFFF then ({ x with s := countGrn t 9 1 x.s }, .dflt)
  else if tb.rows ≤ r then ({ x with s := countGrn t 10 1 x.s }, .dflt)
  else
    match tb.reps.findIdx? (· == r) with
    | some i => (x, .replica i)
    | none =>
      let o := tb.owner (tb.shard r)
      if x.asks.contains (t, o, mb, r) then (x, .row r)
      else if o ≠ rank ∧ reqCap x.s t o ≤ (x.asks.filter (fun a => a.1 == t && a.2.1 == o && a.2.2.1 == mb)).length then
        ({ x with s := countGrn t 8 1 x.s, capped := if x.capped.contains t then x.capped else x.capped ++ [t] }, .dflt)
      else ({ x with asks := x.asks ++ [(t, o, mb, r)] }, .row r)

/-- A bag's indices in order. -/
def ingestBag (rank t mb : Nat) (tb : Table) : List Nat → Ingest → Ingest × List BagPos
  | [], x => (x, [])
  | r :: rs, x =>
    let a := ingestIndex rank t mb tb r x
    let b := ingestBag rank t mb tb rs a.1
    (b.1, a.2 :: b.2)

/-- One bag of the batch. -/
def ingestOne (base smp f : Nat) (d : FeatureDef) (x : Ingest) : Ingest :=
  match x.s.table d.table with
  | none => x
  | some tb0 =>
    let tb := nextTable x.s d.table tb0
    let fs := x.s.body.features.length
    let all := batchBag x.s base fs smp f
    let x := if d.maxPool < all.length then { x with s := countGrn d.table 7 (all.length - d.maxPool) x.s } else x
    let r := ingestBag x.s.rank d.table (smp / max 1 x.s.body.micro) tb (all.take d.maxPool) x
    { r.1 with s := r.1.s.onGrn (fun g => { g with bagsNext := g.bagsNext.set [] (smp * fs + f) r.2 }) }

/-- Micro-batches of the step. -/
def microBatches (s : State) : Nat := max 1 (ceilDiv s.body.samples (max 1 s.body.micro))

/-- Flits of a stream that one micro-batch has. Table 11.10 cuts a stream by flits and by nothing else: the model gives every
micro-batch an equal part, in order (DESIGN CHOICE, log 97). -/
def microFlits (s : State) (d : StreamDef) : Nat := d.flits / microBatches s

/-- A stream of the bundle by its number. -/
def bundleStream (s : State) (id : Nat) : Option StreamDef := s.body.streams.find? (fun d => d.id == id)

/-- An engine's stream takes bytes at a place of a micro-batch's part; bytes beyond the part do not fit and are not written. -/
def streamBytes (req : Nat) (d : StreamDef) (mb off : Nat) (bs : List Byte) (s : State) : State :=
  if off + bs.length ≤ 248 * microFlits s d then devWrite req .none (d.base + 248 * (mb * microFlits s d) + off) bs s else s

/-- An engine signals its whole stream ready (R281). -/
def streamReady (d : StreamDef) : State → State := State.onFab (fun f => { f with engReady := f.engReady.set 0 d.id d.flits })

/-- The request lists of the step in look-ahead put on the GRN_REQ streams, 8 bytes a row in list order (R157; the layout is the
model's, log 97). -/
def sendAsks (s : State) : State :=
  State.each (fun (t : TableFDef) s => State.each (fun (p : PairDef) s =>
    match bundleStream s p.reqStream with
    | none => s
    | some d =>
      streamReady d (State.each (fun mb s =>
        let rows := (s.grn.asks.filter (fun a => a.1 == t.table && a.2.1 == p.rank && a.2.2.1 == mb)).map (fun a => a.2.2.2)
        streamBytes reqGranary d mb 0 (rows.map (leBytes 8)).flatten s) (List.range (microBatches s)) s)) t.pairs s) s.body.tablesF s

/-- Every bag of the batch of step n at an address, samples ascending, features ascending; then the lists for other owners go out and
the rows this module owns are resolved here (R157), each once per micro-batch, in the order they were asked. -/
def ingest (base : Nat) (s : State) : State :=
  let fs := s.body.features
  let x0 : Ingest := ⟨s.onGrn (fun g => { g with bagsNext := [], asks := [], served := [], handlesNext := [] }), [], []⟩
  let x := (List.range (batchNat s base 0 4)).foldl (fun x smp =>
    (List.zip (List.range fs.length) fs).foldl (fun x d => ingestOne base smp d.1 d.2 x) x) x0
  let s := State.each (fun t s => grnEvent 4 t 0 s) x.capped (x.s.onGrn (fun g => { g with asks := x.asks }))
  State.each (fun a s => if a.2.1 = s.rank then resolveRow a.1 s.rank a.2.2.1 a.2.2.2 s else s) x.asks (sendAsks s)

/-! ### Sector fills (R159, R164) -/

/-- POISON in a slot's entry and in its way's, with ROW_POISON the first time. -/
def poisonSlot (t : Nat) (tb : Table) (n slot row : Nat) (s : State) : State :=
  let a := slotEntry s tb n slot
  let w := rawNat s a 16
  let s := poisonWay t (natBits 107 64 w) s
  if natBit 49 w then s
  else grnEvent 2 t row (countGrn t 14 1 (devWrite reqGranary .none a (leBytes 16 (w + 2 ^ 49)) s))

/-- The rows of a step whose records overlap bytes [lo, hi) of a granule. -/
def rowsIn (tb : Table) (e : TableStep) (g lo hi : Nat) : List (Nat × Nat) :=
  e.slotOf.filter (fun kv =>
    let l := tb.localOf kv.1
    let o := l % tb.per * tb.sr
    l / tb.per == g && decide (o < hi) && decide (lo < o + tb.recLen))

/-- One Kiln block of a sector copied into the way. -/
def fillBlock (e t : Nat) (tb : Table) (d : DirEntry) (o : Nat) (s : State) : State :=
  let r := copyBytes reqGranary (homeBase s tb d.vslot + d.granule * 0x10000 + o) (wayAddr e + o) 512 s
  if r.2 then
    let s := onDir e (fun d => { d with poison := true }) r.1
    State.each (fun b s =>
      let x := s.grn.steps.get {} (2 * t + b)
      if x.vslot = d.vslot then State.each (fun kv s => poisonSlot t tb x.step (kv.2 - 1) kv.1 s) (rowsIn tb x d.granule o (o + 512)) s
      else s) [0, 1] s
  else r.1

/-- SECTOR_FILL: a sector that is not yet valid is filled from the home. -/
def execSectorFill (entry : BitVec 22) (sector : Fin 32) (err : MemErr) (s : State) : Host.Outcome State Fault Refusal :=
  let e := entry.toNat
  let d := dirEntry s e
  .next (if d.state = 0 || natBit sector d.valid then s
    else
      match s.table d.table with
      | none => s
      | some tb =>
        let src := homeBase s tb d.vslot + d.granule * 0x10000 + 2048 * sector
        let s := meetError reqGranary src err s
        let s := State.each (fun j s => fillBlock e d.table tb d (2048 * sector + 512 * j) s) [0, 1, 2, 3] s
        countGrn d.table 3 1 (onDir e (fun d => { d with valid := d.valid ||| 2 ^ sector.val }) s))

/-! ### Pooling (R165) -/

/-- The bytes of the default row's weights (R155). -/
def defaultBytes (tb : Table) (s : State) : State × List Byte :=
  if tb.learned then
    let q := devRead reqGranary .none (repAddr s tb defaultPos + 16) tb.wBytes s
    (q.1, q.2.1)
  else (s, zeros tb.wBytes)

/-- Every sector of an owned row's record is in its way, or the row is served from its home. -/
def rowReady (s : State) (t : Nat) (tb : Table) (l : Nat) : Bool :=
  match findWay s t tb.cur (l / tb.per) with
  | some e => (recSectors tb l).all (fun i => natBit i (dirEntry s e).valid)
  | none => true

/-- An owned row of the running step as its owner sends it or pools it: poisoned, late, or its weights, read from the address in its
slot entry (R163 to R165). A row without a slot is the default row's (R156). -/
def ownRow (t : Nat) (tb : Table) (row : Nat) (s : State) : State × RowIn :=
  let n := s.sch.step
  let k := (stepEntry s t n).slotOf.get 0 row
  let w := rawNat s (slotEntry s tb n (k - 1)) 16
  if k = 0 ∨ natBit 49 w then (s, .poisoned)
  else if !rowReady s t tb (tb.localOf row) then (s, .late)
  else
    let r := devRead reqGranary .none (natBits 107 64 w + 16) tb.wBytes s
    if r.2.2 then (poisonSlot t tb n (k - 1) row r.1, .poisoned) else (r.1, .data r.2.1)

/-- A row replaced because it came late or absent: counted once in its micro-batch. -/
def lateRow (t mb row : Nat) (s : State) : State :=
  if s.grn.late.contains (mb, t, row) then s
  else grnEvent 1 t row (countGrn t 13 1 (s.onGrn (fun g => { g with late := g.late ++ [(mb, t, row)] })))

/-- A position that pooling replaces by the default row, whose gradient it then has (R166). -/
def substRow (key : Nat) : State → State := State.onGrn (fun g => { g with subst := g.subst.set false key true })

/-- A replica's weights; a poisoned replica is a poisoned row (R164). -/
def replicaRead (t : Nat) (tb : Table) (i : Nat) (s : State) : State × RowIn :=
  let q := devRead reqGranary .none (repAddr s tb i + 16) tb.wBytes s
  if q.2.2 then (grnEvent 2 t (tb.reps.getD i 0) (countGrn t 14 1 q.1), .poisoned) else (q.1, .data q.2.1)

/-- What stands for a position: a replica, an own row, or what another owner sent. -/
def positionRow (t : Nat) (tb : Table) (p : BagPos) (sent : RowIn) (s : State) : State × RowIn :=
  match p with
  | .dflt => (s, .poisoned)
  | .replica i => replicaRead t tb i s
  | .row r => if tb.owns r then ownRow t tb r s else (s, sent)

/-- The vector of one position: the row that stands for it, or the default row in its place (R164, R165). -/
def poolPos (t mb key : Nat) (tb : Table) (p : BagPos) (sent : RowIn) (s : State) : State × List XVal :=
  let q := positionRow t tb p sent s
  match q.2 with
  | .data bs => (q.1, tb.fmt.decodeMany tb.dim (padTo tb.wBytes bs))
  | x =>
    let s := match x, p with | .late, .row r => lateRow t mb r q.1 | _, _ => q.1
    let d := defaultBytes tb (substRow key s)
    (d.1, tb.fmt.decodeMany tb.dim d.2)

/-- The vectors of a bag; `key` is its first position's. -/
def poolRows (t mb key : Nat) (tb : Table) : List (BagPos × RowIn) → State → State × List (List XVal)
  | [], s => (s, [])
  | (p, o) :: ps, s =>
    let a := poolPos t mb key tb p o s
    let b := poolRows t mb (key + 1) tb ps a.1
    (b.1, a.2 :: b.2)

/-- One row of a requester's list put on its GRN_ROWS stream: its weights, the default row's in place of a poisoned one, or sent
late, its bytes zero (R163 to R165; the layout is the model's, log 97). -/
def serveRow (t : Nat) (tb : Table) (d : StreamDef) (mb i row : Nat) (s : State) : State :=
  let q := ownRow t tb row s
  match q.2 with
  | .data bs => streamBytes reqGranary d mb (tb.wBytes * i) bs q.1
  | .poisoned => let x := defaultBytes tb q.1; streamBytes reqGranary d mb (tb.wBytes * i) x.2 x.1
  | .late => streamBytes reqGranary d mb (tb.wBytes * i) (zeros tb.wBytes) (grnEvent 1 t row (countGrn t 13 1 q.1))

/-- The rows of a requester's lists whose bytes begin in flits [off, off + len) of its GRN_ROWS stream: read when their run is checked
(R165), each micro-batch's list in list order. -/
def serveRows (d : StreamDef) (off len : Nat) (s : State) : State :=
  match s.body.tablesF.findSome? (fun t => (t.pairs.find? (fun p => p.rowStream == d.id)).map (fun p => (t.table, p.rank))) with
  | none => s
  | some (t, rank) =>
    match s.table t with
    | none => s
    | some tb =>
      State.each (fun mb s =>
        let rows := (s.grn.serving.filter (fun x => x.1 == t && x.2.1 == rank && x.2.2.1 == mb)).map (fun x => x.2.2.2)
        State.each (fun x s =>
          let f := mb * microFlits s d + tb.wBytes * x.1 / 248
          if off ≤ f ∧ f < off + len then serveRow t tb d mb x.1 x.2 s else s) (List.zip (List.range rows.length) rows) s)
        (List.range (microBatches s)) s

/-- pool of R165 for one element: the FP32 tree, and the mean's division. -/
def poolElem (mean : Bool) (xs : List XVal) : XVal :=
  if xs.isEmpty then xZero
  else
    let v := refTree fAdd 0 (xs.length + 1) (xs.map toF32)
    f32 (if mean then fDiv v (toF32 (XVal.ofInt false xs.length 0)) else v)

/-- POOL: the pooled vector of a sample and feature written into the plot store. -/
def pool (smp f : Nat) (rows : List RowIn) (s : State) : State :=
  match s.body.features[f]? with
  | none => s
  | some d =>
    match s.table d.table with
    | none => s
    | some tb =>
      let micro := max 1 s.body.micro
      let b := smp * s.body.features.length + f
      let bag := s.grn.bags.get [] b
      let r := poolRows d.table (smp / micro) (256 * b) tb ((List.zip (List.range bag.length) bag).map (fun x => (x.2, rows.getD x.1 .late))) s
      let vs := (List.range tb.dim).map (fun e => poolElem d.mean (r.2.map (fun v => v.getD e xZero)))
      let out := (Fmt.ofCode d.outFmt).getD .fp32
      devWrite reqGranary .none (storeBase d.plot + d.off + smp % micro * d.stride) (out.encodeMany vs).1 r.1

/-- POOL. -/
def execPool (sample feature : Nat) (rows : List RowIn) (s : State) : Host.Outcome State Fault Refusal :=
  .next (if issues s then pool sample feature rows s else s)

/-! ### Gradient records (R166, R167, R172) -/

/-- A vector's elements added to consecutive windows. -/
def addWindows (addr : Nat) (xs : List XVal) (s : State) : State :=
  State.each (fun x s => tunAddVal .none reqGranary (addr + 16 * x.1) x.2 s) (List.zip (List.range xs.length) xs) s

/-- A gradient added to an accumulator slot, which is touched; nothing to a poisoned slot (R164). -/
def gradSlot (tb : Table) (n slot : Nat) (xs : List XVal) (s : State) : State :=
  let a := slotEntry s tb n slot
  let w := rawNat s a 16
  if natBit 49 w then s
  else
    let s := if natBit 48 w then s else devWrite reqGranary .none a (leBytes 16 (w + 2 ^ 48)) s
    addWindows (accWindow s tb n slot 0) xs s

/-- The elements of a gradient record's MB8 blocks, decoded exactly under K, in every slot that a handle names (R167). -/
def gradSlots (tb : Table) (n used : Nat) (xs : List XVal) (handles : List Nat) (s : State) : State :=
  State.each (fun h s => if h < used then gradSlot tb n h xs s else s) handles s

/-- The exact elements of a gradient's MB8 blocks under K. -/
def gradVals (tb : Table) (k : Int) (blocks : List Byte) : List XVal :=
  (Fmt.mb8.decodeMany tb.dim (padTo (tb.dim / 32 * 33) blocks)).map (XVal.scale (-k))

/-- A gradient record at the owner of the rows that its handles name. -/
def gradientRecord (t : Nat) (k : Int) (blocks : List Byte) (handles : List Nat) (s : State) : State :=
  match s.table t with
  | none => s
  | some tb =>
    let e := stepEntry s t s.sch.step
    if e.step = s.sch.step then gradSlots tb s.sch.step e.used (gradVals tb k blocks) handles s else s

/-- GRADIENT_RECORD. -/
def execGradientRecord (table : BitVec 16) (k : BitVec 8) (blocks : List Byte) (handles : List Nat) (s : State) :
    Host.Outcome State Fault Refusal :=
  .next (if issues s then gradientRecord table.toNat k.toInt blocks handles s else s)

/-! ### Pins at a boundary (R162) -/

/-- A way that holds a slot of step n that the walk has not reached (R162, R199). -/
def wayHeld (s : State) (n e : Nat) : Bool :=
  let d := dirEntry s e
  match s.table d.table with
  | none => false
  | some tb =>
    let x := stepEntry s d.table n
    x.step == n && x.vslot == d.vslot && x.slotOf.any (fun kv => !x.done.get false (kv.2 - 1) && tb.localOf kv.1 / tb.per == d.granule)

/-- The pins of step n released but for the ways held; true when none is held. -/
def releasePins (n : Nat) (hold : Bool) (s : State) : State × Bool :=
  let ws := (s.grn.dir.filter (fun kv => natBit (n % 2) kv.2.pin)).map (·.1)
  let keep := if hold then ws.filter (wayHeld s n) else []
  (State.each (fun e s => if keep.contains e then s else unpin (n % 2) e s) ws s, keep.isEmpty)

/-- The counts of step n's pins put aside at the look-ahead start that reuses their parity: they are checked at the boundary that opens
step n + 2 (R162). -/
def asidePins (n : Nat) (s : State) : State :=
  let b := n % 2
  if s.grn.taken.get 0 b = 0 ∧ s.grn.released.get 0 b = 0 then s
  else s.onGrn (fun g => { g with
    heldPins := some (n, g.taken.get 0 b, g.released.get 0 b), taken := g.taken.set 0 b 0, released := g.released.set 0 b 0 })

/-- The books of pins that were held past their boundary, at the boundary that opens the step after the next. -/
def heldBooks (s : State) : State :=
  match s.grn.heldPins with
  | none => s
  | some (n, a, b) =>
    let s := s.onGrn (fun g => { g with heldPins := none })
    if a = b then s else grnEvent 3 0 n s

/-- The books of step n's pins: taken equal released; the counts then begin again. -/
def pinBooks (n : Nat) (s : State) : State :=
  let b := n % 2
  let s' := s.onGrn (fun g => { g with taken := g.taken.set 0 b 0, released := g.released.set 0 b 0 })
  if s.grn.taken.get 0 b = s.grn.released.get 0 b then s' else grnEvent 3 0 n s'

end Sys2Proof.Machine
end

