-- ==== Sys2Proof/Machine/Reshard.lean ====
section
/-! DEFINITION. Resharding: the command, the records a new owner takes, completion and failure (R289 to R291). -/

namespace Sys2Proof.Machine

/-- The entries of a RESHARD: shard, NEW_OWNER, NEW_SLOT. -/
def reshardEntries (c : Cmd) : List (Nat × Nat × Nat) :=
  (List.range (c.at_ 8 4)).map (fun i => (leAt c.arg (8 * i) 2, leAt c.arg (8 * i + 2) 2, leAt c.arg (8 * i + 4) 2))

/-- Local slots in use at this module: of resident shards, of shards moving out, and of shards moving in. -/
def slotsInUse (tb : Table) : List Nat :=
  (List.range tb.shards).filterMap (fun sh =>
    if tb.owner sh = tb.self then some (tb.slot sh)
    else if tb.moving sh && tb.newOwner sh == tb.self then some (tb.newSlot sh) else none)

/-- Local slots that a list of entries brings to this module, in order. -/
def slotsAsked (tb : Table) (es : List (Nat × Nat × Nat)) : List Nat :=
  es.filterMap (fun e => if e.2.1 = tb.self then some e.2.2 else none)

/-- An entry outside its range, by its offset in the argument buffer. -/
def reshardBad (tb : Table) (c : Cmd) : Option Nat :=
  (List.range (c.at_ 8 4)).findSome? (fun i =>
    if tb.shards ≤ leAt c.arg (8 * i) 2 then some (8 * i)
    else if 2 ^ 15 ≤ leAt c.arg (8 * i + 2) 2 then some (8 * i + 2)
    else if leAt c.arg (8 * i + 6) 2 ≠ 0 then some (8 * i + 6)
    else none)

/-- The fields that both operations check. -/
def reshardShape (c : Cmd) (s : State) (k : Table → CmdOut) : CmdOut :=
  coordCheck c s (fun tb =>
    if 1 < c.at_ 2 1 then badField 2 s
    else if c.at_ 8 4 = 0 ∨ 4096 < c.at_ 8 4 then badField 8 s
    else if c.argLen ≠ 8 * c.at_ 8 4 then refuse .badArgument s 16
    else k tb)

/-- RESHARD START (R289). -/
def execReshard (m : Fin 64) (s : State) : Host.Outcome State Fault Refusal :=
  .next (serve m (fun c => c.op == 0x0505 && c.at_ 2 1 != 1) (fun _ => { fields := [(0, 3), (4, 8)], argOk := fun _ => true }) (fun c s =>
    reshardShape c s (fun tb0 =>
      let tb := latestTable s (c.at_ 0 2) tb0
      let es := reshardEntries c
      let asked := slotsAsked tb es
      match reshardBad tb c with
      | some o => badArgByte o s
      | none =>
        if es.any (fun e => tb.moving e.1) || tb.staged || tb.committing then refuse .refusedMode s
        else if asked.any (fun k => decide (tb.homeSlots ≤ k) || (slotsInUse tb).contains k) || !asked.Nodup then refuse .refusedCapacity s
        else coordinate c tb.members s)) s)

/-- The first faulty byte of a CANCEL's entries: a shard that the table has not, or reserved bytes that are not zero (R12, Table 13.12). -/
def cancelBad (tb : Table) (c : Cmd) : Option Nat :=
  (List.range (c.at_ 8 4)).findSome? (fun i =>
    if tb.shards ≤ leAt c.arg (8 * i) 2 then some (8 * i)
    else if leAt c.arg (8 * i + 6) 2 ≠ 0 then some (8 * i + 6)
    else none)

/-- RESHARD CANCEL (R291): the entries use only their shard. -/
def execReshardCancel (m : Fin 64) (s : State) : Host.Outcome State Fault Refusal :=
  .next (serve m (fun c => c.op == 0x0505 && c.at_ 2 1 == 1) (fun _ => { fields := [(0, 3), (4, 8)], argOk := fun _ => true }) (fun c s =>
    reshardShape c s (fun tb =>
      match cancelBad tb c with
      | some o => badArgByte o s
      | none => coordinate c tb.members s)) s)

/-! ### The old owner (R290) -/

/-- A record on a RESHARD stream: table, shard, index in the shard and a mark of a mirrored write in 16 bytes, then the record (DESIGN
CHOICE, log 109). -/
def reshardBytes (t sh index : Nat) (mirrored : Bool) (bs : List Byte) : List Byte :=
  padTo 16 (leBytes 2 t ++ leBytes 2 sh ++ leBytes 4 index ++ leBytes 1 (b2n mirrored)) ++ bs

/-- A commit group written to a record that has been copied goes to the new owner as well. -/
def mirrorRow (t : Nat) (tb : Table) (row : Nat) (bs : List Byte) (s : State) : State :=
  let sh := tb.shard row
  let i := row % 2 ^ tb.shift
  if tb.moving sh && tb.owner sh == tb.self && decide (i < s.grn.moved.get 0 (65536 * t + sh)) then
    s.onGrn (fun g => { g with mirrors := g.mirrors ++ [(t, reshardBytes t sh i true bs)] })
  else s

/-- The next record to copy of a table's shards that move away: shards ascending, records ascending. -/
def nextCopy (s : State) (t : Nat) (tb : Table) : Option (Nat × Nat) :=
  ((tb.movingShards.filter (fun sh => tb.owner sh == tb.self)).find? (fun sh => decide (s.grn.moved.get 0 (65536 * t + sh) < 2 ^ tb.shift))).map
    (fun sh => (sh, s.grn.moved.get 0 (65536 * t + sh)))

/-- What the old owner sends next: a mirrored write that waits, else the copy of the next record, read whole from where it stands. -/
def takeCopy (t : Nat) (tb : Table) (s : State) : State × Option (List Byte) :=
  match s.grn.mirrors.find? (fun m => m.1 == t) with
  | some m => (s.onGrn (fun g => { g with mirrors := g.mirrors.erase m }), some m.2)
  | none =>
    match nextCopy s t tb with
    | none => (s, none)
    | some (sh, i) =>
      let r := recRead t tb tb.cur (tb.localAt (tb.slot sh) i) s
      (r.1.onGrn (fun g => { g with moved := g.moved.modify 0 (65536 * t + sh) (· + 1) }), some (reshardBytes t sh i false r.2.1))

/-- Records put one after another at an address, each at its own flits; past the last one the place reads as zeros. -/
def putCopies (t : Nat) (tb : Table) (a size : Nat) : Nat → State → State
  | 0, s => s
  | n + 1, s =>
    let r := takeCopy t tb s
    putCopies t tb (a + size) size n (devWrite reqGranary .none a (padTo size (r.2.getD [])) r.1)

/-- The old owner fills a run of a RESHARD stream, whose GROUP names the table (log 23). -/
def fillReshard (d : StreamDef) (off len : Nat) (s : State) : State :=
  match s.table d.group with
  | none => s
  | some tb =>
    let flits := ceilDiv (16 + tb.recLen) 248
    (putCopies d.group tb (d.base + 248 * off) (248 * flits) (len / flits) s).onFab
      (fun f => { f with engReady := f.engReady.modify 0 d.id (fun n => max n (off + len)) })

/-! ### The new owner (R290, R291) -/

/-- RESHARD_RECORD (R290): the new owner of a moving shard writes a copy, or a mirrored write of a record already copied; one
that is older than the copy held is discarded. Records are copied in order of their index. -/
def execReshardRecord (table shard : BitVec 16) (index : Nat) (record : List Byte) (mirrored : Bool) (s : State) :
    Host.Outcome State Fault Refusal :=
  let t := table.toNat
  let sh := shard.toNat
  .next (match s.table t with
    | none => s
    | some tb =>
      if !tb.moving sh || tb.newOwner sh != tb.self || decide (2 ^ tb.shift ≤ index) || paused s then s
      else
        let key := 65536 * t + sh
        let l := tb.localAt (tb.newSlot sh) index
        let held := decide (index < s.grn.moved.get 0 key)
        if mirrored && !held then s
        else
          let bs := padTo tb.recLen record
          let r := recRead t tb tb.cur l s
          if held && decide (recStep bs < recStep r.2.1) then r.1
          else
            let s := recWrite t tb tb.cur l bs (if held then r.1 else s)
            s.onGrn (fun g => { g with moved := g.moved.modify 0 key (fun n => max n (index + 1)) }))

/-- RESHARD_COMPLETE (R291): a member that has copied every record of its moving shards arrives at the coordination tally. -/
def execReshardComplete (table : BitVec 16) (s : State) : Host.Outcome State Fault Refusal :=
  .next (match s.table table.toNat with
    | none => s
    | some tb => if tb.movingShards.isEmpty || (nextCopy s table.toNat tb).isSome || s.grn.mirrors.any (fun m => m.1 == table.toNat) then s
      else tallyOwn tb.members [] s)

/-- RESHARD_FAIL (R291): a party reset before completion; the shard stays with the old owner. -/
def execReshardFail (table : BitVec 16) (s : State) : Host.Outcome State Fault Refusal :=
  .next (match s.table table.toNat with
    | none => s
    | some tb => if tb.movingShards.isEmpty then s else event 7 14 0x72 [s.sch.step, s.sch.epoch, table.toNat] s)

/-- The granules of a local slot emptied: those it has alone without write-back, one it shares with another slot written back
first. -/
def freeSlot (t : Nat) (tb : Table) (slot : Nat) (s : State) : State :=
  let a := tb.localAt slot 0
  let b := a + 2 ^ tb.shift
  State.each (fun kv s =>
    if kv.2.table == t && kv.2.state != 0 && decide (kv.2.granule * tb.per < b) && decide (a < (kv.2.granule + 1) * tb.per) then
      if a ≤ kv.2.granule * tb.per ∧ (kv.2.granule + 1) * tb.per ≤ b then dropWay kv.1 s else emptyWay kv.1 s
    else s) s.grn.dir s

/-- The map entries of a RESHARD latch take effect at the boundary; slots given up are freed (R291). -/
def reshardAt (t : Nat) (w : LatchWhat) (s : State) : State :=
  match s.table t with
  | none => s
  | some tb =>
    let forget (shs : List Nat) : State → State :=
      State.onGrn (fun g => { g with mirrors := g.mirrors.filter (fun m => m.1 != t), moved := shs.foldl (fun m sh => m.set 0 (65536 * t + sh) 0) g.moved })
    let s := match w with
      | .reshardStart _ es => forget (es.map Prod.fst) s
      | .reshardCancel _ shs =>
        forget shs (State.each (fun sh s => if tb.moving sh && tb.newOwner sh == tb.self then freeSlot t tb (tb.newSlot sh) s else s) shs s)
      | .reshardDone _ =>
        forget tb.movingShards
          (State.each (fun sh s => if tb.owner sh = tb.self then freeSlot t tb (tb.slot sh) s else s) tb.movingShards s)
      | _ => s
    s.onTable t (fun x => x.after t w)

end Sys2Proof.Machine
end

