-- ==== Sys2Proof/Machine/Lauter.lean ====
section
/-! DEFINITION. The Lauter engine: the rules (R184), clipping (R185), dense groups and their banks and working copies (R186 to
R193, R195), embedding rows (R194), replicas (R284), norm reductions (R187), and what they leave in case of trouble (R197 to
R201). -/

namespace Sys2Proof.Machine

/-! ### Tensors, rule sets, counters -/

/-- Dense tensor t in the active bundle. -/
def tensorDef (s : State) (t : Nat) : Option TensorDef := s.body.tensors.find? (fun d => d.tensor == t)

/-- What the module keeps of tensor t. -/
def State.tensor (s : State) (t : Nat) : Tensor := s.ltr.tensors.get {} t

/-- Tensor t changed. -/
def State.onTensor (t : Nat) (f : Tensor → Tensor) : State → State :=
  State.onLtr (fun l => { l with tensors := l.tensors.modify {} t f })

/-- Rule set k. -/
def ruleSetOf (s : State) (k : Nat) : Option RuleSet := s.ltr.sets.get none k

/-- The rule set whose TARGETS list names a table (R179). -/
def setOfTable (s : State) (t : Nat) : Option (Nat × RuleSet) :=
  s.ltr.sets.findSome? (fun kv => kv.2.bind (fun r => if r.targets.contains t then some (kv.1, r) else none))

/-- A counter of Table 08.7 advanced. -/
def countLtr (k i n : Nat) : State → State :=
  State.onLtr (fun l => { l with counts := l.counts.modify 0 (16 * k + i) (fun c => sat48 (c + n)) })

/-- An event of group 9 (R205): the step, the rule set, and the table, tensor or block. -/
def ltrEvent (b k x : Nat) (s : State) : State := event 9 b 0x73 [s.sch.step, k, x] s

/-- The norm windows of a rule set in the running step. -/
def onNorms (k : Nat) (f : Norms → Norms) : State → State := State.onLtr (fun l => { l with norms := l.norms.modify {} k f })

/-- The present contributions of a dense group counted as applied (7) or dropped at the owner (8). -/
def bookDense (t j i : Nat) (s : State) : State :=
  match denseSource s t j, (s.tensor t).blocks.get none j with
  | some r, some b => bookAdd r.group i b.p s
  | _, _ => s

/-- The step size of a row's update in step n (R181): the latched one, or the one before it for a walk finished late. -/
def etaOf (s : State) (rs : RuleSet) (n : Nat) : Word := fMul (if n < s.sch.step then s.ltr.etaPrev else s.ltr.eta) rs.mult

/-- The step size of a dense tensor's update: the latched one, or that of the step to which a late update belongs (R181, R199). -/
def etaDense (s : State) (rs : RuleSet) (t : Nat) : Word :=
  fMul (if (s.tensor t).late then (s.tensor t).eta else s.ltr.eta) rs.mult

/-! ### The rules (R184) -/

/-- FP32 1. -/
def fOne : Word := 0x3F800000

/-- pow_fixed from its third line on, `fuel` bits of k. -/
def powGo : Nat → Nat → Word → Word → Word
  | 0, _, _, r => r
  | fuel + 1, k, q, r => if k = 0 then r else powGo fuel (k / 2) (fMul q q) (if k % 2 = 1 then fMul r q else r)

/-- pow_fixed. -/
def powFixed (b : Word) (k : Nat) : Word := powGo 32 k b fOne

/-- a > b of two FP32 words. -/
def fGt (a b : Word) : Bool := (f32 b).lt (f32 a)

/-- The exact squares of FP32 words. -/
def squaresOf (g : List Word) : List XVal := g.map (fun w => (f32 w).mul (f32 w))

/-- sqsum: the exact sum of the exact squares, rounded once. -/
def sqsum (g : List Word) : Word := toF32 (exactSum (squaresOf g))

/-- A unit's values: weights, moments, V2 and COUNT. -/
structure UnitVals where
  /-- w -/
  w : List Word
  /-- m -/
  m : List Word
  /-- v -/
  v : List Word
  /-- V2 -/
  v2 : Word
  /-- COUNT -/
  count : Nat
  deriving DecidableEq, Repr

/-- An elementwise operation on two lists. -/
def map2 (f : Word → Word → Word) (a b : List Word) : List Word := List.zipWith f a b

/-- COUNT + 1, held at its top. -/
def nextCount (c : Nat) : Nat := min 0xFFFFFFFF (c + 1)

/-- The first moment's bias divisor mc1. -/
def biasM (rs : RuleSet) (t : Nat) : Word := if rs.bias then fSub fOne (powFixed rs.beta1 t) else fOne

/-- The second moment's bias divisor mc2. -/
def biasV (rs : RuleSet) (t : Nat) : Word := if rs.bias && fGt fOne rs.beta2 then fSub fOne (powFixed rs.beta2 t) else fOne

/-- s of ROWWISE: the exact sum of squares divided by DIM, rounded once. -/
def meanSquare (dim : Nat) (g : List Word) : Word := toF32 ((exactSum (squaresOf g)).div (XVal.ofInt false dim 0))

/-- Zeros in place of a moment that the rule does not keep (Table 08.4). -/
def noMoment (l : List Word) : List Word := List.replicate l.length 0

/-- The moments and directions a rule makes: m, v, V2, dir. `u` is root . g under PRECOND. -/
def ruleMoments (rs : RuleSet) (dim : Nat) (g u : List Word) (x : UnitVals) : List Word × List Word × Word × List Word :=
  let t := nextCount x.count
  let mc1 := biasM rs t
  let mc2 := biasV rs t
  match rs.rule with
  | 0 => let m := map2 (fun m g => fFma rs.beta1 m g) x.m g; (m, noMoment x.v, x.v2, m)
  | 1 =>
    let m := map2 (fun m g => fFma rs.beta1 m (fMul rs.c1 g)) x.m g
    let v := map2 (fun v g => fFma rs.beta2 v (fMul rs.c2 (fMul g g))) x.v g
    (m, v, x.v2, map2 (fun m v => fDiv (fDiv m mc1) (fAdd (fSqrt (fDiv v mc2)) rs.eps)) m v)
  | 2 =>
    let q := meanSquare dim g
    let m := map2 (fun m g => fFma rs.beta1 m (fMul rs.c1 g)) x.m g
    let v2 := if rs.beta2 = fOne then fAdd x.v2 q else fFma rs.beta2 x.v2 (fMul rs.c2 q)
    let den := fAdd (fSqrt (fDiv v2 mc2)) rs.eps
    (m, x.v, v2, m.map (fun m => fDiv (fDiv m mc1) den))
  | 3 => let v := map2 (fun v g => fFma g g v) x.v g; (noMoment x.m, v, x.v2, map2 (fun g v => fDiv g (fAdd (fSqrt v) rs.eps)) g v)
  | _ => let m := map2 (fun m u => fFma rs.beta1 m u) x.m u; (m, noMoment x.v, x.v2, m)

/-- A unit's values after the rule. -/
def ruleStep (rs : RuleSet) (eta : Word) (dim : Nat) (g u : List Word) (x : UnitVals) : UnitVals :=
  let r := ruleMoments rs dim g u x
  let w := if fGt rs.lambda 0 then x.w.map (fun w => fFma (fNeg (fMul eta rs.lambda)) w w) else x.w
  { w := map2 (fun w d => fFma (fNeg eta) d w) w r.2.2.2, m := r.1, v := r.2.1, v2 := r.2.2.1, count := nextCount x.count }

/-- No value is a NaN or an infinity (R197). -/
def UnitVals.finite (x : UnitVals) : Bool := (x.w ++ x.m ++ x.v ++ [x.v2]).all (fun w => (f32 w).isFin)

/-- Per-unit clipping (R185): the gradient and whether it was clipped. -/
def clipUnit (rs : RuleSet) (g : List Word) : List Word × Bool :=
  if fGt rs.clipRow 0 && fGt (sqsum g) (fMul rs.clipRow rs.clipRow) then
    let f := fDiv rs.clipRow (fSqrt (sqsum g))
    (g.map (fun x => fMul x f), true)
  else (g, false)

/-- The divisor d of R182. -/
def avgDiv (rs : RuleSet) (p g : Nat) : Nat := match rs.avg with | 0 => 1 | 1 => p | _ => g

/-- Values added into a norm window under R132, and whether it saturated. -/
def windowAdd (x : Int) (w : Int) (vs : List XVal) : Int × Bool :=
  vs.foldl (fun a v => let t := tunStep x a.1 v; (t.1, a.2 || t.2.1)) (w, false)

/-- Squares added to the REDUCED window (R201). -/
def noiseReduced (k : Nat) (rs : RuleSet) (g : List Word) (s : State) : State :=
  let r := windowAdd rs.xn (s.ltr.norms.get {} k).red (squaresOf g)
  let s := onNorms k (fun x => { x with red := r.1, nred := x.nred + g.length, satRed := x.satRed || r.2 }) s
  if r.2 then ltrEvent 8 k 0 s else s

/-- Squares of exact values added to the LOCAL window (R201). -/
def noiseLocal (k : Nat) (rs : RuleSet) (vs : List XVal) (s : State) : State :=
  let r := windowAdd rs.xn (s.ltr.norms.get {} k).loc (vs.map (fun v => v.mul v))
  let s := onNorms k (fun x => { x with loc := r.1, nloc := x.nloc + vs.length, satLoc := x.satLoc || r.2 }) s
  if r.2 then ltrEvent 8 k 0 s else s

/-! ### Dense records (Table 08.4) -/

/-- The words of a byte list from an offset. -/
def wordsAt (bs : List Byte) (off n : Nat) : List Word := (List.range n).map (fun i => BitVec.ofNat 32 (leAt bs (off + 4 * i) 4))

/-- The bytes of words. -/
def wordBytes (ws : List Word) : List Byte := (ws.map (fun w => leBytes 4 w.toNat)).flatten

/-- BANKb_BASE. -/
def TensorDef.bank (d : TensorDef) (b : Nat) : Nat := if b = 0 then d.bank0 else d.bank1

/-- Base of a working-copy half. -/
def TensorDef.wc (d : TensorDef) (h : Nat) : Nat := if h = 0 then d.wc0 else d.wc1

/-- The working format. -/
def TensorDef.fmt (d : TensorDef) : Fmt := (Fmt.ofCode d.wcFmt).getD .fp32

/-- Bytes of a group's working copy. -/
def TensorDef.wcBytes (d : TensorDef) : Nat := d.fmt.bytesFor 32

/-- The module owns group j of the tensor. -/
def TensorDef.owns (d : TensorDef) (j : Nat) : Bool := decide (d.ownFirst ≤ j) && decide (j < d.ownFirst + d.ownCount)

/-- The address of group j in bank b. -/
def denseAddr (d : TensorDef) (b j : Nat) : Nat := d.bank b + 512 * j

/-- A dense record. -/
def denseRecord (step count j t : Nat) (w m v : List Word) : List Byte :=
  padTo 512 (leBytes 4 step ++ leBytes 4 count ++ leBytes 4 j ++ leBytes 2 t ++ zeros 2 ++ wordBytes w ++ wordBytes m ++ wordBytes v)

/-- The padding elements of group j at zero (R188). -/
def TensorDef.unpad (d : TensorDef) (j : Nat) (ws : List Word) : List Word :=
  (List.zip (List.range ws.length) ws).map (fun x => if 32 * j + x.1 < d.elems then x.2 else 0)

/-- MASTER. -/
def recMaster (bs : List Byte) : List Word := wordsAt bs 16 32

/-! ### Working copies (R191) -/

/-- The largest record of a scale group among steps lo to hi; records of 0x8000 are left out (R101). -/
def histMax (s : State) (g lo hi : Nat) : Option Int :=
  ((s.sch.hist.get [] g).filter (fun x => decide (lo ≤ x.1) && decide (x.1 ≤ hi) && decide (x.2 ≠ noAmax))).foldl
    (fun a x => match a with | none => some x.2 | some b => some (max b x.2)) none

/-- K that a slot in HISTORY mode takes at the boundary that opens step n (R101). -/
def historyK (s : State) (p slot n : Nat) : Int × Option Int :=
  let t := (s.plot p).slot slot
  match (if n < 2 then none else histMax s t.group (n - 2 - t.nwin) (n - 2)) with
  | some a => ((slotK (groupDef s t.group) t.tfmt t.margin a).1, some a)
  | none => (t.k, none)

/-- K of a tensor's working copy for step n (R191). -/
def wcK (s : State) (d : TensorDef) (n : Nat) : Int :=
  if d.wcSlot.2 = 0 then 0
  else
    let t := (s.plot d.wcSlot.1).slot d.wcSlot.2
    if t.mode = 1 then (historyK s d.wcSlot.1 d.wcSlot.2 n).1 else t.k

/-- The TX DIST streams of a tensor: their GROUP names it (DESIGN CHOICE, log 23). -/
def distStreams (s : State) (t : Nat) : List StreamDef := s.body.streams.filter (fun d => d.kind == .dist && !d.rx && d.group == t)

/-- How many of the owned groups, from the first on, are done. -/
def donePrefix (d : TensorDef) (t : Tensor) : Nat := ((List.range d.ownCount).takeWhile (fun i => t.done.get false (d.ownFirst + i))).length

/-- The DIST streams of a tensor signal how far its working copies are written (R281). -/
def signalDist (t : Nat) (d : TensorDef) (s : State) : State :=
  let k := donePrefix d (s.tensor t)
  State.each (fun x s =>
    let n := if k = d.ownCount then x.flits else k * d.wcBytes / 248
    s.onFab (fun f => { f with engReady := f.engReady.set 0 x.id n })) (distStreams s t) s

/-- A group's working copy under a K: its bytes to the shadow half and to the distribution streams, its amax to the slot. -/
def formCopyAt (t : Nat) (d : TensorDef) (half : Nat) (k : Int) (j : Nat) (w : List Word) (s : State) : State :=
  let bs := (d.fmt.encodeMany ((w.map f32).map (XVal.scale k))).1
  let s := devWrite reqLauter .none (d.wc half + j * d.wcBytes) bs s
  let s := s.onPlot d.wcSlot.1 (recordAmax d.wcSlot.2 (amaxRecord (w.map f32)))
  State.each (fun x s => devWrite reqLauter .none (x.base + (j - d.ownFirst) * d.wcBytes) bs s) (distStreams s t) s

/-- The same under the K of the next step, counted as a slice of this owner. -/
def formCopy (t : Nat) (d : TensorDef) (j : Nat) (w : List Word) (s : State) : State :=
  let s := formCopyAt t d (1 - (s.tensor t).half) (wcK s d (s.sch.step + 1)) j w s
  s.onTensor t (fun x => { x with slices := x.slices.modify 0 s.rank (· + 1), got := x.got.set false j true })

/-- Working copies of every owned group, from the bank just written: those of a tensor whose update ended late (R193, R199). -/
def formAll (t : Nat) (d : TensorDef) (s : State) : State :=
  let s := s.onTensor t (fun x => { x with slices := x.slices.set 0 s.rank 0 })
  State.each (fun i s =>
    let j := d.ownFirst + i
    formCopy t d j (recMaster (rawBytes s (denseAddr d (1 - (s.tensor t).bank) j) 512)) s) (List.range d.ownCount) s

/-! ### A dense unit -/

/-- Every owned group of the tensor is done. -/
def denseComplete (d : TensorDef) (t : Tensor) : Bool := (List.range d.ownCount).all (fun i => t.done.get false (d.ownFirst + i))

/-- A group finished: its bit set, its block given up; a late tensor forms its copies, and signals its streams, when its last group is
finished (R193, R199). -/
def denseDone (t : Nat) (d : TensorDef) (j : Nat) (s : State) : State :=
  let s := s.onTensor t (fun x => { x with done := x.done.set false j true, blocks := x.blocks.set none j none
                                           deferred := x.deferred.set false j false })
  if (s.tensor t).late then (if denseComplete d (s.tensor t) then signalDist t d (formAll t d s) else s) else signalDist t d s

/-- The groups of a unit: a preconditioner block under PRECOND, else one group. -/
def unitGroups (s : State) (t : Nat) (d : TensorDef) (rs : RuleSet) (j : Nat) : List Nat :=
  match (if rs.rule = 4 then s.ltr.precond.get none t else none) with
  | some pc => let k := pc.b / 32; (List.range k).map (fun i => d.ownFirst + (j - d.ownFirst) / k * k + i)
  | none => [j]

/-- The tensor is frozen (R200): its gradients are dropped. -/
def freezeTensor (k t : Nat) (js : List Nat) (s : State) : State :=
  let s := ltrEvent 5 k t (s.onTensor t (fun x => { x with frozen := true }))
  State.each (fun j s => (bookDense t j 8 s).onTensor t (fun x => { x with blocks := x.blocks.set none j none })) js s

/-- A record written into bank 1 - c as one commit group, with its working copy. -/
def putDense (t : Nat) (d : TensorDef) (j : Nat) (bs : List Byte) (s : State) : State :=
  let s := devWrite reqLauter .none (denseAddr d (1 - (s.tensor t).bank) j) bs s
  if (s.tensor t).late then s else formCopy t d j (recMaster bs) s

/-- Groups written unchanged (R190, R198), their gradients dropped. -/
def writeUnchanged (t : Nat) (d : TensorDef) (recs : List (Nat × List Byte)) (s : State) : State :=
  State.each (fun x s => denseDone t d x.1 (bookDense t x.1 8 (putDense t d x.1 x.2 s))) recs s

/-- LATE counted for a unit of a late tensor (R199). -/
def countLate (k t : Nat) (s : State) : State := if (s.tensor t).late then countLtr k 8 1 s else s

/-- A unit carried over (R190). -/
def carryUnit (k t : Nat) (d : TensorDef) (recs : List (Nat × List Byte)) (s : State) : State :=
  countLtr k 1 recs.length (writeUnchanged t d recs (countLate k t s))

/-- The records of a unit read from bank c, and whether one is poisoned. -/
def readDense (d : TensorDef) (c : Nat) : List Nat → State → State × List (Nat × List Byte) × Bool
  | [], s => (s, [], false)
  | j :: js, s =>
    let r := devRead reqLauter .none (denseAddr d c j) 512 s
    let q := readDense d c js r.1
    (q.1, (j, r.2.1) :: q.2.1, r.2.2 || q.2.2)

/-! ### Preconditioner roots (R195, R200) -/

/-- The root area of block b. -/
def rootArea (pc : Precond) (b : Nat) : Nat := pc.rootBase + b * (64 + 8 * pc.b * pc.b)

/-- GENi of a block. -/
def rootGen (s : State) (pc : Precond) (b i : Nat) : Nat := rawNat s (rootArea pc b + 4 * i) 4

/-- The slot latched for a block, plus 1: the one with the larger GEN; 0 when both are empty. -/
def latchRoot (s : State) (pc : Precond) (b : Nat) : Nat :=
  let g0 := rootGen s pc b 0
  let g1 := rootGen s pc b 1
  if g0 = 0 ∧ g1 = 0 then 0 else if g0 < g1 then 2 else 1

/-- Root slot i of a block read. -/
def readSlot (pc : Precond) (b i : Nat) (s : State) : State × List Word × Bool :=
  let r := devRead reqLauter .none (rootArea pc b + 64 + i * 4 * pc.b * pc.b) (4 * pc.b * pc.b) s
  (r.1, wordsAt r.2.1 0 (pc.b * pc.b), r.2.2)

/-- The root a block uses: the latched slot, the other one when it is poisoned and published, else the identity (none). -/
def readRoot (k : Nat) (pc : Precond) (b sel : Nat) (s : State) : State × Option (List Word) :=
  if sel = 0 then (countLtr k 9 1 s, none)
  else
    let r := readSlot pc b (sel - 1) s
    if !r.2.2 then (r.1, some r.2.1)
    else
      let s := ltrEvent 6 k b r.1
      let o := 2 - sel
      if rootGen s pc b o = 0 then (countLtr k 9 1 s, none)
      else
        let q := readSlot pc b o s
        if q.2.2 then (countLtr k 9 1 q.1, none) else (q.1, some q.2.1)

/-- root . g: per element fma from +0, k ascending. -/
def rootTimes (n : Nat) (root g : List Word) : List Word :=
  (List.range n).map (fun i => (List.zip ((root.drop (i * n)).take n) g).foldl (fun acc x => fFma x.1 x.2 acc) 0)

/-- u of PRECOND for a unit; the gradient itself under any other rule or the identity root. -/
def unitDirection (k t : Nat) (d : TensorDef) (rs : RuleSet) (js : List Nat) (g : List Word) (s : State) : State × List Word :=
  if rs.rule ≠ 4 then (s, g)
  else
    match s.ltr.precond.get none t with
    | none => (countLtr k 9 1 s, g)
    | some pc =>
      let b := (js.headD 0 - d.ownFirst) / (pc.b / 32)
      let r := readRoot k pc b ((s.tensor t).roots.get 0 b) s
      match r.2 with
      | none => (r.1, g)
      | some root => (r.1, rootTimes pc.b root g)

/-! ### The gradient of a dense group (R182, R183) -/

/-- What R182 and R183 make of a reduced block: a gradient, none present, or an unusable one. -/
inductive Grad where
  | ok (g : List Word) | absent | bad
  deriving DecidableEq, Repr

/-- The gradient of group j from its reduced block; a padding element's is zero (R188). -/
def blockGrad (rs : RuleSet) (td : TensorDef) (j : Nat) (b : GradBlock) : Grad :=
  if b.p = 0 then .absent
  else if b.nans.any id then .bad
  else
    let d := XVal.ofInt false (avgDiv rs b.p b.g) 0
    let cs := b.sums.map (fun v => lay32.conv ((XVal.ofInt false v (-255)).div d))
    if cs.any (fun c => c.2.ovf) then .bad else .ok (td.unpad j (cs.map (fun c => BitVec.ofNat 32 c.1)))

/-- The gradients of a unit's groups together: absent or bad when any is. -/
def unitGrad (rs : RuleSet) (d : TensorDef) (js : List Nat) (bs : List GradBlock) : Grad :=
  ((List.zip js bs).map (fun x => blockGrad rs d x.1 x.2)).foldr (fun a b =>
    match a, b with
    | .ok x, .ok y => .ok (x ++ y)
    | .bad, _ => .bad
    | _, .bad => .bad
    | _, _ => .absent) (.ok [])

/-- The waiting blocks of a unit, none until all have arrived. -/
def unitBlocks (t : Tensor) (js : List Nat) : Option (List GradBlock) :=
  let bs := js.filterMap (fun j => t.blocks.get none j)
  if bs.length = js.length then some bs else none

/-- The gradient clipped, each group of 32 by itself. -/
def clipGroups (k : Nat) (rs : RuleSet) (g : List Word) (s : State) : State × List Word :=
  let cs := (chunks 32 g.length g).map (clipUnit rs)
  (countLtr k 6 (cs.filter (·.2)).length s, (cs.map (·.1)).flatten)

/-- The values of a unit's records together. -/
def unitVals (recs : List (Nat × List Byte)) : UnitVals :=
  let cat (off : Nat) : List Word := (recs.map (fun r => wordsAt r.2 off 32)).flatten
  { w := cat 16, m := cat 144, v := cat 272, v2 := 0, count := leAt (recs.headD (0, [])).2 4 4 }

/-- A unit's new records written: applied (R189). -/
def writeUnit (k t : Nat) (d : TensorDef) (n : Nat) (recs : List (Nat × List Byte)) (x : UnitVals) (s : State) : State :=
  let s := countLtr k 0 1 (countLate k t s)
  State.each (fun r s =>
    let i := r.1
    let part (l : List Word) : List Word := (l.drop (32 * i)).take 32
    let bs := denseRecord n (nextCount (leAt r.2.2 4 4)) r.2.1 t (d.unpad r.2.1 (part x.w)) (part x.m) (part x.v)
    denseDone t d r.2.1 (bookDense t r.2.1 7 (putDense t d r.2.1 bs s))) (List.zip (List.range recs.length) recs) s

/-- The rule applied to a unit with a clipped gradient `g`; `raw` is the gradient before clipping. -/
def applyUnit (k t : Nat) (d : TensorDef) (rs : RuleSet) (js : List Nat) (raw g : List Word) (s : State) : State :=
  let n := (s.tensor t).step
  let r := readDense d (s.tensor t).bank js s
  if r.2.2 then freezeTensor k t js r.1
  else if r.2.1.any (fun x => decide (n ≤ recStep x.2)) then countLtr k 2 1 (writeUnchanged t d r.2.1 r.1)
  else
    let u := unitDirection k t d rs js g r.1
    let x := ruleStep rs (etaDense s rs t) 32 g u.2 (unitVals r.2.1)
    if x.finite then writeUnit k t d n r.2.1 x (noiseReduced k rs raw u.1)
    else carryUnit k t d r.2.1 (ltrEvent 2 k t (countLtr k 5 1 u.1))

/-- A unit whose gradient cannot be used is carried over (R183, R190). -/
def refuseUnit (k t : Nat) (d : TensorDef) (js : List Nat) (bad : Bool) (s : State) : State :=
  let r := readDense d (s.tensor t).bank js s
  if r.2.2 then freezeTensor k t js r.1
  else if r.2.1.any (fun x => decide ((s.tensor t).step ≤ recStep x.2)) then countLtr k 2 1 (writeUnchanged t d r.2.1 r.1)
  else carryUnit k t d r.2.1 (if bad then ltrEvent 1 k t (countLtr k 4 1 r.1) else r.1)

/-! ### DEFERRED mode (R187) -/

/-- The defer-area address of an owned group. -/
def deferAddr (d : TensorDef) (j : Nat) : Nat := d.deferBase + 128 * (j - d.ownFirst)

/-- A unit's gradient put into the defer area and the local norm window. -/
def deferUnit (k t : Nat) (d : TensorDef) (rs : RuleSet) (js : List Nat) (g : List Word) (s : State) : State :=
  let s := State.each (fun x s => (devWrite reqLauter .none (deferAddr d x.2) (wordBytes ((g.drop (32 * x.1)).take 32)) s).onTensor t
    (fun y => { y with deferred := y.deferred.set false x.2 true })) (List.zip (List.range js.length) js) s
  let r := windowAdd rs.xn (s.ltr.norms.get {} k).glob (squaresOf g)
  onNorms k (fun x => { x with glob := r.1, satGlob := x.satGlob || r.2 }) s

/-- A deferred unit applied under the global factor. -/
def applyDeferred (k t : Nat) (d : TensorDef) (rs : RuleSet) (f : Word) (js : List Nat) (s : State) : State :=
  match unitBlocks (s.tensor t) js with
  | none => s
  | some bs =>
    match unitGrad rs d js bs with
    | .ok raw =>
      let g := (js.map (fun j => wordsAt (rawBytes s (deferAddr d j) 128) 0 32)).flatten
      applyUnit k t d rs js raw (if f = fOne then g else g.map (fun x => fMul x f)) s
    | .absent => refuseUnit k t d js false s
    | .bad => refuseUnit k t d js true s

/-- The dense tensors of the active bundle under a rule set. -/
def tensorsOf (s : State) (k : Nat) : List TensorDef := s.body.tensors.filter (fun d => d.ruleSet == k)

/-- Phase 2 of R187: once every owned block of the rule set has been deferred or is done with, absent ones among them, the window goes
into the rule set's norm reduction with its count of saturated windows. -/
def sendNorm (k : Nat) (s : State) : State :=
  let x := s.ltr.norms.get {} k
  let whole (d : TensorDef) : Bool := (List.range d.ownCount).all (fun i =>
    (s.tensor d.tensor).done.get false (d.ownFirst + i) || (s.tensor d.tensor).deferred.get false (d.ownFirst + i))
  if x.sent.isNone && (tensorsOf s k).all whole then onNorms k (fun x => { x with sent := some (x.glob, b2n x.satGlob) }) s else s

/-- The units of a tensor that are wholly deferred, by their first groups. -/
def deferredUnits (s : State) (t : Nat) (d : TensorDef) (rs : RuleSet) : List (List Nat) :=
  (((s.tensor t).deferred.map (fun kv => unitGroups s t d rs kv.1)).dedup).filter
    (fun js => js.all (fun j => (s.tensor t).deferred.get false j))

/-! ### DENSE_GROUP_UPDATE (R186, R189) -/

/-- The engine writes updates now: of the running step while its update exchange is open and not skipped, and of a late
tensor or walk at any time the module issues work (R114, R199, R200, R327). -/
def lauterRuns (s : State) (late : Bool) : Bool := s.hasBundle && issues s && (late || (s.sch.updating && !s.sch.skip))

/-- A block carried over in DEFERRED mode may be the last that its rule set's norm reduction waited for (R187). -/
def normAfter (k : Nat) (rs : RuleSet) (s : State) : State := if rs.deferred then sendNorm k s else s

/-- A dense unit's update at the arrival of its last block. -/
def denseUpdate (t j : Nat) (s : State) : State :=
  match tensorDef s t with
  | none => s
  | some d =>
    match ruleSetOf s d.ruleSet with
    | none => s
    | some rs =>
      let k := d.ruleSet
      let x := s.tensor t
      if !d.owns j || !lauterRuns s x.late then s
      else if x.done.get false j then countLtr k 2 1 s
      else
        let js := unitGroups s t d rs j
        match unitBlocks x js with
        | none => s
        | some bs =>
          if x.frozen then State.each (fun j s => denseDone t d j (bookDense t j 8 s)) js s
          else if x.deferred.get false j then s
          else
            match unitGrad rs d js bs with
            | .absent => normAfter k rs (refuseUnit k t d js false s)
            | .bad => normAfter k rs (refuseUnit k t d js true s)
            | .ok raw =>
              let c := clipGroups k rs raw s
              if rs.deferred then
                let s := sendNorm k (deferUnit k t d rs js c.2 c.1)
                match x.factor with
                | some f => applyDeferred k t d rs f js s
                | none => s
              else applyUnit k t d rs js raw c.2 c.1

/-- DENSE_GROUP_UPDATE. -/
def execDenseGroupUpdate (tensor : BitVec 16) (group : Nat) (s : State) : Host.Outcome State Fault Refusal :=
  .next (denseUpdate tensor.toNat group s)

/-! ### NORM_REDUCTION (R187) -/

/-- f of R187 from the global sum Q. Its inner rne is taken as an arithmetic result: a sum above the largest finite FP32 gives an
infinite gn, and f is then 0 (DESIGN CHOICE, log 100: R187 writes rne and does not say whether R88's saturation applies). -/
def globalFactor (rs : RuleSet) (q : Nat) : Word :=
  let gn := fSqrt (toF32 (XVal.ofInt false q (rs.xn - 95)))
  if fGt rs.clipGlobal 0 && fGt gn rs.clipGlobal then fDiv rs.clipGlobal gn else fOne

/-- The reduced norm taken: every deferred unit applied, or carried over when a window saturated. -/
def normReduction (k q sats : Nat) (s : State) : State :=
  match ruleSetOf s k with
  | none => s
  | some rs =>
    let late := (tensorsOf s k).any (fun d => (s.tensor d.tensor).late)
    if !rs.deferred || !lauterRuns s late then s
    else if 0 < sats then
      State.each (fun d s => State.each (fun js s => refuseUnit k d.tensor d js false s) (deferredUnits s d.tensor d rs) s)
        (tensorsOf s k) (ltrEvent 4 k 0 s)
    else
      let f := globalFactor rs q
      let s := if f = fOne then s else countLtr k 7 1 s
      State.each (fun d s =>
        let s := s.onTensor d.tensor (fun x => { x with factor := some f })
        State.each (fun js s => applyDeferred k d.tensor d rs f js s) (deferredUnits s d.tensor d rs) s) (tensorsOf s k) s

/-- NORM_REDUCTION. -/
def execNormReduction (set : Fin 64) (q sats : Nat) (s : State) : Host.Outcome State Fault Refusal :=
  .next (normReduction set q sats s)

/-! ### DIST_ARRIVAL (R191, R193) -/

/-- A slice of another owner's working copies written into the shadow half. -/
def distArrival (t owner first : Nat) (payload : List Byte) (absent : Bool) (s : State) : State :=
  match tensorDef s t with
  | none => s
  | some d =>
    if !d.owners.contains owner || owner == s.rank || s.sch.skip then s
    else if absent then s.onTensor t (fun x => { x with absent := x.absent.set false owner true })
    else
      let n := min (payload.length / d.wcBytes) (d.groups - first)
      let s' := devWrite reqLauter .none (d.wc (1 - (s.tensor t).half) + first * d.wcBytes) (payload.take (n * d.wcBytes)) s
      s'.onTensor t (fun x => { x with
        slices := x.slices.modify 0 owner (· + n), got := (List.range n).foldl (fun m i => m.set false (first + i) true) x.got })

/-- DIST_ARRIVAL. -/
def execDistArrival (tensor : BitVec 16) (owner first : Nat) (payload : List Byte) (absent : Bool) (s : State) :
    Host.Outcome State Fault Refusal :=
  .next (distArrival tensor.toNat owner first payload absent s)

/-! ### Embedding rows (R194) -/

/-- Codes of a scalar packing put into bytes. -/
def packCodes (f : Fmt) (cs : List Nat) : List Byte :=
  match f with
  | .bx12 => ((chunks 16 cs.length cs).map (fun b => leBytes 24 (b.foldr (fun c acc => c + 4096 * acc) 0))).flatten
  | f => (cs.map (leBytes f.blockBytes)).flatten

/-- Values stochastically rounded into a format (R84, R85). -/
def srCodes (f : Fmt) (bits : Nat → Nat) (xs : List XVal) : List Nat :=
  match f.layout with
  | some L => (List.zip (List.range xs.length) xs).map (fun x => (L.sr (bits x.1) x.2).1)
  | none => []

/-- The values of a row record, decoded into FP32; a moment beyond FP32 saturates as a conversion does (R88). -/
def rowVals (tb : Table) (bs : List Byte) : UnitVals :=
  let rs := natSigned 8 (leAt bs 12 1)
  { w := (tb.fmt.decodeMany tb.dim (slice bs 16 tb.wBytes)).map toF32
    m := (Fmt.decodeMany .e4m3 tb.dim (slice bs (16 + tb.wBytes) tb.dim)).map (fun x => convF32 (x.scale (-rs)))
    v := [], v2 := BitVec.ofNat 32 (leAt bs 4 4), count := leAt bs 8 4 }

/-- catch_up of R194 for k missed steps. -/
def catchUp (rs : RuleSet) (eta : Word) (k : Nat) (x : UnitVals) : UnitVals :=
  { x with
    m := x.m.map (fun m => fMul m (powFixed rs.beta1 k))
    v2 := if fGt fOne rs.beta2 then fMul x.v2 (powFixed rs.beta2 k) else x.v2
    w := if rs.catchup && fGt rs.lambda 0 then x.w.map (fun w => fMul w (powFixed (fSub fOne (fMul eta rs.lambda)) k)) else x.w }

/-- The new row scale: T = 8, MARGIN = 0; 0 when every element is zero. -/
def rowScale (m : List Word) : Int :=
  let a := amaxRecord (m.map f32)
  if a = noAmax then 0 else clampInt (-128) 127 (8 - a)

/-- The bytes of an updated row record. -/
def rowRecord (t row n : Nat) (tb : Table) (old : List Byte) (x : UnitVals) : List Byte :=
  let k := rowScale x.m
  leBytes 4 n ++ leBytes 4 x.v2.toNat ++ leBytes 4 x.count ++ leBytes 1 (intBits 8 k) ++ slice old 13 3
    ++ packCodes tb.fmt (srCodes tb.fmt (fun e => srBits tb.seed t row 0 e n) (x.w.map f32))
    ++ packCodes .e4m3 (srCodes .e4m3 (fun e => srBits tb.seed t row 1 e n) (x.m.map (fun m => (f32 m).scale k)))

/-- The record of a row after the update of step n, none when its values are not finite (R197). -/
def rowUpdate (t row n : Nat) (tb : Table) (rs : RuleSet) (eta : Word) (g : List Word) (old : List Byte) : Option (List Byte) :=
  let x := rowVals tb old
  let d := n - recStep old
  let x := if 0 < x.count ∧ 1 < d then catchUp rs eta (d - 1) x else x
  let y := ruleStep rs eta tb.dim g g x
  if y.finite then some (rowRecord t row n tb old y) else none

/-- A window read, and cleared or not: its value, whether SAT or OVF, and whether it cannot be used as a number. -/
def takeWindow (clr : Bool) (a : Nat) (s : State) : State × Word × Bool × Bool :=
  let r := tunReadOp clr reqLauter a s
  let w : Word := BitVec.ofNat 32 (leNat r.ret.data)
  ({ r with ret := s.ret }, w, r.ret.sat || r.ret.ovf, (f32 w).isNan || r.ret.poison)

/-- The windows of a row read, and cleared or not. -/
def takeWindows (clr : Bool) (a : Nat) : Nat → State → State × List Word × Bool × Bool
  | 0, s => (s, [], false, false)
  | n + 1, s =>
    let r := takeWindow clr a s
    let q := takeWindows clr (a + 16) n r.1
    (q.1, r.2.1 :: q.2.1, r.2.2.1 || q.2.2.1, r.2.2.2 || q.2.2.2)

/-- Windows cleared and not read. -/
def clearWindows (a dim : Nat) (s : State) : State := State.each (fun x s => tunClear reqLauter (a + 16 * x) s) (List.range dim) s

/-- A row's record updated where it stands. -/
def updateRow (k t : Nat) (tb : Table) (rs : RuleSet) (n slot row addr : Nat) (raw : List Word) (s : State) : State :=
  let c := clipUnit rs raw
  let s := if c.2 then countLtr k 6 1 s else s
  let r := devRead reqLauter .none addr tb.recLen s
  if r.2.2 then poisonSlot t tb n slot row r.1
  else if n ≤ recStep r.2.1 then countLtr k 2 1 r.1
  else
    match rowUpdate t row n tb rs (etaOf s rs n) c.1 r.2.1 with
    | none => ltrEvent 2 k t (countLtr k 5 1 r.1)
    | some bs =>
      let s := mirrorRow t tb row bs (noiseReduced k rs raw (countLtr k 0 1 (devWrite reqLauter .none addr bs r.1)))
      let e := addr / 0x10000
      if addr < cellarBase ∧ (dirEntry s e).state ≠ 0 then onDir e (fun d => { d with dirty := true }) s else s

/-- A touched slot's row (R169, R179, R183). -/
def touchedRow (t : Nat) (tb : Table) (n slot : Nat) (w p : Nat) (s : State) : State :=
  let a := accWindow s tb n slot 0
  match setOfTable s t with
  | none => clearWindows a tb.dim s
  | some (k, rs) =>
    if natBit 49 w then clearWindows a tb.dim s
    else
      let r := takeWindows true a tb.dim s
      if p = 0 then r.1
      else if r.2.2.1 then ltrEvent 0 k t (countLtr k 3 1 r.1)
      else if r.2.2.2 then ltrEvent 1 k t (countLtr k 4 1 r.1)
      else
        let d := XVal.ofInt false (avgDiv rs p s.bhdr.members) 0
        updateRow k t tb rs n slot (w % 2 ^ 48) (natBits 107 64 w) (r.2.1.map (fun x => toF32 ((f32 x).div d))) r.1

/-- The walk of a table's step is over: every slot done, or closed. -/
def walkOver (e : TableStep) : Bool := e.closed || (List.range e.used).all (fun k => e.done.get false k)

/-- The entry whose walk the engine is at: the step before's while it is unfinished (R199). -/
def walkEntry (s : State) (t : Nat) : TableStep :=
  let e := stepEntry s t s.sch.step
  let q := stepEntry s t (s.sch.step + 1)
  if q.step + 1 = s.sch.step && !walkOver q then q else e

/-- The ways that a late walk has passed give up their pins (R162). -/
def passPins (n : Nat) (s : State) : State :=
  State.each (fun kv s => if natBit (n % 2) kv.2.pin && !wayHeld s n kv.1 then unpin (n % 2) kv.1 s else s) s.grn.dir s

/-- A slot of a late walk done: its unit counts in LATE, the walk's end sets UPDATE_LATE, and pins are given up (R162, R199). -/
def lateSlot (t n : Nat) (touched : Bool) (s : State) : State :=
  match setOfTable s t with
  | none => passPins n s
  | some (k, _) =>
    let s := if touched then countLtr k 8 1 s else s
    passPins n (if walkOver (stepEntry s t n) then ltrEvent 3 k t s else s)

/-- EMBEDDING_ROW_UPDATE: one slot of the walk, which goes in ascending slot order (R186): a slot before which others are left has not
been reached. -/
def embeddingUpdate (t slot : Nat) (s : State) : State :=
  match s.table t with
  | none => s
  | some tb =>
    let e := walkEntry s t
    let late := decide (e.step < s.sch.step)
    if !lauterRuns s late || e.step + 1 < s.sch.step || s.sch.step < e.step || e.closed || decide (e.used ≤ slot) then s
    else
      match e.present with
      | none => s
      | some p =>
        if e.done.get false slot then
          match setOfTable s t with
          | some (k, _) => countLtr k 2 1 s
          | none => s
        else if (List.range slot).any (fun i => !e.done.get false i) then s
        else
          let w := rawNat s (slotEntry s tb e.step slot) 16
          let s := if natBit 48 w then touchedRow t tb e.step slot w p s else s
          let s := onStepEntry t e.step (fun x => { x with done := x.done.set false slot true }) s
          if late then lateSlot t e.step (natBit 48 w) s else s

/-- EMBEDDING_ROW_UPDATE. -/
def execEmbeddingRowUpdate (table : BitVec 16) (slot : Nat) (s : State) : Host.Outcome State Fault Refusal :=
  .next (embeddingUpdate table.toNat slot s)

/-- A walk cut (R199, R341): the slots not reached are cleared and their gradients dropped. -/
def cutWalk (t n : Nat) (s : State) : State :=
  match s.table t with
  | none => s
  | some tb =>
    let e := stepEntry s t n
    if e.step ≠ n || walkOver e then s
    else
      let rest := (List.range e.used).filter (fun k => !e.done.get false k)
      let touched := (rest.filter (fun k => natBit 48 (rawNat s (slotEntry s tb n k) 16))).length
      let s := State.each (fun k s => clearWindows (accWindow s tb n k 0) tb.dim s) rest s
      let k := ((setOfTable s t).map (·.1)).getD 0
      let s := if (setOfTable s t).isSome then countLtr k 8 touched s else s
      passPins n (ltrEvent 3 k t (onStepEntry t n (fun x => { x with closed := true }) s))

/-! ### Replicas (R172, R284) -/

/-- A group's reduction definition. -/
def reductionDef (s : State) (g : Nat) : Option ReductionDef := s.body.reductions.find? (fun r => r.group == g)

/-- A reduced block's 136 bytes (R284). -/
def reducedBytes (p g : Nat) (nan : Bool) (w : List Word) : List Byte :=
  leBytes 2 p ++ leBytes 2 g ++ leBytes 1 (b2n nan) ++ zeros 3 ++ wordBytes w

/-- Positions of a replica record in a group: block b belongs to the record at first + b / (DIM / 32). -/
def replicaPos (r : ReductionDef) (tb : Table) (b : Nat) : Nat := r.first + b / (tb.dim / 32)

/-- The row of a replica record position. -/
def replicaRow (tb : Table) (pos : Nat) : Nat := if pos = defaultPos then tb.rows else tb.reps.getD pos 0

/-- The gathered blocks of a replica record, none until all have come. -/
def gathered (s : State) (r : ReductionDef) (tb : Table) (pos : Nat) : Option (List (List Byte)) :=
  let n := tb.dim / 32
  let bs := ((List.range n).map (fun i => s.ltr.reduced.get [] (2 ^ 32 * r.group + (pos - r.first) * n + i))).filter (fun b => !b.isEmpty)
  if bs.length = n then some bs else none

/-- Present contributions of a replica group's blocks counted at its owner. -/
def bookReplica (r : ReductionDef) (i : Nat) (bs : List (List Byte)) (s : State) : State :=
  if r.owner = s.rank then bookAdd r.group i ((bs.map (fun b => leAt b 0 2)).sum) s else s

/-- A replica's record updated with the gradients of its blocks. -/
def updateReplica (r : ReductionDef) (tb : Table) (pos : Nat) (bs : List (List Byte)) (s : State) : State :=
  let t := r.target
  let key := 2 ^ 17 * t + pos
  let n := s.sch.step
  match setOfTable s t with
  | none => bookReplica r 8 bs s
  | some (k, rs) =>
    if s.ltr.repDone.get false key then countLtr k 2 1 s
    else
      let s := s.onLtr (fun l => { l with repDone := l.repDone.set false key true })
      if bs.any (fun b => leAt b 0 2 == 0) then bookReplica r 8 bs s
      else if bs.any (fun b => natBit 0 (leAt b 4 1)) then bookReplica r 8 bs (ltrEvent 1 k t (countLtr k 4 1 s))
      else
        let raw := (bs.map (fun b => wordsAt b 8 32)).flatten
        let c := clipUnit rs raw
        let s := if c.2 then countLtr k 6 1 s else s
        let q := devRead reqLauter .none (repAddr s tb pos) tb.recLen s
        if q.2.2 then bookReplica r 8 bs (grnEvent 2 t (replicaRow tb pos) (countGrn t 14 1 q.1))
        else if n ≤ recStep q.2.1 then bookReplica r 8 bs (countLtr k 2 1 q.1)
        else
          match rowUpdate t (replicaRow tb pos) n tb rs (etaOf s rs n) c.1 q.2.1 with
          | none => bookReplica r 8 bs (ltrEvent 2 k t (countLtr k 5 1 q.1))
          | some rec =>
            let s := bookReplica r 7 bs (countLtr k 0 1 (devWrite reqLauter .none (repAddr s tb pos) rec q.1))
            if r.owner = s.rank then noiseReduced k rs raw s else s

/-- A gathered replica applied, its blocks given up. -/
def applyReplica (r : ReductionDef) (tb : Table) (pos : Nat) (s : State) : State :=
  match gathered s r tb pos with
  | none => s
  | some bs =>
    let n := tb.dim / 32
    let s := updateReplica r tb pos bs s
    let clear (m : Tab (List Byte)) : Tab (List Byte) :=
      (List.range n).foldl (fun m i => m.set [] (2 ^ 32 * r.group + (pos - r.first) * n + i) []) m
    s.onLtr (fun l => { l with reduced := clear l.reduced })

/-- Every gathered replica applied: when a block comes, and when the data path resumes. -/
def applyReplicas (s : State) : State :=
  if !lauterRuns s false then s
  else
    State.each (fun kv s =>
      match reductionDef s (kv.1 / 2 ^ 32) with
      | none => s
      | some r =>
        match s.table r.target with
        | none => s
        | some tb => applyReplica r tb (replicaPos r tb (kv.1 % 2 ^ 32)) s) s.ltr.reduced s

/-- Bytes of the Lauter buffers in use (R196): accumulators and blocks not yet applied, 2,176 bytes each, and reduced blocks of
replicas. A block whose gradient lies in the defer area is no longer buffered. -/
def lauterUsed (s : State) : Nat :=
  2176 * (s.ltr.reduce.length + (s.ltr.tensors.map (fun kv => kv.2.blocks.length - kv.2.deferred.length)).sum) + 136 * s.ltr.reduced.length

/-- The 16 MiB of the Lauter buffers. -/
def lauterRoom : Nat := 16777216

/-- The rule set that a reduction group feeds: its tensor's, or the one its table is bound to. -/
def groupSet (s : State) (r : ReductionDef) : Nat :=
  if r.replica then ((setOfTable s r.target).map (·.1)).getD 0 else ((tensorDef s r.target).map TensorDef.ruleSet).getD 0

/-- In hold a block that needs `n` bytes more than are left is an absent delivery and sets BUFFER_FULL (R200). -/
def bufferFull (s : State) (n : Nat) : Bool := paused s && decide (lauterRoom < lauterUsed s + n)

/-- REPLICA_DIVERGED, naming the table and the row (R284). -/
def divergedRow (t row : Nat) (s : State) : State := event 7 11 0x73 [s.sch.step, s.sch.epoch, t * 2 ^ 48 + row] s

/-- REDUCED_BLOCK: a block of a replica group taken by a member, or found absent. -/
def reducedBlock (g b : Nat) (payload : List Byte) (absent : Bool) (s : State) : State :=
  match reductionDef s g with
  | none => s
  | some r =>
    match s.table r.target with
    | none => s
    | some tb =>
      if !r.replica || !r.members.contains s.rank || decide (r.blocks ≤ b) || s.sch.skip || parked s then s
      else if absent then divergedRow r.target (replicaRow tb (replicaPos r tb b)) s
      else if bufferFull s 136 then
        divergedRow r.target (replicaRow tb (replicaPos r tb b)) (ltrEvent 7 (groupSet s r) (65536 * g + b) s)
      else applyReplicas (s.onLtr (fun l => { l with reduced := l.reduced.set [] (2 ^ 32 * g + b) (padTo 136 payload) }))

/-- REDUCED_BLOCK. -/
def execReducedBlock (group block : Nat) (payload : List Byte) (absent : Bool) (s : State) : Host.Outcome State Fault Refusal :=
  .next (reducedBlock group block payload absent s)

/-! ### Contributions (R282, R283) -/

/-- The exact value times 2^255. -/
def toFix (x : XVal) : Int := match x with | .fin n m e => finAt n m e (-255) | _ => 0

/-- A contribution's bytes agree with the bundle: NSEG, the rank, the block count and the segments' counts. -/
def contribOk (r : ReductionDef) (rank : Nat) (bs : List Byte) : Bool :=
  leAt bs 0 1 == r.segs.length && leAt bs 1 2 == rank && leAt bs 3 4 == r.blocks &&
    (List.zip (List.range r.segs.length) r.segs).all (fun x => leAt bs (8 + 8 * x.1 + 4) 4 == x.2)

/-- Bytes before the blocks. -/
def contribHead (r : ReductionDef) : Nat := 8 + 8 * r.segs.length

/-- The segment of block b. -/
def segmentOf : List Nat → Nat → Nat
  | [], _ => 0
  | n :: ns, b => if b < n then 0 else 1 + segmentOf ns (b - n)

/-- K of block b. -/
def contribK (r : ReductionDef) (bs : List Byte) (b : Nat) : Int := natSigned 8 (leAt bs (8 + 8 * segmentOf r.segs b) 1)

/-- The current K of a scale slot, named by plot and slot; slot 0 does not scale. -/
def slotOwnK (s : State) (p : Nat × Nat) : Int := if p.2 = 0 then 0 else ((s.plot p.1).slot p.2).k

/-- K of each segment of a contribution: that of the PRESENT slot of its quantisation loop (R104, R283), read when the stream is
ready (DEDUCED, log 111). -/
def segmentKs (s : State) (r : ReductionDef) : List Int := (List.range r.segs.length).map (fun i => slotOwnK s (r.slots.getD i (0, 0)))

/-- The prefix and the segment words of a contribution. -/
def contribWords (r : ReductionDef) (rank : Nat) (ks : List Int) : List Byte :=
  leBytes 1 r.segs.length ++ leBytes 2 rank ++ leBytes 4 r.blocks ++ zeros 1
    ++ ((List.zip r.segs ks).map (fun x => leBytes 1 (intBits 8 x.2) ++ zeros 3 ++ leBytes 4 x.1)).flatten

/-- A module's own contribution to a group as its memory holds it, from the place of its prefix on: the blocks that the quantisation
loops stored, behind the prefix and the segment words under the slots' K. True when a byte read is poisoned. -/
def ownContrib (r : ReductionDef) (base : Nat) (s : State) : State × List Byte × Bool :=
  let q := devRead reqLauter .none (base + contribHead r) (33 * r.blocks) s
  (q.1, contribWords r s.rank (segmentKs s r) ++ q.2.1, q.2.2)

/-- The exact values of block b. -/
def contribVals (r : ReductionDef) (bs : List Byte) (b : Nat) : List XVal :=
  (mb8Values (slice bs (contribHead r + 33 * b) 33)).map (XVal.scale (-(contribK r bs b)))

/-- Block b touches an absent flit. -/
def contribGone (r : ReductionDef) (absent : List Nat) (b : Nat) : Bool :=
  let o := contribHead r + 33 * b
  absent.any (fun i => decide (o / 248 ≤ i) && decide (i ≤ (o + 32) / 248))

/-- The whole contribution is absent: its prefix or a segment word was lost, or its bytes are not the bundle's. -/
def contribLost (r : ReductionDef) (absent : List Nat) : Bool := absent.any (fun i => decide (i * 248 < contribHead r))

/-- A member's block added, present or absent. -/
def reduceAdd (vals : Option (List XVal)) (x : Reduce) : Reduce :=
  match vals with
  | none => { x with absent := x.absent + 1 }
  | some vs =>
    let sums := if x.sums.isEmpty then List.replicate 32 0 else x.sums
    let nans := if x.nans.isEmpty then List.replicate 32 false else x.nans
    { sums := List.zipWith (fun a v => a + toFix v) sums vs, nans := List.zipWith (fun a v => a || v.isNan) nans vs
      present := x.present + 1, absent := x.absent }

/-- The sums of an accumulator, zeros when nobody was present. -/
def Reduce.block (x : Reduce) (g : Nat) : GradBlock :=
  { p := x.present, g := g, sums := if x.sums.isEmpty then List.replicate 32 0 else x.sums
    nans := if x.nans.isEmpty then List.replicate 32 false else x.nans }

/-- A REDUCED stream's buffer takes a block: the TX stream of kind REDUCED whose GROUP names the group. -/
def sendReduced (g b : Nat) (bs : List Byte) (s : State) : State :=
  State.each (fun d s =>
    let s := devWrite reqLauter .none (d.base + 136 * b) bs s
    let n := if b + 1 = ((reductionDef s g).map ReductionDef.blocks).getD 0 then d.flits else (b + 1) * 136 / 248
    s.onFab (fun f => { f with engReady := f.engReady.modify 0 d.id (fun v => max v n) }))
    (s.body.streams.filter (fun d => d.kind == .reduced && !d.rx && d.group == g)) s

/-- The reduced block of a replica group that the owner forms and sends, and takes itself (R284). -/
def formReduced (r : ReductionDef) (b : Nat) (x : GradBlock) (s : State) : State :=
  match setOfTable s r.target with
  | none => bookAdd r.group 8 x.p s
  | some (_, rs) =>
    let d := XVal.ofInt false (avgDiv rs x.p x.g) 0
    let ws := if x.p = 0 then List.replicate 32 0
      else List.zipWith (fun v n => if n then (0x7FC00000 : Word) else convF32 ((XVal.ofInt false v (-255)).div d)) x.sums x.nans
    let bs := reducedBytes x.p x.g (x.nans.any id) ws
    reducedBlock r.group b bs false (sendReduced r.group b bs s)

/-- A reduced block of a late tensor dropped: LATE counts its unit, once, at the unit's first group (R199, LTR_LATE). -/
def dropLate (t j : Nat) (s : State) : State :=
  match tensorDef s t with
  | none => s
  | some d =>
    match ruleSetOf s d.ruleSet with
    | none => s
    | some rs => if (unitGroups s t d rs j).head? = some j then countLate d.ruleSet t s else s

/-- A block of which every member has been counted: the books of R287, then the rule's side or the replicas' side. -/
def reduceDone (r : ReductionDef) (b : Nat) (s : State) : State :=
  let key := 2 ^ 32 * r.group + b
  let x := s.ltr.reduce.get {} key
  let g := r.members.length
  if x.present + x.absent < g then s
  else
    let s := bookAdd r.group 6 g (bookAdd r.group 5 x.absent (bookAdd r.group 4 x.present s))
    let s := s.onLtr (fun l => { l with reduce := l.reduce.set {} key {} })
    let s := if x.present + x.absent = g then s else event 7 10 0x73 [s.sch.step, s.sch.epoch, r.group] s
    if r.replica then formReduced r b (x.block g) s
    else
      let t := s.tensor r.target
      if t.late || t.frozen || t.done.get false (r.first + b) then
        bookAdd r.group 8 x.present (if t.late then dropLate r.target (r.first + b) s else s)
      else s.onTensor r.target (fun t => { t with blocks := t.blocks.set none (r.first + b) (some (x.block g)) })

/-- One block of a member's contribution counted: present with its values, or absent; in hold a block for whose accumulator no buffer
is left is absent (R200). -/
def takeBlock (r : ReductionDef) (b : Nat) (vals : Option (List XVal)) (s : State) : State :=
  let key := 2 ^ 32 * r.group + b
  let full := vals.isSome && (s.ltr.reduce.get {} key).sums.isEmpty && bufferFull s 2176
  let s := if full then ltrEvent 7 (groupSet s r) (65536 * r.group + b) s else s
  reduceDone r b (s.onLtr (fun l => { l with reduce := l.reduce.modify {} key (reduceAdd (if full then none else vals)) }))

/-- A member's contribution counted, block by block; none when all of it is absent. -/
def takeContrib (r : ReductionDef) (rank : Nat) (bs : Option (List Byte)) (absent : List Nat) (s : State) : State :=
  let s := s.onLtr (fun l => { l with taken := l.taken.set false (65536 * r.group + rank) true })
  State.each (fun b s =>
    takeBlock r b (match bs with
      | some bs => if contribGone r absent b then none else some (contribVals r bs b)
      | none => none) s) (List.range r.blocks) s

/-- The owner's own contribution taken from its memory; that of an unarmed step is absent (R25), and poisoned blocks cannot be used and all of it is absent (DESIGN CHOICE,
log 99). -/
def takeOwn (r : ReductionDef) (s : State) : State :=
  let q := ownContrib r r.srcBase s
  takeContrib r s.rank (if q.2.2 || s.sch.unarmed then none else some q.2.1) [] q.1

/-- CONTRIB_ARRIVAL: a member's contribution at the group's owner, once a step; the owner's own never leaves the module, and is taken
from where its loops put it. -/
def contribArrival (g rank : Nat) (payload : List Byte) (absent : List Nat) (s : State) : State :=
  match reductionDef s g with
  | none => s
  | some r =>
    if r.owner ≠ s.rank || !r.members.contains rank || s.ltr.taken.get false (65536 * g + rank) || s.sch.skip || parked s then s
    else if rank = s.rank then takeOwn r s
    else if contribLost r absent then takeContrib r rank none absent s
    else if !contribOk r rank payload then takeContrib r rank none absent (event 7 10 0x73 [s.sch.step, s.sch.epoch, g] s)
    else takeContrib r rank (some payload) absent s

/-- CONTRIB_ARRIVAL. -/
def execContribArrival (group rank : Nat) (payload : List Byte) (absent : List Nat) (s : State) : Host.Outcome State Fault Refusal :=
  .next (contribArrival group rank payload absent s)

/-! ### What a member contributes itself (R172, R286) -/

/-- The values of one replica record's windows. A record with a window that reports SAT or OVF, holds the NaN mark or was read poisoned
has no usable gradient: its elements are NaN, so that every member refuses it (R183; DESIGN CHOICE, log 99). -/
def replicaVals (r : ReductionDef) (tb : Table) (i : Nat) (s : State) : State × List XVal :=
  let q := takeWindows false (repWindow s tb (r.first + i) 0) tb.dim s
  let k := groupSet s r
  let s := if q.2.2.1 then ltrEvent 0 k r.target (countLtr k 3 1 q.1) else q.1
  (s, if q.2.2.1 || q.2.2.2 then List.replicate tb.dim .nan else q.2.1.map f32)

/-- The values of consecutive replica records, in block order. -/
def replicaSums (r : ReductionDef) (tb : Table) : List Nat → State → State × List XVal
  | [], s => (s, [])
  | i :: is, s =>
    let a := replicaVals r tb i s
    let b := replicaSums r tb is a.1
    (b.1, a.2 ++ b.2)

/-- A list cut into pieces of given lengths. -/
def cutInto {α : Type} : List Nat → List α → List (List α)
  | [], _ => []
  | n :: ns, l => l.take n :: cutInto ns (l.drop n)

/-- A PRESENT slot takes the K of values about to be quantised, and records their amax (R99, R102). -/
def presentK (p : Nat × Nat) (tag : Nat) (vs : List XVal) (s : State) : State :=
  let a := amaxRecord vs
  (setSlotK p.1 p.2 a false tag s).onPlot p.1 (recordAmax p.2 a)

/-- A member's contribution to a REPLICA group: its windows quantised to MB8, each segment under its PRESENT slot (R104, R172, R384). -/
def replicaContrib (r : ReductionDef) (tb : Table) (s : State) : State × List Byte :=
  let q := replicaSums r tb (List.range (r.blocks / (tb.dim / 32))) s
  let parts := cutInto (r.segs.map (32 * ·)) q.2
  let s := State.each (fun x s => presentK x.1 r.group x.2 s) (List.zip r.slots parts) q.1
  let ks := segmentKs s r
  (s, contribWords r s.rank ks ++ ((List.zip ks parts).map (fun x => (Fmt.encodeMany .mb8 (x.2.map (XVal.scale x.1))).1)).flatten)

/-- The contributions of REPLICA groups formed when the update exchange opens. -/
def formReplicaContribs (s : State) : State :=
  State.each (fun r s =>
    match s.table r.target with
    | none => s
    | some tb =>
      if !r.replica || !r.members.contains s.rank then s
      else
        let q := replicaContrib r tb s
        let s := devWrite reqLauter .none r.srcBase q.2 q.1
        State.each (fun d s =>
          let s := devWrite reqLauter .none d.base q.2 s
          semPostAt d.plot d.sem (ceilDiv d.flits (max 1 d.unit)) s)
          (s.body.streams.filter (fun d => d.kind == .contrib && !d.rx && d.group == r.group)) s) s.body.reductions s

/-- The prefix and segment words of a DENSE contribution, under the K of the loops that quantised it, put before its blocks (R104,
R283). -/
def putHead (g base : Nat) (s : State) : State :=
  match reductionDef s g with
  | none => s
  | some r => if r.replica then s else devWrite reqLauter .none base (contribWords r s.rank (segmentKs s r)) s

/-! ### Gradient records at the requester (R166) -/

/-- A gradient record for another owner: table, owner, micro-batch and bytes. The layout is the model's (log 97): K, the count of
handles, the blocks, the handles. -/
abbrev GradOut := Nat × Nat × Nat × List Byte

/-- The bytes of a gradient record. -/
def gradBytes (k : Int) (blocks : List Byte) (hs : List Nat) : List Byte :=
  leBytes 1 (intBits 8 k) ++ zeros 3 ++ leBytes 4 hs.length ++ blocks ++ (hs.map (leBytes 4)).flatten

/-- The gradient record of a table that could not be sent: lane 0 of the table's tally arrives as 0 (R168). -/
def gradMiss (t : Nat) : State → State := State.onGrn (fun g => { g with gradLost := g.gradLost.set false t true })

/-- Where a position's gradient goes. -/
inductive GradTo where
  /-- a replica's windows, the learned default row's among them -/
  | windows (pos : Nat)
  /-- an own accumulator slot -/
  | slot (k : Nat)
  /-- the owner of the row, under its handle -/
  | owner (rank handle : Nat)
  /-- the owner of the row, which gave no handle -/
  | lost
  /-- nowhere: the default row is ZERO -/
  | gone
  deriving DecidableEq, Repr

/-- Where the gradient of the position with a key goes. A position that pooling replaced has the default row's. -/
def gradTo (s : State) (t : Nat) (tb : Table) (key : Nat) (p : BagPos) : GradTo :=
  let dflt : GradTo := if tb.learned then .windows defaultPos else .gone
  if s.grn.subst.get false key then dflt
  else
    match p with
    | .dflt => dflt
    | .replica i => .windows i
    | .row r =>
      if tb.owns r then
        (match (stepEntry s t s.sch.step).slotOf.get 0 r with
          | 0 => dflt
          | k + 1 => .slot k)
      else
        match s.grn.handles.get 0 (handleKey t r) with
        | 0 => .lost
        | h + 1 => .owner (tb.owner (tb.shard r)) h

/-- A pooled vector's gradient as the loop that quantises it reads it, in FP32; a MEAN bag's is multiplied by 1/P and rounded once. -/
def bagGrad (d : FeatureDef) (dim smp n : Nat) (s : State) : State × List Word × Bool :=
  let q := devRead reqGranary .none (d.gradBase + smp * d.gradStride) (4 * dim) s
  let g := wordsAt q.2.1 0 dim
  (q.1, if d.mean then g.map (fun w => fDiv w (toF32 (XVal.ofInt false n 0))) else g, q.2.2)

/-- The gradient of one bag: quantised to MB8 under the feature's PRESENT slot, added to this module's own slots and windows, and made
into one record for every other owner. Its elements enter the rule set's LOCAL window once (R201). -/
def gradBag (d : FeatureDef) (tb : Table) (smp key : Nat) (bag : List BagPos) (s : State) : State × List GradOut :=
  let q := bagGrad d tb.dim smp bag.length s
  let tos := (List.zip (List.range bag.length) bag).map (fun x => gradTo q.1 d.table tb (key + x.1) x.2)
  if q.2.2 then (gradMiss d.table q.1, [])
  else if tos.all (· == .gone) then (q.1, [])
  else
    let vs := q.2.1.map f32
    let s := presentK (d.plot, d.gradSlot) d.gradSlot vs q.1
    let k := slotOwnK s (d.plot, d.gradSlot)
    let blocks := (Fmt.encodeMany .mb8 (vs.map (XVal.scale k))).1
    let xs := gradVals tb k blocks
    let s := match setOfTable s d.table with
      | some (n, rs) => noiseLocal n rs vs s
      | none => s
    let s := State.each (fun o s =>
      match o with
      | .windows pos => addWindows (repWindow s tb pos 0) xs s
      | .slot i => gradSlot tb s.sch.step i xs s
      | .lost => gradMiss d.table s
      | _ => s) tos s
    let owners := (tos.filterMap (fun o => match o with | .owner r _ => some r | _ => none)).eraseDups
    (s, owners.map (fun r => (d.table, r, smp / max 1 s.body.micro,
      gradBytes k blocks (tos.filterMap (fun o => match o with | .owner r' h => if r' = r then some h else none | _ => none)))))

/-- Every bag of the step, in the order of samples and features. -/
def gradBags : List (Nat × List BagPos) → State → State × List GradOut
  | [], s => (s, [])
  | (b, bag) :: bs, s =>
    let fs := s.body.features
    let q : State × List GradOut := match fs[b % max 1 fs.length]? with
      | none => (s, [])
      | some d =>
        match s.table d.table with
        | none => (s, [])
        | some tb => gradBag d tb (b / max 1 fs.length) (256 * b) bag s
    let r := gradBags bs q.1
    (r.1, q.2 ++ r.2)

/-- The records for one owner put on their GRAD_REC stream; one that does not fit its micro-batch's part is not sent. -/
def sendGrads (t : Nat) (p : PairDef) (outs : List GradOut) (s : State) : State :=
  let mine := outs.filter (fun o => o.1 == t && o.2.1 == p.rank)
  match bundleStream s p.gradStream with
  | none => if mine.isEmpty then s else gradMiss t s
  | some d =>
    streamReady d (State.each (fun mb s =>
      let bs := ((mine.filter (fun o => o.2.2.1 == mb)).map (fun o => o.2.2.2)).flatten
      if 248 * microFlits s d < bs.length then gradMiss t s else streamBytes reqGranary d mb 0 bs s) (List.range (microBatches s)) s)

/-- The gradient records of the step, formed when the update exchange opens: every gradient of a pooled vector is then complete
(DESIGN CHOICE, log 97: R166 places them in the backward pass and gives no instant). -/
def formGradRecords (s : State) : State :=
  if !issues s then s
  else
    let q := gradBags s.grn.bags s
    State.each (fun (t : TableFDef) s => State.each (fun p s => sendGrads t.table p q.2 s) t.pairs s) q.1.body.tablesF q.1

end Sys2Proof.Machine
end

