-- ==== Sys2Proof/Machine/Fabric.lean ====
section
/-! DEFINITION. Flits on the links: the FEC (R228), flit times (R229), withy flits and their replay (R232 to R235), slot
runs, delivery to streams and forwarding (R246 to R252, R281), and switched frames (R255 to R257). -/

namespace Sys2Proof.Machine

/-! ### The FEC (R228) -/

/-- A byte times x in GF(2^8) under x^8 + x^4 + x^3 + x^2 + 1. -/
def gfDouble (a : Nat) : Nat := if 128 ≤ a then (2 * a) ^^^ 0x11D else 2 * a

/-- A product in GF(2^8), from the `n` low bits of b. -/
def gfMul (a b : Nat) : Nat → Nat
  | 0 => 0
  | n + 1 => (if b % 2 = 1 then a else 0) ^^^ gfMul (gfDouble a) (b / 2) n

/-- The generator with roots alpha^0 to alpha^3, without its leading 1, highest power first. -/
def rsGen : List Nat := [0x0F, 0x36, 0x78, 0x40]

/-- One data byte through the encoder: the four parity bytes, highest power first. -/
def rsStep (ps : List Nat) (d : Nat) : List Nat :=
  let f := d ^^^ ps.getD 0 0
  (List.range 4).map (fun i => ps.getD (i + 1) 0 ^^^ gfMul f (rsGen.getD i 0) 8)

/-- The four parity bytes of a codeword's data, the first byte at the highest power (PRESUMED, log 16). -/
def rsParity (ds : List Nat) : List Nat := ds.foldl rsStep [0, 0, 0, 0]

/-- The 256 bytes of a flit: the body, then the two codewords' parity bytes interleaved. -/
def flitBytes (body : List Byte) : List Byte :=
  let b := padTo 248 body
  let cw (i : Nat) : List Nat := rsParity ((List.range 124).map (fun k => leAt b (2 * k + i) 1))
  b ++ (List.range 8).map (fun k => BitVec.ofNat 8 ((cw (k % 2)).getD (k / 2) 0))

/-- A power of alpha. -/
def gfPow : Nat → Nat
  | 0 => 1
  | n + 1 => gfDouble (gfPow n)

/-- A byte times alpha^n. -/
def gfShift (n a : Nat) : Nat :=
  match n with
  | 0 => a
  | n + 1 => gfDouble (gfShift n a)

/-- The inverse of a byte that is not 0. -/
def gfInv (a : Nat) : Nat := ((List.range 256).find? (fun x => gfMul a x 8 == 1)).getD 0

/-- Syndrome j of a codeword of 128 bytes, highest power first: its value at alpha^j. -/
def rsSyndrome (cs : List Nat) (j : Nat) : Nat := cs.foldl (fun a c => gfShift j a ^^^ c) 0

/-- A codeword with the byte at a power changed. -/
def rsFix (cs : List Nat) (power value : Nat) : List Nat :=
  (List.zip (List.range cs.length) cs).map (fun x => if x.1 + power = 127 then x.2 ^^^ value else x.2)

/-- One error with the syndromes s0 to s3: its power. -/
def rsOne (s0 s1 s2 s3 : Nat) : Option Nat :=
  if s0 = 0 then none
  else (List.range 128).find? (fun i => gfMul s0 (gfPow i) 8 == s1 && gfMul s1 (gfPow i) 8 == s2 && gfMul s2 (gfPow i) 8 == s3)

/-- Two errors with the syndromes s0 to s3: the powers that are roots of the error locator. -/
def rsTwo (s0 s1 s2 s3 : Nat) : Option (Nat × Nat) :=
  let inv := gfInv (gfMul s0 s2 8 ^^^ gfMul s1 s1 8)
  let a := gfMul (gfMul s0 s3 8 ^^^ gfMul s1 s2 8) inv 8
  let b := gfMul (gfMul s1 s3 8 ^^^ gfMul s2 s2 8) inv 8
  match (List.range 128).filter (fun i => gfMul (gfPow i) (gfPow i) 8 ^^^ gfMul a (gfPow i) 8 ^^^ b == 0) with
  | [i, j] => some (i, j)
  | _ => none

/-- A codeword decoded (R228): its bytes and how many were corrected, at most 2; none when it cannot be. -/
def rsDecode (cs : List Nat) : Option (List Nat × Nat) :=
  let s0 := rsSyndrome cs 0
  let s1 := rsSyndrome cs 1
  let s2 := rsSyndrome cs 2
  let s3 := rsSyndrome cs 3
  if s0 = 0 ∧ s1 = 0 ∧ s2 = 0 ∧ s3 = 0 then some (cs, 0)
  else if gfMul s0 s2 8 = gfMul s1 s1 8 then (rsOne s0 s1 s2 s3).map (fun i => (rsFix cs i s0, 1))
  else (rsTwo s0 s1 s2 s3).map (fun x =>
    let y2 := gfMul (s1 ^^^ gfMul s0 (gfPow x.1) 8) (gfInv (gfPow x.1 ^^^ gfPow x.2)) 8
    (rsFix (rsFix cs x.1 (s0 ^^^ y2)) x.2 y2, 2))

/-- Codeword i of a flit's 256 bytes. -/
def flitCodeword (raw : List Byte) (i : Nat) : List Nat := (List.range 128).map (fun k => leAt raw (2 * k + i) 1)

/-- A received flit decoded (R228): its body and the bytes corrected; none when a codeword cannot be corrected. -/
def flitDecode (raw : List Byte) : Option (List Byte × Nat) :=
  match rsDecode (flitCodeword raw 0), rsDecode (flitCodeword raw 1) with
  | some a, some b => some ((List.range 248).map (fun n => BitVec.ofNat 8 ((if n % 2 = 0 then a.1 else b.1).getD (n / 2) 0)), a.2 + b.2)
  | _, _ => none

/-! ### Templates and runs -/

/-- Template n of the active bundle. -/
def templateOf (s : State) (n : Nat) : Option Template := s.body.templates.find? (fun t => t.num == n)

/-- The runs of port p in template n, in list order. -/
def runsOf (s : State) (n p : Nat) : List Run := ((templateOf s n).map (fun t => t.portRuns p)).getD []

/-- A run that sends. -/
def Run.tx (r : Run) : Bool := r.kind == .txLocal || r.kind == .txForward

/-- A run that forwards what it receives. -/
def Run.fwd (r : Run) : Bool := r.kind == .rxForward || r.kind == .rxBoth

/-- A run covers a data position. -/
def Run.covers (r : Run) (k : Nat) : Bool := decide (r.start ≤ k) && decide (k < r.start + r.len)

/-- The stream of a number. -/
def streamOf (s : State) (id : Nat) : Option StreamDef := s.body.streams.find? (fun d => d.id == id)

/-- A stream of the update exchange (R114). -/
def updateKind (k : StreamKind) : Bool := k == .contrib || k == .gradRec || k == .reduced || k == .dist

/-- Data positions that lie before flit time t (R229). -/
def positionsBefore (t : Nat) : Nat := t - ceilDiv t 32

/-- Port p carries the runs of the running epoch: ACTIVE, and trained before the epoch's release (R251, R253). -/
def carriesRuns (q : Port) : Bool := q.state == 5 && !q.rejoin

/-- A port on which runs go: one that carries them in slots, or a switched one (R255). -/
def runsUp (q : Port) : Bool := carriesRuns q || q.state == 6

/-! ### Readiness of TX runs (R247, R281) -/

/-- A TX stream is ready up to so many flits: from its STREAM semaphore, or as its engine has signalled. -/
def readyFlits (s : State) (d : StreamDef) : Nat :=
  match d.kind with
  | .plot | .contrib | .split => ((s.plot d.plot).sems.get {} d.sem).value * d.unit
  | _ => s.fab.engReady.get 0 d.id

/-- A TX_LOCAL run has to go absent whatever its stream holds: hold, park, lost aperture reads of its plot, an update
exchange under SKIP or fed by a plot that missed its tally point, an unarmed step (R25, R114, R252, R278, R311). -/
def sourceStopped (s : State) (d : StreamDef) : Bool :=
  parked s || paused s || s.sch.skip && s.sch.updating && updateKind d.kind
    || (d.kind == .plot || d.kind == .contrib) && (s.plot d.plot).hostLost
    || s.sch.updating && d.kind == .contrib && !(s.plot d.plot).tallied
    || s.sch.unarmed && (d.kind == .contrib || d.kind == .gradRec)

/-- A TX run goes as data. -/
def txGoes (s : State) (p : Nat) (r : Run) : Bool :=
  runsUp (s.port p) && s.fab.synt != 3 && !s.fab.syntWait &&
    match r.kind with
    | .txLocal =>
      (match streamOf s r.stream with
        | some d => !sourceStopped s d && decide (r.streamOff + r.len ≤ readyFlits s d)
        | none => false)
    | _ => true

/-- A TX_LOCAL run noted absent at its source (R281, R285): its flits, and the embedding records or contribution blocks of
its stream are looked at by their engines. -/
def absentAtSource (p : Nat) (r : Run) (s : State) : State :=
  let s := s.onFab (fun f => { f with absentTx := f.absentTx ++ [(r.stream, r.streamOff, r.len)] })
  let s := State.each (fun t s => if t.pairs.any (fun q => q.gradStream == r.stream) then gradMiss t.table s else s) s.body.tablesF s
  if runsUp (s.port p) then syncCount 9 r.stream s else s

/-- What the engine behind a TX_LOCAL run's stream does at the run's check: the Granary reads the rows that the run sends (R165) and the
records of shards that move away (R290), and a contribution takes its prefix and segment words (R104, R283). -/
def fillRun (r : Run) (s : State) : State :=
  match streamOf s r.stream with
  | none => s
  | some d =>
    if r.kind != .txLocal || sourceStopped s d then s
    else if d.kind = .grnRows then
      (serveRows d r.streamOff r.len s).onFab (fun f => { f with engReady := f.engReady.modify 0 d.id (fun n => max n (r.streamOff + r.len)) })
    else if d.kind = .contrib then putHead d.group d.base s
    else if d.kind = .reshard then fillReshard d r.streamOff r.len s
    else s

/-- The check of run i of port p: the run goes as data or the whole run is absent, with one ABSENT message on a port that
is up. -/
def checkRun (p i : Nat) (s : State) : State :=
  match (runsOf s s.sch.template p)[i]? with
  | none => s
  | some r =>
    if !r.tx || (s.flow p).checked.get false i then s
    else
      let s := fillRun r s
      let goes := txGoes s p r
      let s := s.onFlow p (fun f => { f with checked := f.checked.set false i true, ready := f.ready.set false i goes })
      if goes then s
      else
        let s := s.countPort p 6 r.len
        let s := if r.kind = .txLocal then absentAtSource p r s else s
        if (s.port p).state = 5 ∨ (s.port p).state = 6 then pushWithy p 2 [absentWord r.marker 0xFFFFF s.rank] s else s

/-- RUN_CHECK: the check 64 flit times before a run, by its index in the port's list. A switched port has no slot times: its runs are
looked at when it comes to send them (R255). -/
def execRunCheck (port : Fin 16) (run : Nat) (s : State) : Host.Outcome State Fault Refusal :=
  .next (if (s.port port).state = 6 then s else checkRun port run s)

/-! ### Sending (R229, R235) -/

/-- The words of a message at its departure: a RELEASE's ACC takes the time since it was queued, 1,280 ps a flit (R242). -/
def departing (now : Nat) (m : WithyMsg) : List Nat :=
  if m.cls = 0 then m.words.mapIdx (fun i w => if i = 1 then (w + (now - m.at_) * 1280 / 25) % 2 ^ 40 else w) else m.words

/-- Messages taken from a list while they fit in so many words. -/
def takeFit : Nat → List WithyMsg → List WithyMsg
  | _, [] => []
  | n, m :: ms => if m.words.length ≤ n then m :: takeFit (n - m.words.length) ms else []

/-- A CAP message, which starts in word 1 of its flit (R233). -/
def WithyMsg.isCap (m : WithyMsg) : Bool := m.cls == 4 && m.words.headD 0 % 256 == 7

/-- A REPLAY_NOTICE. -/
def WithyMsg.isNotice (m : WithyMsg) : Bool := m.cls == 4 && m.words.headD 0 % 256 == 4

/-- The queue in the order of R235: by class, and within a class in order of arrival; a CAP goes first in its flit (R233). -/
def byClass (ms : List WithyMsg) : List WithyMsg :=
  ms.filter WithyMsg.isCap ++ ((List.range 5).map (fun c => ms.filter (fun m => m.cls == c && !m.isCap))).flatten

/-- A port on which withy flits run: from stage 4 of training on (R227). -/
def sendsWithy (q : Port) : Bool :=
  (q.state == 2 && decide (4 ≤ q.stage)) || q.state == 3 || q.state == 4 || q.state == 5

/-- The link word of a withy flit (Table 10.2). -/
def linkWordOf (s : State) (f : PortFlow) (seq : Nat) : Nat :=
  seq + 2 ^ 8 * ((f.rxSeq + 255) % 256) + 2 ^ 16 * b2n (f.t == 0) + 2 ^ 17 * s.sch.template + 2 ^ 20 * s.sch.epoch

/-- The bytes of a withy flit. -/
def withyBytes (s : State) (f : PortFlow) (seq : Nat) (ms : List WithyMsg) : List Byte :=
  flitBytes (leBytes 8 (linkWordOf s f seq) ++ ((ms.map (departing f.sent)).flatten.map (leBytes 8)).flatten)

/-- Messages that waited at their sources take the room that a queue has again (R235). -/
def refill (p : Nat) : State → State := State.onFlow p (fun f =>
  let ms := takeFit (1024 - queuedWords f.queue) f.stalled
  { f with queue := f.queue ++ ms, stalled := f.stalled.drop ms.length })

/-- New messages of a port: those that it carries in its state (R227), as many as 30 words hold. -/
def sendNew (p : Nat) (s : State) : State :=
  let f := s.flow p
  let now := byClass (f.queue.filter (fun m => carriesWithy (s.port p) || m.cls == 4))
  let wait := f.queue.filter (fun m => !(carriesWithy (s.port p) || m.cls == 4))
  let ms := takeFit 30 now
  refill p (s.onFlow p (fun g => { g with
    queue := wait ++ now.drop ms.length, unacked := g.unacked ++ [(g.txSeq, ms)], txSeq := (g.txSeq + 1) % 256
    lastTx := withyBytes s f f.txSeq ms }))

/-- The withy flit of a port that holds eight unacknowledged flits: the newest of them once more, with the link word of its departure and
the REPLAY_NOTICEs that wait (R229 has a withy flit go at every such time, R234 lets no ninth be held; DESIGN CHOICE, log 101). -/
def sendAgain (p : Nat) (s : State) : State :=
  let f := s.flow p
  let k := f.unacked.getLastD (0, [])
  let ns := takeFit (30 - queuedWords k.2) (f.queue.filter WithyMsg.isNotice)
  s.onFlow p (fun g => { g with
    queue := g.queue.filter (fun m => !m.isNotice) ++ (g.queue.filter WithyMsg.isNotice).drop ns.length
    lastTx := withyBytes s f k.1 (k.2 ++ ns) })

/-- A withy flit sent: a kept flit that is to be resent, else new messages. -/
def sendWithy (p : Nat) (s : State) : State :=
  let f := s.flow p
  if 0 < f.resend then
    let k := f.unacked.getD (f.unacked.length - f.resend) (0, [])
    let s := (s.onFlow p (fun g => { g with resend := g.resend - 1, lastTx := withyBytes s f k.1 k.2 })).countPort p 4 1
    event 5 3 (0x60 + p) [p, s.sch.step, s.sch.epoch] s
  else if 8 ≤ f.unacked.length then sendAgain p s
  else sendNew p s

/-- A data flit put on the wire. -/
def sendBody (p : Nat) (body : List Byte) : State → State := State.onFlow p (fun f => { f with lastTx := flitBytes body })

/-- The RX position of port q's flit that the j-th forwarded flit toward port p is: the j-th position of the RX_FORWARD and
RX_BOTH runs from q to p (R250). -/
def forwardPos : Nat → List Run → Option Nat
  | _, [] => none
  | j, r :: rs => if j < r.len then some (r.start + j) else forwardPos (j - r.len) rs

/-- Which forwarded flit from port q a TX_FORWARD position of port p carries. -/
def forwardIndex (s : State) (p q k : Nat) : Nat :=
  (((runsOf s s.sch.template p).filter (fun r => r.kind == .txForward && r.peer == q)).map
    (fun r => if r.start + r.len ≤ k then r.len else k - r.start)).sum

/-- The RX position a TX_FORWARD position of port p takes from port q. -/
def forwardWant (s : State) (p q k : Nat) : Option Nat :=
  forwardPos (forwardIndex s p q k) ((runsOf s s.sch.template q).filter (fun r => r.fwd && r.peer == p))

/-- A forwarded flit that is missing: zeros with an ABSENT message naming it (R248); `rank` is the marker's origin. -/
def forwardAbsent (p : Nat) (r : Run) (k rank : Nat) (s : State) : State :=
  pushWithy p 2 [absentWord r.marker (k - r.start) rank] ((sendBody p [] s).countPort p 6 1)

/-- A TX_FORWARD position of port p. A flit of an input port that is out of service goes onward as absent (R251); where the port is up
and no flit has come, the FIFO underran, and the flit is discarded if it comes later. -/
def sendForward (p : Nat) (r : Run) (k : Nat) (s : State) : State :=
  match forwardWant s p r.peer k with
  | none => sendBody p [] s
  | some w =>
    let f := s.flow r.peer
    match f.fifo.find? (fun h => h.pos == w && h.ep == s.sch.epoch) with
    | some h =>
      let s := s.onFlow r.peer (fun g => { g with fifo := g.fifo.filter (fun x => x.pos != w || x.ep != s.sch.epoch) })
      match h.body with
      | some b => (sendBody p b s).countPort p 0 1
      | none => forwardAbsent p r k h.origin s
    | none =>
      if f.lostFwd.contains w then
        forwardAbsent p r k s.rank (s.onFlow r.peer (fun g => { g with lostFwd := g.lostFwd.filter (· != w) }))
      else if !carriesRuns (s.port r.peer) then forwardAbsent p r k s.rank s
      else
        forwardAbsent p r k s.rank (event 5 8 (0x60 + p) [p, s.sch.step, s.sch.epoch] ((s.countPort p 8 1).onFlow r.peer (fun g =>
          { g with passed := g.passed ++ [w] })))

/-- A TX_FORWARD run that sends nothing discards the flit queued for its position (R251). -/
def dropForward (p : Nat) (r : Run) (k : Nat) (s : State) : State :=
  match forwardWant s p r.peer k with
  | some w => s.onFlow r.peer (fun g => { g with fifo := g.fifo.filter (fun x => x.pos != w || x.ep != s.sch.epoch) })
  | none => s

/-- A position of a TX run on a port that no longer carries runs (R251): nothing is sent; a flit of a run that had been found ready
counts as absent, and a forwarded one is discarded. -/
def sendNothing (p i : Nat) (r : Run) (k : Nat) (s : State) : State :=
  let s := if (s.flow p).ready.get false i then s.countPort p 6 1 else s
  if r.kind = .txForward then dropForward p r k s else s

/-- A data position of port p: a flit of the TX run that covers it, or zeros. -/
def sendData (p k : Nat) (s : State) : State :=
  match (runsOf s s.sch.template p).findIdx? (fun r => r.tx && r.covers k) with
  | none => sendBody p [] s
  | some i =>
    let s := checkRun p i s
    match (runsOf s s.sch.template p)[i]? with
    | none => s
    | some r =>
      if !carriesRuns (s.port p) then sendNothing p i r k s
      else if !(s.flow p).ready.get false i then
        if r.kind = .txForward then dropForward p r k (sendBody p [] s) else sendBody p [] s
      else if r.kind = .txForward then sendForward p r k s
      else
        match streamOf s r.stream with
        | none => sendBody p [] s
        | some d =>
          let x := devRead reqHedgerow .none (d.base + 248 * (r.streamOff + (k - r.start))) 248 s
          (sendBody p x.2.1 x.1).countPort p 0 1

/-! ### Switched ports (R255 to R257) -/

/-- The remote rank of a switched port. -/
def peerRank (s : State) (p : Nat) : Nat := senderOf s p

/-- The exchange with a rank on port p. -/
def swPeer (s : State) (p r : Nat) : SwPeer := (s.flow p).peers.get {} r

/-- That exchange changed. -/
def onPeer (p r : Nat) (f : SwPeer → SwPeer) : State → State :=
  State.onFlow p (fun g => { g with peers := g.peers.modify {} r f })

/-- The MAC address of port p as a number, first octet most significant (R256). -/
def macOf (s : State) (p : Nat) : Nat := 2 * 2 ^ 40 + s.fuses.serial % 2 ^ 36 * 16 + p

/-- The six octets of an address, in transmission order. -/
def macBytes (m : Nat) : List Byte := (leBytes 6 m).reverse

/-- The bytes of an Ethernet frame: addresses, an 802.1Q tag when tagging is on, ETHERTYPE, the header of Table 10.8 and
what follows it. -/
def frameBytes (s : State) (p rank kind seq ack credit pos : Nat) (bodies : List (List Byte)) : List Byte :=
  let q := s.port p
  let tag := if natBit 15 q.vlan then
      [0x81, 0x00] ++ (leBytes 2 ((if kind = 1 then 7 else natBits 14 12 q.vlan) * 2 ^ 13 + natBits 11 0 q.vlan)).reverse else []
  macBytes (s.fab.macs.get 0 rank - 1) ++ macBytes (macOf s p) ++ tag ++ (leBytes 2 q.ethertype).reverse
    ++ leBytes 16 (kind + 2 ^ 4 * bodies.length + 2 ^ 16 * s.rank + 2 ^ 32 * seq + 2 ^ 64 * ack + 2 ^ 96 * credit + 2 ^ 112 * (pos % 65536))
    ++ bodies.flatten

/-- A frame sent to the partner of port p; one with a sequence number is kept until it is acknowledged. DATA and ACK frames return
credits (R257). -/
def sendFrame (p kind pos : Nat) (bodies : List (List Byte)) (s : State) : State :=
  let r := peerRank s p
  let x := swPeer s p r
  let bs := frameBytes s p r kind x.txSeq ((x.rxNext + 2 ^ 32 - 1) % 2 ^ 32) (if kind = 1 then 0 else x.toReturn) pos bodies
  let s := (s.onFlow p (fun f => { f with lastTx := bs })).countPort p 12 1
  onPeer p r (fun x => { x with
    toReturn := if kind = 1 then x.toReturn else 0, ackDue := false
    txSeq := if kind = 2 then x.txSeq else (x.txSeq + 1) % 2 ^ 32
    unacked := if kind = 2 then x.unacked else x.unacked ++ [⟨x.txSeq, kind, pos, bodies⟩]
    credits := if kind = 0 then x.credits - bodies.length else x.credits }) s

/-- An acknowledgement that is due. -/
def sendAck (p : Nat) (s : State) : State := if (swPeer s p (peerRank s p)).ackDue then sendFrame p 2 0 [] s else s

/-- Bodies of a run sent in one frame: what MAX_BODIES and the credits allow beside the slot that holds MARKER and STREAM_OFF, but one
at least when MAX_BODIES is 1 (DESIGN CHOICE, log 102: the slot of Table 10.8 would then leave room for none). -/
def frameRoom (s : State) (p : Nat) : Nat := min (max 1 ((s.port p).maxBodies - 1)) ((swPeer s p (peerRank s p)).credits - 1)

/-- The next bodies of run r, from position k on, as a DATA frame whose first body slot holds MARKER and STREAM_OFF. -/
def sendBodies (p : Nat) (r : Run) (d : StreamDef) (k : Nat) (s : State) : State :=
  let n := min (r.start + r.len - k) (frameRoom s p)
  if n = 0 then sendAck p s
  else
    let slot := padTo 248 (leBytes 2 r.marker ++ leBytes 4 r.streamOff)
    let y := devRead reqHedgerow .none (d.base + 248 * (r.streamOff + (k - r.start))) (248 * n) s
    let s := sendFrame p 0 k (slot :: (List.range n).map (fun j => slice y.2.1 (248 * j) 248)) y.1
    (s.onFlow p (fun g => { g with t := k + n })).countPort p 0 n

/-- Run i of a switched port's list comes to be sent: it goes when its stream is ready, waits for it, or, where the module may send
no data, is noted absent whole (R244, R252). -/
def sendSwitchedRun (p i : Nat) (r : Run) (d : StreamDef) (s : State) : State :=
  let f := s.flow p
  let skip (s : State) : State := s.onFlow p (fun g => { g with t := r.start + r.len })
  if f.checked.get false i then (if f.ready.get false i then sendBodies p r d (max f.t r.start) s else skip s)
  else
    let stop := sourceStopped s d || s.fab.synt == 3 || s.fab.syntWait
    let s := fillRun r s
    if !stop && decide (readyFlits s d < r.streamOff + r.len) then sendAck p s
    else
      let s := checkRun p i s
      if (s.flow p).ready.get false i then sendBodies p r d r.start s else skip s

/-- What a switched port sends next: withy words, then the bodies of its next TX run that credits allow, then an
acknowledgement that is due. -/
def sendSwitched (p : Nat) (s : State) : State :=
  let f := s.flow p
  let q := byClass f.queue
  if !q.isEmpty then
    let ms := takeFit 63 q
    refill p (sendFrame p 1 0 ((ms.map (departing f.sent)).flatten.map (leBytes 8)) (s.onFlow p (fun g => { g with queue := q.drop ms.length })))
  else
    let rs := runsOf s s.sch.template p
    match rs.findIdx? (fun r => r.kind == .txLocal && decide (f.t < r.start + r.len)) with
    | none => sendAck p s
    | some i =>
      match rs[i]?, (rs[i]?).bind (fun r => streamOf s r.stream) with
      | some r, some d => sendSwitchedRun p i r d s
      | _, _ => s

/-- FLIT_TIME (R229): one flit time of a port. A switched port's flit times follow no positions: it sends as credit
allows. -/
def flitTime (p : Nat) (s : State) : State :=
  if (s.port p).state = 6 then (sendSwitched p s).onFlow p (fun g => { g with sent := g.sent + 1 })
  else
    let t := (s.flow p).t
    let s :=
      if t % 32 = 0 then (if sendsWithy (s.port p) then sendWithy p s else s)
      else if s.hasBundle || (s.port p).state == 5 then sendData p (t - 1 - t / 32) s
      else s
    s.onFlow p (fun g => { g with t := g.t + 1, sent := g.sent + 1 })

/-- FLIT_TIME. -/
def execFlitTime (port : Fin 16) (s : State) : Host.Outcome State Fault Refusal := .next (flitTime port s)

/-! ### Delivery (R230, R249, R281) -/

/-- The consumer of a stream is stopped: everything while parked; plots, the Granary and the Cask store in hold (R252). -/
def consumerStopped (s : State) (d : StreamDef) : Bool :=
  parked s || (paused s &&
    (d.kind == .plot || d.kind == .grnReq || d.kind == .grnRows || d.kind == .cask || d.kind == .split || d.kind == .reshard))

/-- One flit of an RX stream written to BASE, and its absent bit to FLAGS_BASE; a PLOT stream posts once per UNIT, and at
the end of a run that is short of one. -/
def streamFlit (d : StreamDef) (i : Nat) (body : Option (List Byte)) (last : Bool) (s : State) : State :=
  let s := devWrite reqHedgerow .none (d.base + 248 * i) (body.getD (zeros 248)) s
  let b := rawNat s (d.flagsBase + i / 8) 1
  let b' := if body.isNone then b ||| 2 ^ (i % 8) else b - (b &&& 2 ^ (i % 8))
  let s := devWrite reqHedgerow .none (d.flagsBase + i / 8) (leBytes 1 b') s
  let u := s.fab.unit.get 0 d.id + 1
  let post := decide (d.unit ≤ u) || last
  let s := s.onFab (fun f => { f with delivered := f.delivered.modify 0 d.id (· + 1), unit := f.unit.set 0 d.id (if post then 0 else u) })
  let s := if d.kind == .cask then caskFlit d i s else s
  if post && d.kind == .plot then semPostAt d.plot d.sem 1 s else s

/-- The marker that names flit i of a run, if any. -/
def markerFor (f : PortFlow) (r : Run) (i : Nat) : Option (Nat × Nat × Nat) :=
  f.markers.find? (fun m => m.1 == r.marker && (m.2.1 == i || m.2.1 == 0xFFFFF))

/-- A flit given to the forward FIFO of its port (R248); one whose position has gone by without it is discarded. -/
def forwardIn (p : Nat) (h : HeldFlit) (s : State) : State :=
  if (s.flow p).passed.contains h.pos ∧ h.ep = s.sch.epoch then s.onFlow p (fun f => { f with passed := f.passed.filter (· != h.pos) })
  else if 1024 ≤ (s.flow p).fifo.length then
    event 5 9 (0x60 + p) [p, s.sch.step, s.sch.epoch]
      ((s.onFlow p (fun f => { f with lostFwd := f.lostFwd ++ [h.pos] })).countPort p 9 1)
  else s.onFlow p (fun f => { f with fifo := f.fifo ++ [h] })

/-- One data position of a run delivered: to its stream, to the forward FIFO, or both. -/
def deliverPos (p : Nat) (r : Run) (h : HeldFlit) (s : State) : State :=
  let i := h.pos - r.start
  let m := markerFor (s.flow p) r i
  let h := match m with | some x => { h with body := none, origin := x.2.2 } | none => h
  let last := decide (r.start + r.len ≤ h.pos + 1)
  let s := if h.body.isSome then s.countPort p 1 1 else s.countPort p 7 1
  let s := if r.fwd && carriesRuns (s.port p) then forwardIn p h s else s
  let s := if r.kind = .rxForward then s
    else
      match streamOf s r.stream with
      | none => s
      | some d => streamFlit d (r.streamOff + i) (if consumerStopped s d then none else h.body) last s
  if last then s.onFlow p (fun f => { f with markers := f.markers.filter (fun x => x.1 != r.marker) }) else s

/-- A held flit delivered under the runs of the template the partner is sending; outside any run it is discarded. -/
def deliverFlit (p : Nat) (h : HeldFlit) (s : State) : State :=
  let s := s.onFlow p (fun f => { f with rxDone := h.pos + 1 })
  match (s.flow p).rxTemplate with
  | none => s
  | some n =>
    match (runsOf s n p).find? (fun r => !r.tx && r.covers h.pos) with
    | some r => if carriesRuns (s.port p) then deliverPos p r h s else s
    | none => s

/-- Positions k to k + n - 1 of a run delivered absent. -/
def deliverAbsent (p : Nat) (r : Run) (k : Nat) : Nat → State → State
  | 0, s => s
  | n + 1, s => deliverAbsent p r (k + 1) n (deliverPos p r ⟨k, none, s.rank, ((s.flow p).rxEpoch).getD 0, 0⟩ s)

/-- EPOCH_CUT (R279): a run was cut. -/
def cutRun (p : Nat) (s : State) : State := syncEvent 8 p (s.countPort p 10 1)

/-- The RX runs of port p that have not received all their flits deliver the rest as absent (R249, R251); on a port on which runs go
each counts as cut. -/
def cutRx (p n : Nat) (s : State) : State :=
  let at_ := (s.flow p).rxDone
  let s := State.each (fun r s =>
    if !r.tx && decide (at_ < r.start + r.len) then
      let s := deliverAbsent p r (max at_ r.start) (r.start + r.len - max at_ r.start) s
      if runsUp (s.port p) then cutRun p s else s
    else s) (runsOf s n p) s
  s.onFlow p (fun f => { f with rxDone := 0 })

/-- The partner starts an epoch: what it was sending is cut, and positions count from 0 again (R229, R249). -/
def partnerEpoch (p template : Nat) (s : State) : State :=
  let s := match (s.flow p).rxTemplate with | some n => cutRx p n s | none => s
  s.onFlow p (fun f => { f with rxTemplate := some template, rxDone := 0 })

/-- One entry of what a port holds. -/
def deliverOne (p : Nat) (h : HeldFlit) (s : State) : State :=
  if h.mark = 0 then deliverFlit p h s else if h.mark = 1 then s else partnerEpoch p (h.mark - 2) s

/-- The flits held until this withy flit are delivered in order (R230). -/
def deliverHeld (p : Nat) (s : State) : State :=
  State.each (deliverOne p) (s.flow p).held (s.onFlow p (fun f => { f with held := [] }))

/-- The unfinished TX runs of port p are cut (R249): their unsent flits are absent at the sender, but for those of a run that was
absent as a whole and is counted already. -/
def cutTx (p : Nat) (s : State) : State :=
  let f := s.flow p
  let k := if (s.port p).state = 6 then f.t else positionsBefore f.t
  let rs := runsOf s s.sch.template p
  State.each (fun x s =>
    let r := x.2
    if r.tx && decide (k < r.start + r.len) && runsUp (s.port p) then
      cutRun p (if f.checked.get false x.1 && !f.ready.get false x.1 then s else s.countPort p 6 (r.start + r.len - max k r.start))
    else s) (List.zip (List.range rs.length) rs) s

/-! ### Received flits (R230, R231, R234) -/

/-- The words of a message by its TYPE (R233). -/
def knownType (t : Nat) : Bool := decide (t ≤ 8) || t == 0x81

/-- A flit is acknowledged up to a sequence number: those before it in the list go too. -/
def ackTo (seq : Nat) (us : List (Nat × List WithyMsg)) : List (Nat × List WithyMsg) :=
  match us.findIdx? (fun u => u.1 == seq) with
  | some i => us.drop (i + 1)
  | none => us

/-- The link word of a withy flit's body (Table 10.2). -/
def linkOf (body : List Byte) : LinkWord :=
  let w := leAt body 0 8
  { seq := BitVec.ofNat 8 w, ack := BitVec.ofNat 8 (natBits 15 8 w), epochStart := natBit 16 w
    template := BitVec.ofNat 3 (natBits 19 17 w), epoch := BitVec.ofNat 32 (natBits 51 20 w) }

/-- Words of a message from its TYPE (R233). -/
def typeWords (t : Nat) : Nat := if 128 ≤ t then 2 else if t = 7 then 9 else 1

/-- The words of a flit cut into messages. -/
def splitWords : Nat → List Nat → List (List Nat)
  | 0, _ => []
  | _, [] => []
  | fuel + 1, w :: ws => (w :: ws).take (typeWords (w % 256)) :: splitWords fuel ((w :: ws).drop (typeWords (w % 256)))

/-- The messages of a withy flit's body, words 1 to 30. -/
def flitMessages (body : List Byte) : List (List Nat) := splitWords 30 ((List.range 30).map (fun i => leAt body (8 * (i + 1)) 8))

/-- Positions of the flits after the last place of a lost withy flit counted from 0: the partner's epoch began there. -/
def restartHeld (template epoch : Nat) (hs : List HeldFlit) : List HeldFlit :=
  let back := hs.reverse.takeWhile (fun h => h.mark != 1)
  let after := back.reverse
  hs.take (hs.length - back.length - 1) ++ [{ pos := 0, body := none, origin := 0, ep := epoch, mark := 2 + template }]
    ++ (List.zip (List.range after.length) after).map (fun x => { x.2 with pos := x.1, ep := epoch })

/-- A good link word places the flits held before it (R229, R230). With EPOCH_START the partner's positions count from 0 from here on;
where EPOCH has changed since the last one and the flit that carried EPOCH_START was lost, they count from its place (DEDUCED,
log 101: every link word gives TEMPLATE and EPOCH). -/
def noteEpoch (p : Nat) (l : LinkWord) : State → State := State.onFlow p (fun f =>
  if l.epochStart then
    { f with held := f.held ++ [{ pos := 0, body := none, origin := 0, ep := l.epoch.toNat, mark := 2 + l.template.toNat }]
             rxPos := 0, rxEpoch := some l.epoch.toNat }
  else if f.rxEpoch != some l.epoch.toNat && f.held.any (fun h => h.mark == 1) then
    { f with held := restartHeld l.template.toNat l.epoch.toNat f.held
             rxPos := (f.held.reverse.takeWhile (fun h => h.mark != 1)).length, rxEpoch := some l.epoch.toNat }
  else f)

/-- A good link word acknowledges. -/
def noteAck (p : Nat) (l : LinkWord) : State → State := State.onFlow p (fun f =>
  let us := ackTo l.ack.toNat f.unacked
  { f with unacked := us, resend := min f.resend us.length, notices := if us.length < f.unacked.length then 0 else f.notices })

/-- A port asks for the flit it lacks (R234). -/
def askAgain (p : Nat) (s : State) : State :=
  pushWithy p 4 [4 + 2 ^ 8 * (s.flow p).rxSeq] (s.onFlow p (fun f => { f with asked := true }))

/-- DATA_FLIT (R230, R231): held until the next withy flit; an uncorrectable one is treated as absent. -/
def dataFlit (p : Nat) (raw : List Byte) (s : State) : State :=
  if !sendsWithy (s.port p) then s
  else
    let hold (body : Option (List Byte)) (n : Nat) : State → State := State.onFlow p (fun f => { f with
      rxPos := f.rxPos + 1, held := f.held ++ [⟨f.rxPos, body, s.rank, f.rxEpoch.getD 0, 0⟩], corrWindow := f.corrWindow + n })
    match flitDecode raw with
    | some r => (hold (some r.1) r.2 s).countPort p 2 r.2
    | none => event 5 1 (0x60 + p) [p, s.sch.step, s.sch.epoch] ((hold none 0 s).countPort p 3 1)

/-- DATA_FLIT. -/
def execDataFlit (port : Fin 16) (raw : List Byte) (s : State) : Host.Outcome State Fault Refusal := .next (dataFlit port raw s)

/-- An ABSENT message (R233, R248): kept until the flit it names is delivered. -/
def absentMsg (p marker flit rank : Nat) : State → State :=
  State.onFlow p (fun f => { f with markers := f.markers ++ [(marker, flit, rank)] })

/-- ABSENT. -/
def execAbsent (port : Fin 16) (marker : BitVec 16) (flit : BitVec 20) (rank : BitVec 15) (s : State) : Host.Outcome State Fault Refusal :=
  .next (absentMsg port marker.toNat flit.toNat rank.toNat s)

/-- Corrected symbols of a second that make a ratio of 10^-8 of the 1.6 x 10^12 bits that a port receives in it (R231), a symbol
counted as one error (DESIGN CHOICE, log 111). -/
def degradedLimit : Nat := 16000

/-- LINK_DEGRADED (R231): a 1 s interval ends; it sets the bit when its corrected symbols are above the ratio. -/
def execLinkDegraded (port : Fin 16) (s : State) : Host.Outcome State Fault Refusal :=
  .next (let u := s.onFlow port (fun f => { f with corrWindow := 0 })
    if degradedLimit < (s.flow port).corrWindow then event 5 2 (0x60 + port) [port.val, s.sch.step, s.sch.epoch] u else u)

/-! ### Received frames -/

/-- Data bodies of a frame, which stand against credits. -/
def SwFrame.credit (u : SwFrame) : Nat := if u.kind = 0 then u.bodies.length else 0

/-- Frames acknowledged: those up to SEQ a leave, and their bodies' credits are owed. -/
def peerAck (a : Nat) (x : SwPeer) : SwPeer :=
  match x.unacked.findIdx? (fun u => u.seq == a) with
  | some i => { x with unacked := x.unacked.drop (i + 1), resends := 0, owed := x.owed + ((x.unacked.take (i + 1)).map SwFrame.credit).sum }
  | none => x

/-- Credits that come back. -/
def peerCredit (c : Nat) (x : SwPeer) : SwPeer := { x with credits := x.credits + c, owed := x.owed - c }

/-- The bodies of a DATA frame after its first slot, delivered at their positions. -/
def deliverBodies (p : Nat) (r : Run) (at_ : Nat) : List (List Byte) → State → State
  | [], s => s
  | b :: bs, s =>
    let s := deliverPos p r ⟨at_, some (padTo 248 b), s.rank, 0, 0⟩ s
    deliverBodies p r (at_ + 1) bs s

/-- The first position at or above `lo` that FIRST_POS names, modulo 2^16 (Table 10.8). -/
def firstPosition (lo pos16 : Nat) : Nat := lo + (pos16 + 65536 - lo % 65536) % 65536

/-- A DATA frame in order: the run that its first slot's MARKER and STREAM_OFF name takes its bodies; positions of the run that were
passed over were lost and are delivered absent (R257). -/
def dataFrame (p : Nat) (h : FrameHdr) (bodies : List (List Byte)) (s : State) : State :=
  if bodies.isEmpty then s else
  let slot := bodies.headD []
  match (runsOf s s.sch.template p).find? (fun x => !x.tx && x.marker == leAt slot 0 2 && x.streamOff == leAt slot 2 4) with
  | none => s
  | some r =>
    let lo := max (s.flow p).rxDone r.start
    let k := firstPosition lo h.firstPos.toNat
    if r.start + r.len < k + (bodies.length - 1) then s
    else
      let s := deliverAbsent p r lo (k - lo) s
      (deliverBodies p r k bodies.tail s).onFlow p (fun f => { f with rxDone := k + (bodies.length - 1) })

/-- SWITCHED_RESEND (R257): 100 µs after its last send every unacknowledged frame goes again; beyond 16 resends the bodies of the first
are lost, and an empty frame takes its place so that SEQ goes on (DESIGN CHOICE, log 102). -/
def execSwitchedResend (port : Fin 16) (rank : BitVec 15) (s : State) : Host.Outcome State Fault Refusal :=
  let x := swPeer s port rank.toNat
  .next (match x.unacked with
    | [] => s
    | u :: us =>
      if 16 ≤ x.resends then
        (onPeer port rank.toNat (fun x => { x with unacked := { u with bodies := [] } :: us, resends := 0, credits := x.credits + u.credit }) s).countPort
          port 15 u.credit
      else
        let ack := (x.rxNext + 2 ^ 32 - 1) % 2 ^ 32
        let bs := (x.unacked.map (fun v => frameBytes s port rank.toNat v.kind v.seq ack 0 v.pos v.bodies)).flatten
        ((onPeer port rank.toNat (fun x => { x with resends := x.resends + 1 }) s).countPort port 14 x.unacked.length).onFlow port
          (fun f => { f with lastTx := bs }))

/-- PAUSE_RX (R255): a PAUSE frame is discarded and counted. -/
def execPauseRx (port : Fin 16) (s : State) : Host.Outcome State Fault Refusal := .next (s.countPort port 16 1)

/-- Credits of every switched partner of a port add up to 512 (R257). -/
def creditsOk (f : PortFlow) : Bool :=
  f.peers.all (fun kv =>
    kv.2.credits + kv.2.owed + (kv.2.unacked.map SwFrame.credit).sum == 512)

end Sys2Proof.Machine
end

