-- ==== Sys2Proof/Machine/Worst.lean ====
section
/-! DEFINITION. The worst-case timetable of a step under a bundle (R44, R101, R110 to R115, R157, R196, R217, R266, R288, R383): when
every program, stream, reduction, update and copy ends at the latest, and the deadlines that admission holds them to. Every instant is
in picoseconds from the release that opens the step. -/

namespace Sys2Proof.Machine

/-! ### The nominal timetable (R278) -/

/-- Flit times of plan entry i. -/
def epochFlits (y : BundleBody) (i : Nat) : Nat :=
  (((y.plan[i]?).bind (fun e => y.templates.find? (fun t => t.num == e.template))).map Template.flits).getD 0

/-- When plan entry i opens. -/
def epochPs (y : BundleBody) (i : Nat) : Nat := (((List.range i).map (epochFlits y)).sum) * 1280

/-- The nominal length of a step. -/
def stepPs (y : BundleBody) : Nat := epochPs y y.plan.length

/-- When plan entry i is the one after an entry that a mark holds of. -/
def markedPs (y : BundleBody) (f : PlanEntry → Bool) : Option Nat := (y.plan.findIdx? f).map (epochPs y)

/-- When the update exchange opens. -/
def updatePs (y : BundleBody) : Nat := ((y.plan.findIdx? PlanEntry.opensUpdate).map (fun i => epochPs y (i + 1))).getD (stepPs y)

/-- When the look-ahead of the next step starts. -/
def lookPs (y : BundleBody) : Nat := (markedPs y PlanEntry.lookahead).getD (stepPs y)

/-- The flit time of data position k: every 32nd flit time carries a withy flit (R229). -/
def flitTimeOf (k : Nat) : Nat := k + k / 31 + 1

/-- DELAY_MAX of a port, in ps. -/
def delayPs (y : BundleBody) (p : Nat) : Nat := ((y.links.find? (fun l => l.port == p)).map (fun l => l.delayMax * 25)).getD 0

/-- A flit of data position k of plan entry i, received on port p, has been decoded after its withy flit: 72 ns cover both (R248). -/
def arrivePs (y : BundleBody) (i p k : Nat) : Nat := epochPs y i + 1280 * flitTimeOf k + delayPs y p + 8000 + 72000

/-- The runs of a plan entry. -/
def runsAt (y : BundleBody) (i : Nat) : List Run :=
  (((y.plan[i]?).bind (fun e => y.templates.find? (fun t => t.num == e.template))).map Template.runs).getD []

/-- When the last flit of the RX runs that bring some streams has come, 0 with none. -/
def lastRxPs (y : BundleBody) (f : StreamDef → Bool) : Nat :=
  ((List.range y.plan.length).map (fun i => ((runsAt y i).filter (fun r => !r.tx && y.streams.any (fun d => d.id == r.stream && f d))).map
    (fun r => arrivePs y i r.port (r.start + r.len - 1)))).flatten.foldl max 0

/-! ### Withy and tallies (R235, R274, R276) -/

/-- The largest D_group of a fabric tally, in ps. A tree's up-tree path has the hops of its release path, so that latency is charged
at the same figure, as R115's example does (DEDUCED, log 107). -/
def tallyPs (y : BundleBody) (fid : Nat) : Nat :=
  ((y.tallies.filter (fun d => d.kind != .localT && d.fid == fid)).map (fun d => (d.tree.map TreeNode.dGroup).foldl max 0)).foldl max 0

/-- The scope decision (R106): 0.25 us within the module; up-tree, root and down-tree over the fabric. -/
def scopePs (y : BundleBody) (d : RegionDef) : Nat :=
  match y.tallies.find? (fun t => t.n == d.scopeTally) with
  | some t => if d.scopeEn && t.kind != .localT then 250000 + 2 * tallyPs y t.fid else 250000
  | none => 250000

/-! ### Plot programs (R30, R42 to R44, R54, R68, R75, R102, R288, R383) -/

/-- A post of a semaphore at an instant. -/
structure PostAt where
  /-- plot -/
  plot : Nat
  /-- semaphore -/
  sem : Nat
  /-- count -/
  n : Int
  /-- instant -/
  at_ : Nat
  deriving DecidableEq, Repr

/-- An event of a program: 0 a region check (its TAG), 1 an arrival at a LOCAL tally (its number), 2 the tally point. -/
structure MarkAt where
  /-- kind -/
  kind : Nat
  /-- plot -/
  plot : Nat
  /-- TAG or tally -/
  key : Nat
  /-- instant -/
  at_ : Nat
  deriving DecidableEq, Repr

/-- What a whole pass over the programs found. -/
structure Pass where
  /-- posts -/
  posts : List PostAt := []
  /-- events -/
  marks : List MarkAt := []
  deriving DecidableEq, Repr

/-- How far a stream has come. -/
structure Cursor where
  /-- the sequencer -/
  t : Nat := 0
  /-- the named epoch it has waited for -/
  ep : Nat := 0
  /-- end of the last operation on each hedge -/
  hedges : List Nat := [0, 0, 0, 0]
  /-- end of the last WLOAD into each half -/
  fills : List Nat := [0, 0]
  /-- end of the last HOP that reads each half -/
  reads : List Nat := [0, 0]
  /-- the weight-fill port is free -/
  wl : Nat := 0
  /-- the Mash engine is free -/
  mash : Nat := 0
  /-- starts of the last entries of its queue -/
  queue : List Nat := []
  /-- the fabric-side port is free -/
  port : Nat := 0
  /-- end of everything issued -/
  drained : Nat := 0
  /-- waits taken by semaphore -/
  demand : Tab Nat := []
  /-- when each instruction was reached: index, named epoch, instant -/
  reached : List (Nat × Nat × Nat) := []
  /-- found -/
  out : Pass := {}
  deriving DecidableEq, Repr

/-- An instant that never comes. -/
def never : Nat := 2 ^ 62

/-- A post put into a list by its instant. -/
def insertPost (x : PostAt) : List PostAt → List PostAt
  | [] => [x]
  | y :: ys => if x.at_ ≤ y.at_ then x :: y :: ys else y :: insertPost x ys

/-- When the value of a semaphore has reached what is needed. -/
def reachPost (need : Int) : Int → List PostAt → Nat
  | _, [] => never
  | v, x :: xs => if need ≤ v + x.n then x.at_ else reachPost need (v + x.n) xs

/-- When a wait for a cumulative need ends. A semaphore that nothing of this bundle posts is another module's to post, whose own bundle
proves it in time (DESIGN CHOICE, log 107). -/
def waitPs (b : BundleBody) (x : Pass) (plot sem need : Nat) : Nat :=
  let init := ((b.sems.find? (fun d => d.plot == plot && d.sem == sem)).map (fun d => if d.cls = 5 then 0 else d.init)).getD 0
  let ps := (x.posts.filter (fun q => q.plot == plot && q.sem == sem)).foldl (fun l q => insertPost q l) []
  if need ≤ init ∨ ps.isEmpty then 0 else reachPost need init ps

/-- Bytes from one end of a tensor to the other, row by row, and its rows. -/
def Tensor5.rows (t : Tensor5) : Nat := t.e1 * t.e2 * t.e3 * t.e4

/-- Bytes of a tensor. -/
def Tensor5.bytes (t : Tensor5) : Nat := t.rows * t.fmt.bytesFor t.e0

/-- Accesses of up to 64 bytes to the plot store that an instruction makes (R43). -/
def storeAccesses (s : State) (p : Nat) : SeqInstr → Nat
  | .hop off => let d := hopOf (storeBytes s p off 64)
    ceilDiv (d.m * d.fmtA.bytesFor d.k) 64 + ceilDiv (d.m * d.fmtOut.bytesFor d.n) 64 + (if d.mma then ceilDiv (4 * d.m * d.n) 64 else 0)
  | .wload off => let d := wloadOf (storeBytes s p off 32); ceilDiv (d.kw * d.nw * d.fmt.blockBytes) (64 * d.fmt.blockVals)
  | .mash (.loop off) => let d := loopAt s p off
    (d.ins.map (fun t => ceilDiv t.bytes 64)).sum + (if d.outEn then ceilDiv d.out.bytes 64 else 0)
  | .mash (.root off) => 24 * rootClocks (rootAt s p off)
  | .move off => let d := moveOf (storeBytes s p off 32)
    let t := tensorOf (storeBytes s p d.src 64)
    if d.mode = 2 then 0 else ceilDiv t.bytes 64
  | _ => 0

/-- The instructions of a stream, each with its index and the named epoch it runs in. -/
def placedInstrs : Nat → Nat → List SeqInstr → List (Nat × Nat × SeqInstr)
  | _, _, [] => []
  | k, ep, i :: is => let ep' := match i with | .ewait e => e | _ => ep
    (k, ep', i) :: placedInstrs (k + 1) ep' is

/-- Accesses that the bundle schedules on plot p's store in a named epoch (R44): its programs', its RX streams' and its casks'. -/
def plotAccesses (e : TimeEnv) (p ep : Nat) : Nat :=
  let y := e.b.body
  let own := (y.programs.filter (fun g => g.plot == p)).map (fun g =>
    ((placedInstrs 0 0 g.primary ++ placedInstrs 0 0 g.deferred).map (fun x => if x.2.1 = ep then storeAccesses e.st p x.2.2 else 0)).sum)
  let rx := (runsAt y ep).map (fun r => if !r.tx && y.streams.any (fun d => d.id == r.stream && d.kind == .plot && locate d.base == .store p (d.base - storeBase p)) then 5 * r.len else 0)
  let parts := match y.casks with
    | some k => ((k.parts.filter (fun x => x.plot == p)).length) * ceilDiv (64 + k.partCasks * k.bytes) 64
    | none => 0
  own.sum + rx.sum + parts

/-- Clocks of arbitration that an instruction loses in the worst case (R44). -/
def arbClocks (e : TimeEnv) (p ep : Nat) (i : SeqInstr) : Nat :=
  let n := storeAccesses e.st p i
  Config.arbWorst n (plotAccesses e p ep - n)

/-- Kiln blocks make what a tensor moves at its cellar home: whole blocks read at 8 sectors, partial blocks written as a read and a
write (R124). -/
def cellarBytes (t : Tensor5) (write : Bool) : Nat :=
  let n := t.fmt.bytesFor t.e0
  if t.base % 512 = 0 ∧ n % 512 = 0 ∧ [t.s1, t.s2, t.s3, t.s4].all (fun x => x % 512 == 0) then t.rows * n
  else if write then t.rows * (n / 512 * 512 + 2048) else t.rows * (n / 512 * 512 + 1024)

/-- The channels that a tensor's frames lie on (R118). -/
def tensorChannels (s : State) (t : Tensor5) : Nat :=
  let f := t.base / 0x10000
  (((List.range ((t.base + t.span) / 0x10000 + 1 - f)).map (fun i => channelOf s ((f + i) * 0x10000))).eraseDups).length

/-- The bytes that a MOVE's tensor takes of a tier: 0 HBM, 1 cellar, 2 host. -/
def tierBytes (t : Tensor5) (write : Bool) (tier : Nat) : Nat :=
  match locate t.base with
  | .hbm => if tier = 0 then t.bytes else 0
  | .cellar => if tier = 1 then cellarBytes t write else 0
  | .aperture => if tier = 2 then t.bytes else 0
  | _ => 0

/-- The two tensors of a MOVE. -/
def moveTensors (s : State) (p off : Nat) : Tensor5 × Tensor5 :=
  let d := moveOf (storeBytes s p off 32)
  (tensorOf (storeBytes s p d.src 64), tensorOf (storeBytes s p d.dst 64))

/-- Bytes that the programs move on a tier in a named epoch. -/
def programBytes (e : TimeEnv) (ep tier : Nat) : Nat :=
  (e.b.body.programs.map (fun g => ((placedInstrs 0 0 g.primary ++ placedInstrs 0 0 g.deferred).map (fun x =>
    match x.2.2 with
    | .move off => if x.2.1 = ep then (let m := moveTensors e.st g.plot off; tierBytes m.1 false tier + tierBytes m.2 true tier) else 0
    | _ => 0)).sum)).sum

/-- What bounds a MOVE at one of its tensors: its channels with the others' bytes, or the host link's share. -/
def stagePs (e : TimeEnv) (ep : Nat) (engines : Nat → Nat) (t : Tensor5) (write : Bool) : Nat :=
  let other (tier own : Nat) : Nat := programBytes e ep tier + engines tier - own
  match locate t.base with
  | .hbm => tierPs e t.bytes (other 0 t.bytes) (tensorChannels e.st t) false
  | .cellar => tierPs e (cellarBytes t write) (other 1 (cellarBytes t write)) (tensorChannels e.st t) true
  | .aperture => bytesPs (t.bytes + other 2 t.bytes) (hostShare e)
  | _ => 0

/-- The latency that a MOVE's tensor adds: device memory, or a host read. -/
def tensorPs (e : TimeEnv) (t : Tensor5) (write : Bool) : Nat :=
  match locate t.base with
  | .hbm => accessPs 1
  | .cellar => accessPs 2
  | .aperture => if write then 0 else e.hostLat * 1000
  | _ => 0

/-- The fence of a MOVE: once more the latency of what it wrote, or a host read that returns after the writes (DESIGN CHOICE, log 18). -/
def fencePs (e : TimeEnv) (t : Tensor5) : Nat :=
  match locate t.base with
  | .hbm => accessPs 1
  | .cellar => accessPs 2
  | .aperture => e.hostLat * 1000
  | _ => 0

/-- A MOVE (R383): its bytes at its narrowest stage, one latency, its fence, and the crossings to the fabric-side port and back. -/
def movePs (e : TimeEnv) (p ep : Nat) (engines : Nat → Nat) (off : Nat) : Nat :=
  let d := moveOf (storeBytes e.st p off 32)
  let m := moveTensors e.st p off
  let port := if d.mode = 2 then 0 else clocksPs e (ceilDiv m.1.bytes 256)
  let tun := if d.mode = 1 then accessPs 3 else 0
  max port (max (stagePs e ep engines m.1 false) (stagePs e ep engines m.2 true)) + max (tensorPs e m.1 false) (max tun (tensorPs e m.2 true)) +
    fencePs e m.2 + 2 * crossPs e

/-- The largest of some of a list. -/
def maxOf (xs : List Nat) : Nat := xs.foldl max 0

/-- What is taken along a pass. -/
structure Tour where
  /-- environment -/
  e : TimeEnv
  /-- bytes that engines move on a tier in a named epoch -/
  engines : Nat → Nat → Nat
  /-- the pass before -/
  old : Pass

/-- A wait of the stream for n of a semaphore: the instant and the demand. -/
def Cursor.wait (x : Cursor) (w : Tour) (p sem n : Nat) : Nat × Cursor :=
  let need := x.demand.get 0 sem + n
  (waitPs w.e.b.body w.old p sem need, { x with demand := x.demand.set 0 sem need })

/-- A descriptor's wait. -/
def Cursor.descWait (x : Cursor) (w : Tour) (p : Nat) (en : Bool) (sem : Nat) : Nat × Cursor := if en then x.wait w p sem 1 else (0, x)

/-- A post. -/
def Cursor.post (x : Cursor) (p sem : Nat) (n : Int) (at_ : Nat) : Cursor :=
  { x with out := { x.out with posts := x.out.posts ++ [⟨p, sem, n, at_⟩] } }

/-- A descriptor's post, one plot clock after the end. -/
def Cursor.descPost (x : Cursor) (w : Tour) (p : Nat) (en : Bool) (sem at_ : Nat) : Cursor := if en then x.post p sem 1 (at_ + clocksPs w.e 1) else x

/-- An event. -/
def Cursor.mark (x : Cursor) (kind p key : Nat) : Cursor := { x with out := { x.out with marks := x.out.marks ++ [⟨kind, p, key, x.t⟩] } }

/-- One operation ends. -/
def Cursor.ends (x : Cursor) (n : Nat) : Cursor := { x with drained := max x.drained n }

/-- A hedge operation: when its hedges, its half's fills and its wait allow. -/
def tourHop (w : Tour) (p off : Nat) (x : Cursor) : Cursor :=
  let d := hopOf (storeBytes w.e.st p off 64)
  let r := x.descWait w p d.waitEn d.semWait
  let hs := (List.range 4).filter (fun h => natBit h d.mask)
  let start := max (max x.t r.1) (max (x.fills.getD d.half 0) (maxOf (hs.map (fun h => x.hedges.getD h 0))))
  let fin := start + clocksPs w.e (hopClocks d + arbClocks w.e p x.ep (.hop off))
  ({ r.2 with t := start + clocksPs w.e 1
              hedges := (List.range 4).map (fun h => if hs.contains h then fin else x.hedges.getD h 0)
              reads := (List.range 2).map (fun h => if h = d.half then max fin (x.reads.getD h 0) else x.reads.getD h 0) }.ends fin).descPost w p d.postEn d.semPost fin

/-- A WLOAD: when the port is free and every earlier HOP has read its half (R40). -/
def tourWload (w : Tour) (p off : Nat) (x : Cursor) : Cursor :=
  let d := wloadOf (storeBytes w.e.st p off 32)
  let start := max x.t (max x.wl (x.reads.getD d.half 0))
  let fin := start + clocksPs w.e (wloadClocks d + arbClocks w.e p x.ep (.wload off))
  { x with t := x.t + clocksPs w.e 1, wl := fin, fills := (List.range 2).map (fun h => if h = d.half then fin else x.fills.getD h 0) }.ends fin

/-- An entry of the Mash queue, which holds four: the sequencer stalls until there is room (R54). -/
def tourMash (w : Tour) (p : Nat) (i : SeqInstr) (waitEn : Bool) (sem clocks : Nat) (postEn : Bool) (post : Nat) (x : Cursor) : Cursor :=
  let r := x.descWait w p waitEn sem
  let room := if x.queue.length < 4 then x.t else max x.t (x.queue.headD 0)
  let start := max room (max x.mash r.1)
  let fin := start + clocksPs w.e (clocks + arbClocks w.e p x.ep i)
  ({ r.2 with t := room + clocksPs w.e 1, mash := fin, queue := (x.queue ++ [start]).drop (if x.queue.length < 4 then 0 else 1) }.ends fin).descPost
    w p postEn post fin

/-- One instruction. -/
def tourInstr (w : Tour) (p : Nat) (i : SeqInstr) (x : Cursor) : Cursor :=
  let one := clocksPs w.e 1
  match i with
  | .hop off => tourHop w p off x
  | .wload off => tourWload w p off x
  | .mash (.reg v) => tourMash w p i false 0 (mashClocks v) false 0 x
  | .mash (.loop off) => let d := loopAt w.e.st p off
    tourMash w p i d.waitEn d.semWait (loopClocks w.e.st p d) d.postEn d.semPost x
  | .mash (.root off) => let d := rootAt w.e.st p off
    tourMash w p i d.waitEn d.semWait (rootClocks d) d.postEn d.semPost x
  | .move off =>
    let d := moveOf (storeBytes w.e.st p off 32)
    let r := x.descWait w p d.waitEn d.semWait
    let start := max (max x.t r.1) x.port
    let fin := start + movePs w.e p x.ep (w.engines x.ep) off + clocksPs w.e (arbClocks w.e p x.ep i)
    ({ r.2 with t := x.t + one, port := fin }.ends fin).descPost w p d.postEn d.semPost fin
  | .swait n k => let r := x.wait w p n k; { r.2 with t := max x.t r.1 + one }
  | .spost n d => { x.post p n d x.t with t := x.t + one }
  | .spostRemote rank plot sem d => { (if rank = w.e.b.hdr.rank then x.post plot sem d x.t else x) with t := x.t + one }
  | .ewait k => { x with t := max x.t (epochPs w.e.b.body k) + one, ep := k }
  | .fclr => { x with t := x.t + one }
  | .tallyPoint => { x.mark 2 p 0 with t := x.t + one }
  | .arrive n => { x.mark 1 p n with t := x.t + one }

/-- The region check at an instruction: it waits for what it issued, and for the scope (R106). -/
def tourCheck (w : Tour) (p k : Nat) (x : Cursor) : Cursor :=
  match w.e.b.body.regions.find? (fun d => d.plot == p && d.checkPc == k) with
  | none => x
  | some d =>
    let x := ({ x with t := max x.t x.drained }).mark 0 p d.tag
    let mates := (w.e.b.body.regions.filter (fun r => d.scopeEn && r.scopeEn && r.scopeTally == d.scopeTally && r.tag == d.tag)).map RegionDef.plot
    let last := maxOf ((w.old.marks.filter (fun m => m.kind == 0 && m.key == d.tag && mates.contains m.plot)).map MarkAt.at_)
    { x with t := max x.t last + scopePs w.e.b.body d }

/-- A stream in order; `lower` holds back the deferred one. -/
def tourStream (w : Tour) (p : Nat) (checks : Bool) (lower : Nat → Nat → Nat) : List (Nat × Nat × SeqInstr) → Cursor → Cursor
  | [], x => x
  | (k, ep, i) :: rest, x =>
    let x := { x with t := max x.t (lower k ep), reached := x.reached ++ [(k, ep, max x.t (lower k ep))] }
    tourStream w p checks lower rest (tourInstr w p i (if checks then tourCheck w p k x else x))

/-- The semaphores of its plot that an instruction posts. -/
def postsOf (s : State) (p : Nat) : SeqInstr → List Nat
  | .spost n _ => [n]
  | .hop off => let d := hopOf (storeBytes s p off 64); if d.postEn then [d.semPost] else []
  | .mash (.loop off) => let d := loopAt s p off; if d.postEn then [d.semPost] else []
  | .mash (.root off) => let d := rootAt s p off; if d.postEn then [d.semPost] else []
  | .move off => let d := moveOf (storeBytes s p off 32); if d.postEn then [d.semPost] else []
  | _ => []

/-- The deferred stream is charged as if it issued only after the primary one's last instruction of each epoch, unless the primary
waits there for a semaphore that this instruction or a later deferred one posts (R288). -/
def deferredFrom (s : State) (p : Nat) (prim defd : List (Nat × Nat × SeqInstr)) (x : Cursor) (k ep : Nat) : Nat :=
  let posts := ((defd.filter (fun d => decide (k ≤ d.1))).map (fun d => postsOf s p d.2.2)).flatten
  let blocked := prim.filter (fun d => d.2.1 == ep && match d.2.2 with | .swait n _ => posts.contains n | _ => false)
  match blocked.head? with
  | some d => maxOf ((x.reached.filter (fun r => r.1 == d.1)).map (fun r => r.2.2))
  | none => if x.reached.any (fun r => decide (ep < r.2.1)) then maxOf ((x.reached.filter (fun r => decide (r.2.1 ≤ ep))).map (fun r => r.2.2)) else x.t

/-- One plot's program. -/
def tourPlot (w : Tour) (g : Program) : Pass :=
  let prim := placedInstrs 0 0 g.primary
  let defd := placedInstrs 0 0 g.deferred
  let x := tourStream w g.plot true (fun _ _ => 0) prim {}
  let y := tourStream w g.plot false (deferredFrom w.e.st g.plot prim defd x) defd { x with t := 0, reached := [] }
  y.out

/-! ### What else posts (R272, R281, R219) -/

/-- An RX PLOT stream posts once per UNIT, and at the end of a run that is short of one. -/
def rxPosts (e : TimeEnv) : List PostAt :=
  let y := e.b.body
  ((List.range y.plan.length).map (fun i => ((runsAt y i).filter (fun r => !r.tx)).map (fun r =>
    match y.streams.find? (fun d => d.id == r.stream && d.rx && d.kind == .plot) with
    | none => []
    | some d => (List.range (ceilDiv r.len d.unit)).map (fun m =>
        ⟨d.plot, d.sem, 1, arrivePs y i r.port (r.start + min (d.unit * (m + 1)) r.len - 1) + crossPs e⟩)))).flatten.flatten

/-- The instants of a list in order. -/
def insertAt (x : Nat) : List Nat → List Nat
  | [] => [x]
  | y :: ys => if x ≤ y then x :: y :: ys else y :: insertAt x ys

/-- A LOCAL tally posts 0.25 us after the arrival that completes each generation. -/
def tallyPosts (e : TimeEnv) (x : Pass) : List PostAt :=
  (e.b.body.tallies.filter (fun d => d.kind == .localT)).map (fun d =>
    let ts := ((x.marks.filter (fun m => m.kind == 1 && m.key == d.n)).map MarkAt.at_).foldl (fun l t => insertAt t l) []
    ((List.range (ts.length / max 1 d.target)).map (fun g => d.posts.map (fun q =>
      (⟨q.1, q.2, 1, ts.getD ((g + 1) * max 1 d.target - 1) 0 + 250000⟩ : PostAt)))).flatten) |>.flatten

/-- Bytes of a full part. -/
def partLen (k : CaskDef) : Nat := 64 + k.partCasks * k.bytes

/-- The cask schedule: each delivery after those before it, in full parts (R218, R219). -/
def caskPosts (e : TimeEnv) : List PostAt :=
  match e.b.body.casks with
  | none => []
  | some k => (List.zip (List.range k.parts.length) k.parts).map (fun x =>
      ⟨x.2.plot, x.2.sem, 1, bytesPs ((x.1 + 1) * partLen k) (tierRate e 128 false) + accessPs 1 + crossPs e⟩)

/-- A pass over every program, from the one before. -/
def tourOnce (e : TimeEnv) (engines : Nat → Nat → Nat) (old : Pass) : Pass :=
  let ps := e.b.body.programs.map (tourPlot ⟨e, engines, old⟩)
  let marks := (ps.map Pass.marks).flatten
  { posts := (ps.map Pass.posts).flatten ++ rxPosts e ++ caskPosts e ++ tallyPosts e { marks := marks }, marks := marks }

/-- Passes until one finds nothing new; a wait that no order of the programs can end stays at never. -/
def tourAll (e : TimeEnv) (engines : Nat → Nat → Nat) : Nat → Pass → Pass
  | 0, x => x
  | n + 1, x => let y := tourOnce e engines x; if y = x then x else tourAll e engines n y

/-! ### Replay allowance (R111) -/

/-- The time of a replay program, with every wait satisfied. -/
def replayPs (e : TimeEnv) (engines : Nat → Nat → Nat) (p first last : Nat) : Nat :=
  let is := ((((e.b.body.programs.find? (fun g => g.plot == p)).map Program.primary).getD []).drop first).take (last + 1 - first)
  let x := tourStream ⟨e, engines, {}⟩ p false (fun _ _ => 0) (placedInstrs first 0 is) {}
  max x.t x.drained

/-- A region's whole ladder. -/
def ladderPs (e : TimeEnv) (engines : Nat → Nat → Nat) (d : RegionDef) : Nat :=
  let wide := replayPs e engines d.plot d.wide32 d.end32 + scopePs e.b.body d
  if d.level = 0 then replayPs e engines d.plot d.wide16 d.end16 + scopePs e.b.body d + wide else if d.level = 1 then wide else 0

/-- The allowance A. -/
def allowancePs (e : TimeEnv) (engines : Nat → Nat → Nat) : Nat := maxOf (e.b.body.regions.map (ladderPs e engines))

/-! ### Engines (R157, R159, R196, R218) -/

/-- Indices that a step can ask for, by the declared limits. -/
def askIndices (y : BundleBody) : Nat := y.samples * (y.features.map FeatureDef.maxPool).sum

/-- Rows that other modules can ask this one for, by the declared limits. -/
def askedRows (y : BundleBody) : Nat := max 1 (ceilDiv y.samples (max 1 y.micro)) * (y.tablesF.map (fun t => (t.pairs.map PairDef.reqCap).sum)).sum

/-- ACC_ROWS of the bundle's tables. -/
def accRowsOf (e : TimeEnv) (t : TableFDef) : Nat := ((e.st.table t.table).map Table.accRows).getD 0

/-- Cellar bytes of the look-ahead: 8 KiB for each distinct owned row. -/
def fillBytes (e : TimeEnv) : Nat := 8192 * (e.b.body.tablesF.map (accRowsOf e)).sum

/-- When the look-ahead of the next step has ended, from the start of this one. -/
def lookEndPs (e : TimeEnv) : Nat :=
  let y := e.b.body
  max (lookPs y + askIndices y * 125) (lastRxPs y (fun d => d.kind == .grnReq)) + askedRows y * 125 +
    tierPs e (fillBytes e) 0 256 true + accessPs 2

/-- B of a tensor's preconditioner, 0 without one. -/
def precondB (e : TimeEnv) (t : TensorDef) : Nat := ((e.st.ltr.precond.get none t.tensor).map (·.b)).getD 0

/-- Fabric-side clocks that the engine computes: a group a clock, rows at 32 elements a clock, and root products at 1,024 multiply-adds. -/
def lauterClocks (e : TimeEnv) : Nat :=
  (e.b.body.tensors.map (fun t => let n := precondB e t
    t.ownCount + (if n = 0 then 0 else t.ownCount * 32 / n * ceilDiv (n * n) 1024))).sum +
  (e.b.body.tablesF.map (fun t => accRowsOf e t * ceilDiv t.dim 32)).sum

/-- Cellar bytes of the dense update: a record each way, and the roots. -/
def denseBytes (e : TimeEnv) : Nat := (e.b.body.tensors.map (fun t => t.ownCount * (1024 + 128 * precondB e t))).sum

/-- HBM bytes of the update: defer areas and rows. -/
def rowBytes (e : TimeEnv) : Nat :=
  (e.b.body.tensors.map (fun t => if t.deferBase = 0 then 0 else 256 * t.ownCount)).sum +
    (e.b.body.tablesF.map (fun t => 2 * accRowsOf e t * ((e.st.table t.table).map Table.sr).getD 0)).sum

/-- The engine's work on everything a step brings. -/
def lauterPs (e : TimeEnv) : Nat :=
  max (500 * lauterClocks e) (max (tierPs e (denseBytes e) 0 256 true) (tierPs e (rowBytes e) 0 128 false)) + accessPs 2 + accessPs 4

/-- When the update has ended: its work after the last contribution and gradient record has come. -/
def updateEndPs (e : TimeEnv) : Nat :=
  max (updatePs e.b.body) (lastRxPs e.b.body (fun d => d.kind == .contrib || d.kind == .gradRec || d.kind == .reduced)) + lauterPs e

/-- Bytes of the Cask store on a tier (R218): deliveries, flushes, spills, prefetches and images, as full casks. -/
def caskBytes (e : TimeEnv) (tier : Nat) : Nat :=
  match e.b.body.casks with
  | none => 0
  | some k =>
    let img := k.images * (64 + k.layers * (k.maxCasks + 1) * k.bytes)
    let spill := (k.spills.length + k.fetches.length) * k.bytes
    if tier = 0 then k.parts.length * partLen k + 2 * 2048 * k.layers * k.bytes + spill + img
    else if tier = 1 then (if k.spillHost then 0 else spill)
    else (if k.spillHost then spill else 0) + img

/-- Bytes of the bundle's run lists, read in each epoch (R246). -/
def runListBytes (y : BundleBody) (ep : Nat) : Nat := 16 * (runsAt y ep).length

/-- Bytes that the engines move on a tier in a named epoch: the look-ahead's from its start epoch on, the update's from its opening on,
the Cask store's in all (DESIGN CHOICE, log 107). -/
def engineBytes (e : TimeEnv) (ep tier : Nat) : Nat :=
  let y := e.b.body
  let look := if lookPs y ≤ epochPs y ep then (if tier = 1 then fillBytes e else 0) else 0
  let upd := if updatePs y ≤ epochPs y ep then (if tier = 1 then denseBytes e else if tier = 0 then rowBytes e else 0) else 0
  look + upd + caskBytes e tier + (if tier = 0 then runListBytes y ep else 0)

/-! ### Deadlines (R101, R111, R115, R247, R266, R278) -/

/-- When a TX stream is ready up to so many flits. -/
def readyPs (e : TimeEnv) (x : Pass) (d : StreamDef) (n : Nat) : Nat :=
  let y := e.b.body
  match d.kind with
  | .plot | .contrib | .split => waitPs y x d.plot d.sem (ceilDiv n (max 1 d.unit)) + crossPs e
  | .grnReq => lookPs y + askIndices y * 125 + accessPs 1
  | .grnRows => lookEndPs e - stepPs y + accessPs 1
  | .gradRec => updatePs y + bytesPs (248 * d.flits) (tierRate e 128 false) + accessPs 1
  | .reduced => lastRxPs y (fun s => s.kind == .contrib && s.group == d.group) +
      500 * (((y.reductions.find? (fun g => g.group == d.group)).map ReductionDef.blocks).getD 0) + accessPs 1
  | .dist => updateEndPs e
  | .cask => bytesPs (248 * d.flits) (tierRate e 128 false) + accessPs 1
  | .reshard => 0

/-- Run k of port p in plan entry i. -/
def runAt (y : BundleBody) (i p k : Nat) : Option Run := ((runsAt y i).filter (fun r => r.port == p))[k]?

/-- The earliest region check of the step: what follows it is given A. -/
def firstCheck (x : Pass) : Nat := ((x.marks.filter (fun m => m.kind == 0)).map MarkAt.at_).foldl min never

/-- The last region check of the step. -/
def lastCheck (x : Pass) : Nat := maxOf ((x.marks.filter (fun m => m.kind == 0)).map MarkAt.at_)

/-- An instant with A added when a region precedes it (R111). -/
def withA (x : Pass) (a n : Nat) : Nat := if firstCheck x ≤ n then n + a else n

/-- An entry's event at the latest, and the instant that it must precede. -/
def deadlinePs (e : TimeEnv) (x : Pass) (a : Nat) : Deadline → Nat × Nat
  | .ready i p k =>
    match (runAt e.b.body i p k), (runAt e.b.body i p k).bind (fun r => e.b.body.streams.find? (fun d => d.id == r.stream)) with
    | some r, some d =>
      (withA x a (readyPs e x d (r.streamOff + r.len)) + 81920, epochPs e.b.body i + 1280 * flitTimeOf r.start)
    | _, _ => (0, 0)
  | .forward i p k =>
    match runAt e.b.body i p k with
    | none => (0, 0)
    | some r =>
      let rx := ((runsAt e.b.body i).filter (fun q => q.port == r.peer && q.fwd && q.peer == p)).map (fun q => (List.range q.len).map (q.start + ·))
      let tx := ((runsAt e.b.body i).filter (fun q => q.port == p && q.kind == .txForward && q.peer == r.peer)).map (fun q => (List.range q.len).map (q.start + ·))
      let pair := (List.zip rx.flatten tx.flatten).find? (fun z => decide (epochPs e.b.body i + 1280 * flitTimeOf z.2 < arrivePs e.b.body i r.peer z.1))
      match pair with
      | some z => (arrivePs e.b.body i r.peer z.1, epochPs e.b.body i + 1280 * flitTimeOf z.2)
      | none => (0, 0)
  | .tally i =>
    let pe := e.b.body.plan.getD i ⟨0, 0, false, false, false⟩
    let d := tallyPs e.b.body 1
    let arr := epochPs e.b.body i + 1280 * pe.arriveAt
    let pts := if pe.opensUpdate then withA x a (maxOf ((x.marks.filter (fun m => m.kind == 2)).map MarkAt.at_)) + 250000 else 0
    if arr < pts then (pts, arr) else (arr + d, epochPs e.b.body (i + 1) - d)
  | .update => (withA x a (updateEndPs e), stepPs e.b.body)
  | .fetch n =>
    match e.b.body.casks with
    | none => (0, 0)
    | some k =>
      match k.fetches[n]? with
      | none => (0, 0)
      | some f =>
        let use (m : Nat) : Nat := bytesPs (((k.parts.findIdx? (fun q => q.micro == m)).getD 0) * partLen k) (tierRate e 128 false)
        let len := (((k.fetches.take (n + 1)).filter (fun q => q.micro == f.micro)).length) * k.bytes
        let took := (if k.spillHost then bytesPs len (hostShare e) + e.hostLat * 1000 else tierPs e len 0 256 true + accessPs 2) + accessPs 1
        if f.micro = 0 then (took, stepPs e.b.body) else (use (f.micro - 1) + took, use f.micro)

/-- What admission places whatever DEADLINES lists: the update exchange after the five items of R115, the update before its boundary
(R196), the lookup exchange after the look-ahead (R157), and each amax tally's arrival and result within its step (R101). They are
reported after the entries of DEADLINES (DESIGN CHOICE, log 107). -/
def placements (e : TimeEnv) (x : Pass) (a : Nat) : List (Nat × Nat) :=
  let y := e.b.body
  let open_ := if y.regions.isEmpty || !y.plan.any PlanEntry.opensUpdate then []
    else [(lastCheck x + a + 250000 + 2 * tallyPs y 1, updatePs y)]
  let upd := if y.tensors.isEmpty && y.tablesF.isEmpty then [] else [deadlinePs e x a .update]
  let look := ((List.range y.plan.length).map (fun i => ((runsAt y i).filter (fun r => r.tx && y.streams.any (fun d =>
    d.id == r.stream && d.kind == .grnRows))).map (fun r => (lookEndPs e + 81920, stepPs y + epochPs y i + 1280 * flitTimeOf r.start)))).flatten
  let amax := (y.groups.filter (fun g => g.tally.isSome)).map (fun g =>
    (epochPs y g.arriveAt.1 + 1280 * g.arriveAt.2 + 2 * tallyPs y ((g.tally.map (·.1)).getD 0), stepPs y))
  open_ ++ upd ++ look ++ amax

/-- Every event at the latest with its deadline. -/
def allDeadlines (e : TimeEnv) : List (Nat × Nat) :=
  let engines := engineBytes e
  let n := (e.b.body.programs.map (fun g => g.primary.length + g.deferred.length)).sum
  let x := tourAll e engines (n + 2) {}
  let a := allowancePs e engines
  e.b.body.deadlines.map (deadlinePs e x a) ++ placements e x a

/-- The shortfall of one, in ns. -/
def shortNs (d : Nat × Nat) : Nat := ceilDiv (d.1 - d.2) 1000

/-- The first deadline missed: its index and its shortfall in ns. -/
def missed (e : TimeEnv) : Option (Nat × Nat) :=
  let ds := allDeadlines e
  (ds.findIdx? (fun d => decide (d.2 < d.1))).map (fun i => (i, shortNs (ds.getD i (0, 0))))

/-- The largest shortfall over all deadlines, in ns; 0 when every deadline holds. -/
def shortfall (e : TimeEnv) : Nat := maxOf ((allDeadlines e).map shortNs)

end Sys2Proof.Machine
end

