-- ==== Sys2Proof/Machine/Structure.lean ====
section
/-! DEFINITION. Stage 3 of admission (Table 11.3): the static rules of a schedule bundle (R8, R12, R22, R32, R39, R48, R64, R69,
R72, R102, R108, R137, R140, R250, R270, R273, R301, R384, and the rules of streams, reductions, plans and casks). Every
check answers whether one entry of a section keeps its rule. -/

namespace Sys2Proof.Machine

/-! ### Placement (R22, R137, R299) -/

/-- No two entries have the same key. -/
def distinct {α : Type} (f : α → Nat) (xs : List α) : Bool := (xs.map f).eraseDups.length == xs.length

/-- A range lies in enabled aperture segments. -/
def apertureOk (s : State) (a n : Nat) : Bool :=
  decide (a + n ≤ 2 ^ 44) && (requests a n).all (fun x => match segOf s x.1 with
    | some g => decide (x.1 + x.2 ≤ g.limit * 0x10000 + 0x10000)
    | none => false)

/-- Every 64 KiB frame of a range is one no operation has withdrawn (R20). -/
def notWithdrawn (s : State) (a n : Nat) : Bool :=
  !s.mem.withdrawn.any (fun kv => kv.2 && decide (a < (kv.1 + 1) * 0x10000) && decide (kv.1 * 0x10000 < a + n))

/-- A statically placed range: a bundle partition, a plot store, the on-die buffers, or a covered part of the aperture. -/
def placed (s : State) (a n : Nat) : Bool :=
  match locate a with
  | .store _ off => decide (off + n ≤ 0x300000)
  | .buffer => decide (a + n ≤ 0xC015800000)
  | .aperture => apertureOk s a n
  | .hbm => (inPart s 2 a n || inPart s 3 a n || inPart s 4 a n) && notWithdrawn s a n
  | .cellar => inPart s 6 a n && notWithdrawn s a n
  | _ => false

/-- A range in the bundle's partitions (R137): the dense window, the stash, the cask store and the cellar bundle area, in frames that no
operation has withdrawn (R20, R22). -/
def inBundle (s : State) (a n : Nat) : Bool :=
  ([2, 3, 4, 6].any (fun i => inPart s i a n)) && notWithdrawn s a n

/-- A range a MOVE may name: placed, or in another partition that R21 does not refuse. -/
def reachable (s : State) (a n : Nat) : Bool :=
  placed s a n || ([0, 1, 5, 7].any (fun i => inPart s i a n) && notWithdrawn s a n)

/-! ### Descriptors (R8, R12, R32, R39, R48) -/

/-- A format code that is not reserved. -/
def codeOk (n : Nat) : Bool := decide (n ≤ 10)

/-- Bytes of a format's block: what a stride is a multiple of (R39). -/
def strideUnit (f : Fmt) : Nat := if f = .mb8 then 33 else if f = .bx12 then 24 else 1

/-- Values of a packed block along K. -/
def packed (f : Fmt) : Nat := if f = .mb8 then 32 else if f = .bx12 then 16 else if f = .int4 then 2 else 1

/-- A semaphore assigned to a plot. -/
def semOk (b : BundleBody) (p n : Nat) : Bool := b.sems.any (fun d => d.plot == p && d.sem == n)

/-- A semaphore assigned to a plot that a program may wait on (Table 11.4). -/
def semWaitOk (b : BundleBody) (p n : Nat) : Bool := b.sems.any (fun d => d.plot == p && d.sem == n && d.cls != 5)

/-- A descriptor's wait and post. -/
def semsOk (b : BundleBody) (p : Nat) (waitEn : Bool) (wait : Nat) (postEn : Bool) (post : Nat) : Bool :=
  (!waitEn || semWaitOk b p wait) && (!postEn || semOk b p post)

/-- The mode of a slot of a plot. -/
def slotMode (b : BundleBody) (p n : Nat) : Nat := ((b.slots.find? (fun d => d.plot == p && d.slot == n)).map SlotDef.mode).getD 0

/-- A slot that may be named by what is not a loop's output (R102). -/
def slotPlain (b : BundleBody) (p n : Nat) : Bool := slotMode b p n != 2

/-- Rows of a strided operand end inside the 3 MiB of the store. -/
def rowsFit (off stride rows bytes : Nat) : Bool := rows == 0 || decide (off + (rows - 1) * stride + bytes ≤ 0x300000)

/-- Operand formats of one class (R32). -/
def pairOk (a w : Fmt) : Bool :=
  match classOf a, classOf w with
  | some x, some y => x == y && (x == .f16 || x == .f8 || a == w)
  | _, _ => false

/-- The output format R32 permits a class. -/
def outOk (c : CellClass) (f : Fmt) : Bool :=
  match f with
  | .int16 | .int8 | .int4 => false
  | .int32 => !c.isFloat
  | _ => true

/-- Reserved fields of a hedge operation descriptor are zero, and so are CIN's of an MM and an ANCHOR outside M8 (Table 02.8). -/
def hopReserved (bs : List Byte) : Bool :=
  let w (i : Nat) : Nat := leAt bs (8 * i) 8
  !natBit 23 (w 0) && natBits 63 56 (w 0) == 0 && natBits 31 23 (w 1) == 0 && natBits 63 48 (w 1) == 0 && natBits 63 32 (w 2) == 0 &&
    natBits 63 44 (w 3) == 0 && natBits 63 44 (w 4) == 0 && natBits 63 44 (w 5) == 0 && natBits 15 10 (w 6) == 0 &&
    natBits 63 32 (w 6) == 0 && w 7 == 0 && (natBit 0 (w 0) || natBits 43 0 (w 5) == 0) &&
    (classOf ((Fmt.ofCode (natBits 7 4 (w 0))).getD .fp32) == some .m8 || natBits 9 0 (w 6) == 0)

/-- Groups of rows C is written in: one row each, or N x S values when N is no multiple of the output block (R382). -/
def cRows (d : HopDesc) : Nat × Nat :=
  if d.n % d.fmtOut.blockVals = 0 then (d.m, d.n) else (ceilDiv d.m d.seg, d.n * d.seg)

/-- A hedge operation (R8, R32, R48); `ws` are the WLOADs that can have filled its half. -/
def hopOk (b : BundleBody) (p : Nat) (ws : List WloadDesc) (bs : List Byte) : Bool :=
  let d := hopOf bs
  let w0 := leAt bs 0 8
  let kc := ((classOf d.fmtA).map CellClass.kc).getD 1
  decide (natBits 3 0 w0 ≤ 1) && codeOk (natBits 7 4 w0) && codeOk (natBits 11 8 w0) && codeOk (natBits 15 12 w0) && hopReserved bs &&
    pairOk d.fmtA d.fmtW && ((classOf d.fmtA).map (fun c => outOk c d.fmtOut)).getD false &&
    decide (1 ≤ d.m) && decide (1 ≤ d.n) && decide (1 ≤ d.k) && decide (d.n * d.seg ≤ 64) && d.mask != 0 &&
    (ws.isEmpty || ws.any (fun w => decide (d.n0 + d.n ≤ w.nw) && decide (d.k0 + d.k ≤ w.kw))) &&
    (d.fmtA != .mb8 || d.k % 32 == 0 && d.k0 % 32 == 0) && d.k0 % kc == 0 &&
    (d.fmtOut != .mb8 || d.n * d.seg % 32 == 0) && (d.fmtOut != .bx12 || d.n * d.seg % 16 == 0) &&
    d.aStride % strideUnit d.fmtA == 0 && d.cStride % strideUnit d.fmtOut == 0 &&
    (d.fmtOut != .int32 || d.scaleA == 0 && d.scaleW == 0 && d.scaleOut == 0) &&
    rowsFit d.aOff d.aStride d.m (d.fmtA.bytesFor d.k) && rowsFit d.cOff d.cStride (cRows d).1 (d.fmtOut.bytesFor (cRows d).2) &&
    (!d.mma || rowsFit d.cinOff d.cinStride d.m (4 * d.n)) &&
    semsOk b p d.waitEn d.semWait d.postEn d.semPost &&
    slotPlain b p d.scaleOut

/-- A WLOAD (R39, R48). -/
def wloadOk (bs : List Byte) : Bool :=
  let d := wloadOf bs
  let w0 := leAt bs 0 8
  codeOk (natBits 47 44 w0) && d.fmt != .int32 && natBits 63 49 w0 == 0 && natBits 63 32 (leAt bs 8 8) == 0 && leAt bs 16 8 == 0 &&
    leAt bs 24 8 == 0 && decide (1 ≤ d.kw) && decide (1 ≤ d.nw) && decide (d.kw * d.nw * d.fmt.blockBytes ≤ 0x20000 * d.fmt.blockVals) &&
    d.kw % packed d.fmt == 0 && d.stride % strideUnit d.fmt == 0 &&
    rowsFit d.src d.stride (d.kw / packed d.fmt) (if packed d.fmt = 1 then d.fmt.bytesFor d.nw else d.nw * d.fmt.blockBytes)

/-! ### Tensors, loops and roots (R63 to R69, R72) -/

/-- A tensor descriptor (R63, R69): RANK, codes, reserved fields, extents and blocked formats. -/
def tensorOk (bs : List Byte) : Bool :=
  let t := tensorOf bs
  let w (i : Nat) : Nat := leAt bs (8 * i) 8
  let rank := natBits 54 52 (w 0)
  let unit := strideUnit t.fmt
  let str (d : Nat) : Nat := leAt bs (48 + 4 * (d - 1)) 4 * 2 ^ natBits 35 32 (w (d + 1))
  decide (1 ≤ rank) && decide (rank ≤ 5) && codeOk (natBits 51 48 (w 0)) && natBits 47 44 (w 0) == 0 && natBits 55 55 (w 0) == 0 &&
    natBits 63 32 (w 1) == 0 && decide (1 ≤ t.e0) &&
    ([1, 2, 3, 4].all (fun d =>
      if d < rank then natBits 63 36 (w (d + 1)) == 0 && decide (1 ≤ leAt bs (8 * (d + 1)) 4) && str d % unit == 0
      else w (d + 1) == 0 && leAt bs (48 + 4 * (d - 1)) 4 == 0)) &&
    t.e0 % packed t.fmt == 0

/-- A tensor wholly in plot p's store (R64). -/
def inStore (p : Nat) (t : Tensor5) : Bool := decide (storeBase p ≤ t.base) && decide (t.base + t.span ≤ storeBase p + 0x300000)

/-- What registers an instruction reads and writes: V, S and M registers (R57, R58). -/
structure MashUse where
  /-- vectors read -/
  rv : List Nat := []
  /-- scalars read -/
  rs : List Nat := []
  /-- masks read -/
  rm : List Nat := []
  /-- vectors written -/
  wv : List Nat := []
  /-- scalars written -/
  ws : List Nat := []
  /-- masks written -/
  wm : List Nat := []

/-- The operand shape of an opcode: 0 VD VA VB, 1 VD VA VB VC, 2 VD VA, 3 compare, 4 FSEL, 5 VBCS, 6 VSCAL, 7 VD only, 8 an
overwriting reduction, 9 an accumulating one, 10 MAND or MOR, 11 MNOT, 12 MSET or MCLR, 13 no operand; none for a reserved
opcode (Table 03.3). -/
def mashShape (op : Nat) : Option Nat :=
  if op = 0 ∨ op = 0x80 then some 13
  else if 0x10 ≤ op ∧ op ≤ 0x3F then
    (let k := op % 16
      if k = 3 then some 1 else if k = 6 ∨ k = 7 then some 2
      else if 12 ≤ k then some 3
      else if 8 ≤ k then (if op < 0x20 then some (if k = 8 then 0 else 2) else none)
      else some 0)
  else if 0x40 ≤ op ∧ op ≤ 0x4A then some 0
  else if op = 0x4C ∨ op = 0x4D then some 3
  else if op = 0x50 then some 2
  else if op = 0x51 then some 4
  else if op = 0x52 then some 5
  else if op = 0x53 then some 6
  else if op = 0x54 ∨ op = 0x55 then some 0
  else if 0x56 ≤ op ∧ op ≤ 0x5B then some 2
  else if op = 0x5C then some 7
  else if op = 0x60 then some 8
  else if 0x61 ≤ op ∧ op ≤ 0x65 then some 9
  else if op = 0x70 ∨ op = 0x71 then some 10
  else if op = 0x72 then some 11
  else if op = 0x73 ∨ op = 0x74 then some 12
  else none

/-- The fields an operand shape uses: VD, VA, VB, VC, MSK. -/
def shapeFields (k : Nat) : List Bool :=
  match k with
  | 0 => [true, true, true, false, true]
  | 1 => [true, true, true, true, true]
  | 2 => [true, true, false, false, true]
  | 3 => [true, true, true, false, true]
  | 4 => [true, true, true, false, true]
  | 5 => [true, true, false, false, true]
  | 6 => [true, true, false, false, true]
  | 7 => [true, false, false, false, true]
  | 8 => [true, true, false, false, true]
  | 9 => [true, true, false, false, true]
  | 10 => [true, true, true, false, true]
  | 11 => [true, true, false, false, true]
  | 12 => [true, false, false, false, true]
  | _ => [false, false, false, false, false]

/-- What a shape reads and writes. -/
def shapeUse (k w : Nat) : MashUse :=
  let d := mVd w
  let msk := [mMsk w]
  match k with
  | 0 => { rv := [mVa w, mVb w], rm := msk, wv := [d] }
  | 1 => { rv := [mVa w, mVb w, mVc w], rm := msk, wv := [d] }
  | 2 => { rv := [mVa w], rm := msk, wv := [d] }
  | 3 => { rv := [mVa w, mVb w], rm := msk, wm := [d] }
  | 4 => { rv := [mVa w, mVb w], rm := msk, wv := [d] }
  | 5 => { rs := [mVa w % 16], rm := msk, wv := [d] }
  | 6 => { rv := [mVa w], rm := msk, ws := [d % 16] }
  | 7 => { rm := msk, wv := [d] }
  | 8 => { rv := [mVa w], rm := msk, wv := [d] }
  | 9 => { rv := [mVa w], rm := msk, wv := [d] }
  | 10 => { rm := msk ++ [mVa w % 8, mVb w % 8], wm := [d] }
  | 11 => { rm := msk ++ [mVa w % 8], wm := [d] }
  | 12 => { rm := msk, wm := [d] }
  | _ => {}

/-- A Mash instruction word (R57, R58, R69). -/
def mashWordOk (w : Nat) : Bool :=
  match mashShape (mOp w) with
  | none => false
  | some k =>
    let fs := shapeFields k
    let free (i v : Nat) : Bool := fs.getD i false || v == 0
    natBits 31 31 w == 0 && free 0 (mVd w) && free 1 (mVa w) && free 2 (mVb w) && free 3 (mVc w) && free 4 (mMsk w) &&
      (k != 5 || decide (mVa w < 16)) && (k != 6 || decide (mVd w < 16)) &&
      (!(k == 10 || k == 11) || decide (mVa w < 8) && decide (mVb w < 8)) &&
      (shapeUse k w).wm.all (fun d => decide (1 ≤ d) && decide (d < 8))

/-- The body reads nothing before writing it, but for M0, S8 to S15 and the inputs' registers (R102); a masked write leaves
what it did not select, so only an unmasked one counts as writing. -/
def bodySelfContained (nin : Nat) (body : List Nat) : Bool :=
  let go := body.foldl (fun (r : Bool × MashUse) w =>
    match mashShape (mOp w) with
    | none => (false, r.2)
    | some k =>
      let u := shapeUse k w
      let ok := (u.rv ++ (if (mMsk w != 0 && k != 4 && k != 3) || k == 9 then u.wv else [])).all r.2.wv.contains &&
        u.rs.all (fun x => decide (8 ≤ x) || r.2.ws.contains x) && (u.rm ++ (if mMsk w != 0 && decide (10 ≤ k) then u.wm else [])).all (fun x => x == 0 || r.2.wm.contains x)
      (r.1 && ok, { r.2 with wv := u.wv ++ r.2.wv, ws := u.ws ++ r.2.ws, wm := u.wm ++ r.2.wm }))
    (true, { wv := List.range nin })
  go.1

/-- Reserved fields of a loop descriptor are zero (Table 03.5). -/
def loopReserved (bs : List Byte) : Bool :=
  let w0 := leAt bs 0 8
  let w1 := leAt bs 8 8
  let w2 := leAt bs 16 8
  natBits 63 44 w0 == 0 && natBits 63 56 w1 == 0 && natBits 63 30 w2 == 0 && leAt bs 56 8 == 0

/-- A loop descriptor (R64, R66, R67, R69, R102). -/
def loopOk (b : BundleBody) (s : State) (p off : Nat) : Bool :=
  let bs := storeBytes s p off 128
  let d := loopAt s p off
  let w0 := leAt bs 0 8
  let w1 := leAt bs 8 8
  let nin := natBits 45 44 w1
  let tOffs := [natBits 21 0 w0, natBits 43 22 w0, natBits 21 0 w1].take nin
  let t0 := d.ins.headD d.out
  let ext (t : Tensor5) : List Nat := [t.e0, t.e1, t.e2, t.e3, t.e4]
  let present := d.outEn && slotMode b p d.out.scale == 2
  decide (off + 128 ≤ 0x300000) && decide (1 ≤ nin) && decide (1 ≤ d.body.length) && decide (d.body.length ≤ 16) && decide (d.outMode ≤ 2) &&
    loopReserved bs && tOffs.all (fun o => decide (o + 64 ≤ 0x300000) && tensorOk (storeBytes s p o 64)) && d.ins.all (inStore p) &&
    d.ins.all (fun t => (List.zip (ext t) (ext t0)).all (fun x => x.1 == x.2 || x.1 == 1)) &&
    (!d.outEn || decide (natBits 43 22 w1 + 64 ≤ 0x300000) && tensorOk (storeBytes s p (natBits 43 22 w1) 64) && inStore p d.out &&
      (if d.outMode = 0 then ext d.out == ext t0
       else if d.outMode = 1 then d.out.e0 == 1 && (ext d.out).drop 1 == (ext t0).drop 1
       else ext d.out == [1, 1, 1, 1, 1])) &&
    d.body.all mashWordOk && d.body.all (fun w => !(regPacked d.regt && (mOp w == 0x18 || mOp w == 0x19 || mOp w == 0x1A || mOp w == 0x1B))) &&
    semsOk b p d.waitEn d.semWait d.postEn d.semPost &&
    (!present || d.outMode == 0 && bodySelfContained nin d.body)

/-- Two ranges of a store that do not meet. -/
def apart2 (x y : Nat × Nat) : Bool := decide (x.1 + x.2 ≤ y.1) || decide (y.1 + y.2 ≤ x.1)

/-- No two ranges of a list meet. -/
def pairwiseApart : List (Nat × Nat) → Bool
  | [] => true
  | x :: xs => xs.all (apart2 x) && pairwiseApart xs

/-- A root descriptor (R72). STAGE_FIRST above STAGE_LAST, and a STAGE_LAST above the publish stage, name stages that Table 03.9 does
not have: they are refused as well, which no rule says (DESIGN CHOICE, log 108). -/
def rootOk (b : BundleBody) (s : State) (p off : Nat) : Bool :=
  let bs := storeBytes s p off 64
  let d := rootAt s p off
  let w (i : Nat) : Nat := leAt bs (8 * i) 8
  let sz := 4 * d.n * d.n
  let bufs := [d.a, d.x, d.m, d.t, d.w, d.out].map (fun o => (o, sz)) ++ [(d.stat, 4)]
  decide (off + 64 ≤ 0x300000) && natBits 63 59 (w 0) == 0 && natBits 63 44 (w 1) == 0 && natBits 63 44 (w 2) == 0 &&
    natBits 63 54 (w 3) == 0 && natBits 63 50 (w 4) == 0 && w 5 == 0 && w 6 == 0 && w 7 == 0 &&
    decide (1 ≤ d.n) && decide (d.n ≤ 256) && decide (1 ≤ d.iter) && !(f32 d.eps).lt xZero && !(f32 d.eps).isNan &&
    d.stat % 4 == 0 && pairwiseApart bufs && bufs.all (fun x => decide (x.1 + x.2 ≤ 0x300000)) &&
    decide (d.first ≤ d.last) && decide (d.last ≤ 1 + d.iter * (d.p + 2)) && semsOk b p d.waitEn d.semWait d.postEn d.semPost

/-! ### MOVE (R140, R301) -/

/-- A MOVE lies in a host page: of at most 64 bytes. -/
def flagMoveOk (s : State) (t : Tensor5) : Bool :=
  if locate t.base == .aperture && t.hint == .last then
    let bus := match segOf s t.base with | some g => segTranslate g t.base | none => 0
    decide (t.span ≤ 64) && decide (bus / 4096 = (bus + t.span - 1) / 4096)
  else true

/-- The tun regions of the bundle and those of the runtime. -/
def windowCovers (b : BundleBody) (s : State) (a n : Nat) : Bool :=
  b.tuns.any (fun r => !r.int32 && decide (r.base ≤ a) && decide (a + n ≤ r.fin)) ||
    s.mem.tun.any (fun kv => decide (128 ≤ kv.1) && kv.2.en && !kv.2.int32 && decide (kv.2.base ≤ a) && decide (a + n ≤ kv.2.fin))

/-- A MOVE descriptor (R140, R301). -/
def moveOk (b : BundleBody) (s : State) (p : Nat) (bs : List Byte) : Bool :=
  let d := moveOf bs
  let sb := storeBytes s p d.src 64
  let db := storeBytes s p d.dst 64
  let x := tensorOf sb
  let y := tensorOf db
  let ext (t : Tensor5) : List Nat := [t.e0, t.e1, t.e2, t.e3, t.e4]
  natBits 63 60 (leAt bs 0 8) == 0 && natBits 63 16 (leAt bs 8 8) == 0 && leAt bs 16 8 == 0 && leAt bs 24 8 == 0 &&
    tensorOk sb && tensorOk db && x.fmt == y.fmt && ext x == ext y && x.scale == 0 && y.scale == 0 &&
    semsOk b p d.waitEn d.semWait d.postEn d.semPost &&
    (match d.mode with
      | 0 => (inStore p x && !inStore p y && reachable s y.base y.span) || (inStore p y && !inStore p x && reachable s x.base x.span)
      | 1 => inStore p x && (tunValue (natBits 51 48 (leAt sb 0 8)) 0).isSome && natBits 54 52 (leAt sb 0 8) == 1 && natBits 54 52 (leAt db 0 8) == 1 && windowCovers b s y.base (16 * y.e0)
      | 2 => !inStore p x && !inStore p y && reachable s x.base x.span && reachable s y.base y.span
      | _ => false) &&
    (d.mode == 1 || flagMoveOk s y)

/-! ### Programs (R30, R48, R69, R102, R113, R269, R288) -/

/-- WLOADs of a plot's streams that fill a half. -/
def wloadsOf (s : State) (g : Program) (half : Nat) : List WloadDesc :=
  (g.primary ++ g.deferred).filterMap (fun i => match i with
    | .wload off => let d := wloadOf (storeBytes s g.plot off 32); if d.half = half then some d else none
    | _ => none)

/-- The WLOAD a HOP at an index of a stream follows: the last of its half before it in the stream, else any of the plot's. -/
def wloadsBefore (s : State) (g : Program) (before : List SeqInstr) (half : Nat) : List WloadDesc :=
  let here := before.filterMap (fun i => match i with
    | .wload off => let d := wloadOf (storeBytes s g.plot off 32); if d.half = half then some d else none
    | _ => none)
  match here.getLast? with
  | some d => [d]
  | none => wloadsOf s g half

/-- One instruction of a stream. -/
def instrOk (b : Bundle) (s : State) (g : Program) (before : List SeqInstr) (i : SeqInstr) : Bool :=
  let y := b.body
  let p := g.plot
  match i with
  | .hop off => decide (off + 64 ≤ 0x300000) && (let bs := storeBytes s p off 64
      hopOk y p (wloadsBefore s g before (hopOf bs).half) bs)
  | .wload off => decide (off + 32 ≤ 0x300000) && wloadOk (storeBytes s p off 32)
  | .mash (.reg w) => decide (w < 2 ^ 32) && mashWordOk w
  | .mash (.loop off) => loopOk y s p off
  | .mash (.root off) => rootOk y s p off
  | .move off => decide (off + 32 ≤ 0x300000) && moveOk y s p (storeBytes s p off 32)
  | .swait n k => semWaitOk y p n && decide (1 ≤ k) && decide (k ≤ 0xFFFF)
  | .spost n d => semOk y p n && decide (-32768 ≤ d) && decide (d ≤ 32767)
  | .spostRemote rank plot sem d => decide (rank < b.hdr.members) && decide (plot < 64) && decide (sem < 48) && decide (-32768 ≤ d) && decide (d ≤ 32767)
  | .ewait e => decide (e < y.plan.length)
  | .fclr => true
  | .tallyPoint => true
  | .arrive n => y.tallies.any (fun d => d.n == n && d.kind == .localT)

/-- Every instruction of a stream, each with those before it. -/
def streamInstrsOk (b : Bundle) (s : State) (g : Program) : List SeqInstr → List SeqInstr → Bool
  | _, [] => true
  | before, i :: rest => instrOk b s g before i && streamInstrsOk b s g (before ++ [i]) rest

/-- The slot a loop writes as PRESENT, with its post. -/
def presentOut (y : BundleBody) (s : State) (p : Nat) (i : SeqInstr) (n : Nat) : Option (Bool × Nat) :=
  match i with
  | .mash (.loop off) => let d := loopAt s p off
    if d.outEn && d.out.scale == n && slotMode y p n == 2 then some (d.postEn, d.semPost) else none
  | _ => none

/-- The PRESENT slots an instruction reads under. -/
def presentIns (y : BundleBody) (s : State) (p : Nat) (i : SeqInstr) : List Nat :=
  match i with
  | .hop off => let d := hopOf (storeBytes s p off 64); [d.scaleA, d.scaleW].filter (fun n => slotMode y p n == 2)
  | .mash (.loop off) => ((loopAt s p off).ins.map Tensor5.scale).filter (fun n => slotMode y p n == 2)
  | _ => []

/-- The semaphores an instruction waits on. -/
def waitsOn (s : State) (p : Nat) : SeqInstr → List Nat
  | .swait n _ => [n]
  | .hop off => let d := hopOf (storeBytes s p off 64); if d.waitEn then [d.semWait] else []
  | .mash (.loop off) => let d := loopAt s p off; if d.waitEn then [d.semWait] else []
  | .mash (.root off) => let d := rootAt s p off; if d.waitEn then [d.semWait] else []
  | .move off => let d := moveOf (storeBytes s p off 32); if d.waitEn then [d.semWait] else []
  | _ => []

/-- The reader at the end of a list of instructions is ordered after a loop that writes its PRESENT slot (R43, R102): both are
Mash loops of one stream, or the reader, or an instruction before it, waits on that loop's post. -/
def presentOrdered (y : BundleBody) (s : State) (g : Program) (other before : List SeqInstr) (i : SeqInstr) : Bool :=
  (presentIns y s g.plot i).all (fun n =>
    let posts (xs : List SeqInstr) : List Nat := xs.filterMap (fun j => (presentOut y s g.plot j n).bind (fun x => if x.1 then some x.2 else none))
    (match i with | .mash _ => before.any (fun j => (presentOut y s g.plot j n).isSome) | _ => false) ||
      (before ++ [i]).any (fun j => (waitsOn s g.plot j).any (fun w => (posts before ++ posts other).contains w)))

/-- PRESENT ordering of a whole stream. -/
def presentOk (y : BundleBody) (s : State) (g : Program) (other : List SeqInstr) : List SeqInstr → List SeqInstr → Bool
  | _, [] => true
  | before, i :: rest => presentOrdered y s g other before i && presentOk y s g other (before ++ [i]) rest

/-- A plot's program. -/
def programOk (b : Bundle) (s : State) (g : Program) : Bool :=
  decide (g.plot < 64) && decide (g.primary.length ≤ 2 ^ 20) && decide (g.deferred.length ≤ 2 ^ 20) &&
    streamInstrsOk b s g [] g.primary && streamInstrsOk b s g [] g.deferred &&
    presentOk b.body s g g.deferred [] g.primary && presentOk b.body s g g.primary [] g.deferred

/-! ### Slots and regions (R96, R100, R105, R108, R384) -/

/-- A slot. -/
def slotOk (b : BundleBody) (d : SlotDef) : Bool :=
  decide (d.plot < 64) && decide (1 ≤ d.slot) && decide (d.slot < 64) && decide (d.mode ≤ 2) && decide (d.nwin < 64) && codeOk d.tfmt &&
    decide (d.margin < 8) && decide (d.group < 4096) && decide (-128 ≤ d.k) && decide (d.k ≤ 127) &&
    (d.mode == 0 || b.groups.any (fun g => g.group == d.group))

/-- A scale group. -/
def groupOk (b : BundleBody) (d : GroupDef) : Bool :=
  decide (d.group < 4096) && decide (-128 ≤ d.kmin) && decide (d.kmin ≤ d.kmax) && decide (d.kmax ≤ 127) &&
    decide (-128 ≤ d.kinit) && decide (d.kinit ≤ 127) &&
    (match d.tally with
      | some (fid, lane) => b.tallies.any (fun t => t.kind == .combine && t.fid == fid && t.lanes.getD lane .sum == .max && decide (lane < t.lanes.length))
      | none => true)

/-- The plots of the region's scope on this module. -/
def scopeOf (b : BundleBody) (d : RegionDef) : List RegionDef :=
  if d.scopeEn then b.regions.filter (fun r => r.scopeEn && r.scopeTally == d.scopeTally && r.tag == d.tag) else [d]

/-- A replay region: Table 05.5, and the OUT_SLOT group is exactly its scope (R108). -/
def regionOk (b : BundleBody) (d : RegionDef) : Bool :=
  let grp (p n : Nat) : Option Nat := (b.slots.find? (fun x => x.plot == p && x.slot == n)).map SlotDef.group
  let prog := ((b.programs.find? (fun g => g.plot == d.plot)).map (fun g => g.primary.length)).getD 0
  let mates := scopeOf b d
  decide (d.plot < 64) && decide (d.tag < 65536) && decide (d.level ≤ 2) && decide (d.outSlot < 64) && decide (d.scopeTally < 256) &&
    decide (d.checkPc < prog) && decide (d.resumePc ≤ prog) && (decide (d.level < 1) || d.wide16 == 0) && (decide (d.level < 2) || d.wide32 == 0) &&
    (d.outSlot == 0 || match grp d.plot d.outSlot with
      | none => false
      | some g => (b.slots.filter (fun x => x.group == g && x.mode != 0)).all (fun x => mates.any (fun r => r.plot == x.plot && r.outSlot == x.slot)) &&
        mates.all (fun r => grp r.plot r.outSlot == some g)) &&
    (!d.scopeEn || b.tallies.any (fun t => t.n == d.scopeTally && (t.kind == .localT || t.kind == .combine)))

/-! ### Tallies (R272 to R276) -/

/-- Hops from the root to a member by its longest path, alternates included; more than 12 reads 13. -/
def pathHops (tree : List TreeNode) : Nat → Nat → Nat
  | 0, _ => 13
  | f + 1, r =>
    match tree.find? (fun t => t.rank == r) with
    | none => 13
    | some t =>
      let up (x : Option (Nat × Nat)) : Nat := match x with | some y => 1 + pathHops tree f y.1 | none => 0
      min 13 (max (up t.parent) (up t.alt))

/-- The tree of a fabric tally (R273). -/
def treeOk (members : Nat) (d : TallyDef) : Bool :=
  let kids (r : Nat) : List TreeNode := d.tree.filter (fun t => match t.parent with | some x => x.1 == r | none => false)
  distinct TreeNode.rank d.tree && d.tree.all (fun t => decide (t.rank < members)) &&
    (d.tree.filter (fun t => t.parent.isNone)).map TreeNode.rank == [d.root] &&
    d.tree.all (fun t =>
      t.size == 1 + ((kids t.rank).map TreeNode.size).sum && t.children.length == (kids t.rank).length &&
        distinct (fun c => c.1) t.children && distinct (fun c => c.2.1) t.children &&
        t.children.all (fun c => decide (c.2.1 < 16) && (kids t.rank).any (fun k => k.rank == c.1 && k.size == c.2.2)) &&
        (match t.parent with | some x => decide (x.2 < 16) && !t.children.any (fun c => c.2.1 == x.2) | none => true) &&
        (match t.alt with
          | some x => decide (x.2 < 16) && t.parent.isSome && t.parent != some x && d.tree.any (fun q => q.rank == x.1)
          | none => true) &&
        decide (pathHops d.tree 14 t.rank ≤ 12) && decide (t.dGroup ≤ 200000000))

/-- A tally. -/
def tallyOk (b : Bundle) (d : TallyDef) : Bool :=
  d.posts.all (fun x => decide (x.1 < 64) && semOk b.body x.1 x.2) &&
    (if d.kind = .localT then decide (1 ≤ d.target) && decide (d.target < 65536)
     else decide (d.fid < 64) && treeOk b.hdr.members d && d.tree.any (fun t => t.rank == b.hdr.rank) &&
       (d.kind != .combine || decide (1 ≤ d.lanes.length) && decide (d.lanes.length ≤ 4096)))

/-- Fabric tallies 0 and 1 are those R268 and R273 require; numbers are not shared. -/
def talliesOk (b : Bundle) : Bool :=
  let fab := b.body.tallies.filter (fun d => d.kind != .localT)
  distinct TallyDef.n b.body.tallies && distinct TallyDef.fid fab &&
    fab.any (fun d => d.fid == 0 && d.kind == .barrier && d.tree.length == b.hdr.members) &&
    fab.any (fun d => d.fid == 1 && d.kind == .epoch)

/-! ### Templates, plan and streams (R245 to R250, R278, R280) -/

/-- Data positions of an epoch (R229). -/
def dataPositions (t : Template) : Nat := positionsBefore t.flits

/-- A port's runs of one direction are in ascending START and do not overlap. -/
def runsOrdered : List Run → Bool
  | [] => true
  | [_] => true
  | x :: y :: rest => decide (x.start + x.len ≤ y.start) && runsOrdered (y :: rest)

/-- Runs in order, joined where one follows another under one MARKER: marker and flits. -/
def mergeRuns : List Run → List (Nat × Nat)
  | [] => []
  | r :: rs =>
    match mergeRuns rs with
    | (m, n) :: rest => if m = r.marker then (m, r.len + n) :: rest else (r.marker, r.len) :: (m, n) :: rest
    | [] => [(r.marker, r.len)]

/-- The flits that port p receives for port q are those that q sends on from p, in count and in order: MARKER names the original run
on both sides (R250; Table 10.7, DEDUCED, log 101). -/
def forwardOk (t : Template) (p q : Nat) : Bool :=
  mergeRuns (t.runs.filter (fun r => r.port == p && r.fwd && r.peer == q)) ==
    mergeRuns (t.runs.filter (fun r => r.port == q && r.kind == .txForward && r.peer == p))

/-- RUN_BASE of a port with runs: 16-byte aligned, its list in a bundle partition (Table 10.6). -/
def runBaseOk (s : State) (t : Template) (p : Nat) : Bool :=
  t.count p == 0 || t.base p % 16 == 0 && inBundle s (t.base p) (16 * t.count p)

/-- Withy words of the bundle that can be queued ahead of one on a port at once: an ABSENT word for each TX run that can start between two
withy positions, a TALLY_ARRIVE for each lane and a RELEASE for each tally that goes by this port, and the posts that its plots send over
it (R235; DESIGN CHOICE, log 107). -/
def withyLoad (b : Bundle) (t : Template) (p : Nat) : Nat :=
  let starts := (t.runs.filter (fun r => r.port == p && r.tx)).map (fun r => flitTimeOf r.start / 32)
  let absents := (starts.map (fun k => (starts.filter (· == k)).length)).foldl max 0
  let nodes := b.body.tallies.filter (fun d => d.kind != .localT)
  let mine (d : TallyDef) : Option TreeNode := d.tree.find? (fun n => n.rank == b.hdr.rank)
  let ups := (nodes.map (fun d => match mine d with
    | some n => if (n.parent.map (·.2)) == some p then (if d.kind = .combine then d.lanes.length else 1) else 0
    | none => 0)).foldl max 0
  let downs := (nodes.map (fun d => match mine d with
    | some n => if n.children.any (fun c => c.2.1 == p) then (if d.kind = .combine then d.lanes.length else 2) else 0
    | none => 0)).foldl max 0
  absents + ups + downs

/-- One template (R250). -/
def templateOk (b : BundleBody) (s : State) (t : Template) : Bool :=
  t.clean && (List.range 16).all (runBaseOk s t) && decide (12500 ≤ t.flits) && decide (t.flits ≤ 781250) &&
    t.runs.all (fun r => decide (r.port < 16) && decide (1 ≤ r.len) && decide (r.start + r.len ≤ dataPositions t) && decide (r.marker < 65536) &&
      (match r.kind with
        | .txLocal => b.streams.any (fun d => d.id == r.stream && !d.rx)
        | .rxLocal => b.streams.any (fun d => d.id == r.stream && d.rx)
        | .rxBoth => decide (r.peer < 16) && b.streams.any (fun d => d.id == r.stream && d.rx)
        | _ => decide (r.peer < 16)) &&
      (r.kind == .txLocal || r.kind == .rxLocal || !(s.port r.port).switched && !(s.port r.peer).switched)) &&
    (List.range 16).all (fun p =>
      let rs := t.runs.filter (fun r => r.port == p)
      runsOrdered (rs.filter Run.tx) && runsOrdered (rs.filter (fun r => !r.tx)) && rs == rs.filter Run.tx ++ rs.filter (fun r => !r.tx) &&
        (List.range 16).all (fun q => forwardOk t p q))

/-- The runs on a switched port fit in 90 % of 800 Gb/s over the epoch (R255): 102,400,000,000 bytes/s at 1.28 ns a flit. -/
def switchedFits (s : State) (t : Template) : Bool :=
  (List.range 16).all (fun p => !(s.port p).switched ||
    decide (((t.runs.filter (fun r => r.port == p && r.tx)).map (fun r => r.len * 248)).sum * 1000 ≤ t.flits * 115200))

/-- The plan (R278): its templates exist, arrivals lie in their epochs, and exactly the last entry opens a step. -/
def planOk (b : BundleBody) (i : Nat) (e : PlanEntry) : Bool :=
  (match b.templates.find? (fun t => t.num == e.template) with
    | some t => decide (e.arriveAt < t.flits)
    | none => false) && e.opensStep == (i + 1 == b.plan.length)

/-- A stream (Table 11.10, R281). -/
def streamOk (b : BundleBody) (s : State) (d : StreamDef) : Bool :=
  let local_ := d.kind == .plot || d.kind == .contrib || d.kind == .split
  decide (1 ≤ d.unit) && decide (d.unit ≤ 32767) && decide (d.plot < 64) && decide (d.sem < 48) && decide (d.flits < 2 ^ 32) &&
    (if d.rx then d.kind != .plot || semWaitOk b d.plot d.sem
     else !local_ || b.sems.any (fun x => x.plot == d.plot && x.sem == d.sem && x.cls == 5)) &&
    (!(d.kind == .contrib || d.kind == .reduced) || b.reductions.any (fun g => g.group == d.group)) &&
    (!(local_ || d.rx) || d.flits == 0 || placed s d.base (248 * d.flits)) &&
    (!d.rx || d.flits == 0 || placed s d.flagsBase (ceilDiv d.flits 8))

/-- A reduction group (R282, R283, R286). -/
def reductionOk (b : Bundle) (s : State) (d : ReductionDef) : Bool :=
  decide (2 ≤ d.members.length) && decide (d.members.length ≤ 32768) && (d.members.zip (d.members.drop 1)).all (fun x => decide (x.1 < x.2)) &&
    d.members.all (fun r => decide (r < b.hdr.members)) && d.members.contains d.owner && decide (1 ≤ d.blocks) &&
    decide (1 ≤ d.segs.length) && decide (d.segs.length ≤ 255) && d.segs.sum == d.blocks &&
    (d.replica || d.slots.length == d.segs.length && d.slots.all (fun x => slotMode b.body x.1 x.2 == 2)) &&
    (if d.replica then b.body.tablesF.any (fun t => t.table == d.target)
     else d.owner != b.hdr.rank || b.body.tensors.any (fun t => t.tensor == d.target && decide (d.first + d.blocks ≤ t.groups))) &&
    (d.owner == b.hdr.rank || !d.members.contains b.hdr.rank || b.body.streams.any (fun x => x.kind == .contrib && !x.rx && x.group == d.group)) &&
    (d.carryBase == 0 || placed s d.carryBase (128 * d.blocks)) && (d.srcBase == 0 || placed s d.srcBase (33 * d.blocks))

/-! ### Update, features, casks (R131, R168, R179, R188 to R191, R207) -/

/-- A dense tensor. -/
def denseOk (b : BundleBody) (s : State) (d : TensorDef) : Bool :=
  let wc := d.fmt.bytesFor 32 * d.groups
  decide (1 ≤ d.groups) && d.groups == ceilDiv d.elems 32 && decide (d.ownFirst + d.ownCount ≤ d.groups) &&
    (match s.ltr.sets.get none d.ruleSet with
      | some r => r.rule != 2
      | none => false) &&
    decide (d.wcFmt ≤ 5) &&
    (d.ownCount == 0 || d.bank0 % 512 == 0 && d.bank1 % 512 == 0 && inPart s 6 d.bank0 (512 * d.groups) && inPart s 6 d.bank1 (512 * d.groups) &&
      notWithdrawn s d.bank0 (512 * d.groups) && notWithdrawn s d.bank1 (512 * d.groups)) &&
    inPart s 2 d.wc0 wc && inPart s 2 d.wc1 wc && notWithdrawn s d.wc0 wc && notWithdrawn s d.wc1 wc && (d.deferBase == 0 || placed s d.deferBase (128 * d.groups)) &&
    (if d.wcFmt = 0 then d.wcSlot.2 == 0
     else b.slots.any (fun x => x.plot == d.wcSlot.1 && x.slot == d.wcSlot.2 && x.group == d.wcGroup)) &&
    !d.owners.isEmpty && distinct id d.owners

/-- A tun region (R131). -/
def tunOk (s : State) (d : TunDef) : Bool :=
  d.base % 16 == 0 && d.fin % 16 == 0 && decide (d.base < d.fin) && decide (-128 ≤ d.x) && decide (d.x ≤ 127) &&
    inBundle s d.base (d.fin - d.base)

/-- A static region: in the bundle's partitions (R22, R137). -/
def staticOk (s : State) (d : StaticDef) : Bool := inBundle s d.base d.size

/-- A feature. -/
def featureOk (b : BundleBody) (d : FeatureDef) : Bool :=
  b.tablesF.any (fun t => t.table == d.table) && decide (1 ≤ d.maxPool) && codeOk d.outFmt && decide (d.plot < 64) &&
    slotMode b d.plot d.gradSlot == 2 &&
    (match b.tablesF.find? (fun t => t.table == d.table) with
      | some t => rowsFit d.off d.stride b.micro (((Fmt.ofCode d.outFmt).getD .fp32).bytesFor t.dim)
      | none => false)

/-- A stream of a kind, sent. -/
def sendsOn (b : BundleBody) (k : StreamKind) (id : Nat) : Bool := b.streams.any (fun x => x.id == id && x.kind == k && !x.rx)

/-- What a table exchanges with another module: streams of the kinds that Table 11.10 has for it. -/
def pairFOk (b : Bundle) (q : PairDef) : Bool :=
  decide (q.rank < b.hdr.members) && q.rank != b.hdr.rank && sendsOn b.body .grnReq q.reqStream && sendsOn b.body .grnRows q.rowStream &&
    sendsOn b.body .gradRec q.gradStream

/-- A table of FEATURES: its code is no reserved one (R8), and its gradient tally spans every module with one SUM lane (R168). -/
def tableFOk (b : Bundle) (d : TableFDef) : Bool :=
  codeOk d.wfmt && decide (1 ≤ d.dim) && distinct PairDef.rank d.pairs && d.pairs.all (pairFOk b) &&
    b.body.tallies.any (fun t => t.kind == .combine && t.fid == d.gradTally && t.lanes == [.sum] && t.tree.length == b.hdr.members)

/-- The batch area and the step's sizes. -/
def batchOk (b : BundleBody) (s : State) : Bool :=
  (b.samples == 0 || decide (1 ≤ b.micro) && b.samples % max 1 b.micro == 0) && decide (1 ≤ b.ageSteps) && decide (b.ageSteps ≤ 4096) &&
    (b.batchBytes == 0 || (inPart s 2 b.batchBase (3 * b.batchBytes) || inPart s 3 b.batchBase (3 * b.batchBytes)) &&
      notWithdrawn s b.batchBase (3 * b.batchBytes) && b.batchBase % 8 == 0 && b.batchBytes % 8 == 0)

/-- Bytes of the spill area (R208). -/
def spillSpan (k : CaskDef) : Nat := ceilDiv caskLimit (max 1 k.per) * 65536

/-- Bytes of the metadata areas (Table 09.2). -/
def metaSpan (k : CaskDef) : Nat := 16 * caskLimit + 64 * 2048 + ceilDiv (2048 * k.layers * 2) (max 1 k.per) * 65536

/-- The spill area: in the host aperture or in the cellar bundle area (Table 09.1, R22). -/
def spillOk (s : State) (k : CaskDef) : Bool :=
  if k.spillHost then apertureOk s k.spillBase (spillSpan k) && decide (locate k.spillBase = .aperture)
  else inPart s 6 k.spillBase (spillSpan k) && notWithdrawn s k.spillBase (spillSpan k)

/-- SPLIT_MAP. -/
def splitMapOk (b : Bundle) (k : CaskDef) : Bool :=
  distinct (fun x => 2048 * x.2.1.headD 0 + x.1) k.split &&
    k.split.all (fun x => decide (x.1 < 2048) && decide (2 ≤ x.2.1.length) && decide (x.2.1.length ≤ 64) && distinct id x.2.1 &&
      x.2.1.all (fun r => decide (r < b.hdr.members)) && decide (1 ≤ x.2.2)) &&
    k.holders.all (fun x => decide (x.1 < b.hdr.members) && sendsOn b.body .cask x.2)

/-- The cask, spill and prefetch schedules (R217, R219). -/
def caskSchedOk (b : Bundle) (k : CaskDef) : Bool :=
  k.parts.all (fun e => decide (e.home < b.hdr.members) && decide (e.layer < k.layers) && decide (e.plot < 64) && semOk b.body e.plot e.sem &&
      decide (e.off + 64 + k.partCasks * k.bytes ≤ 0x300000)) &&
    distinct (fun e => e.home + 32768 * (e.micro + 65536 * (e.smp + 65536 * (e.layer + 8 * e.pos)))) k.parts &&
    k.spills.all (fun e => decide (e.home < b.hdr.members) && decide (e.slot < 2048) && decide (e.layer < k.layers)) &&
    k.fetches.all (fun e => decide (e.layer < k.layers) && decide (e.frame < k.window))

/-- The activation stash: in lean mode the first LEAN_LAYERS layers' in host memory, the others' at their cellar home (R222). -/
def stashOk (s : State) (k : CaskDef) : Bool :=
  (List.zip (List.range k.stash.length) k.stash).all (fun x =>
    if x.1 < k.leanLayers then apertureOk s x.2.1 x.2.2 && decide (locate x.2.1 = .aperture)
    else inPart s 6 x.2.1 x.2.2 && notWithdrawn s x.2.1 x.2.2)

/-- The cask region (Tables 09.1, 09.2). -/
def caskOk (b : Bundle) (s : State) (k : CaskDef) : Bool :=
  decide (1 ≤ k.layers) && decide (k.layers ≤ 8) && decide (64 ≤ k.w) && decide (k.w ≤ 1024) && k.w % 64 == 0 && (k.kvfmt == 1 || k.kvfmt == 3) &&
    decide (1 ≤ k.maxCasks) && decide (k.maxCasks ≤ 65536) && decide (1 ≤ k.res) && decide (k.res ≤ k.maxCasks) &&
    [1, 2, 4, 8, 16, 32, 64, 128, 256].contains k.partCasks && k.spillBase % 65536 == 0 && k.metaBase % 65536 == 0 && spillOk s k &&
    (inPart s 2 k.metaBase (metaSpan k) || inPart s 3 k.metaBase (metaSpan k) || inPart s 6 k.metaBase (metaSpan k)) &&
    notWithdrawn s k.metaBase (metaSpan k) && splitMapOk b k && caskSchedOk b k && stashOk s k

/-! ### The whole of stage 3 -/

/-- Header rules: reserved fields, PROFILE and MEMBERS. -/
def headerOk (h : BHeader) : Bool := !h.reservedBad && decide (h.profile ≤ 2) && decide (1 ≤ h.members) && decide (h.members ≤ 32768)

/-- The first entry of a section that breaks its rule. -/
def badEntry {α : Type} (type : Nat) (ok : Nat → α → Bool) (xs : List α) : Option (Nat × Nat) :=
  ((List.range xs.length).find? (fun i => match xs[i]? with | some x => !ok i x | none => false)).map (fun i => (type, i))

/-- The sections' rules in section order: the type and entry of the first that fails (Table 11.3, stage 3). -/
def structureBad (b : Bundle) (s : State) : Option (Nat × Nat) :=
  let y := b.body
  let t := viewState s b
  let whole (type : Nat) (ok : Bool) : Option (Nat × Nat) := if ok then none else some (type, 0)
  [whole 0 (headerOk b.hdr && !y.reservedBad),
   badEntry 0x03 (fun _ x => placed s x.1 x.2.length) y.images,
   badEntry 0x04 (fun _ d => decide (d.plot < 64) && decide (d.cls ≤ 5) && decide (d.init < 65536)) y.sems,
   badEntry 0x05 (fun _ d => groupOk y d) y.groups,
   badEntry 0x05 (fun _ d => slotOk y d) y.slots,
   whole 0x05 (distinct GroupDef.group y.groups && distinct (fun d => 64 * d.plot + d.slot) y.slots),
   whole 0x04 (distinct (fun d => 64 * d.plot + d.sem) y.sems),
   badEntry 0x06 (fun _ d => regionOk y d) y.regions,
   badEntry 0x07 (fun _ d => tallyOk b d) y.tallies,
   whole 0x07 (talliesOk b),
   badEntry 0x08 (fun _ d => templateOk y s d && switchedFits s d && (List.range 16).all (fun p => decide (withyLoad b d p ≤ 30))) y.templates,
   whole 0x08 (distinct Template.num y.templates),
   badEntry 0x09 (fun i d => planOk y i d) y.plan,
   whole 0x09 (!y.plan.isEmpty),
   badEntry 0x0A (fun _ d => streamOk y s d) y.streams,
   whole 0x0A (distinct StreamDef.id y.streams),
   badEntry 0x0B (fun _ d => reductionOk b s d) y.reductions,
   whole 0x0B (distinct ReductionDef.group y.reductions),
   badEntry 0x0C (fun _ d => decide (d.port < 16) && decide (d.partnerRank < b.hdr.members) && decide (d.partnerPort < 16)) y.links,
   whole 0x0C (distinct LinkDef.port y.links),
   badEntry 0x0D (fun _ d => staticOk s d) y.statics,
   badEntry 0x0D (fun _ d => tunOk s d) y.tuns,
   whole 0x0D (distinct TunDef.n y.tuns && pairwiseApart (y.tuns.map (fun d => (d.base, d.fin - d.base)))),
   badEntry 0x0E (fun _ d => denseOk y s d) y.tensors,
   whole 0x0E (distinct TensorDef.tensor y.tensors),
   badEntry 0x0F (fun _ d => featureOk y d) y.features,
   badEntry 0x0F (fun _ d => tableFOk b d) y.tablesF,
   whole 0x0F (batchOk y s && distinct TableFDef.table y.tablesF),
   (match y.casks with | some k => whole 0x10 (caskOk b s k) | none => none),
   badEntry 0x02 (fun _ g => programOk b t g) y.programs,
   whole 0x02 (distinct Program.plot y.programs)].findSome? id

end Sys2Proof.Machine
end

