-- ==== Sys2Proof/Machine/Admission.lean ====
section
/-! DEFINITION. Bundle admission and activation (R263 to R268), STEP_ARM and STEP_STATUS (R25, R326), and UNPARK (R328). -/

namespace Sys2Proof.Machine

/-! ### The file (R263) -/

/-- The header's fields (Table 11.1). -/
def headerOf (f : List Byte) : BHeader :=
  { magic := leAt f 0 4, format := leAt f 4 2, sections := leAt f 6 2, scheduleId := leAt f 8 8, domain := leAt f 16 4
    rank := leAt f 20 2, members := leAt f 22 2, profile := leAt f 24 1, steppings := leAt f 25 1, mainFw := leAt f 28 4
    linkFw := leAt f 32 4, memFw := leAt f 36 4, length := leAt f 40 8, digest := leNat (slice f 48 64)
    reservedBad := leAt f 26 2 != 0 || leAt f 112 16 != 0 }

/-- The directory: TYPE, reserved field, LENGTH and OFFSET of every entry. -/
def directory (f : List Byte) (n : Nat) : List (Nat × Nat × Nat × Nat) :=
  (List.range n).map (fun i => (leAt f (128 + 16 * i) 2, leAt f (130 + 16 * i) 2, leAt f (132 + 16 * i) 4, leAt f (136 + 16 * i) 8))

/-- Directory entries keep their rules: each section at most once, inside the file, after the directory. -/
def directoryOk (f : List Byte) (n : Nat) : Bool :=
  let ds := directory f n
  distinct (fun d => d.1) ds && ds.all (fun d => decide (1 ≤ d.1) && decide (d.1 ≤ 0x11) && d.2.1 == 0 &&
    decide (128 + 16 * n ≤ d.2.2.2) && decide (d.2.2.2 + d.2.2.1 ≤ f.length))

/-- SHA-512 of the file with DIGEST read as zero. -/
def fileDigest (f : List Byte) : Nat := leNat (sha512 (slice f 0 48 ++ zeros 64 ++ f.drop 112))

/-! ### Refusals (R265) -/

/-- What a refused bundle's response names. -/
structure Verdict where
  /-- status -/
  status : Status
  /-- STAGE -/
  stage : Nat
  /-- section TYPE -/
  type : Nat := 0
  /-- entry index -/
  entry : Nat := 0
  /-- deadline index -/
  deadline : Nat := 0
  /-- shortfall, ns -/
  short : Nat := 0
  deriving DecidableEq, Repr

/-- The inline result of BUNDLE_LOAD. -/
def Verdict.inline (v : Verdict) : List Byte :=
  leBytes 1 v.stage ++ [0] ++ leBytes 2 v.type ++ leBytes 4 v.entry ++ leBytes 4 v.deadline ++ leBytes 8 v.short

/-- A check that must hold. -/
def need (ok : Bool) (v : Verdict) : Option Verdict := if ok then none else some v

/-- The first failure of a list of checks. -/
def firstFail (xs : List (Option Verdict)) : Option Verdict := xs.findSome? id

/-! ### Stages 1 and 2 -/

/-- Integrity. -/
def stage1 (f : List Byte) (h : BHeader) : Option Verdict :=
  firstFail
    [need (h.magic == 0x31425358 && h.format / 256 == 1 && h.length == f.length && decide (h.length ≤ 2 ^ 32) &&
        decide (1 ≤ h.sections) && decide (h.sections ≤ 64)) ⟨.refusedVersion, 1, 0, 0, 0, 0⟩,
     need (h.digest == fileDigest f) ⟨.badSignature, 1, 0, 0, 0, 0⟩]

/-- Fit. -/
def stage2 (s : State) (h : BHeader) : Option Verdict :=
  firstFail
    [need (natBit s.fuses.stepping h.steppings && h.mainFw == s.fw.ifvers.getD 0 0 && h.linkFw == s.fw.ifvers.getD 1 0 &&
        h.memFw == s.fw.ifvers.getD 2 0) ⟨.refusedVersion, 2, 0, 0, 0, 0⟩,
     need (h.domain == s.fab.domain && decide (h.rank < h.members)) ⟨.badArgument, 2, 0, 0, 0, 0⟩]

/-- Structure. -/
def stage3 (s : State) (f : List Byte) (b : Bundle) : Option Verdict :=
  firstFail
    [need (directoryOk f b.hdr.sections) ⟨.badArgument, 3, 0, 0, 0, 0⟩,
     (structureBad b s).map (fun x => ⟨.badArgument, 3, x.1, x.2, 0, 0⟩)]

/-! ### Stage 4: mode and tables -/

/-- The parameters of Table 09.1: LEAN_LAYERS, the stash and the schedules are no part of the geometry (R222). -/
def caskGeometry (k : CaskDef) : CaskDef := { k with leanLayers := 0, stash := [], parts := [], images := 0, spills := [], fetches := [], holders := [] }

/-- The cask geometry of the active bundle differs and a slot of it is in use (Table 09.6). -/
def caskConflict (s : State) (b : Bundle) : Bool :=
  match caskDef s with
  | some k => b.body.casks.map caskGeometry != some (caskGeometry k) && (List.range 2048).any (fun n => seqState s k n != 0)
  | none => false

/-- Tables of FEATURES exist as recorded (R150). -/
def tableFail (s : State) (b : Bundle) (i : Nat) (d : TableFDef) : Option Verdict :=
  match s.table d.table with
  | none => some ⟨.notPresent, 4, 0x0F, i, 0, 0⟩
  | some tb => need (tb.dim == d.dim && tb.fmt.code == d.wfmt && tb.self == b.hdr.rank) ⟨.badArgument, 4, 0x0F, i, 0, 0⟩

/-- Module state. With `park`, the park itself and DETACHED are no obstacle (R328). -/
def stage4 (s : State) (park : Bool) (b : Bundle) : Option Verdict :=
  let m := s.mst
  firstFail
    [need (!(m.mode == .fallow || m.mode == .hold || m.mode == .shuttingDown || m.mode == .starting) &&
        (park || !(m.mode == .parked || s.host.detached))) ⟨.refusedMode, 4, 0, 0, 0, 0⟩,
     need (s.mem.parts == b.body.parts && s.mem.cellarGib == b.body.cellarGib) ⟨.refusedMode, 4, 1, 0, 0, 0⟩,
     need (!caskConflict s b) ⟨.refusedMode, 4, 0x10, 0, 0, 0⟩,
     firstFail ((List.range b.body.tablesF.length).map (fun i => (b.body.tablesF[i]?).bind (tableFail s b i)))]

/-! ### Stage 5: capacity -/

/-- Blocks of a contribution that lie in its first n flits (R283). -/
def blocksIn (d : ReductionDef) (n : Nat) (up : Bool) : Nat :=
  let v := n * 248 - (8 + 8 * d.segs.length)
  min d.blocks (if up then ceilDiv v 33 else v / 33)

/-- Flits of a stream received by the end of plan entry e. -/
def flitsBy (y : BundleBody) (id e : Nat) : Nat :=
  ((y.plan.take (e + 1)).map (fun x => ((y.templates.find? (fun t => t.num == x.template)).map (fun t =>
    ((t.runs.filter (fun r => !r.tx && r.stream == id)).map (fun r => r.streamOff + r.len)).foldl max 0)).getD 0)).foldl max 0

/-- Blocks of an owned group in the buffers during plan entry e: touched by its end by some member, less those every member
had completed before it, which the engine's charged rate has applied by then (R196). -/
def inFlight (b : Bundle) (d : ReductionDef) (e : Nat) : Nat :=
  let ids := (b.body.streams.filter (fun x => x.kind == .contrib && x.rx && x.group == d.group)).map StreamDef.id
  let top := (ids.map (fun i => blocksIn d (flitsBy b.body i e) true)).foldl max 0
  let low := if e = 0 then 0 else (ids.map (fun i => blocksIn d (flitsBy b.body i (e - 1)) false)).foldl min d.blocks
  top - low

/-- Bytes of partial preconditioner blocks during plan entry e: each group in flight of a PRECOND tensor can belong to a block of its own,
whose gradient is held in FP32 until it is whole (R186, R196). -/
def partialBlocks (s : State) (b : Bundle) (own : List ReductionDef) (e : Nat) : Nat :=
  (b.body.tensors.map (fun t => match s.ltr.precond.get none t.tensor with
    | none => 0
    | some q => min (((own.filter (fun d => !d.replica && d.target == t.tensor)).map (fun d => inFlight b d e)).sum) (t.ownCount * 32 / max 1 q.b) *
        (4 * q.b))).sum

/-- The completion bitmaps: a bit for each owned dense group, embedding slot and replica (R198). -/
def bitmapBytes (s : State) (b : Bundle) : Nat :=
  (b.body.tensors.map (fun t => ceilDiv t.ownCount 8)).sum +
    (b.body.tablesF.map (fun t => ((s.table t.table).map (fun tb => ceilDiv tb.accRows 8 + ceilDiv tb.reps.length 8)).getD 0)).sum

/-- The largest total in the Lauter buffers over the step, in bytes: at any instant of a plan entry the blocks in flight with their
accumulators, the partial preconditioner blocks, and the completion bitmaps (R196). -/
def lauterPeak (s : State) (b : Bundle) : Nat :=
  let own := b.body.reductions.filter (fun d => d.owner == b.hdr.rank)
  ((List.range b.body.plan.length).map (fun e => ((own.map (fun d => inFlight b d e)).sum) * 2176 + partialBlocks s b own e)).foldl max 0 +
    bitmapBytes s b

/-- Casks of a chain of up to n that lie on member i of a split group of g. -/
def splitShare (k : CaskDef) (n g i : Nat) : Nat :=
  let p := max 1 k.partCasks
  if g ≤ i then 0 else n / (g * p) * p + min p (n % (g * p))

/-- Per layer, the casks that split maps place here, and the slots of this module that they take: this module's own share of its slots,
and the guest parts of others (R218, R221). -/
def splitCasks (b : Bundle) (k : CaskDef) (most : Nat) : Nat × Nat :=
  let mine := k.split.filter (fun x => x.2.1.head? == some b.hdr.rank)
  let here := k.split.filter (fun x => x.2.1.contains b.hdr.rank)
  ((here.map (fun x => min (most + 1) (splitShare k (x.2.2 + 1) x.2.1.length (x.2.1.findIdx (· == b.hdr.rank))))).sum, mine.length)

/-- The cask store's sizes at maximum length on every slot, guest parts included (R218). -/
def caskFits (s : State) (b : Bundle) (k : CaskDef) : Bool :=
  let all := splitCasks b k caskLimit
  let near := splitCasks b k k.res
  decide (k.layers * ((2048 - all.2) * (k.maxCasks + 1) + all.1) ≤ caskLimit) &&
    decide (k.layers * ((2048 - near.2) * (k.res + 1) + near.1) + k.window ≤ min (caskFrames s k) caskLimit)

/-- The largest backlog of a forward FIFO: flits received for forwarding before a data position, less those sent on (R248). -/
def forwardBacklog (t : Template) (p : Nat) : Nat :=
  let rx := t.runs.filter (fun r => r.port == p && r.fwd)
  let tx := t.runs.filter (fun r => r.kind == .txForward && r.peer == p)
  let before (rs : List Run) (k : Nat) : Nat := (rs.map (fun r => min r.len (k - r.start))).sum
  ((rx.map (fun r => r.start + r.len)).map (fun k => before rx k - before tx k)).foldl max 0

/-- On-die limits (Table 11.3, stage 5). -/
def stage5 (s : State) (b : Bundle) : Option Verdict :=
  let y := b.body
  let v (type entry : Nat) : Verdict := ⟨.refusedCapacity, 5, type, entry, 0, 0⟩
  firstFail
    [need (y.sems.all (fun d => decide (d.sem < 48))) (v 4 0),
     need ((List.range 64).all (fun p => decide ((y.regions.filter (fun r => r.plot == p)).length ≤ 1024))) (v 6 0),
     need (decide (y.tallies.length ≤ 256) && y.tallies.all (fun d => decide (d.n < 256))) (v 7 0),
     need (decide (y.templates.length ≤ 8) && y.templates.all (fun t => decide (t.num < 8) &&
       (List.range 16).all (fun p => decide ((t.runs.filter (fun r => r.port == p)).length ≤ 65536) && decide (forwardBacklog t p ≤ 1024)))) (v 8 0),
     need (decide (y.streams.length ≤ 16384) && y.streams.all (fun d => decide (d.id < 16384))) (v 0x0A 0),
     need (decide (lauterPeak s b ≤ 16 * 2 ^ 20)) (v 0x0B 0),
     need (decide (y.tuns.length ≤ 128) && y.tuns.all (fun d => decide (d.n < 128))) (v 0x0D 0),
     need (decide (replacements s false ≤ replacementLimit) && decide (replacements s true ≤ replacementLimit)) (v 0x0D 0),
     need (match y.casks with | some k => caskFits s b k | none => true) (v 0x10 0)]

/-! ### Stage 6: links -/

/-- The ports a bundle uses: those of runs, of withy routes and of this module's tally nodes. -/
def usedPorts (b : Bundle) : List Nat :=
  let node := b.body.tallies.filterMap (fun d => if d.kind = .localT then none else d.tree.find? (fun t => t.rank == b.hdr.rank))
  ((b.body.templates.map (fun t => t.runs.map Run.port)).flatten ++ (b.body.links.filter (fun l => !l.routes.isEmpty)).map LinkDef.port ++
    (b.body.links.map (fun l => l.routes.filterMap (fun r => r.2))).flatten ++
    (node.map (fun t => (t.parent.map (fun x => [x.2])).getD [] ++ (t.alt.map (fun x => [x.2])).getD [] ++ t.children.map (fun c => c.2.1))).flatten).eraseDups

/-- A used port is up with its expected partner; a partner with no bundle active has no rank yet (Table 10.4). -/
def portFits (s : State) (b : Bundle) (p : Nat) : Bool :=
  let q := s.port p
  (q.state == 5 || q.state == 6 || q.state == 4 && (q.cause == 0 || q.cause == 0x0B)) &&
    (match b.body.links.find? (fun l => l.port == p), q.partner with
      | some l, some r => q.switched || (r.rank.toNat == l.partnerRank || r.rank.toNat == 0xFFFF) && r.port.toNat == l.partnerPort
      | _, _ => q.switched)

/-- This module's node of a fabric tally stands on the ports that LINKS gives its neighbours (R273). -/
def nodeFits (b : Bundle) (d : TallyDef) : Bool :=
  let on (r p : Nat) : Bool := b.body.links.any (fun l => l.port == p && l.partnerRank == r)
  d.kind == .localT || match d.tree.find? (fun t => t.rank == b.hdr.rank) with
    | none => false
    | some t => (t.parent.map (fun x => on x.1 x.2)).getD true && (t.alt.map (fun x => on x.1 x.2)).getD true && t.children.all (fun c => on c.1 c.2.1)

/-- Links (Table 11.3, stage 6). -/
def stage6 (s : State) (b : Bundle) : Option Verdict :=
  let ps := usedPorts b
  let at_ (p : Nat) : Nat := (b.body.links.findIdx? (fun l => l.port == p)).getD 0
  firstFail
    ((ps.map (fun p => need (portFits s b p) ⟨.refusedMode, 6, 0x0C, at_ p, 0, 0⟩)) ++
     [need (decide (s.fab.synt ≤ 1)) ⟨.refusedMode, 6, 0x0C, 0, 0, 0⟩,
      (b.body.tallies.findIdx? (fun d => !nodeFits b d)).map (fun i => ⟨.refusedMode, 6, 7, i, 0, 0⟩)] ++
     ps.map (fun p => need ((s.port p).switched || match b.body.links.find? (fun l => l.port == p) with
       | some l => decide ((s.port p).delay ≤ l.delayMax)
       | none => true) ⟨.refusedDeadline, 6, 0x0C, at_ p, 0, 0⟩))

/-! ### Stage 7: timing -/

/-- Every run lies between the guard bands (R279), and every forwarded flit arrives 80 ns before its position (R248, R279). -/
def guarded (s : State) (b : Bundle) (t : Template) : Bool :=
  let arrive (p k : Nat) : Nat := 1280 * flitTimeOf k + 25 * (((b.body.links.find? (fun l => l.port == p)).map LinkDef.delayMax).getD 0)
  let flitsOf (rs : List Run) : List Nat := (rs.map (fun r => (List.range r.len).map (r.start + ·))).flatten
  t.runs.all (fun r => (s.port r.port).switched || decide (7 ≤ flitTimeOf r.start) && decide (flitTimeOf (r.start + r.len - 1) + 8 ≤ t.flits)) &&
    (List.range 16).all (fun p => (List.range 16).all (fun q =>
      let rx := flitsOf (t.runs.filter (fun r => r.port == p && r.fwd && r.peer == q))
      let tx := flitsOf (t.runs.filter (fun r => r.port == q && r.kind == .txForward && r.peer == p))
      (rx.zip tx).all (fun x => decide (arrive p x.1 + 80000 ≤ 1280 * flitTimeOf x.2))))

/-- The assumptions of a timing check made now: the bundle's own profile. -/
def timeEnvNow (s : State) (b : Bundle) : TimeEnv :=
  let down (lo hi : Nat) : Nat := ((List.range (hi - lo)).filter (fun c => channelDown s (lo + c))).length
  ⟨b, viewState s b, b.hdr.profile, linkRate s, s.host.hostLat, down 0 128, down 128 384, 0⟩

/-- Timing. -/
def stage7 (s : State) (b : Bundle) : Option Verdict :=
  firstFail
    [(b.body.templates.findIdx? (fun t => !guarded s b t)).map (fun i => ⟨.refusedDeadline, 7, 8, i, 0, 8⟩),
     (missed (timeEnvNow s b)).map (fun x => ⟨.refusedDeadline, 7, 0x11, x.1, x.1, x.2⟩)]

/-- The first failure of Table 11.3. -/
def admission (s : State) (f : List Byte) (b : Bundle) : Option Verdict :=
  firstFail [stage1 f b.hdr, stage2 s b.hdr, stage3 s f b, stage4 s false b, stage5 s b, stage6 s b, stage7 s b]

/-- The response to a refused bundle. -/
def rejected (v : Verdict) (s : State) : CmdOut := refuse v.status s 0 v.inline

/-! ### BUNDLE_LOAD and BUNDLE_ACTIVATE -/

/-- A BUNDLE_ACTIVATE waits for its tally, or for its boundary, in some mailbox. -/
def activatePending (s : State) : Bool :=
  (List.range 64).any (fun m => match heldCmd s m with | some c => c.op == 0x0502 | none => false) ||
    s.sch.latches.any (fun l => match l.what with | .activate _ => true | _ => false)

/-- BUNDLE_LOAD (R264, R265): the admitted bundle replaces the staged one. The file's bytes give its header and directory;
the sections' contents, whose layout in the file the manual does not give, come as the row's operand (log 8). -/
def execBundleLoad (m : Fin 64) (body : BundleBody) (s : State) : Host.Outcome State Fault Refusal :=
  .next (serveOp 0x0501 { argOk := fun _ => true } m (fun c s =>
    if activatePending s then refuse .busy s
    else
      let b : Bundle := ⟨headerOf c.arg, body⟩
      match admission s c.arg b with
      | some v => rejected v s
      | none => okWith (Verdict.inline ⟨.ok, 0, 0, 0, 0, 0⟩) (s.onSch (fun h => { h with
          staged := some b, stagedRate := linkRate s, stagedAllow := let e := timeEnvNow s b; allowancePs e (engineBytes e) }))) s)

/-- BUNDLE_ACTIVATE (R268): its checks, then the arrival at fabric tally 0. -/
def execBundleActivate (m : Fin 64) (s : State) : Host.Outcome State Fault Refusal :=
  .next (serveOp 0x0502 { fields := [(0, 8), (8, 8)] } m (fun c s =>
    match s.sch.staged with
    | none => refuse .notPresent s
    | some b =>
      let low := max s.sch.step (if s.hasBundle then 0 else s.sch.restore)
      if c.at_ 0 8 ≠ b.hdr.scheduleId then badField 0 s
      else if c.at_ 8 8 < low then badField 8 s
      else if activatePending s then refuse .busy s
      else if caskConflict s b then refuse .refusedMode s
      else holdFor c 0 (tallyOwn 0 [] s)) s)

/-- BUNDLE_COORD_FAIL (R268): the release has not come 1 s after arrival. -/
def execBundleCoordFail (m : Fin 64) (s : State) : Host.Outcome State Fault Refusal :=
  .next (match heldCmd s m with
    | none => s
    | some c =>
      if c.op = 0x0502 then
        respond c { status := .interrupted } (syncEvent 13 (c.at_ 0 8) (tallyWithdraw 0 s))
      else s)

/-! ### UNPARK (R328) -/

/-- Parked, or about to be. -/
def parkedOrPending (s : State) : Bool := parked s || s.mst.parkPending || s.mst.parkWhy != 0

/-- Aperture ranges a bundle places. -/
def apertureRanges (b : Bundle) : List (Nat × Nat) :=
  let y := b.body
  let rs := y.statics.map (fun d => (d.base, d.size)) ++ y.images.map (fun x => (x.1, x.2.length)) ++
    y.streams.map (fun d => (d.base, 248 * d.flits)) ++
    (match y.casks with | some k => if k.spillHost then [(k.spillBase, (2 ^ 21 / max 1 k.per) * 65536)] else [] | none => [])
  rs.filter (fun x => locate x.1 == .aperture)

/-- What UNPARK checks of a bundle: stages 4 and 6, and its aperture ranges. -/
def unparkFail (s : State) (b : Bundle) : Option Verdict :=
  firstFail [stage4 s true b, stage6 s b, need ((apertureRanges b).all (fun x => apertureOk s x.1 x.2)) ⟨.badArgument, 3, 0x0D, 0, 0, 0⟩]

/-- A PARK not yet carried out is taken back (R328). -/
def cancelPark : State → State := State.onMst (fun m => { m with parkPending := false, parkWhy := 0 })

/-- The module leaves park with no bundle active. -/
def leavePark : State → State := State.onMst (fun m => { m with mode := if m.mode = .parked then .ready else m.mode, parkCause := 0 })

/-- UNPARK: with a bundle it acts like the look-ahead bound class, from the first look-ahead start; without one, at once. -/
def execUnpark (m : Fin 64) (s : State) : Host.Outcome State Fault Refusal :=
  .next (serveOp 0x0105 {} m (fun _ s =>
    if !parkedOrPending s || s.hk.belowWarn || s.mst.mode == .hold || s.mst.mode == .shuttingDown then refuse .refusedMode s
    else
      match s.sch.active with
      | none => okWith [] (leavePark (cancelPark (s.onHost (fun h => { h with detached := false }))))
      | some b =>
        match unparkFail s b with
        | some v => rejected v s
        | none =>
          let t := s.onHost (fun h => { h with detached := false })
          if parked s then
            .reply { status := .ok, step := some (lookStep s) }
              (latch true .unpark (dropUnpark t |>.onMst (fun m => { m with unparkPending := true })))
          else .reply { status := .ok, step := some (lookStep s) } (cancelPark t)) s)

/-! ### STEP_ARM (R25, R326, Table 13.17) -/

/-- A section of the batch: 8-byte aligned, after the header, inside. -/
def sectionOk (f : List Byte) (off n : Nat) : Bool := off % 8 == 0 && (n == 0 || decide (64 ≤ off)) && decide (off + n ≤ f.length)

/-- Bag offsets ascend and end inside the index section. -/
def bagsAscend (f : List Byte) (off : Nat) : Nat → Bool
  | 0 => true
  | n + 1 => decide (leAt f (off + 4 * n) 4 ≤ leAt f (off + 4 * (n + 1)) 4) && bagsAscend f off n

/-- The first faulty byte of a batch. -/
def batchBad (y : BundleBody) (step : Nat) (f : List Byte) : Option Nat :=
  let sam := leAt f 0 4
  let nrec := leAt f 4 4
  let bag := leAt f 8 8
  let idx := leAt f 16 8
  let rec_ := leAt f 32 8
  let nf := y.features.length
  let total := leAt f (bag + 4 * (sam * nf)) 4
  if f.length < 64 then some 0
  else if y.samples < sam then some 0
  else if !sectionOk f bag (4 * (sam * nf + 1)) then some 8
  else if !(leAt f bag 4 == 0 && bagsAscend f bag (sam * nf)) then some bag
  else if !sectionOk f idx (8 * total) then some 16
  else if !sectionOk f (leAt f 24 8) (2 * sam) then some 24
  else if !sectionOk f rec_ (32 * nrec) then some 32
  else if !sectionOk f (leAt f 40 8) (leAt f 48 8) then some 40
  else if leAt f 56 8 ≠ step then some 56
  else
    match (List.range total).find? (fun i => leAt f (idx + 8 * i + 6) 2 != 0) with
    | some i => some (idx + 8 * i)
    | none =>
      let r (i : Nat) : List Byte := slice f (rec_ + 32 * i) 32
      match (List.range nrec).find? (fun i =>
        leAt (r i) 0 4 / 2 ^ 18 != 0 || leAt (r i) 16 8 / 2 ^ 44 != 0 || leAt (r i) 24 8 != 0 ||
          (List.range i).any (fun j => leAt (r i) 0 2 % 2048 == leAt (r j) 0 2 % 2048)) with
      | some i => some (rec_ + 32 * i)
      | none => none

/-- The first record whose image lies outside the enabled aperture segments (R218): a LOAD's by its header, a SAVE_CLOSE's at the full
length of its slot. -/
def imageBad (s : State) (f : List Byte) : Option Nat :=
  match caskDef s with
  | none => none
  | some k =>
    ((List.range (leAt f 4 4)).find? (fun i =>
      let r := slice f (leAt f 32 8 + 32 * i) 32
      let a := leAt r 16 8 % 2 ^ 44
      let n := if recAction r = 3 then 64 + k.layers * (chainLimit s k (leAt r 0 2 % 2048) + 1) * k.bytes else 64
      decide (2 ≤ recAction r) && locate a == .aperture && !apertureOk s a n)).map (fun i => leAt f 32 8 + 32 * i)

/-- STEP_ARM: the batch copied into its place of the batch staging area. -/
def execStepArm (m : Fin 64) (s : State) : Host.Outcome State Fault Refusal :=
  .next (serveOp 0x0503 { fields := [(0, 8)], argOk := fun n => decide (64 ≤ n) } m (fun c s =>
    let n := c.at_ 0 8
    let y := s.body
    if !s.hasBundle then refuse .refusedMode s
    else
      match (batchBad y n c.arg).or (imageBad s c.arg) with
      | some o => badArgByte o s
      | none =>
        if y.batchBytes < c.arg.length then refuse .badArgument s 16
        else if s.sch.step + 2 < n then refuse .refusedCapacity s
        else if s.sch.armed.get 0 n ≠ 0 then refuse .refusedMode s
        else if n ≤ s.sch.step ∨ (n = s.sch.step + 1 ∧ s.sch.lookDone) then refuse .refusedDeadline s
        else
          let a := y.batchBase + n % 3 * y.batchBytes
          okWith [] ((devWrite reqMaltster .none a c.arg s).onSch (fun h => { h with armed := h.armed.set 0 n (a + 1) }))) s)

/-! ### STEP_STATUS -/

/-- STATE of a step (Table 13.12). -/
def stepState (s : State) (n : Nat) : Nat :=
  let r := s.sch.recs.get {} n
  if !s.hasBundle && s.sch.step ≤ n then 0
  else if n + 4096 < s.sch.step then (if r.skipped then 5 else 4)
  else if n < s.sch.step then (if r.skipped then 5 else if r.unarmed then 2 else 4)
  else if n = s.sch.step then (if r.unarmed then 2 else 3)
  else if s.sch.armed.get 0 n ≠ 0 then 1
  else if n = s.sch.step + 1 && s.sch.lookDone then 2
  else 0

/-- The 16 bytes of a replay log entry (Table 05.8). -/
def ReplayEntry.bytes (e : ReplayEntry) : List Byte :=
  leBytes 4 e.step ++ leBytes 4 (e.tag % 65536 + 2 ^ 16 * (e.plot % 64) + 2 ^ 22 * (e.from_ % 4) + 2 ^ 24 * (e.to_ % 4) + 2 ^ 26 * (e.flags % 32)
    + 2 ^ 31 * b2n e.suppressed) ++ leBytes 4 (e.mb % 256) ++ leBytes 4 (min e.clocks (2 ^ 32 - 1))

/-- The first n unread entries are marked read. -/
def readReplays : Nat → List ReplayEntry → List ReplayEntry
  | 0, es => es
  | _, [] => []
  | n + 1, e :: es => if e.read then e :: readReplays (n + 1) es else { e with read := true } :: readReplays n es

/-- STEP_STATUS. -/
def execStepStatus (m : Fin 64) (s : State) : Host.Outcome State Fault Refusal :=
  .next (serveOp 0x0504 { fields := [(0, 8), (8, 1)], hasRes := true } m (fun c s =>
    if 1 < c.at_ 8 1 then badField 8 s
    else
      let n := c.at_ 0 8
      let old := decide (n + 4096 < s.sch.step)
      let r := s.sch.recs.get {} n
      let nonfin := if n = s.sch.step then s.sch.events else if old then 0 else r.nonfinite
      let es := if c.at_ 8 1 = 1 then (s.sch.replays.filter (fun e => !e.read)).take (c.resLen / 16) else []
      let t := if es.isEmpty then s else s.onSch (fun h => { h with replays := readReplays es.length h.replays })
      .reply { status := .ok
               inline := leBytes 4 (stepState s n) ++ leBytes 4 nonfin ++ leBytes 4 (if old then 0 else r.replays) ++ leBytes 2 es.length
               res := (es.map ReplayEntry.bytes).flatten } t) s)

end Sys2Proof.Machine
end

