-- ==== Sys2Proof/Machine/Ports.lean ====
section
/-! DEFINITION. Port training, capability exchange, delay measurement, syntonisation, ports going down and the fabric
commands of Table 13.11 (R226, R227, R236 to R244, R251 to R254, R258 to R260). -/

namespace Sys2Proof.Machine

/-! ### Capability records (Table 10.4) -/

/-- The 64 bytes of a capability record. -/
def capBytes (c : CapRec) : List Byte :=
  padTo 64 (leBytes 2 c.proto.toNat ++ leBytes 1 c.port.toNat ++ leBytes 1 c.modes.toNat ++ leBytes 4 c.domain.toNat
    ++ leBytes 2 c.rank.toNat ++ leBytes 1 c.synt.toNat ++ zeros 1 ++ leBytes 2 c.opticPs.toNat ++ leBytes 2 c.carrierPs.toNat
    ++ leBytes 8 c.serial.toNat ++ leBytes 2 c.stepping.toNat ++ leBytes 4 c.linkFw.toNat)

/-- The record port p sends. -/
def ownCap (s : State) (p : Nat) : CapRec :=
  let q := s.port p
  { proto := 0x0100, port := BitVec.ofNat 8 p, modes := 3, domain := BitVec.ofNat 32 s.fab.domain, rank := BitVec.ofNat 16 s.rank
    synt := BitVec.ofNat 8 s.fab.synt, opticPs := BitVec.ofNat 16 q.opticPs, carrierPs := BitVec.ofNat 16 q.carrierPs
    serial := BitVec.ofNat 64 s.fuses.serial, stepping := BitVec.ofNat 16 s.fuses.stepping
    linkFw := BitVec.ofNat 32 (s.fw.ifvers.getD 1 0) }

/-- A capability record from its 64 bytes. -/
def capOf (bs : List Byte) : CapRec :=
  let n (off w : Nat) : Nat := leAt bs off w
  { proto := BitVec.ofNat 16 (n 0 2), port := BitVec.ofNat 8 (n 2 1), modes := BitVec.ofNat 8 (n 3 1), domain := BitVec.ofNat 32 (n 4 4)
    rank := BitVec.ofNat 16 (n 8 2), synt := BitVec.ofNat 8 (n 10 1), opticPs := BitVec.ofNat 16 (n 12 2)
    carrierPs := BitVec.ofNat 16 (n 14 2), serial := BitVec.ofNat 64 (n 16 8), stepping := BitVec.ofNat 16 (n 24 2)
    linkFw := BitVec.ofNat 32 (n 26 4) }

/-- The nine words of the CAP message: TYPE, then the record. -/
def capWords (c : CapRec) : List Nat := 7 :: (List.range 8).map (fun i => leAt (capBytes c) (8 * i) 8)

/-! ### A port leaves service -/

/-- The bits of port p in sticky group 5, with its port, step and epoch (R262). -/
def portEvent (b p : Nat) (s : State) : State := event 5 b (0x60 + p) [p, s.sch.step, s.sch.epoch] s

/-- The port that a message caught on port p is sent again on: a SEM_POST's alternate route, a TALLY_ARRIVE's alternate
parent port; other messages concern the link itself (R234, R251). -/
def reroute (s : State) (p : Nat) (m : WithyMsg) : Option Nat :=
  let w := m.words.headD 0
  if m.cls = 3 then
    (linkIn (fabricBundle s) p).bind (fun l => (l.routes.find? (fun r => r.1 == natBits 22 8 w)).bind (·.2))
  else if m.cls = 1 ∧ natBit 8 w = false then
    match fabricTally s (natBits 14 9 w) with
    | some (_, node) =>
      match node.parent, node.alt with
      | some a, some b => if a.2 = p then some b.2 else none
      | _, _ => none
    | none => none
  else none

/-- The link's flit machinery starts afresh; its messages go again on their alternate ports. -/
def dropLink (p : Nat) (s : State) : State :=
  let f := s.flow p
  let ms := (f.unacked.map (·.2)).flatten ++ f.queue ++ f.stalled
  let s := s.onFlow p (fun f => { t := f.t, sent := f.sent, fifo := f.fifo, lostFwd := f.lostFwd, passed := f.passed, ready := f.ready
                                  checked := f.checked, lastTx := f.lastTx, rxDone := f.rxDone, rxTemplate := f.rxTemplate })
  State.each (fun m s => match reroute s p m with
    | some q => if q = p then s else pushNet q m.cls m.words s
    | none => s) ms s

/-- The port is no longer the syntonisation source (Table 10.9). -/
def unsource (p : Nat) : State → State := State.onPort p (fun q => { q with syntSrc := false })

/-- A port goes down (R254): FAULT with its cause, LINK_DOWN and RETRAINS; children behind it are proxied (R275). -/
def portDown (p cause : Nat) (s : State) : State :=
  let s := (s.onPort p (fun q => { q with state := 7, cause := cause, stage := 0, tries := 0, syntSrc := false })).countPort p 11 1
  tallyRecheck (portEvent 0 p (dropLink p s))

/-- A message sent at once in a withy flit of its own. -/
def sendNow (p : Nat) (words : List Nat) (s : State) : State :=
  let f := s.flow p
  s.onFlow p (fun g => { g with lastTx := withyBytes s f f.txSeq [⟨4, words, f.sent⟩] })

/-- LINK_DOWN (R254): of a port that is up. -/
def execLinkDown (port : Fin 16) (cause : BitVec 8) (s : State) : Host.Outcome State Fault Refusal :=
  .next (if 3 ≤ (s.port port).state ∧ (s.port port).state ≤ 6 then portDown port cause.toNat s else s)

/-- A REPLAY_NOTICE (R234): every kept flit from that SEQ on is resent; the sixteenth in a row without progress ends the link. -/
def replayNotice (p seq : Nat) (s : State) : State :=
  let f := s.flow p
  if !sendsWithy (s.port p) then s
  else if 16 ≤ f.notices + 1 then portDown p 0x0D s
  else
    match f.unacked.findIdx? (fun u => u.1 == seq) with
    | some i => s.onFlow p (fun f => { f with notices := f.notices + 1, resend := f.unacked.length - i })
    | none => s.onFlow p (fun f => { f with notices := f.notices + 1 })

/-- REPLAY_NOTICE. -/
def execReplayNotice (port : Fin 16) (seq : BitVec 8) (s : State) : Host.Outcome State Fault Refusal :=
  .next (replayNotice port seq.toNat s)

/-! ### Delay (R239 to R241) -/

/-- A number put in its place of a rising list. -/
def insertNat (x : Nat) : List Nat → List Nat
  | [] => [x]
  | y :: ys => if x ≤ y then x :: y :: ys else y :: insertNat x ys

/-- A list in rising order. -/
def sortNat (xs : List Nat) : List Nat := xs.foldr insertNat []

/-- The median of a set of exchanges: the mean of the middle two of an even number (DESIGN CHOICE, log 17). -/
def medianNat (xs : List Nat) : Nat :=
  let ys := sortNat xs
  let n := ys.length
  if n = 0 then 0 else (ys.getD ((n - 1) / 2) 0 + ys.getD (n / 2) 0) / 2

/-- One-way delays of exchanges given as (T4 - T1, T3 - T2), in ps. -/
def exchDelays (es : List (Nat × Nat)) : List Nat := es.map (fun e => (e.1 - e.2) / 2)

/-- ps in units of 25 ps, to nearest. -/
def units25 (ps : Nat) : Nat := (ps + 12) / 25

/-- The median of a set becomes the delay in use. -/
def takeDelay (p : Nat) (ds : List Nat) (s : State) : State :=
  if ds.isEmpty then s else s.onPort p (fun q => { q with delay := units25 (medianNat ds) })

/-- ps per metre (Table 10.5). -/
def psPerM (q : Port) : Nat :=
  if q.medium = 3 then q.userPs else if q.medium = 1 ∨ (q.medium = 0 ∧ q.cable = 1) then 4400 else 4900

/-- The reported length in cm, to nearest; below zero it is 0 (R241). -/
def lengthCm (q : Port) : Nat :=
  let o : Int := match q.partner with | some c => (c.opticPs.toNat : Int) + c.carrierPs.toNat | none => 0
  let ps : Int := 25 * (q.delay : Int) - q.opticPs - q.carrierPs - o
  ((200 * ps + psPerM q) / (2 * psPerM q)).toNat

/-- A MEAS_REQ (R239): answered with the turnaround T3 - T2. -/
def measReq (p id turnaround : Nat) (s : State) : State :=
  if sendsWithy (s.port p) then
    pushWithy p 4 [6 + 2 ^ 8 * id + 2 ^ 16 * turnaround] (s.onFlow p (fun f => { f with meas := some (id, turnaround) }))
  else s

/-- MEAS_REQ. -/
def execMeasReq (port : Fin 16) (id : BitVec 8) (turnaround : BitVec 48) (s : State) : Host.Outcome State Fault Refusal :=
  .next (measReq port id.toNat turnaround.toNat s)

/-- The next exchange of a port's set begins: its MEAS_REQ (R239). -/
def askDelay (p id : Nat) (s : State) : State :=
  pushWithy p 4 [5 + 2 ^ 8 * (id % 256)] (s.onFlow p (fun f => { f with asks := some (id % 256) }))

/-- A set of 64 exchanges begins (R239). -/
def startSet (p : Nat) (s : State) : State := askDelay p 0 (s.onFlow p (fun f => { f with samples := [] }))

/-- A MEAS_RESP (R239) to the request that waits for it: one exchange, after which the next begins; the median of 64 becomes the
delay. -/
def measResp (p id t41 turnaround : Nat) (s : State) : State :=
  if !sendsWithy (s.port p) || (s.flow p).asks != some id then s
  else
    let ds := (s.flow p).samples ++ [(t41 - 25 * turnaround) / 2]
    if ds.length < 64 then askDelay p (id + 1) (s.onFlow p (fun f => { f with samples := ds }))
    else takeDelay p ds (s.onFlow p (fun f => { f with samples := [], asks := none }))

/-- MEAS_RESP. -/
def execMeasResp (port : Fin 16) (id : BitVec 8) (t41 : Nat) (turnaround : BitVec 48) (s : State) : Host.Outcome State Fault Refusal :=
  .next (measResp port id.toNat t41 turnaround.toNat s)

/-- DELAY_MEASUREMENT (R239): the 64 exchanges that an ACTIVE port repeats every second begin. -/
def execDelayMeasurement (port : Fin 16) (s : State) : Host.Outcome State Fault Refusal :=
  .next (if (s.port port).state = 5 then startSet port s else s)

/-! ### Training (R236, R237) -/

/-- A port held or active with a cause. -/
def holdPort (p state cause : Nat) : State → State :=
  State.onPort p (fun q => { q with state := state, cause := cause, stage := 0, tries := 0 })

/-- A trained port of the module's domain under the active bundle (R237, R253): WIRING, DELAY_EXCEEDED, or ACTIVE with its LINK_SIG
sent; a LINK_SIG that came before and is not the expected one holds it with SCHEDULE. -/
def joinPort (p : Nat) (rejoin : Bool) (s : State) : State :=
  let q := s.port p
  match linkIn s.sch.active p with
  | none => (holdPort p 5 0 s).onPort p (fun q => { q with rejoin := rejoin })
  | some l =>
    if q.partner.any (fun c => c.rank.toNat != l.partnerRank || c.port.toNat != l.partnerPort) then portEvent 6 p (holdPort p 4 0x0A s)
    else if l.delayMax < q.delay then portEvent 5 p (holdPort p 4 0x0C s)
    else
      let s := pushWithy p 4 [noticeWord 0 l.ownSig] s
      match (s.flow p).sig with
      | some x =>
        if x ≠ l.linkSig then portEvent 7 p (holdPort p 4 0x0B s)
        else ((holdPort p 5 0 s).onPort p (fun q => { q with rejoin := rejoin })).onFlow p (fun f => { f with sig := none })
      | none => (holdPort p 5 0 s).onPort p (fun q => { q with rejoin := rejoin })

/-- A trained port enters HELD or ACTIVE (R237, R253, R267). An ACTIVE port carries runs from the next release on; arrivals that waited
for a port go. -/
def enterTrained (p : Nat) (s : State) : State :=
  match (s.port p).partner with
  | none => s.onPort p (fun q => { q with state := 7, cause := 0x0F, stage := 0 })
  | some c =>
    tallyRecheck (if c.domain.toNat ≠ s.fab.domain then portEvent 6 p (holdPort p 4 9 s)
      else if !s.hasBundle then holdPort p 4 0 s
      else joinPort p true s)

/-- DETECT ends (R236, R258, R259): an optics module that asks for more than MAX_POWER stays in low-power mode, one without an
application for the port's mode is not supported, and the port goes to FAULT. -/
def detected (p cable cm power apps : Nat) (s : State) : State :=
  let s := s.onPort p (fun q => { q with present := true, cable := cable % 8, cmisCm := cm, lowPower := decide (q.maxPower < power) })
  let q := s.port p
  if q.lowPower then s.onPort p (fun q => { q with state := 7, cause := 3, stage := 0 })
  else if !natBit (b2n q.switched) apps then s.onPort p (fun q => { q with state := 7, cause := 2, stage := 0 })
  else s.onPort p (fun q => { q with state := 2, stage := 2 })

/-- The stage after a passed one. Stage 5 is passed once its 64 exchanges have been made (R236). -/
def nextStage (p cable cm power apps : Nat) (s : State) : State :=
  let q := s.port p
  if q.stage = 1 then detected p cable cm power apps s
  else if q.stage = 2 then s.onPort p (fun q => { q with stage := 3 })
  else if q.stage = 3 then
    if q.switched then tallyRecheck (s.onPort p (fun q => { q with state := 6, cause := 0, stage := 0, tries := 0 }))
    else pushWithy p 4 (capWords (ownCap s p)) (s.onPort p (fun q => { q with stage := 4 }))
  else if q.stage = 4 then startSet p (s.onPort p (fun q => { q with state := 3, stage := 5 }))
  else if (s.flow p).asks.isSome then s
  else enterTrained p s

/-- TRAINING_STAGE (R236): the stage in progress passes, or sends the port to FAULT with a cause. -/
def execTrainingStage (port : Fin 16) (outcome : StageEnd) (s : State) : Host.Outcome State Fault Refusal :=
  .next (if (s.port port).stage = 0 then s
    else
      match outcome with
      | .pass cable cm power apps => nextStage port cable cm power apps s
      | .fail c => s.onPort port (fun q => { q with state := 7, cause := c % 256, stage := 0,
                                                     present := if c = 1 then false else q.present }))

/-- A port starts to train, from DETECT or, for a retrain, from stage 2. -/
def startTraining (p stage cause : Nat) (s : State) : State :=
  (dropLink p s).onPort p (fun q => { q with state := if stage = 1 then 1 else 2, stage := stage, cause := cause, syntSrc := false })

/-- AUTO_RETRAIN (R254): a port in FAULT with it set returns to DETECT. -/
def execAutoRetrain (port : Fin 16) (s : State) : Host.Outcome State Fault Refusal :=
  .next (if (s.port port).state = 7 ∧ (s.port port).autoRetrain ∧ (s.port port).enable then
      (startTraining port 1 (s.port port).cause s).onPort port (fun q => { q with tries := q.tries + 1 })
    else s)

/-- A CAP (R237): kept; another major version of the protocol sends the port to FAULT. -/
def capMsg (p : Nat) (rec : CapRec) (s : State) : State :=
  if (s.port p).state ≠ 2 then s
  else
    let s := s.onPort p (fun q => { q with partner := some rec })
    if rec.proto.toNat / 256 ≠ 1 then s.onPort p (fun q => { q with state := 7, cause := 8, stage := 0 }) else s

/-- CAP. -/
def execCap (port : Fin 16) (rec : CapRec) (s : State) : Host.Outcome State Fault Refusal := .next (capMsg port rec s)

/-- A LINK_SIG received (R237): a mismatch holds the port with cause SCHEDULE, a match frees one so held; one that comes before the port
or the bundle is active waits for it, and one that was matched is done with. -/
def linkSig (p sig : Nat) (s : State) : State :=
  let q := s.port p
  let s := s.onFlow p (fun f => { f with sig := some sig })
  match linkIn s.sch.active p with
  | none => s
  | some l =>
    if q.state = 5 ∧ sig ≠ l.linkSig then portEvent 7 p (s.onPort p (fun q => { q with state := 4, cause := 0x0B }))
    else if q.state = 5 then s.onFlow p (fun f => { f with sig := none })
    else if q.state = 4 ∧ q.cause = 0x0B ∧ sig = l.linkSig then
      (s.onPort p (fun q => { q with state := 5, cause := 0, rejoin := true })).onFlow p (fun f => { f with sig := none })
    else s

/-- A PORT_NOTICE (R237, R253): LINK_SIG, or the partner's retrain, which this port joins. -/
def portNotice (p ev sig : Nat) (s : State) : State :=
  if !sendsWithy (s.port p) then s
  else if ev = 0 then linkSig p sig s
  else if ev = 1 then tallyRecheck ((startTraining p 2 0 s).countPort p 11 1)
  else s

/-- PORT_NOTICE. -/
def execPortNotice (port : Fin 16) (ev : BitVec 4) (sig : BitVec 32) (s : State) : Host.Outcome State Fault Refusal :=
  .next (portNotice port ev.toNat sig.toNat s)

/-! ### Withy flits and frames received (R233, R234, R256, R257) -/

/-- A message of a received flit or frame acts (R233). What its receiver stamps, the turnaround of a MEAS_REQ, T4 - T1 of a MEAS_RESP and
the residence of a RELEASE, are times of the hardware and so free values (log 103). A reserved TYPE is discarded and counted. -/
def withyMessage (p : Nat) (ws : List Nat) (s : State) : State :=
  let w := ws.headD 0
  match w % 256 with
  | 0 => s
  | 1 => semPost (natBits 22 8 w) (natBits 28 23 w) (natBits 34 29 w) (natSigned 16 (natBits 50 35 w)) s
  | 2 =>
    if natBit 8 w then tallyCombined (natBits 14 9 w) (natBits 22 15 w) (natBits 50 39 w) (natBits 63 51 w) s
    else tallyArrive p (natBits 14 9 w) (natBits 22 15 w) (natBits 38 23 w) (natBits 50 39 w) (natBits 63 51 w) s
  | 3 => absentMsg p (natBits 23 8 w) (natBits 43 24 w) (natBits 58 44 w) s
  | 4 => replayNotice p (natBits 15 8 w) s
  | 5 => let t := s.takeFree 48; measReq p (natBits 15 8 w) t.1 t.2
  | 6 => let t := s.takeFree 48; measResp p (natBits 15 8 w) t.1 (natBits 63 16 w) t.2
  | 7 => capMsg p (capOf ((ws.tail.map (leBytes 8)).flatten)) s
  | 8 => portNotice p (natBits 11 8 w) (natBits 47 16 w) s
  | 0x81 =>
    let t := s.takeFree 40
    release p (natBits 13 8 w) (natBit 14 w) (natBits 17 15 w) (natBits 49 18 w) (natBits 39 0 (ws.getD 1 0)) t.1 t.2
  | _ => s.countPort p 5 1

/-- A good withy flit with the expected SEQ: acknowledged, its messages in order, then the flits held before it. -/
def takeFlit (p : Nat) (l : LinkWord) (ms : List (List Nat)) (s : State) : State :=
  let s := noteEpoch p l (s.onFlow p (fun f => { f with rxSeq := (f.rxSeq + 1) % 256, asked := false }))
  deliverHeld p (State.each (fun m s => withyMessage p m s) ms s)

/-- A good flit that is not the expected one is discarded (R234): one received before is a duplicate, another shows a gap, for which the
receiver asks once. Its REPLAY_NOTICEs act all the same, so that two ports that wait for each other go on (DESIGN CHOICE, log 101). -/
def skipFlit (p : Nat) (l : LinkWord) (ms : List (List Nat)) (s : State) : State :=
  let f := s.flow p
  let old := decide ((f.rxSeq + 255 - l.seq.toNat) % 256 < 8)
  let s := State.each (fun m s => if m.headD 0 % 256 = 4 then withyMessage p m s else s) ms s
  if old then s else if f.asked then noteEpoch p l s else askAgain p (noteEpoch p l s)

/-- WITHY_FLIT (R234): its FEC is decoded; an uncorrectable flit, or a gap in SEQ, makes the receiver ask for the first SEQ it lacks; a
good one acknowledges, and the expected one acts. -/
def withyFlit (p : Nat) (raw : List Byte) (s : State) : State :=
  if !sendsWithy (s.port p) then s
  else
    match flitDecode raw with
    | none => askAgain p (s.onFlow p (fun f => { f with held := f.held ++ [⟨0, none, 0, 0, 1⟩] }))
    | some (body, n) =>
      let l := linkOf body
      let ms := flitMessages body
      let good := decide (l.seq.toNat = (s.flow p).rxSeq)
      let s := noteAck p l ((s.onFlow p (fun f => { f with corrWindow := f.corrWindow + n })).countPort p 2 n)
      if good then takeFlit p l ms s else skipFlit p l ms s

/-- WITHY_FLIT. -/
def execWithyFlit (port : Fin 16) (raw : List Byte) (s : State) : Host.Outcome State Fault Refusal := .next (withyFlit port raw s)

/-- SWITCHED_FRAME (R257): acknowledgement and credits; a frame out of SEQ order is discarded, one in order delivered. -/
def switchedFrame (p : Nat) (h : FrameHdr) (bodies : List (List Byte)) (s : State) : State :=
  if (s.port p).state ≠ 6 ∨ 3 ≤ h.kind.toNat then s
  else
    let r := h.srcRank.toNat
    let s := onPeer p r (fun x => peerCredit (if h.kind = 1 then 0 else h.credit.toNat) (peerAck h.ack.toNat x)) (s.countPort p 13 1)
    if h.kind = 2 then s
    else if h.seq.toNat ≠ (swPeer s p r).rxNext then s
    else
      let s := onPeer p r (fun x => { x with
        rxNext := (x.rxNext + 1) % 2 ^ 32, ackDue := true
        toReturn := x.toReturn + (if h.kind = 0 then bodies.length else 0) }) s
      if h.kind = 0 then dataFrame p h bodies s
      else State.each (fun m s => withyMessage p m s) (splitWords 63 (bodies.map (fun b => leAt b 0 8))) s

/-- SWITCHED_FRAME. -/
def execSwitchedFrame (port : Fin 16) (hdr : FrameHdr) (bodies : List (List Byte)) (s : State) : Host.Outcome State Fault Refusal :=
  .next (switchedFrame port hdr bodies s)

/-- CMIS_POLL (R259). -/
def execCmisPoll (port : Fin 16) (flags : CmisFlags) (s : State) : Host.Outcome State Fault Refusal :=
  .next (if (s.port port).state < 3 ∨ (s.port port).state = 7 then s
    else
      let s := if flags.alarm then event 5 12 (0x60 + port) [port.val, flags.flag, flags.lane] s else s
      if flags.fault then portDown port 0x10 s else s)

/-! ### Syntonisation (R243, R244) -/

/-- SYNT_HOLDOVER: a LOCKED module has no usable source. -/
def execSyntHoldover (s : State) : Host.Outcome State Fault Refusal :=
  .next (if s.fab.synt = 1 then
      event 5 10 0x70 [0, s.sch.step, s.sch.epoch] ((unsource s.fab.syntPort s).onFab (fun f => { f with synt := 2, syntPort := 0 }))
    else s)

/-- SYNT_LOST: ten seconds of HOLDOVER have passed. -/
def execSyntLost (s : State) : Host.Outcome State Fault Refusal :=
  .next (if s.fab.synt = 2 then event 5 11 0x70 [0, s.sch.step, s.sch.epoch] (s.onFab (fun f => { f with synt := 3 })) else s)

/-- A usable source: in SYNT_UP, ACTIVE, its partner LOCKED or ROOT. -/
def usableSource (s : State) (p : Nat) : Bool :=
  (s.port p).state == 5 && (match (s.port p).partner with | some c => decide (c.synt.toNat ≤ 1) | none => false)

/-- SYNT_LOCK: the PLL follows the first usable source of SYNT_UP; runs of a module that was FREE carry data again from
the next release. With no port named, a module configured as ROOT runs from its own oscillator. -/
def execSyntLock (port : Option (Fin 16)) (steer : BitVec 32) (s : State) : Host.Outcome State Fault Refusal :=
  .next (match port with
    | none => if s.fab.syntRoot then s.onFab (fun f => { f with synt := 0, syntPort := 0, steer := 0 }) else s
    | some p =>
      if !s.fab.syntRoot && s.fab.syntUp.find? (usableSource s) == some p.val then
        ((unsource s.fab.syntPort s).onFab (fun f => { f with
          synt := 1, syntPort := p.val, steer := steer, syntWait := f.syntWait || f.synt == 3 })).onPort p (fun q => { q with syntSrc := true })
      else s)

/-! ### The fabric commands (Table 13.11) -/

/-- Ports of a mask. -/
def portsOf (mask : Nat) : List Nat := (List.range 16).filter (fun p => natBit p mask)

/-- The active bundle uses port p: runs or LINKS name it. -/
def bundleUses (s : State) (p : Nat) : Bool :=
  s.body.links.any (fun l => l.port == p) || s.body.templates.any (fun t => t.runs.any (fun r => r.port == p))

/-- SYNT_UP's bytes: port numbers, 0xFF for none, 0xFE in the first for ROOT. -/
def syntUpBad (bs : List Nat) : Bool :=
  (bs.zipIdx).any (fun x => !(decide (x.1 < 16) || x.1 == 0xFF || (x.1 == 0xFE && x.2 == 0)))

/-- The first parameter of PORT_CONFIG outside Table 10.5, by its offset in ARGS. -/
def portConfigBad (c : Cmd) : Option Nat :=
  let v := c.at_ 28 4
  let on (i : Nat) : Bool := natBit i v
  if 2 ^ 13 ≤ v then some 28
  else if on 0 && decide (1 < c.at_ 2 1) then some 2
  else if on 1 && decide (1 < c.at_ 3 1) then some 3
  else if on 3 && decide (3 < c.at_ 8 1) then some 8
  else if on 4 && decide (1 < c.at_ 9 1) then some 9
  else if on 5 && (decide (c.at_ 10 2 < 1000) || decide (10000 < c.at_ 10 2)) then some 10
  else if on 8 && decide (100 < c.at_ 16 1) then some 16
  else if on 9 && syntUpBad ((List.range 4).map (fun i => c.at_ (18 + i) 1)) then some 18
  else if on 12 && (c.at_ 26 1 == 0 || decide (32 < c.at_ 26 1)) then some 26
  else none

/-- ENABLE or MODE of a port would change. -/
def portConfigMoves (s : State) (c : Cmd) (p : Nat) : Bool :=
  let q := s.port p
  natBit 0 (c.at_ 28 4) && (q.enable != (c.at_ 2 1 == 1)) || natBit 1 (c.at_ 28 4) && (q.switched != (c.at_ 3 1 == 1))

/-- The parameters of one port set. -/
def portSet (c : Cmd) (q : Port) : Port :=
  let v := c.at_ 28 4
  let on (i : Nat) : Bool := natBit i v
  { q with
    enable := if on 0 then c.at_ 2 1 == 1 else q.enable
    switched := if on 1 then c.at_ 3 1 == 1 else q.switched
    medium := if on 3 then c.at_ 8 1 else q.medium
    autoRetrain := if on 4 then c.at_ 9 1 == 1 else q.autoRetrain
    userPs := if on 5 then c.at_ 10 2 else q.userPs
    opticPs := if on 6 then c.at_ 12 2 else q.opticPs
    carrierPs := if on 7 then c.at_ 14 2 else q.carrierPs
    maxPower := if on 8 then c.at_ 16 1 else q.maxPower
    ethertype := if on 10 then c.at_ 22 2 else q.ethertype
    vlan := if on 11 then c.at_ 24 2 else q.vlan
    maxBodies := if on 12 then c.at_ 26 1 else q.maxBodies }

/-- A port after its parameters are set: turned off, started from DETECT, or left as it is. -/
def portApply (c : Cmd) (p : Nat) (s : State) : State :=
  let q := s.port p
  let s := s.onPort p (portSet c)
  let n := s.port p
  let up := decide (3 ≤ q.state) && decide (q.state ≤ 6)
  if !n.enable then
    if q.state = 0 then s
    else
      let s := (dropLink p s).onPort p (fun q => { q with state := 0, cause := 0, stage := 0, syntSrc := false })
      tallyRecheck (if up then s.countPort p 11 1 else s)
  else if q.state = 0 ∨ q.switched ≠ n.switched ∨ (q.state = 7 ∧ natBit 0 (c.at_ 28 4)) then
    let s := startTraining p 1 0 s
    tallyRecheck (if up then s.countPort p 11 1 else s)
  else s

/-- The module-wide parameters DOMAIN and SYNT_UP. -/
def moduleSet (c : Cmd) (s : State) : State :=
  let v := c.at_ 28 4
  let s := if natBit 2 v then s.onFab (fun f => { f with domain := c.at_ 4 4 }) else s
  if natBit 9 v then
    let bs := (List.range 4).map (fun i => c.at_ (18 + i) 1)
    if bs.headD 0 = 0xFE then
      (unsource s.fab.syntPort s).onFab (fun f => { f with syntRoot := true, syntUp := [], synt := 0, syntPort := 0, steer := 0 })
    else s.onFab (fun f => { f with syntRoot := false, syntUp := bs.filter (· < 16), synt := if f.syntRoot then 3 else f.synt })
  else s

/-- PORT_CONFIG (R238). -/
def execPortConfig (m : Fin 64) (s : State) : Host.Outcome State Fault Refusal :=
  .next (serveOp 0x0401 { fields := [(0, 17), (18, 9), (28, 4)] } m (fun c s =>
    match portConfigBad c with
    | some o => badField o s
    | none =>
      if (portsOf (c.at_ 0 2)).any (fun p => portConfigMoves s c p && bundleUses s p) then refuse .refusedMode s
      else okWith [] (State.each (portApply c) (portsOf (c.at_ 0 2)) (moduleSet c s))) s)

/-- PORT_MEASURE (R239): a fresh set of 64 exchanges, whose median is the delay in use and is returned with the set's least and greatest. A
switched port reports the round trip through the switch, which no release uses (R255). -/
def execPortMeasure (m : Fin 64) (exch : List (Nat × Nat)) (offset : Int) (s : State) : Host.Outcome State Fault Refusal :=
  .next (serveOp 0x0402 { fields := [(0, 1)] } m (fun c s =>
    let p := c.at_ 0 1
    if 16 ≤ p then refuse .notPresent s
    else if (s.port p).state < 3 ∨ 6 < (s.port p).state then refuse .refusedMode s
    else
      let sw := decide ((s.port p).state = 6)
      let ds := if sw then exch.map (fun e => e.1 - e.2) else exchDelays exch
      let s := if sw then s else takeDelay p ds s
      let d := if sw then units25 (medianNat ds) else (s.port p).delay
      let lo := if ds.isEmpty then d else units25 (ds.foldl min (ds.headD 0))
      let hi := if ds.isEmpty then d else units25 (ds.foldl max 0)
      okWith (leBytes 4 d ++ leBytes 4 lo ++ leBytes 4 hi ++ leBytes 4 (lengthCm (s.port p)) ++ leBytes 4 (intBits 32 offset)) s) s)

/-- PORT_RETRAIN (R253): PORT_NOTICE to the partner, and training from stage 2. -/
def execPortRetrain (m : Fin 64) (s : State) : Host.Outcome State Fault Refusal :=
  .next (serveOp 0x0403 { fields := [(0, 1)] } m (fun c s =>
    let p := c.at_ 0 1
    if 16 ≤ p then refuse .notPresent s
    else if !(s.port p).enable then refuse .refusedMode s
    else
      let s := if sendsWithy (s.port p) then sendNow p [noticeWord 1 0] s else s
      okWith [] (tallyRecheck ((startTraining p 2 0x0E s).countPort p 11 1))) s)

/-- One record of PORT_STATUS. -/
def portStatusBytes (s : State) (p : Nat) : List Byte :=
  let q := s.port p
  padTo 64 (leBytes 8 (portStateWord q) ++ macBytes (macOf s p) ++ leBytes 1 (b2n q.present + 2 * q.cable) ++ zeros 1
    ++ leBytes 4 q.cmisCm ++ leBytes 4 (lengthCm q))

/-- PORT_STATUS. -/
def execPortStatus (m : Fin 64) (s : State) : Host.Outcome State Fault Refusal :=
  .next (serveOp 0x0404 { fields := [(0, 2)], hasRes := true } m (fun c s =>
    let ps := portsOf (c.at_ 0 2)
    if !fits c (64 * ps.length) then tooSmall s
    else .reply { status := .ok, inline := leBytes 1 ps.length, res := (ps.map (portStatusBytes s)).flatten } s) s)

/-- PARTNER_TABLE with OP READ, or with an OP it does not have. -/
def execPartnerTable (m : Fin 64) (s : State) : Host.Outcome State Fault Refusal :=
  .next (serve m (fun c => c.op == 0x0405 && c.at_ 0 1 != 1) (fun _ => { fields := [(0, 1), (4, 4)], hasRes := true }) (fun c s =>
    if c.at_ 0 1 ≠ 0 then badField 0 s
    else if !fits c 1024 then tooSmall s
    else .reply { status := .ok, res := ((List.range 16).map (fun p => match (s.port p).partner with
      | some r => capBytes r | none => zeros 64)).flatten } s) s)

/-- PARTNER_TABLE with OP SET_MAC: the whole map from rank to MAC address is replaced (R256). -/
def execSetMac (m : Fin 64) (s : State) : Host.Outcome State Fault Refusal :=
  .next (serve m (fun c => c.op == 0x0405 && c.at_ 0 1 == 1)
    (fun c => { fields := [(0, 1), (4, 4)], argOk := fun n => n == 8 * c.at_ 4 4 || decide (1024 < c.at_ 4 4) }) (fun c s =>
    let n := c.at_ 4 4
    if 1024 < n then badField 4 s
    else
      match (List.range n).find? (fun i => decide (0x7FFF < leAt c.arg (8 * i) 2)) with
      | some i => badArgByte (8 * i) s
      | none =>
        let m := (List.range n).foldl (fun t i => Tab.set 0 t (leAt c.arg (8 * i) 2) (leNat (slice c.arg (8 * i + 2) 6).reverse + 1)) []
        okWith [] (s.onFab (fun f => { f with macs := m }))) s)

end Sys2Proof.Machine
end

