-- ==== Sys2Proof/Machine/Update.lean ====
section
/-! DEFINITION. The update commands of Table 13.13: rule sets, the step size, preconditioners, state export and import, noise
statistics (R179, R181, R195, R201 to R203). -/

namespace Sys2Proof.Machine

/-! ### RULE_SET (R179) -/

/-- A module may change its update's definition: parked, or with no bundle active. -/
def atRest (s : State) : Bool := !s.hasBundle || parked s

/-- An inline FP32 argument. -/
def Cmd.word (c : Cmd) (off : Nat) : Word := BitVec.ofNat 32 (c.at_ off 4)

/-- A finite value of at least 0. -/
def fNonNeg (w : Word) : Bool := (f32 w).isFin && !(f32 w).lt xZero

/-- A finite value above 0. -/
def fPos (w : Word) : Bool := (f32 w).isFin && xZero.lt (f32 w)

/-- The dense tensors of the active and the staged bundle. -/
def bundleTensors (s : State) : List TensorDef := s.body.tensors ++ ((s.sch.staged.map (fun b => b.body.tensors)).getD [])

/-- A field of RULE_SET outside Table 08.1 or forbidden by Table 08.2, by its offset in ARGS. -/
def ruleBad (s : State) (c : Cmd) : Option Nat :=
  let rule := c.at_ 1 1
  if 63 < c.at_ 0 1 then some 0
  else if 4 < rule then some 1
  else if 1 < c.at_ 2 1 then some 2
  else if 2 < c.at_ 3 1 then some 3
  else if !fPos (c.word 4) then some 4
  else if !fNonNeg (c.word 8) || !(f32 (c.word 8)).lt xOne then some 8
  else if !fPos (c.word 12) || xOne.lt (f32 (c.word 12)) || (rule != 2 && (f32 (c.word 12)).eqv xOne) then some 12
  else if !fPos (c.word 16) then some 16
  else if !fNonNeg (c.word 20) then some 20
  else if !fNonNeg (c.word 24) then some 24
  else if !fNonNeg (c.word 28) || (!(f32 (c.word 28)).isZero && c.at_ 2 1 == 0) then some 28
  else if 1 < c.at_ 32 1 then some 32
  else if 1 < c.at_ 33 1 then some 33
  else if 128 < c.at_ 35 1 then some 35
  else if 0 < c.at_ 35 1 && rule != 0 && rule != 2 then some 1
  else if 0 < c.at_ 35 1 && c.at_ 2 1 == 1 then some 2
  else if rule == 2 && (bundleTensors s).any (fun d => d.ruleSet == c.at_ 0 1) then some 1
  else none

/-- The rule set a RULE_SET defines. -/
def ruleOf (c : Cmd) (targets : List Nat) : RuleSet :=
  { rule := c.at_ 1 1, deferred := c.at_ 2 1 == 1, avg := c.at_ 3 1, mult := c.word 4, beta1 := c.word 8, beta2 := c.word 12
    eps := c.word 16, lambda := c.word 20, clipRow := c.word 24, clipGlobal := c.word 28, bias := c.at_ 32 1 == 1
    catchup := c.at_ 33 1 == 1, xn := natSigned 8 (c.at_ 34 1), targets := targets
    c1 := fSub fOne (c.word 8), c2 := fSub fOne (c.word 12) }

/-- RULE_SET: the set is defined and its counters begin again (R204). -/
def execRuleSet (m : Fin 64) (s : State) : Host.Outcome State Fault Refusal :=
  .next (serveOp 0x0601 { fields := [(0, 36)], argOk := fun _ => true } m (fun c s =>
    let k := c.at_ 0 1
    let ts := (List.range (c.at_ 35 1)).map (fun i => leAt c.arg (2 * i) 2)
    if !atRest s then refuse .refusedMode s
    else
      match ruleBad s c with
      | some o => badField o s
      | none =>
        if c.argLen ≠ 2 * c.at_ 35 1 then refuse .badArgument s 16
        else
          let others := s.ltr.sets.filter (fun kv => kv.1 != k)
          match ts.findIdx? (fun t => others.any (fun kv => ((kv.2.map RuleSet.targets).getD []).contains t)) with
          | some i => badArgByte (2 * i) s
          | none => okWith [] (s.onLtr (fun l => { l with
              sets := l.sets.set none k (some (ruleOf c ts)), counts := l.counts.filter (fun kv => kv.1 / 16 != k) }))) s)

/-! ### SET_STEP_SIZE (R181) -/

/-- SET_STEP_SIZE: pending until the next boundary. -/
def execSetStepSize (m : Fin 64) (s : State) : Host.Outcome State Fault Refusal :=
  .next (serveOp 0x0602 { fields := [(0, 4)] } m (fun c s =>
    if !fNonNeg (c.word 0) then badField 0 s
    else .reply { status := .ok, step := some (boundStep s) } (s.onLtr (fun l => { l with etaPend := some (c.word 0) }))) s)

/-! ### PRECOND_CONFIG (R195) -/

/-- A tensor of the active bundle or, while none is active, of the staged one. -/
def namedTensor (s : State) (t : Nat) : Option TensorDef :=
  (((fabricBundle s).map (fun b => b.body.tensors)).getD []).find? (fun d => d.tensor == t)

/-- A field of PRECOND_CONFIG outside R195. -/
def precondBad (s : State) (c : Cmd) (d : TensorDef) : Option Nat :=
  let b := c.at_ 2 2
  let n := if b = 0 then 0 else d.ownCount * 32 / b * (64 + 8 * b * b)
  if b < 32 ∨ 256 < b ∨ b % 32 ≠ 0 ∨ d.ownCount * 32 % b ≠ 0 then some 2
  else if c.at_ 4 1 ≠ 2 ∧ c.at_ 4 1 ≠ 4 then some 4
  else if c.at_ 8 2 = 0 then some 8
  else if c.at_ 16 8 % 64 ≠ 0 || !([2, 3, 4, 6].any (fun p => inPart s p (c.at_ 16 8) n)) then some 16
  else none

/-- PRECOND_CONFIG. -/
def execPrecondConfig (m : Fin 64) (s : State) : Host.Outcome State Fault Refusal :=
  .next (serveOp 0x0603 { fields := [(0, 5), (8, 2), (16, 8)] } m (fun c s =>
    if !atRest s then refuse .refusedMode s
    else
      match namedTensor s (c.at_ 0 2) with
      | none => refuse .notPresent s
      | some d =>
        if ((ruleSetOf s d.ruleSet).map RuleSet.rule).getD 0 ≠ 4 then badField 0 s
        else
          match precondBad s c d with
          | some o => badField o s
          | none => okWith [] (s.onLtr (fun l => { l with
              precond := l.precond.set none (c.at_ 0 2) (some ⟨c.at_ 2 2, c.at_ 4 1, c.at_ 8 2, c.at_ 16 8⟩) }))) s)

/-! ### STATE_EXPORT (R202) -/

/-- The preconditioner blocks of the owned range that a range of groups touches. -/
def coveredBlocks (d : TensorDef) (pc : Precond) (first count : Nat) : List Nat :=
  let k := pc.b / 32
  (List.range (d.ownCount / max 1 k)).filter (fun b =>
    decide (first < d.ownFirst + (b + 1) * k) && decide (d.ownFirst + b * k < first + count))

/-- STATE_EXPORT: records of the current bank as they are stored, then the root areas. -/
def execStateExport (m : Fin 64) (s : State) : Host.Outcome State Fault Refusal :=
  .next (serveOp 0x0604 { fields := [(0, 3), (4, 8)], hasRes := true } m (fun c s =>
    let t := c.at_ 0 2
    match tensorDef s t with
    | none => refuse .notPresent s
    | some d =>
      if 1 < c.at_ 2 1 then badField 2 s
      else if d.groups < c.at_ 4 4 + c.at_ 8 4 then badField 8 s
      else
        let bank := (s.tensor t).bank
        let pc := if c.at_ 2 1 = 1 then s.ltr.precond.get none t else none
        let areas := match pc with
          | some pc => (coveredBlocks d pc (c.at_ 4 4) (c.at_ 8 4)).map (fun b => (rootArea pc b, 64 + 8 * pc.b * pc.b))
          | none => []
        if !fits c (512 * c.at_ 8 4 + (areas.map (·.2)).sum) then tooSmall s
        else
          let r := piecesRead reqMaltster (((List.range (c.at_ 8 4)).map (fun i => (denseAddr d bank (c.at_ 4 4 + i), 512))) ++ areas) s
          .reply { status := .ok, res := r.2.1 } r.1) s)

/-! ### STATE_IMPORT (R203) -/

/-- The first record that does not fit: its GROUP, TENSOR, reserved bytes, or a STEP beyond the running step. -/
def importBad (s : State) (c : Cmd) : Option Nat :=
  (List.range (c.at_ 8 4)).findSome? (fun i =>
    let o := 512 * i
    if leAt c.arg (o + 8) 4 ≠ c.at_ 4 4 + i then some (o + 8)
    else if leAt c.arg (o + 12) 2 ≠ c.at_ 0 2 then some (o + 12)
    else if leAt c.arg (o + 14) 2 ≠ 0 then some (o + 14)
    else if leAt c.arg (o + 400) 112 ≠ 0 then some (o + 400)
    else if s.hasBundle && decide (s.sch.step < leAt c.arg o 4) then some o
    else none)

/-- K under which imported masters form working copies: the slot's, or KINIT of the staged bundle's group. -/
def importK (s : State) (d : TensorDef) : Int :=
  if d.wcSlot.2 = 0 then 0
  else if s.hasBundle then ((s.plot d.wcSlot.1).slot d.wcSlot.2).k
  else
    match s.sch.staged with
    | none => 0
    | some b =>
      match b.body.slots.find? (fun x => x.plot == d.wcSlot.1 && x.slot == d.wcSlot.2) with
      | some x => if x.mode = 0 then x.k else ((b.body.groups.find? (fun g => g.group == x.group)).map GroupDef.kinit).getD 0
      | none => 0

/-- One record imported: both banks and both halves. -/
def importRecord (d : TensorDef) (k : Int) (j : Nat) (bs : List Byte) (s : State) : State :=
  let wc := (d.fmt.encodeMany (((recMaster bs).map f32).map (XVal.scale k))).1
  let s := devWrite reqMaltster .none (denseAddr d 1 j) bs (devWrite reqMaltster .none (denseAddr d 0 j) bs s)
  devWrite reqMaltster .none (d.wc 1 + j * d.wcBytes) wc (devWrite reqMaltster .none (d.wc 0 + j * d.wcBytes) wc s)

/-- STATE_IMPORT. -/
def execStateImport (m : Fin 64) (s : State) : Host.Outcome State Fault Refusal :=
  .next (serveOp 0x0605 { fields := [(0, 2), (4, 8)], argOk := fun _ => true } m (fun c s =>
    if !atRest s then refuse .refusedMode s
    else
      match namedTensor s (c.at_ 0 2) with
      | none => refuse .notPresent s
      | some d =>
        if d.groups < c.at_ 4 4 + c.at_ 8 4 then badField 8 s
        else if c.argLen ≠ 512 * c.at_ 8 4 then refuse .badArgument s 16
        else
          match importBad s c with
          | some o => badArgByte o s
          | none =>
            let k := importK s d
            let u := State.each (fun i s => importRecord d k (c.at_ 4 4 + i) (slice c.arg (512 * i) 512) s) (List.range (c.at_ 8 4)) s
            let u := u.onTensor (c.at_ 0 2) (fun x => { x with frozen := false })
            let top := ((List.range (c.at_ 8 4)).map (fun i => leAt c.arg (512 * i) 4)).foldl max 0
            okWith [] (if s.hasBundle then u else u.onSch (fun h => { h with restore := max h.restore top }))) s)

/-! ### NOISE_STATS (R201) -/

/-- One rule set's record of 56 bytes. -/
def noiseRecord (x : Nat × Int × Norms) : List Byte :=
  leBytes 1 x.1 ++ leBytes 1 (intBits 8 x.2.1) ++ leBytes 1 (b2n x.2.2.satLoc + 2 * b2n x.2.2.satRed) ++ zeros 5
    ++ leBytes 8 x.2.2.nloc ++ leBytes 8 x.2.2.nred ++ leBytes 16 (intBits 128 x.2.2.loc) ++ leBytes 16 (intBits 128 x.2.2.red)

/-- One step's entry. -/
def noiseEntry (e : Noise) : List Byte :=
  leBytes 4 e.step ++ leBytes 1 (b2n e.skipped) ++ leBytes 1 e.sets.length ++ zeros 2 ++ (e.sets.map noiseRecord).flatten

/-- As many whole entries as fit. -/
def takeEntries (room : Nat) : List (List Byte) → List (List Byte)
  | [] => []
  | e :: es => if e.length ≤ room then e :: takeEntries (room - e.length) es else []

/-- NOISE_STATS. -/
def execNoiseStats (m : Fin 64) (s : State) : Host.Outcome State Fault Refusal :=
  .next (serveOp 0x0606 { hasRes := true } m (fun c s =>
    let es := takeEntries c.resLen (s.ltr.noise.map noiseEntry)
    .reply { status := .ok, inline := leBytes 1 es.length, res := es.flatten } s) s)

/-! ### SET_STRAGGLER_POLICY (R285) -/

/-- The reduction groups this module sends to, in the active bundle or the staged one. -/
def outgoing (s : State) : List Nat :=
  match fabricBundle s with
  | some b => (b.body.reductions.filter (fun r => r.members.contains b.hdr.rank && r.owner != b.hdr.rank)).map ReductionDef.group
  | none => []

/-- SET_STRAGGLER_POLICY: boundary bound. -/
def execSetStragglerPolicy (m : Fin 64) (s : State) : Host.Outcome State Fault Refusal :=
  .next (serveOp 0x0506 { fields := [(0, 4)], argOk := fun _ => true } m (fun c s =>
    let n := c.at_ 0 4
    if c.argLen ≠ 4 * n then refuse .badArgument s 16
    else
      let es := (List.range n).map (fun i => leAt c.arg (4 * i) 4)
      match es.findIdx? (fun e => decide (2 ^ 17 ≤ e) || !(outgoing s).contains (e % 65536)) with
      | some i => badArgByte (4 * i) s
      | none => .reply { status := .ok, step := some (boundStep s) }
          (latch false (.straggler (es.map (fun e => (e % 65536, natBit 16 e)))) s)) s)

end Sys2Proof.Machine
end

