-- ==== Sys2Proof/Machine/Firmware.lean ====
section
/-! DEFINITION. Firmware: attestation, staging and activating a firmware bundle, takeover, the loss and restart of the
Maltster, and live take-up (13 R330 to R332; 14 R354 to R359; 15 R369). -/

namespace Sys2Proof.Machine

/-! ### Attestation (R359) -/

/-- The seed of the identity key: the first 32 bytes of the digest of the fused secret. -/
def identitySeed (s : State) : List Byte := slice (sha512 s.fuses.secret) 0 32

/-- Bytes 0 to 447 of the report (Table 14.11). -/
def attestBody (s : State) (nonce : List Byte) : List Byte :=
  leBytes 4 0x54415741 ++ leBytes 2 1 ++ leBytes 1 s.fuses.stepping ++ leBytes 1 s.fw.keyslot ++ leBytes 8 s.fuses.serial
    ++ leBytes 4 s.fuses.svn ++ leBytes 1 s.mst.mode.code ++ leBytes 1 s.mst.fallowCause ++ zeros 2 ++ leBytes 4 s.hk.starts
    ++ leBytes 4 s.sch.step ++ padTo 32 nonce ++ ((List.range 4).map (fun i => leBytes 64 (s.fw.digests.getD i 0))).flatten
    ++ leBytes 64 s.bhdr.digest ++ padTo 32 (edPublic (identitySeed s)) ++ zeros 32

/-- The report of 512 bytes. -/
def attestReport (s : State) (nonce : List Byte) : List Byte :=
  let b := attestBody s nonce
  b ++ edSign (identitySeed s) (sha512 b)

/-- GET_ATTESTATION. -/
def execGetAttestation (m : Fin 64) (s : State) : Host.Outcome State Fault Refusal :=
  .next (serveOp 0x0107 { fields := [(0, 32)], hasRes := true } m (fun c s =>
    if !fits c 512 then tooSmall s
    else .reply { status := .ok, inline := leBytes 4 512, res := attestReport s (slice c.slot 32 32) } s) s)

/-! ### Firmware bundles (R354, R355) -/

/-- Image entry i. -/
def fwImage (bs : List Byte) (i : Nat) : FwImage :=
  let e := slice bs (64 + 80 * i) 80
  { type := leAt e 0 1, ifver := leAt e 4 4, off := leAt e 8 4, len := leAt e 12 4, digest := leAt e 16 64 }

/-- The first field of a bundle that breaks Table 14.10's layout, by its offset. -/
def fwLayoutBad (bs : List Byte) : Option Nat :=
  let n := leAt bs 28 4
  let nonZero (off len : Nat) : Bool := leAt bs off len != 0
  if leAt bs 0 4 ≠ 0x57465156 then some 0
  else if 3 < leAt bs 6 1 then some 6
  else if nonZero 7 1 then some 7
  else if 64 < leAt bs 8 4 then some 8
  else if leAt bs 12 4 ≠ leAt bs 12 4 % 2 + natBits 7 4 (leAt bs 12 4) * 16 then some 12
  else if leAt bs 16 8 ≠ bs.length then some 16
  else if nonZero 25 3 then some 25
  else if n = 0 ∨ 64 < n ∨ bs.length < 448 + 20 * n + 64 then some 28
  else if nonZero 32 32 then some 32
  else
    match (List.range 4).find? (fun i =>
      let im := fwImage bs i
      im.type != i || nonZero (64 + 80 * i + 1) 3 || decide (bs.length < im.off + im.len)) with
    | some i => some (64 + 80 * i)
    | none =>
      if nonZero 384 64 then some 384
      else ((List.range n).find? (fun i => nonZero (448 + 20 * i + 1) 3)).map (fun i => 448 + 20 * i + 1)

/-- Steps 1 to 3 of R354 with the key of its slot. -/
def fwVerifies (keys : List (List Byte)) (bs : List Byte) : Bool :=
  let body := bs.take (bs.length - 64)
  leAt bs 5 1 == 1 && edVerify (keys.getD (leAt bs 6 1) []) (sha512 body) (bs.drop (bs.length - 64)) &&
    (List.range 4).all (fun i => let im := fwImage bs i
      leNat (sha512 (slice bs im.off im.len)) == im.digest)

/-- A bundle's fields. -/
def fwParse (keys : List (List Byte)) (bs : List Byte) : FwBundle :=
  { present := true, keyslot := leAt bs 6 1, svn := leAt bs 8 4, commitSvn := natBit 0 (leAt bs 12 4)
    revoke := natBits 7 4 (leAt bs 12 4), steppings := leAt bs 24 1
    ifvers := (List.range 4).map (fun i => (fwImage bs i).ifver)
    digests := (List.range 4).map (fun i => (fwImage bs i).digest)
    tested := (List.range (leAt bs 28 4)).map (fun i =>
      (leAt bs (448 + 20 * i) 1, (List.range 4).map (fun j => leAt bs (448 + 20 * i + 4 + 4 * j) 4)))
    verifies := fwVerifies keys bs }

/-- Why a slot fails R354. -/
def slotBad (s : State) (b : FwBundle) : Option StartCause :=
  if !b.present || !b.verifies || natBit b.keyslot s.fuses.revoke then some .signature
  else if b.svn < s.fuses.svn then some .rollback
  else none

/-- The manifest check (R355). -/
def manifestOk (s : State) (b : FwBundle) : Bool :=
  natBit s.fuses.stepping b.steppings && b.tested.any (fun e => e.1 == s.fuses.stepping && e.2 == b.ifvers)

/-- Slot B, or slot A. -/
def fwSlot (s : State) (b : Bool) : FwBundle := if b then s.flash.slotB else s.flash.slotA

/-- The block number of the active core. -/
def coreBlock (s : State) : Nat := if s.mst.coreB then 0x77 else 0x76

/-- The security bits a bundle sets (Table 14.12, group 13). -/
def securityBits (s : State) (b : FwBundle) : List Nat :=
  if natBit b.keyslot s.fuses.revoke then [3]
  else if !b.present || !b.verifies then [0]
  else if b.svn < s.fuses.svn then [1]
  else if !manifestOk s b then [2]
  else []

/-- The bits set, each with the key slot. -/
def securityEvents (src : Nat) (b : FwBundle) (s : State) : State :=
  State.each (fun x s => event 13 x src [b.keyslot] s) (securityBits s b) s

/-! ### FW_STAGE and FW_ACTIVATE (R357) -/

/-- FW_STAGE: checked before anything is written; the slot written is the one that is not running. -/
def execFwStage (m : Fin 64) (s : State) : Host.Outcome State Fault Refusal :=
  .next (serveOp 0x0701 { argOk := fun n => decide (0 < n) } m (fun c s =>
    match fwLayoutBad c.arg with
    | some o => badArgByte o s
    | none =>
      if leAt c.arg 5 1 ≠ 1 then refuse .refusedVersion s
      else
        let b := fwParse s.fuses.keys c.arg
        let t := securityEvents (coreBlock s) b s
        match slotBad s b with
        | some .rollback => refuse .refusedVersion t
        | some _ => refuse .badSignature t
        | none =>
          if !manifestOk s b then refuse .refusedVersion t
          else
            let toB := !s.fw.slotB
            let f := if toB then { s.flash with slotB := b, stagedFw := true } else { s.flash with slotA := b, stagedFw := true }
            okWith (leBytes 1 (b2n toB)) { s with flash := f }) s)

/-- The tally number under which a live FW_ACTIVATE waits for its takeover; 64 and above are no tallies. -/
def liveFid : Nat := 65

/-- The staged slot made the boot slot, on trial. -/
def activateSlot (s : State) : State := { s with flash := { s.flash with bootB := !s.fw.slotB, trial := true, stagedFw := false } }

/-- FW_ACTIVATE: at the next start, or live, when its response is written by the core that takes over (R331). -/
def execFwActivate (m : Fin 64) (s : State) : Host.Outcome State Fault Refusal :=
  .next (serveOp 0x0702 { fields := [(0, 1)] } m (fun c s =>
    let live := c.at_ 0 1
    if 1 < live then badField 0 s
    else if !s.flash.stagedFw then refuse .refusedMode s
    else if live = 0 then okWith [] (activateSlot s)
    else if s.mst.mode == .fallow then refuse .refusedMode s
    else if (fwSlot s (!s.fw.slotB)).ifvers ≠ s.fw.ifvers then refuse .refusedVersion s
    else holdFor c liveFid (activateSlot s)) s)

/-! ### Takeover (R331) and live take-up (R369) -/

/-- Digest i taken up. -/
def takeDigest (i : Nat) (s : State) : State :=
  match s.fw.next with
  | some ds => { s with fw := { s.fw with digests := s.fw.digests.set i (ds.getD i 0) } }
  | none => s

/-- The roles of the cores swapped, with TAKEOVERS, LAST_CAUSE, the log entry and the status event. -/
def swapCores (cause : Nat) (s : State) : State :=
  let s := s.onMst (fun m => { m with coreB := !m.coreB, standby := false, takeovers := min 0xFFFF (m.takeovers + 1), lastCause := cause })
  eventIrq (eventNote 0 (coreBlock s) [cause] s)

/-- The images of a live activation begin to be taken up: the main image at once, the link image port by port. -/
def beginTakeUp (s : State) : State :=
  let b := fwSlot s s.flash.bootB
  let s := { s with fw := { s.fw with slotB := s.flash.bootB, keyslot := b.keyslot, next := some b.digests
                                      portsWait := (List.range 16).foldl (fun t p => t.set false p true) [] } }
  event 14 7 (coreBlock s) [b2n s.fw.slotB] (takeDigest 0 s)

/-- The mailbox whose live FW_ACTIVATE waits. -/
def liveWaiting (s : State) : Option Cmd :=
  (List.range 64).findSome? (fun m => match (s.mbx m).coord, heldCmd s m with
    | some k, some c => if k.fid = liveFid then some c else none
    | _, _ => none)

/-- TAKEOVER: the standby core takes over; commands in flight keep their place. -/
def execTakeover (cause : TakeoverCause) (s : State) : Host.Outcome State Fault Refusal :=
  .next (if !s.mst.standby || !s.mst.ready then s
    else
      match cause with
      | .heartbeat => announce s (swapCores 2 s)
      | .coreFault => announce s (swapCores 3 s)
      | .fwActivate =>
        match liveWaiting s with
        | none => s
        | some c => announce s (respond c { status := .ok } (beginTakeUp (swapCores 1 s))))

/-- STANDBY_READY (R331). -/
def execStandbyReady (s : State) : Host.Outcome State Fault Refusal :=
  .next (if s.mst.ready && s.mst.mode != .fallow then s.onMst (fun m => { m with standby := true }) else s)

/-- MALTSTER_RESTART (R332): both cores restart; `served`: a core serves mailboxes again within 2 s. -/
def execMaltsterRestart (served : Bool) (s : State) : Host.Outcome State Fault Refusal :=
  .next (if s.mst.standby || !s.mst.ready then s else announce s (s.onMst (fun m => { m with ready := served })))

/-- MALTSTER_LOSS (R332): the module parks at the next boundary with PARK_CAUSE 4. -/
def execMaltsterLoss (s : State) : Host.Outcome State Fault Refusal :=
  .next (if s.mst.ready || !dataPath s then s else announce s (parkFor 4 s))

/-- A port, a PHY's drift tracking or a Coppice run takes up its new image. -/
def takeUp (w : TakeUp) (s : State) : State :=
  if s.fw.next.isNone then s
  else
    match w with
    | .port p =>
      let t := s.fw.portsWait.set false p false
      let s := { s with fw := { s.fw with portsWait := t } }
      if t.isEmpty then takeDigest 1 s else s
    | .phy => takeDigest 2 s
    | .coppice => takeDigest 3 s

/-- LIVE_TAKE_UP. -/
def execLiveTakeUp (what : TakeUp) (s : State) : Host.Outcome State Fault Refusal := .next (takeUp what s)

end Sys2Proof.Machine
end

