-- ==== Sys2Proof/Machine/Plot.lean ====
section
/-! DEFINITION. The plots: the sequencer's two streams (R30, R288), hedge operations (R31 to R47), weight loads (R39, R40),
MOVE (R139, R140, R300 to R302), semaphore and epoch waits, FCLR, region checks and scope decisions (R105 to R112). -/

namespace Sys2Proof.Machine

/-! ### The sequencer -/

/-- The instruction stream of plot p (R288). -/
def progOf (s : State) (p : Nat) (st : Stream) : List SeqInstr :=
  match s.body.programs.find? (fun g => g.plot == p) with
  | some g => match st with | .primary => g.primary | .deferred => g.deferred
  | none => []

/-- The program counter of a stream. -/
def Plot.pc (q : Plot) : Stream → Nat
  | .primary => q.pcP
  | .deferred => q.pcD

/-- The program counter of a stream set. -/
def Plot.setPc (q : Plot) (st : Stream) (v : Nat) : Plot :=
  match st with | .primary => { q with pcP := v } | .deferred => { q with pcD := v }

/-- The instruction a stream is at. -/
def instrAt (s : State) (p : Nat) (st : Stream) : Option SeqInstr := (progOf s p st)[(s.plot p).pc st]?

/-- The region check the primary stream is at, with the level reached: CHECK_PC of a region, or the last instruction of a
replay program (R106); that index holds the check itself. -/
def checkAt (s : State) (p : Nat) : Option (RegionDef × Nat) :=
  let q := s.plot p
  match q.replay with
  | some r => if q.pcP = r.last then (regionOf s p r.tag).map (fun g => (g, r.level)) else none
  | none => (s.body.regions.find? (fun g => g.plot == p && g.checkPc == q.pcP)).map (fun g => (g, g.level))

/-- The arithmetic events a plot's unregioned set holds count once when the plot reaches its tally point (R113). -/
def reachTally (p : Nat) (s : State) : State :=
  let n := if (s.plot p).unreg = 0 then 0 else 1
  (s.onPlot p (fun q => { q with tallied := true })).onSch (fun c => { c with events := c.events + n })

/-- The bundle's markers at the head of a stream act as it reaches them: the tally point and arrivals at LOCAL tallies,
`fuel` of them. They are no instructions of Table 02.2. -/
def settle (p : Nat) (st : Stream) : Nat → State → State
  | 0, s => s
  | fuel + 1, s =>
    if (checkAt s p).isSome && st == .primary then s
    else
      match instrAt s p st with
      | some .tallyPoint => settle p st fuel (reachTally p (s.onPlot p (fun q => q.setPc st (q.pc st + 1))))
      | some (.arrive n) => settle p st fuel (localArrive n (s.onPlot p (fun q => q.setPc st (q.pc st + 1))))
      | _ => s

/-- The stream moves past an instruction. -/
def advance (p : Nat) (st : Stream) (s : State) : State :=
  settle p st ((progOf s p st).length + 1) (s.onPlot p (fun q => q.setPc st (q.pc st + 1)))

/-- The epoch a program names has been released: its place in the PLAN of the running step (R278). -/
def epochReached (s : State) (e : Nat) : Bool := decide (e ≤ s.sch.planIdx)

/-- A wait on semaphore n for k would complete. -/
def semReady (s : State) (p n k : Nat) : Bool :=
  let t := (s.plot p).sems.get {} n
  !t.assigned || decide (k ≤ t.value)

/-- The primary stream is blocked in an unsatisfied SWAIT or EWAIT, or has ended, so that the deferred one may issue (R288). -/
def primaryBlocked (s : State) (p : Nat) : Bool :=
  match instrAt s p .primary with
  | some (.swait n k) => !semReady s p n k
  | some (.ewait e) => !epochReached s e
  | none => true
  | some _ => false

/-- The sequencer of plot p may issue from a stream: the module issues work, the program is not abandoned, no region check
is reached, and the primary stream goes first (R52, R106, R288, R339, R340). -/
def mayIssue (s : State) (p : Nat) (st : Stream) : Bool :=
  issues s && !(s.plot p).stopped && (s.plot p).check.isNone && (checkAt s p).isNone &&
    (st == .primary || primaryBlocked s p)

/-- The instruction at the head of a stream issued by f, when it is one f takes; otherwise the row does not apply and
nothing changes. -/
def seqStep (p : Nat) (st : Stream) (f : SeqInstr → State → Option State) (s : State) : State :=
  if mayIssue s p st then
    match instrAt s p st with
    | some i => match f i s with | some t => advance p st t | none => s
    | none => s
  else s

/-- An operation added to those in flight. -/
def launch (p kind off len : Nat) (s : State) : State :=
  s.onPlot p (fun q => { q with flight := q.flight ++ [⟨kind, off, storeBytes s p off len, false, [], [], false, 0⟩] })

/-! ### Hedge operations -/

/-- The n-th flight entry changed. -/
def Plot.onFlight (q : Plot) (i : Nat) (f : Flight → Flight) : Plot := { q with flight := q.flight.modify i f }

/-- The n-th flight entry removed. -/
def Plot.endFlight (q : Plot) (i : Nat) : Plot := { q with flight := q.flight.eraseIdx i }

/-- Hedges of a mask, ascending. -/
def hedgesOf (mask : Nat) : List Nat := (List.range 4).filter (fun h => natBit h mask)

/-- Row groups of an operation. -/
def rowGroups (d : HopDesc) : Nat := ceilDiv d.m d.seg

/-- Row groups that go to hedge h (R37). -/
def groupsOn (d : HopDesc) (h : Nat) : Nat :=
  let hs := hedgesOf d.mask
  if natBit h d.mask then ceilDiv (rowGroups d - hs.idxOf h) hs.length else 0

/-- The row group that is the j-th of hedge h. -/
def groupAt (d : HopDesc) (h j : Nat) : Nat :=
  let hs := hedgesOf d.mask
  j * hs.length + hs.idxOf h

/-- All of an operation's groups on a hedge have started. -/
def startedAll (f : Flight) : Bool :=
  let d := hopOf f.desc
  (hedgesOf d.mask).all (fun h => decide (groupsOn d h ≤ f.started.get 0 h))

/-- All of an operation's groups have drained. -/
def drainedAll (f : Flight) : Bool :=
  let d := hopOf f.desc
  (hedgesOf d.mask).all (fun h => decide (groupsOn d h ≤ f.drained.get 0 h))

/-- The flight entry whose group hedge h starts next: operations in issue order. -/
def nextStart (q : Plot) (h : Nat) : Option Nat :=
  q.flight.findIdx? (fun f => f.kind == 0 && natBit h (hopOf f.desc).mask && decide (f.started.get 0 h < groupsOn (hopOf f.desc) h))

/-- The flight entry whose group hedge h drains next. -/
def nextDrain (q : Plot) (h : Nat) : Option Nat :=
  q.flight.findIdx? (fun f => f.kind == 0 && natBit h (hopOf f.desc).mask && decide (f.drained.get 0 h < groupsOn (hopOf f.desc) h))

/-- An earlier WLOAD into the half is not complete (R40). -/
def halfLoading (q : Plot) (i half : Nat) : Bool :=
  (q.flight.take i).any (fun f => f.kind == 1 && (wloadOf f.desc).half == half)

/-- Bytes of one block row of a weight half. -/
def blockAt (w : WHalf) (f : Fmt) (r n : Nat) : List Byte := slice w.data ((r * w.nw + n) * f.blockBytes) f.blockBytes

/-- A WLOAD filled the half with this format and the element lies in it. -/
def halfHolds (w : WHalf) (f : Fmt) (k n : Nat) : Bool := w.fmt == some f.code && decide (k < w.kw) && decide (n < w.nw)

/-- A weight element in another format than the half's, or outside its rows and columns (Config.bankMismatch, log 5). -/
def strayWeight (w : WHalf) (f : Fmt) (k n : Nat) : Nat := Config.bankMismatch w.data f.code k n

/-- Weight elements k0 to k0 + k - 1 of column n as values; an unfilled half reads zero (R381). -/
def weightCol (w : WHalf) (f : Fmt) (k0 k n : Nat) : List XVal :=
  if w.fmt.isNone then List.replicate k xZero
  else (List.range k).map (fun i =>
    let r := k0 + i
    if halfHolds w f r n then (f.decodeBlock (blockAt w f (r / f.blockVals) n)).getD (r % f.blockVals) xZero
    else f.decode (strayWeight w f r n))

/-- An MB8 block as mantissas, NaN elements as 0, whether one was NaN, and the unbiased exponent. -/
structure M8Block where
  /-- mantissas -/
  ms : List Int
  /-- a NaN element -/
  nan : Bool
  /-- exponent -/
  e : Int
  deriving Repr

/-- The block 33 bytes spell. -/
def m8Block (bs : List Byte) : M8Block :=
  let cs := (List.range 32).map (fun i => (bs.getD i 0).toNat)
  ⟨cs.map (fun c => if c = 0x80 then 0 else natSigned 8 c), cs.any (· == 0x80), ((bs.getD 32 0).toNat : Int) - 127⟩

/-- The MB8 weight block of block row r and column n. -/
def weightBlock (w : WHalf) (r n : Nat) : M8Block :=
  if w.fmt.isNone then m8Block (zeros 33)
  else if halfHolds w .mb8 (32 * r) n then m8Block (blockAt w .mb8 r n)
  else m8Block (((List.range 32).map (fun i => BitVec.ofNat 8 (strayWeight w .mb8 (32 * r + i) n)))
        ++ [BitVec.ofNat 8 (strayWeight w .mb8 (32 * r) n / 256)])

/-- One float chunk: exact pairwise sum of exact products, then one rounding (R33). -/
def floatChunks (kc : Nat) : Nat → List XVal → List XVal → XVal → NFlags → XVal × NFlags
  | 0, _, _, acc, f => (acc, f)
  | fuel + 1, xs, ws, acc, f =>
    if xs.isEmpty then (acc, f)
    else
      let a := xs.take kc
      let b := ws.take kc
      let ps := (List.zipWith XVal.mul a b) ++ List.replicate (kc - a.length) xZero
      let sum := pairwise (Nat.log2 kc) ps
      let r := acc.add sum
      let q := lay32.arith r
      let g : NFlags := { nan := a.any XVal.isNan || b.any XVal.isNan || r.isNan, ovf := q.2.ovf }
      floatChunks kc fuel (xs.drop kc) (ws.drop kc) (lay32.decode q.1) (f.or g)

/-- Integer chunks with a saturating add each (R34). -/
def intChunks (kc : Nat) : Nat → List Int → List Int → Int → Bool → Int × Bool
  | 0, _, _, acc, f => (acc, f)
  | fuel + 1, xs, ws, acc, f =>
    if xs.isEmpty then (acc, f)
    else
      let r := satInt 32 (acc + (List.zipWith (· * ·) (xs.take kc) (ws.take kc)).sum)
      intChunks kc fuel (xs.drop kc) (ws.drop kc) r.1 (f || r.2)

/-- A block sum aligned to the anchor: left with saturation, right with RNE (R35). -/
def alignM8 (v : Int) (sh : Int) : Int × Bool :=
  if 0 ≤ sh then satInt 32 (v * 2 ^ sh.toNat)
  else (rneInt (decide (v < 0)) v.natAbs sh, false)

/-- M8 blocks in ascending k (R35). -/
def m8Blocks (t : Int) : List (M8Block × M8Block) → Int → NFlags → Int × NFlags
  | [], acc, f => (acc, f)
  | (a, b) :: bs, acc, f =>
    let al := alignM8 (List.zipWith (· * ·) a.ms b.ms).sum (a.e + b.e - t)
    let r := satInt 32 (acc + al.1)
    m8Blocks t bs r.1 (f.or { nan := a.nan || b.nan, sat := al.2 || r.2 })

/-- A value as an integer, for the integer classes. -/
def xInt : XVal → Int
  | .fin s m e => finAt s m e 0
  | _ => 0

/-- One accumulator of a hedge operation: row m, column n (R37, R92, R47); its 32 bits and the flags. -/
def hopElement (s : State) (p : Nat) (d : HopDesc) (row n : Nat) : Nat × NFlags :=
  let w := (s.plot p).bank.get {} d.half
  let cin := if d.mma then rawNat s (storeBase p + d.cinOff + row * d.cinStride + 4 * n) 4 else 0
  let abase := storeBase p + d.aOff + row * d.aStride
  match classOf d.fmtA with
  | some .m8 =>
    let bs := (List.range (d.k / 32)).map (fun i =>
      (m8Block (rawBytes s (abase + 33 * i) 33), weightBlock w (d.k0 / 32 + i) (d.n0 + n)))
    let r := m8Blocks d.anchor bs (natSigned 32 cin) {}
    (intBits 32 r.1, r.2)
  | some c =>
    let xs := d.fmtA.decodeMany d.k (rawBytes s abase (d.fmtA.bytesFor d.k))
    let ws := weightCol w d.fmtW d.k0 d.k (d.n0 + n)
    if c.isFloat then
      let r := floatChunks c.kc (d.k + 1) xs ws (lay32.decode cin) {}
      ((lay32.arith r.1).1, r.2)
    else
      let r := intChunks c.kc (d.k + 1) (xs.map xInt) (ws.map xInt) (natSigned 32 cin) false
      (intBits 32 r.1, { sat := r.2 })
  | none => (0, {})

/-- Rows of a group that exist. -/
def groupRows (d : HopDesc) (g : Nat) : List Nat := (List.range d.seg).filterMap (fun i => if g * d.seg + i < d.m then some (g * d.seg + i) else none)

/-- The accumulators of a row group and their flags. -/
def groupAccs (s : State) (p : Nat) (d : HopDesc) (g : Nat) : List Nat × NFlags :=
  let es := ((groupRows d g).map (fun row => (List.range d.n).map (fun n => hopElement s p d row n))).flatten
  (es.map (·.1), es.foldl (fun a e => a.or e.2) {})

/-- The flags of a hedge set in PLT_HFLAGS and in the region's set (R36, R105). -/
def raiseHedge (p h tag : Nat) (f : NFlags) (s : State) : State :=
  s.onPlot p (fun q => flagTag s p (some tag) f { q with hflags := q.hflags ||| hflagBits h f })

/-- A row group of flight entry i started on hedge h. -/
def startGroup (p h i : Nat) (f : Flight) (s : State) : State :=
  let d := hopOf f.desc
  let j := f.started.get 0 h
  let r := groupAccs s p d (groupAt d h j)
  raiseHedge p h d.tag r.2 (s.onPlot p (fun q =>
    { (q.onFlight i (fun f => { f with started := f.started.set 0 h (j + 1) })) with
      accs := q.accs.modify [] h (· ++ [⟨f.desc, groupAt d h j, r.1⟩]) }))

/-- SEM_WAIT of flight entry i, taken before its first access. -/
def flightWait (p i : Nat) (en : Bool) (sem : Nat) (f : Flight) (s : State) : Option State :=
  if f.ready then some s
  else (descWait en p sem s).map (State.onPlot p (fun q => q.onFlight i (fun f => { f with ready := true })))

/-- Hedge h starts its next row group: with a free accumulator, the wait satisfied, and the weight half filled (R40, R42). -/
def rowGroupStart (p h : Nat) (s : State) : State :=
  let q := s.plot p
  match nextStart q h with
  | none => s
  | some i =>
    match q.flight[i]? with
    | none => s
    | some f =>
      let d := hopOf f.desc
      if decide (2 ≤ (q.accs.get [] h).length) || halfLoading q i d.half then s
      else
        match flightWait p i d.waitEn d.semWait f s with
        | some t => startGroup p h i f t
        | none => s

/-- ROW_GROUP_START (R42). -/
def execRowGroupStart (p : Fin 64) (h : Fin 4) (s : State) : Host.Outcome State Fault Refusal := .next (rowGroupStart p h s)

/-- The exact value of an accumulator with both operand scales removed: what the drain's conversion receives before the
output scale (R98, R99). -/
def drainValue (s : State) (p : Nat) (d : HopDesc) (v : Nat) : XVal :=
  let q := s.plot p
  let c := - (q.slot d.scaleA).k - (q.slot d.scaleW).k
  match classOf d.fmtA with
  | some .m8 => (Fmt.decode .int32 v).scale (c + d.anchor)
  | some k => if k.isFloat then (lay32.decode v).scale c else (Fmt.decode .int32 v).scale c
  | none => xZero

/-- Output is raw: INT32, or the FP32 accumulator with unit scales (R46). -/
def rawOut (d : HopDesc) : Bool :=
  d.fmtOut == .int32 || (d.fmtOut == .fp32 && d.scaleA == 0 && d.scaleW == 0 && d.scaleOut == 0 &&
    (match classOf d.fmtA with | some k => k.isFloat | none => false))

/-- Encoded bytes of a run of accumulators. -/
def drainBytes (s : State) (p : Nat) (d : HopDesc) (vs : List Nat) : List Byte × NFlags :=
  if rawOut d then ((vs.map (leBytes 4)).flatten, {})
  else
    let k := ((s.plot p).slot d.scaleOut).k
    d.fmtOut.encodeMany (vs.map (fun v => (drainValue s p d v).scale k))

/-- The rows of a group's accumulators. -/
def rowsOf (d : HopDesc) (a : Acc) : List (List Nat) := chunks d.n d.seg a.vals

/-- C written by row, or by whole row group when N is no multiple of the output block (R382): writes and flags. -/
def drainWrites (s : State) (p : Nat) (d : HopDesc) (a : Acc) : List (Nat × List Byte) × NFlags :=
  let c := storeBase p + d.cOff
  if d.n % d.fmtOut.blockVals = 0 then
    let rs := (List.zip (groupRows d a.group) (rowsOf d a)).map (fun x => (x.1, drainBytes s p d x.2))
    (rs.map (fun x => (c + x.1 * d.cStride, x.2.1)), rs.foldl (fun f x => f.or x.2.2) {})
  else
    let full := a.vals ++ List.replicate (d.n * d.seg - a.vals.length) 0
    let r := drainBytes s p d full
    ([(c + a.group * d.cStride, r.1)], r.2)

/-- The group at the head of hedge h's accumulators drained (R46). -/
def drainGroup (p h i : Nat) (a : Acc) (s : State) : State :=
  let d := hopOf a.desc
  let w := drainWrites s p d a
  let am := if rawOut d && d.fmtOut == .int32 then noAmax else amaxRecord (a.vals.map (drainValue s p d))
  let s := State.each (fun x s => s.onMem (·.putBytes x.1 x.2)) w.1 s
  raiseHedge p h d.tag w.2 (s.onPlot p (fun q => recordAmax d.scaleOut am
    { (q.onFlight i (fun f => { f with drained := f.drained.modify 0 h (· + 1) })) with accs := q.accs.modify [] h List.tail }))

/-- Hedge h drains its oldest finished row group. -/
def hedgeDrain (p h : Nat) (s : State) : State :=
  let q := s.plot p
  match q.accs.get [] h, nextDrain q h with
  | a :: _, some i => drainGroup p h i a s
  | _, _ => s

/-- HEDGE_DRAIN (R46). -/
def execHedgeDrain (p : Fin 64) (h : Fin 4) (s : State) : Host.Outcome State Fault Refusal := .next (hedgeDrain p h s)

/-- HOP (R37): the descriptor is issued; its groups start by ROW_GROUP_START. -/
def execHop (p : Fin 64) (st : Stream) (s : State) : Host.Outcome State Fault Refusal :=
  .next (seqStep p st (fun i s => match i with | .hop off => some (launch p 0 off 64 s) | _ => none) s)

/-- The first operation whose groups have all drained ends, and posts. -/
def hopComplete (p : Nat) (s : State) : State :=
  let q := s.plot p
  match q.flight.findIdx? (fun f => f.kind == 0 && drainedAll f) with
  | none => s
  | some i =>
    let d := hopOf ((q.flight.getD i default).desc)
    descPost d.postEn p d.semPost (s.onPlot p (·.endFlight i))

/-- HOP_COMPLETE (R42). -/
def execHopComplete (p : Fin 64) (s : State) : Host.Outcome State Fault Refusal := .next (hopComplete p s)

/-! ### Weight loads -/

/-- The stored bytes of a weight tensor, block rows packed together (R39). -/
def weightBytes (s : State) (p : Nat) (d : WloadDesc) : List Byte :=
  ((List.range (ceilDiv d.kw d.fmt.blockVals)).map (fun r =>
    storeBytes s p (d.src + r * d.stride) (d.nw * d.fmt.blockBytes))).flatten

/-- WLOAD (R39). -/
def execWload (p : Fin 64) (st : Stream) (s : State) : Host.Outcome State Fault Refusal :=
  .next (seqStep p st (fun i s => match i with | .wload off => some (launch p 1 off 32 s) | _ => none) s)

/-- The WLOAD at index i may write: every earlier HOP that names its half has read its last weight chunk, and every earlier
WLOAD into it is complete (R40). -/
def wloadFree (q : Plot) (i : Nat) (d : WloadDesc) : Bool :=
  !halfLoading q i d.half && (q.flight.take i).all (fun f => f.kind != 0 || (hopOf f.desc).half != d.half || startedAll f)

/-- The first WLOAD that may write fills its half. -/
def wloadComplete (p : Nat) (s : State) : State :=
  let q := s.plot p
  match (List.range q.flight.length).find? (fun i =>
      (q.flight.getD i default).kind == 1 && wloadFree q i (wloadOf (q.flight.getD i default).desc)) with
  | none => s
  | some i =>
    let d := wloadOf (q.flight.getD i default).desc
    let bs := weightBytes s p d
    s.onPlot p (fun q => { (q.endFlight i) with bank := q.bank.set {} d.half ⟨some d.fmt.code, d.kw, d.nw, bs⟩ })

/-- WLOAD_COMPLETE (R40). -/
def execWloadComplete (p : Fin 64) (s : State) : Host.Outcome State Fault Refusal := .next (wloadComplete p s)

/-! ### MASH, semaphores, epochs, FCLR -/

/-- MASH (R54): passed to the queue of four; a full queue stalls the sequencer. -/
def execMash (p : Fin 64) (st : Stream) (s : State) : Host.Outcome State Fault Refusal :=
  .next (seqStep p st (fun i s => match i with
    | .mash m => if (s.plot p).mashQ.length < 4 then some (s.onPlot p (fun q => { q with mashQ := q.mashQ ++ [m] })) else none
    | _ => none) s)

/-- SWAIT (R269). -/
def execSwait (p : Fin 64) (st : Stream) (s : State) : Host.Outcome State Fault Refusal :=
  .next (seqStep p st (fun i s => match i with | .swait n k => semWaitAt p n k s | _ => none) s)

/-- SPOST (R269, R271): a local post, or a message on the withy route; a full queue stalls the sequencer and sets
WITHY_QFULL (R235). -/
def execSpost (p : Fin 64) (st : Stream) (s : State) : Host.Outcome State Fault Refusal :=
  .next (match instrAt s p st with
    | some (.spostRemote rank plot sem d) =>
      if mayIssue s p st then
        match routeTo s rank with
        | some q =>
          if queueFull s q then event 5 4 (0x60 + q) [q, s.sch.step, s.sch.epoch] s
          else advance p st (pushWithy q 3 [semPostWord rank plot sem d] s)
        | none => advance p st s
      else s
    | _ => seqStep p st (fun i s => match i with | .spost n d => some (semPostAt p n d s) | _ => none) s)

/-- EWAIT (R278). -/
def execEwait (p : Fin 64) (st : Stream) (s : State) : Host.Outcome State Fault Refusal :=
  .next (seqStep p st (fun i s => match i with | .ewait e => if epochReached s e then some s else none | _ => none) s)

/-- FCLR (R49): once every hedge operation issued before it has drained, every bit of PLT_HFLAGS is cleared. -/
def execFclr (p : Fin 64) (st : Stream) (s : State) : Host.Outcome State Fault Refusal :=
  .next (seqStep p st (fun i s => match i with
    | .fclr =>
      if (s.plot p).flight.all (fun f => f.kind != 0 || drainedAll f) then some (s.onPlot p (fun q => { q with hflags := 0 })) else none
    | _ => none) s)

/-! ### MOVE -/

/-- The rows of a tensor along dimensions 1 to 4: byte addresses in index order. -/
def tensorRows (t : Tensor5) : List Nat :=
  ((List.range t.e4).map (fun i4 => ((List.range t.e3).map (fun i3 => ((List.range t.e2).map (fun i2 =>
    (List.range t.e1).map (fun i1 => t.row i1 i2 i3 i4))).flatten)).flatten)).flatten

/-- A read handed to the PCIe controller: a free tag of 0 to 767, or a place among those that wait for one (R294). -/
def issueRead (r : HostRead) (s : State) : State :=
  s.onHost (fun h =>
    match (List.range 768).find? (fun i => (h.reads.get none ((h.nextTag + i) % 768)).isNone) with
    | some i => let t := (h.nextTag + i) % 768; { h with reads := h.reads.set none t (some r), nextTag := (t + 1) % 768 }
    | none => { h with reads := h.reads.set none (max 1024 ((h.reads.getLast?.map (·.1 + 1)).getD 1024)) (some r) })

/-- Cuts of a range at multiples of `u` of a bus address that runs beside it: device address, bus address, length. -/
def busPieces (lim : Nat) : Nat → Nat → Nat → Nat → List (Nat × Nat × Nat)
  | 0, _, _, _ => []
  | fuel + 1, a, bus, n =>
    if n = 0 then []
    else
      let k := min (min n lim) (min (4096 - bus % 4096) (0x10000 - a % 0x10000))
      (a, bus, k) :: busPieces lim fuel (a + k) (bus + k) (n - k)

/-- The read requests of one contiguous aperture read of a MOVE (R300): each translated and checked on its own; a refused
one answers zeros at once. -/
def moveRead (p off : Nat) (hint : Hint) (src dst n : Nat) (s : State) : State :=
  State.each (fun x s =>
    match segOf s x.1 with
    | none => devWrite p hint (dst + (x.1 - src)) (zeros x.2) (addrFault p x.1 s)
    | some g =>
      State.each (fun y s =>
        (issueRead ⟨p, dst + (y.1 - src), y.2.2, y.1, hint, off⟩ s).countHost 1 y.2.2)
        (busPieces (mrrsBytes s) (x.2 + 2) x.1 (segTranslate g x.1) x.2) s)
    (requests src n) s

/-- The pieces of a range that lie in poisoned lines. -/
def poisonPieces (s : State) (a n : Nat) : List (Nat × Nat) := (pieces 128 (n / 128 + 2) a n).filter (fun x => poisonedAt s x.1)

/-- One row of a COPY or DCOPY. Only destination lines, or requests to the host, that receive a poisoned byte are marked (R144). The
result tells whether poison was read. -/
def moveRow (p off : Nat) (hs hd : Hint) (src dst n : Nat) (s : State) : State × Bool :=
  if locate src = .aperture then
    if s.host.detached then (devWrite p hd dst (zeros n) (s.onPlot p (fun q => { q with hostLost := true })), false)
    else (moveRead p off hd src dst n s, false)
  else
    let bad := (poisonPieces s src n).map (fun x => (dst + (x.1 - src), x.2))
    let r := devRead p hs src n s
    if locate dst = .aperture then
      (State.each (fun x s => hostWrite p x.1 (slice r.2.1 (x.1 - dst) x.2)
        (r.2.2 && bad.any (fun y => decide (y.1 < x.1 + x.2) && decide (x.1 < y.1 + y.2))) s) (requests dst n) r.1, r.2.2)
    else
      let t := devWrite p hd dst r.2.1 r.1
      (if r.2.2 then State.each (fun y s => poisonRange p y.1 y.2 s) bad t else t, r.2.2)

/-- The rows of a COPY or DCOPY. -/
def moveRows (p off : Nat) (hs hd : Hint) (n : Nat) : List (Nat × Nat) → State → State × Bool
  | [], s => (s, false)
  | (a, b) :: ls, s =>
    let r := moveRow p off hs hd a b n s
    let q := moveRows p off hs hd n ls r.1
    (q.1, r.2 || q.2)

/-- The elements of a TADD MOVE added to their windows under the destination's hint (R140); elements of an integer format are no
input of a tun add (R132) and are dropped. -/
def moveTadd (p : Nat) (src dst : Tensor5) (s : State) : State :=
  let fits := src.fmt.layout.isSome || src.fmt == .mb8
  State.each (fun x s => if fits then tunAddVal dst.hint p (dst.base + 16 * x.1) x.2 s else tunUnfit p (dst.base + 16 * x.1) s)
    (List.zip (List.range src.e0) (src.load s 0 0 0 0 0 src.e0)) s

/-- A MOVE's accesses: the destination of a FLAG MOVE follows the plot's own fence (R301). -/
def moveRun (p off : Nat) (d : MoveDesc) (s : State) : State :=
  let src := tensorOf (storeBytes s p d.src 64)
  let dst := tensorOf (storeBytes s p d.dst 64)
  if d.mode = 1 then moveTadd p src dst s
  else
    let s := if locate dst.base = .aperture && dst.hint = .last then takeFence p s else s
    let r := moveRows p off src.hint dst.hint (src.fmt.bytesFor src.e0) (List.zip (tensorRows src) (tensorRows dst)) s
    if r.2 then unregInv p r.1 else r.1

/-- Host reads of a plot's MOVE still outstanding. -/
def moveReads (s : State) (p off : Nat) : Nat :=
  (s.host.reads.filter (fun kv => match kv.2 with | some r => r.engine == p && r.off == off | none => false)).length

/-- The accesses of the MOVE at flight index i, once its wait is satisfied. -/
def moveStart (p i : Nat) (f : Flight) (s : State) : State :=
  let d := moveOf f.desc
  match flightWait p i d.waitEn d.semWait f s with
  | none => s
  | some t => if f.ready then t else moveRun p f.off d t

/-- MOVE (R140). -/
def execMove (p : Fin 64) (st : Stream) (s : State) : Host.Outcome State Fault Refusal :=
  .next (seqStep p st (fun i s => match i with
    | .move off =>
      let s := launch p 2 off 32 s
      let k := (s.plot p).flight.length - 1
      some (moveStart p k ((s.plot p).flight.getD k default) s)
    | _ => none) s)

/-- The MOVE at flight index i ends when it has run and no read of it is outstanding: its own fence, then its post. -/
def moveEnd (p i : Nat) (f : Flight) (s : State) : State :=
  let d := moveOf f.desc
  if (((s.plot p).flight.getD i default).ready) && moveReads s p f.off == 0 then
    descPost d.postEn p d.semPost (takeFence p (s.onPlot p (·.endFlight i)))
  else s

/-- MOVE_COMPLETE (R140): the first MOVE in flight. -/
def execMoveComplete (p : Fin 64) (s : State) : Host.Outcome State Fault Refusal :=
  .next (match (s.plot p).flight.findIdx? (fun f => f.kind == 2) with
    | none => s
    | some i =>
      let f := (s.plot p).flight.getD i default
      moveEnd p i f (moveStart p i f s))

/-! ### Region checks and replays (R105 to R112) -/

/-- An operation of the region is still in flight or queued. -/
def regionBusy (s : State) (p tag : Nat) : Bool :=
  let q := s.plot p
  q.flight.any (fun f => f.kind == 0 && (hopOf f.desc).tag == tag) ||
    q.mashQ.any (fun m => match m with | .loop off => (loopAt s p off).tag == tag | .root off => (rootAt s p off).tag == tag | .reg _ => false)

/-- The region's flag set. -/
def regionFlags (s : State) (p tag : Nat) : Nat := (s.plot p).regFlags.get 0 tag

/-- A replay log entry (R110); overwriting one not read sets REPLAY_LOG_WRAP, whose entry names the step, plot and TAG of
the new one (R116). -/
def putReplay (e : ReplayEntry) (s : State) : State :=
  let full := decide (4096 ≤ s.sch.replays.length)
  let lost := full && !(s.sch.replays.headD e).read
  let s := s.onSch (fun c => { c with
    replays := (if full then c.replays.tail else c.replays) ++ [e]
    recs := c.recs.modify {} e.step (fun r => { r with replays := r.replays + (if e.to_ = 3 then 0 else 1) }) })
  if lost then event 8 3 e.plot [e.step, e.plot, e.tag] s else s

/-- The micro-batch index of the running step for the log: the place of the epoch in the PLAN, the only index the module
holds (DESIGN CHOICE, log 11). -/
def microIndex (s : State) : Nat := s.sch.planIdx % 256

/-- The region starts or restarts: its flags and passing amounts cleared (R105). -/
def clearRegion (tag : Nat) (q : Plot) : Plot :=
  { q with regFlags := q.regFlags.erase tag, regAmax := q.regAmax.erase tag, passOne := false, scopeAmax := none }

/-- A plot goes on at an instruction with no replay and no check. -/
def resumeAt (p pc : Nat) (tag : Nat) (s : State) : State :=
  settle p .primary ((progOf s p .primary).length + 1) (s.onPlot p (fun q => { clearRegion tag q with pcP := pc, replay := none, check := none }))

/-- Plot clocks since the check was first reached. -/
def checkClocks (s : State) (c : Check) : Nat := s.sch.clocks - c.since

/-- The number under which the log keeps a region's scope: its SCOPE_TALLY, or one of the plot's own. -/
def scopeNo (g : RegionDef) : Nat := if g.scopeEn then g.scopeTally else 256 + g.plot

/-- The module has already logged the outcome of this check: the plots of a scope take one outcome, which enters the log
and the non-finite count once (R106, R110; log 12). -/
def outcomeNoted (s : State) (g : RegionDef) (c : Check) : Bool :=
  s.sch.replays.any (fun e => e.step == s.sch.step && e.tag == g.tag && e.from_ == c.level && e.scope == scopeNo g)

/-- The module's regions that take part in a check: the scope's, or the region alone. -/
def checkMates (s : State) (g : RegionDef) : List RegionDef := if g.scopeEn then scopeMates s g else [g]

/-- The lowest plot of the module whose flags for the region are set; the lowest of the scope when only another module's are
(DESIGN CHOICE, log 12). -/
def flaggedPlot (s : State) (p : Nat) (g : RegionDef) : Nat :=
  let ps := (checkMates s g).map RegionDef.plot
  let fl := ps.filter (fun r => regionFlags s r g.tag != 0)
  ((if fl.isEmpty then ps else fl).min?).getD p

/-- An outcome other than to continue: its replay log entry, and, when it counts, one non-finite event of the module with
its entry (R110, R113, R116). CLOCKS of a replay is filled in when it ends. -/
def noteOutcome (p : Nat) (g : RegionDef) (c : Check) (to_ F : Nat) (sup : Bool) (s : State) : State :=
  if outcomeNoted s g c then s
  else
    let k := if to_ = 3 then checkClocks s c else 0
    let t := putReplay ⟨s.sch.step, g.tag, flaggedPlot s p g, c.level, to_, F, sup, microIndex s, k, scopeNo g, false⟩ s
    if to_ = 3 then event 8 0 p [s.sch.step, p, g.tag] (t.onSch (fun c => { c with events := c.events + 1 })) else t

/-- The replay allowance A of the active bundle, in ps (R111). -/
def replayAllowance (s : State) : Nat := s.sch.allow

/-- A replay of plot p ends at a check: CLOCKS of its log entry on the reporting plot, from the check that started it to now
(R110), and its run time added to the plot's of the step; more than A sets REPLAY_OVER (R112). -/
def endReplay (p : Nat) (g : RegionDef) (s : State) : State :=
  match (s.plot p).replay with
  | none => s
  | some r =>
    let now := s.sch.clocks
    let s := s.onSch (fun c => { c with replays := c.replays.map (fun e =>
      if e.step == c.step && e.tag == r.tag && e.to_ == r.level && e.scope == scopeNo g && e.plot == p then { e with clocks := now - r.check } else e) })
    let s := s.onPlot p (fun q => { q with replayClocks := q.replayClocks + (now - r.start) })
    if replayAllowance s < ceilDiv ((s.plot p).replayClocks * 1000000) (plotMhz s.sch.profile) then event 8 2 p [s.sch.step, p, r.tag] s else s

/-- A widening replay of region g begins on plot p (R107): its flags cleared, its program entered. -/
def startReplay (p : Nat) (g : RegionDef) (c : Check) (to_ : Nat) (s : State) : State :=
  s.onPlot p (fun q => { clearRegion g.tag q with
    pcP := if to_ = 1 then g.wide16 else g.wide32
    replay := some ⟨if to_ = 1 then g.end16 else g.end32, g.tag, to_, c.since, s.sch.clocks⟩
    check := none
    regLevel := q.regLevel.set 0 g.tag to_ })

/-- The outcome of Table 05.6 for plot p, whose check is c of region g, under combined flags F' (bits NAN, OVF, SAT, INV,
DZ) and the module's non-finite count n. -/
def decideScope (p : Nat) (g : RegionDef) (c : Check) (F n : Nat) (s : State) : State :=
  let range := natBit 1 F || natBit 2 F
  let s := endReplay p g s
  if F % 32 = 0 then resumeAt p (if (s.plot p).replay.isSome then g.resumePc else g.checkPc + 1) g.tag s
  else if range && decide (c.level < 2) && n == 0 then startReplay p g c (c.level + 1) (noteOutcome p g c (c.level + 1) F false s)
  else if range && decide (c.level < 2) then resumeAt p g.resumePc g.tag (noteOutcome p g c 3 F true s)
  else resumeAt p g.resumePc g.tag (noteOutcome p g c 3 F false s)

/-- Plot p's flags and passing amax reported to its scope (R106). -/
def reportFlags (p : Nat) (g : RegionDef) (s : State) : State :=
  let F := regionFlags s p g.tag
  let A := (s.plot p).regAmax.get 0 g.tag
  scopeArrive false g (s.onScope (scopeKey g) (fun x => { x with flagged := x.flagged ++ [p], flags := x.flags ||| F, amax := max x.amax A }))

/-- REGION_CHECK (R106): the plot stops at the check; once the region's operations have drained it reports its flags, or,
when the scope is this plot alone, decides. A report whose module's arrival is still owed makes it now. -/
def execRegionCheck (p : Fin 64) (s : State) : Host.Outcome State Fault Refusal :=
  .next (if !issues s || (s.plot p).stopped then s
    else
      match checkAt s p with
      | none => s
      | some (g, level) =>
        let c := (s.plot p).check.getD ⟨g.tag, level, s.sch.clocks, false⟩
        let s := s.onPlot p (fun q => { q with check := some c })
        if regionBusy s p g.tag then s
        else if g.scopeEn then
          if (s.scope g).doneF then s
          else if c.reported then scopeArrive true g s
          else reportFlags p g (s.onPlot p (fun q => { q with check := some { c with reported := true } }))
        else decideScope p g c (regionFlags s p g.tag) s.sch.events s)

/-- Plot p has acted on its scope's combination; when every plot of the module has, what was gathered goes, the flags' with the
whole record and a pass's alone. -/
def actedOn (p : Nat) (g : RegionDef) (s : State) : State :=
  let k := scopeKey g
  let s := s.onScope k (fun x => { x with acted := x.acted ++ [p] })
  if allMates s g (s.scope g).acted then
    s.onScope k (fun x => if x.doneF then {} else { x with passed := [], amax := 0, doneA := false, acted := [] })
  else s

/-- SCOPE_DECISION (R106, R108): the scope's combined flags, once they are whole, reach a plot that has reported, and every
member takes the same row of Table 05.6; or its combined amax reaches a replay's PRESENT loop that waits for it, and every
member slot takes the same K. -/
def execScopeDecision (p : Fin 64) (s : State) : Host.Outcome State Fault Refusal :=
  let q := s.plot p
  .next (match q.check with
    | some c =>
      match c.reported, regionOf s p c.tag with
      | true, some g =>
        let x := s.scope g
        if x.doneF && !x.acted.contains p.val then actedOn p g (decideScope p g c x.flags x.events s) else s
      | _, _ => s
    | none =>
      match replayRegion s p with
      | some g =>
        let x := s.scope g
        if q.passOne && x.doneA && !x.acted.contains p.val then
          actedOn p g (s.onPlot p (fun q => { q with scopeAmax := some x.amax }))
        else s
      | none => s)

/-! ### The end of a step's operations (R52, R56) -/

/-- Row groups and operations a plot still has to finish: more rounds than this change nothing. -/
def roundsLeft (q : Plot) : Nat :=
  if q.flight.isEmpty && q.mashQ.isEmpty then 0
  else (q.flight.map (fun f => if f.kind = 0 then rowGroups (hopOf f.desc) + 2 else 1)).sum + q.mashQ.length + 2

/-- One round of what runs by itself: row groups start and drain, operations and weight loads complete, and the Mash engine takes
its next entry. -/
def plotRound (p : Nat) (s : State) : State :=
  let s := State.each (fun h s => hedgeDrain p h (rowGroupStart p h s)) (List.range 4) s
  mashHead p (hopComplete p (wloadComplete p s))

/-- Hedge operations, weight loads and Mash entries issued in the step complete before the boundary (R52, R56); what still waits
for something that never came is abandoned with the program (R340; DEDUCED, log 88). MOVEs go on. -/
def finishPlot (p : Nat) (s : State) : State :=
  let s := (List.range (roundsLeft (s.plot p))).foldl (fun s _ => plotRound p s) s
  s.onPlot p (fun q => { q with flight := q.flight.filter (fun f => f.kind == 2), accs := [], mashQ := [], passOne := false, scopeAmax := none })

end Sys2Proof.Machine
end

