-- ==== Sys2Proof/Machine/Service.lean ====
section
/-! DEFINITION. Service in place: taking memory out, bringing it back, recalibration (R361 to R368). -/

namespace Sys2Proof.Machine

/-- The tally number under which a service command waits for pinned ways; 64 and above are no tallies. -/
def serviceFid : Nat := 66

/-- A service command is in progress (R361). -/
def serviceBusy (s : State) : Bool := (List.range 64).any (fun m => match (s.mbx m).coord with | some k => k.fid == serviceFid | none => false)

/-- What every service command is refused for before its own checks. -/
def serviceGate (s : State) (k : CmdOut) : CmdOut :=
  if serviceBusy s then refuse .busy s else if s.mst.mode == .shuttingDown then refuse .refusedMode s else k

/-- A used frame (R362): of an object, a bundle partition, the cellar bundle area or the Kiln metadata region. -/
def usedFrame (s : State) (cellar : Bool) (f : Nat) : Bool :=
  let a := frameAddr cellar f
  allocatedAt s a || (if cellar then inPart s 6 a 65536 || decide (cellarEnd ≤ a) else inPart s 2 a 65536 || inPart s 3 a 65536 || inPart s 4 a 65536)

/-- A granary store way. -/
def wayFrame (s : State) (f : Nat) : Bool := inPart s 0 (wayAddr f) 65536

/-- Targets for n used frames (R362): unallocated frames outside the set, highest first, then, in HBM, granary store ways on
other channels that no step has pinned, highest first. -/
def serviceTargets (s : State) (cellar : Bool) (chs : List Nat) (n : Nat) : List Nat :=
  let out (f : Nat) : Bool := !chs.contains (frameChannel s cellar f) && !channelDown s (frameChannel s cellar f)
  let a := framesDown (fun f => freeFrame s cellar f && out f) (tierFrames cellar) n
  if cellar || decide (n ≤ a.length) then a
  else a ++ framesDown (fun f => wayFrame s f && out f && !s.grn.ways.get false f && (dirEntry s f).pin == 0) (tierFrames false) (n - a.length)

/-- The largest R_mig in MB/s under which every deadline holds, or the shortfall at the smallest (R363). -/
def migrationRate (s : State) (hbm cel : Nat) : Nat × Nat :=
  match s.sch.active with
  | none => (40000, 0)
  | some b =>
    let down (lo hi : Nat) : Nat := ((List.range (hi - lo)).filter (fun c => channelDown s (lo + c))).length
    let env (r : Nat) : TimeEnv := ⟨b, viewState s b, s.sch.profile, linkRate s, s.host.hostLat, down 0 128 + hbm, down 128 384 + cel, r⟩
    match [40000, 20000, 10000, 5000, 2000].find? (fun r => shortfall (env r) == 0) with
    | some r => (r, 0)
    | none => (0, shortfall (env 2000))

/-- A way withdrawn: emptied, its address refused from now on (R365). -/
def withdrawWay (e : Nat) (s : State) : State := (emptyWay e s).onMem (fun m => { m with withdrawn := m.withdrawn.set false e true })

/-- Ways never chosen again; those that are not pinned are withdrawn. -/
def withdrawWays (es : List Nat) (s : State) : State :=
  let s := s.onGrn (fun g => { g with ways := es.foldl (fun t e => t.set false e true) g.ways })
  State.each (fun e s => if (dirEntry s e).pin = 0 then withdrawWay e s else s) es s

/-- Frames withdrawn where they stand. -/
def withdrawFrames (cellar : Bool) (fs : List Nat) : State → State :=
  State.onMem (fun m => { m with withdrawn := fs.foldl (fun t f => t.set false (frameAddr cellar f / 65536) true) m.withdrawn })

/-- A frame holds a poisoned line or block, or lies on a lost die. -/
def framePoisoned (s : State) (cellar : Bool) (f : Nat) : Bool :=
  let a := frameAddr cellar f
  if cellar then (List.range 128).any (fun i => poisonedAt s (a + 512 * i)) else (List.range 512).any (fun i => poisonedAt s (a + 128 * i))

/-- A lost die's frame is written poisoned to its target (R366), each block with its entry (R144). -/
def poisonFrame (cellar : Bool) (f : Nat) : State → State :=
  State.each (fun i => poisonLine reqMaltster (frameAddr cellar f + 512 * i)) (List.range 128)

/-- The migration of a set of channels (R362 to R366). -/
def migrate (cellar : Bool) (used targets ways unused : List Nat) (lost : Bool) (s : State) : State :=
  let bad := used.filter (framePoisoned s cellar)
  let objs := (objList s).filter (fun o => bad.any (fun f => decide (o.2.base ≤ frameAddr cellar f) && decide (frameAddr cellar f < o.2.base + o.2.size)))
  let s := if lost then State.each (poisonFrame cellar) used s else s
  let s := if bad.isEmpty then s
    else if objs.isEmpty then event 14 2 0x72 [bad.length] s
    else State.each (fun o s => event 14 2 0x72 [o.1, o.2.base] s) objs s
  let s := withdrawWays ways s
  let taken := if cellar then [] else targets.filter (wayFrame s)
  let s := withdrawWays taken s
  let moved := (used ++ targets).map (fun f => frameAddr cellar f / 65536)
  let s := flushFrames (fun u => moved.contains u) s
  let s := s.onMem (swapAll cellar (List.zip used targets))
  withdrawFrames cellar (targets.filter (fun f => !taken.contains f) ++ unused) s

/-- Ways still to be withdrawn. -/
def waysLeft (s : State) : List Nat := (s.grn.ways.filter (fun kv => !s.mem.withdrawn.get false kv.1)).map (·.1)

/-- A service command's channels go out and its response is written. -/
def serviceDone (c : Cmd) (s : State) : State :=
  let moved := c.arg
  let s := if c.op = 0x0703 then
      event 14 0 (if c.at_ 0 2 < 128 then 0x100 + c.at_ 0 2 else 0x200 + (c.at_ 0 2 - 128)) [c.at_ 0 2]
        (s.onMem (fun m => { m with chOut := m.chOut.set false (c.at_ 0 2) true }))
    else event 14 1 (0x5C + c.at_ 0 1) [c.at_ 0 1] (s.onMem (fun m => { m with dieOut := m.dieOut.set false (c.at_ 0 1) true }))
  let chs := if c.op = 0x0703 then [c.at_ 0 2] else (List.range 64).map (fun i => 128 + 64 * c.at_ 0 1 + i)
  let s := { s with flash := { s.flash with recal := chs.foldl (fun t ch => t.set false ch false) s.flash.recal } }
  respond c { status := .ok, inline := moved } s

/-- CHANNEL_OUT and CELLAR_OUT on a set of channels. -/
def takeOut (c : Cmd) (chs : List Nat) (lost : Bool) (s : State) : CmdOut :=
  let cel := decide (128 ≤ chs.headD 0)
  let fs := framesOn s cel chs
  let used := fs.filter (usedFrame s cel)
  let ways := if cel then [] else fs.filter (wayFrame s)
  let unused := fs.filter (fun f => !usedFrame s cel f && (cel || !wayFrame s f) && !s.mem.withdrawn.get false (frameAddr cel f / 65536))
  let targets := serviceTargets s cel chs used.length
  let r := migrationRate s (if cel then 0 else chs.length) (if cel then chs.length else 0)
  let t := migrate cel used targets ways unused lost s
  if targets.length < used.length || decide (replacementLimit < replacements t cel) then refuse .refusedCapacity s
  else if r.1 = 0 then refuse .refusedDeadline s r.2
  else
    let s := t
    let c := { c with arg := leBytes 8 used.length }
    if (waysLeft s).isEmpty then .pend (serviceDone c s)
    else .pend (s.onMbx c.m (fun b => { b with coord := some ⟨serviceFid, c.slot, c.arg⟩ }))

/-- CHANNEL_OUT. -/
def execChannelOut (m : Fin 64) (s : State) : Host.Outcome State Fault Refusal :=
  .next (serveOp 0x0703 { fields := [(0, 2)] } m (fun c s => serviceGate s (
    if 384 ≤ c.at_ 0 2 then refuse .notPresent s
    else if channelDown s (c.at_ 0 2) then refuse .refusedMode s
    else takeOut c [c.at_ 0 2] false s)) s)

/-- CELLAR_OUT: the die's 64 channels (R117). -/
def execCellarOut (m : Fin 64) (s : State) : Host.Outcome State Fault Refusal :=
  .next (serveOp 0x0705 { fields := [(0, 1)] } m (fun c s => serviceGate s (
    let d := c.at_ 0 1
    if 4 ≤ d then refuse .notPresent s
    else if s.mem.dieOut.get false d then refuse .refusedMode s
    else takeOut c ((List.range 64).map (fun i => 128 + 64 * d + i)) (s.mem.dieLost.get false d) s)) s)

/-- At a boundary, ways whose pins have cleared are withdrawn, and a service command that waited for them ends (R365). -/
def serviceBoundary (s : State) : State :=
  let s := State.each (fun e s => if (dirEntry s e).pin = 0 then withdrawWay e s else s) (waysLeft s) s
  if (waysLeft s).isEmpty then
    State.each (fun m s => match (s.mbx m).coord, heldCmd s m with
      | some k, some c => if k.fid = serviceFid then serviceDone c s else s
      | _, _ => s) (List.range 64) s
  else s

/-- Channels back in service: written to zero, their withdrawn addresses rejoin capacity, their ways INVALID (R367). -/
def bringIn (chs : List Nat) (s : State) : State :=
  let back (a : Nat) : Bool := match locate a with
    | .hbm => chs.contains (channelOf s a)
    | .cellar => chs.contains (channelOf s a) || chs.contains (entryChannel s a)
    | _ => false
  let fs := (s.mem.withdrawn.map (·.1)).filter (fun k => back (k * 65536))
  let s := s.onMem (fun m => zeroWhere (fun a => fs.contains (a / 65536)) { m with withdrawn := fs.foldl (fun t k => t.set false k false) m.withdrawn })
  s.onGrn (fun g => { g with ways := fs.foldl (fun t k => t.set false k false) g.ways
                             dir := fs.foldl (fun t k => if k < 4194304 then t.set {} k {} else t) g.dir })

/-- The sensor whose temperature is stored with a channel's or a link's calibration (Table 14.7). -/
def calibSensor (i : Nat) : Nat := if i < 128 then 96 + i / 16 else if i < 384 then 108 + (i - 128) / 8 else 104 + (i - 384)

/-- A channel or link trained: its trained values stored in flash with their temperature (R148). -/
def train (i : Nat) (s : State) : State :=
  let t := (s.hk.sensors.get {} (calibSensor i)).value
  { s with flash := { s.flash with calib := s.flash.calib.set 0 i ((t + 2 ^ 31).toNat)
                                   trained := s.flash.trained.set 0 i (Config.trainedWord i s.flash.trainings)
                                   trainings := s.flash.trainings + 1 } }

/-- Trained by RECALIBRATE: CHANNEL_IN and CELLAR_IN then use these values (R367). -/
def retrain (i : Nat) (s : State) : State :=
  let s := train i s
  { s with flash := { s.flash with recal := s.flash.recal.set false i true } }

/-- TRAIN_FAIL of the channel's tier: it failed training or a calibration check (R145, R148). -/
def trainFail (src ch : Nat) : State → State := event (if ch < 128 then 2 else 3) 3 src [ch]

/-- The channels trained as they come back: those that no RECALIBRATE trained since they went out (R367). -/
def trainBack (chs : List Nat) (s : State) : State :=
  State.each (fun ch s => if s.flash.recal.get false ch then s else train ch s) chs (takeUp .phy s)

/-- A CHANNEL_IN or CELLAR_IN that fails: its sticky bit, INTERRUPTED, the failing channel in DETAIL. -/
def inFails (bad : ServiceFail) (s : State) : CmdOut :=
  let src (ch : Nat) : Nat := if ch < 128 then 0x100 + ch else 0x200 + (ch - 128)
  match bad with
  | .training ch => .reply { status := .interrupted, detail := ch } (event 14 3 (src ch) [ch] (trainFail (src ch) ch s))
  | .coppice ch => .reply { status := .interrupted, detail := ch } (event 14 5 (src ch) [ch] s)
  | .check ch => .reply { status := .interrupted, detail := ch } (event 14 3 (src ch) [ch] (trainFail (src ch) ch s))

/-- CHANNEL_IN. A channel whose die is out, and so powered down (R366), cannot be trained (DEDUCED, log 22). -/
def execChannelIn (m : Fin 64) (bad : Option ServiceFail) (s : State) : Host.Outcome State Fault Refusal :=
  .next (serveOp 0x0704 { fields := [(0, 2)] } m (fun c s => serviceGate s (
    let ch := c.at_ 0 2
    if 384 ≤ ch then refuse .notPresent s
    else if !s.mem.chOut.get false ch then refuse .refusedMode s
    else
      match (if decide (128 ≤ ch) && s.mem.dieOut.get false ((ch - 128) / 64) then some (ServiceFail.training ch) else bad) with
      | some b => inFails b s
      | none => okWith [] (bringIn [ch] ((trainBack [ch] s).onMem (fun m => { m with chOut := m.chOut.set false ch false }))))) s)

/-- CELLAR_IN: the die, its packages and its link come back; a channel taken out on its own stays out. -/
def execCellarIn (m : Fin 64) (bad : Option ServiceFail) (s : State) : Host.Outcome State Fault Refusal :=
  .next (serveOp 0x0706 { fields := [(0, 1)] } m (fun c s => serviceGate s (
    let d := c.at_ 0 1
    if 4 ≤ d then refuse .notPresent s
    else if !s.mem.dieOut.get false d then refuse .refusedMode s
    else
      match bad with
      | some b => inFails b s
      | none =>
        let u := s.onMem (fun m => { m with dieOut := m.dieOut.set false d false, dieLost := m.dieLost.set false d false })
        let chs := ((List.range 64).map (fun i => 128 + 64 * d + i)).filter (fun ch => !u.mem.chOut.get false ch)
        okWith [] (bringIn chs (trainBack ((384 + d) :: chs) u)))) s)

/-- RECALIBRATE: each named channel and link; a failure leaves its stored calibration unchanged and the command completes with
OK (DEDUCED, log 22). -/
def execRecalibrate (m : Fin 64) (failed : List Nat) (s : State) : Host.Outcome State Fault Refusal :=
  .next (serveOp 0x0707 { fields := [(0, 49)] } m (fun c s => serviceGate s (
    let chs := hoppersOf (c.at_ 0 48)
    let ls := (List.range 4).filter (fun d => natBit d (c.at_ 48 1))
    if 16 ≤ c.at_ 48 1 then badField 48 s
    else if s.hasBundle && (chs.any (fun ch => !channelDown s ch) || ls.any (fun d => !s.mem.dieOut.get false d)) then refuse .refusedMode s
    else
      okWith [] (State.each (fun i s =>
        if failed.contains i then event 14 4 (if i < 128 then 0x100 + i else if i < 384 then 0x200 + (i - 128) else 0x58 + (i - 384)) [i] s
        else retrain i s) (chs ++ ls.map (· + 384)) (takeUp .phy s)))) s)

end Sys2Proof.Machine
end

