-- ==== Sys2Proof/Machine/Telemetry.lean ====
section
/-! DEFINITION. Device and telemetry commands: information, status, profile, park, sensors, counters, the event log, the
sticky record, Coppice results and idle counters (13 Tables 13.8, 13.15; R327, R346, R375 to R380). -/

namespace Sys2Proof.Machine

/-! ### GET_INFO and GET_STATUS -/

/-- GiB in service: 4 per HBM channel, 8 per cellar channel (R362). -/
def gibInService (s : State) (cellar : Bool) : Nat :=
  if cellar then 2048 - 8 * ((List.range 256).filter (fun c => channelDown s (128 + c))).length
  else 512 - 4 * ((List.range 128).filter (fun c => channelDown s c)).length

/-- GET_INFO. -/
def execGetInfo (m : Fin 64) (s : State) : Host.Outcome State Fault Refusal :=
  .next (serveOp 0x0101 {} m (fun _ s => okWith
    (leBytes 8 s.fuses.serial ++ leBytes 1 s.fuses.stepping ++ leBytes 1 (b2n s.fw.slotB) ++ leBytes 1 (b2n s.mst.coreB) ++ zeros 1
      ++ ((List.range 4).map (fun i => leBytes 4 (s.fw.ifvers.getD i 0))).flatten
      ++ leBytes 4 (gibInService s false) ++ leBytes 4 (gibInService s true)
      ++ leBytes 8 ((s.sch.active.map (fun b => b.hdr.scheduleId)).getD 0) ++ leBytes 2 s.rank) s) s)

/-- Inlet temperature in 0.01 degree (sensor 148 of Table 14.7); a failed sensor has none: a free value. -/
def inletTemp (s : State) : Nat × State :=
  let x := s.hk.sensors.get {} 148
  if x.failed then s.takeFree 16 else (intBits 16 (Int.fdiv x.value 10), s)

/-- GET_STATUS. -/
def execGetStatus (m : Fin 64) (s : State) : Host.Outcome State Fault Refusal :=
  .next (serveOp 0x0102 {} m (fun _ s =>
    let t := inletTemp s
    okWith (leBytes 8 (stmMode s) ++ leBytes 8 (stmSupply s) ++ leBytes 4 s.sch.step ++ leBytes 1 s.sch.profile
      ++ leBytes 1 (b2n s.sch.staged.isSome + 2 * b2n s.hasBundle) ++ leBytes 2 (stickySummary s) ++ leBytes 2 t.1) t.2) s)

/-! ### SET_PROFILE and PARK -/

/-- SET_PROFILE: boundary bound; a profile slower than the active bundle's is refused (R267). -/
def execSetProfile (m : Fin 64) (s : State) : Host.Outcome State Fault Refusal :=
  .next (serveOp 0x0103 { fields := [(0, 1)] } m (fun c s =>
    let n := c.at_ 0 1
    if 2 < n then badField 0 s
    else if s.hasBundle && decide (s.bhdr.profile < n) then refuse .refusedDeadline s
    else .reply { status := .ok, step := some (boundStep s) } (latch false (.profile n) s)) s)

/-- PARK accepted (R327): at the next boundary, at once with no bundle active; it cancels an UNPARK still pending. -/
def parkAccepted (s : State) : State :=
  let t := dropUnpark (s.onMst (fun m => { m with unparkPending := false }))
  match t.mst.mode with
  | .running => t.onMst (fun m => { m with parkPending := true, parkWhy := 1 })
  | .ready => t.onMst (fun m => { m with mode := .parked, parkCause := 1 })
  | .hold =>
    if t.mst.heldFrom == .running then t.onMst (fun m => { m with parkPending := true, parkWhy := 1 })
    else if t.mst.heldFrom == .ready then t.onMst (fun m => { m with heldFrom := .parked, parkCause := 1 })
    else t
  | _ => t

/-- PARK. -/
def execPark (m : Fin 64) (s : State) : Host.Outcome State Fault Refusal :=
  .next (serveOp 0x0104 {} m (fun _ s =>
    if s.mst.mode == .shuttingDown then refuse .refusedMode s
    else .reply { status := .ok, step := some (boundStep s) } (parkAccepted s)) s)

/-! ### Sensors (R346) -/

/-- The sensors of Table 14.7. -/
def sensorList : List Nat := List.range 22 ++ (List.range 134).map (· + 32)

/-- A sensor's kind. -/
def sensorKind (i : Nat) : Nat := if i < 32 then i % 2 else 2

/-- A sensor that reads 0x8000_0000: failed, or an optics sensor with no optics. -/
def sensorVoid (s : State) (i : Nat) : Bool :=
  (s.hk.sensors.get {} i).failed || (decide (150 ≤ i) && !(s.port (i - 150)).present)

/-- A sensor's record. -/
def sensorRecord (s : State) (i : Nat) : List Byte :=
  let x := s.hk.sensors.get {} i
  leBytes 2 i ++ leBytes 1 (sensorKind i) ++ zeros 1 ++ leBytes 4 (if sensorVoid s i then 0x80000000 else intBits 32 x.value)
    ++ leBytes 4 (intBits 32 x.lo) ++ leBytes 4 (intBits 32 x.hi)

/-- Minimum and maximum begin again. -/
def resetExtremes (i : Nat) : State → State :=
  State.onHk (fun h => { h with sensors := h.sensors.modify {} i (fun x => { x with lo := x.value, hi := x.value, seen := false }) })

/-- SENSORS_READ. -/
def execSensorsRead (m : Fin 64) (s : State) : Host.Outcome State Fault Refusal :=
  .next (serveOp 0x0801 { hasRes := true } m (fun c s =>
    if !fits c (16 * sensorList.length) then tooSmall s
    else
      .reply { status := .ok, inline := leBytes 2 sensorList.length, res := (sensorList.map (sensorRecord s)).flatten }
        (State.each resetExtremes sensorList s)) s)

/-! ### Counters (R380) -/

/-- PLT_SCALE_s (Table 05.1). -/
def slotWord0 (t : Slot) : Nat :=
  intBits 8 t.k + 2 ^ 8 * t.mode + 2 ^ 10 * t.nwin + 2 ^ 16 * t.tfmt + 2 ^ 20 * t.margin + 2 ^ 23 * b2n t.ovr
    + 2 ^ 24 * b2n t.clamp + 2 ^ 25 * b2n t.gap

/-- PLT_SCALE_AMAX_s (Table 05.2). -/
def slotWord1 (t : Slot) : Nat := intBits 16 t.amax + 2 ^ 16 * t.group

/-- PLT_SEM_s (Table 11.5). -/
def semWord (x : Sem) : Nat := x.value + 2 ^ 16 * x.cls + 2 ^ 19 * b2n x.assigned

/-- MLT_TUN_REGION_n in two words, and MLT_TUN_COUNT_n (Tables 06.6, 06.7). -/
def tunWords (r : TunRegion) : List Nat :=
  [r.base, r.fin + 2 ^ 44 * intBits 8 r.x + 2 ^ 52 * b2n r.en + 2 ^ 53 * b2n r.int32, r.satAdds + 2 ^ 24 * r.lowAdds]

/-- The first n values of a counter table. -/
def firstOf (t : Tab Nat) (n : Nat) : List Nat := t.getMany 0 0 n

/-- The terms of the contribution books of the last boundary, summed over the groups (DESIGN CHOICE, log 39: R380 gives no layout). -/
def bookTotals (s : State) : List Nat :=
  (List.range 9).map (fun i => ((s.ltr.lastBooks.filter (fun kv => kv.1 % 16 == i)).map (·.2)).sum)

/-- The values of a block of COUNTERS_READ, or how an index or a block is refused. -/
def counterBlock (s : State) (b i : Nat) : Except (Status × Nat) (List Nat) :=
  let inRange (n : Nat) (vs : List Nat) : Except (Status × Nat) (List Nat) := if i < n then .ok vs else .error (.badArgument, 36)
  let q := s.plot i
  if b = 0 then inRange 64 (firstOf q.hc 20 ++ [hflagsWord q])
  else if b = 1 then inRange 64 (firstOf q.mc 5 ++ [mflagsWord q])
  else if b = 2 then inRange 64 ((List.range 64).map (fun n => [slotWord0 (q.slot n), slotWord1 (q.slot n)])).flatten
  else if b = 3 then inRange 64 ((List.range 48).map (fun n => semWord (q.sems.get {} n)))
  else if b = 4 then inRange 64 (firstOf q.ic 9)
  else if b = 5 then (if 8 ≤ i ∧ i < 12 then .ok (s.mem.kiln.getMany 0 (8 * (i - 8)) 6) else .error (.badArgument, 36))
  else if b = 6 then inRange 256 (tunWords (s.mem.tun.get {} i))
  else if b = 7 then (if i < 16 then .ok (firstOf (s.port i).counts 17) else .error (.notPresent, 0))
  else if b = 8 then .ok (hrwSynt s :: (List.range 256).map (tallyReg s))
  else if b = 9 then inRange 64 (s.ltr.counts.getMany 0 (16 * i) 11)
  else if b = 10 then .ok (firstOf s.csk.counts 10 ++ caskGauges s)
  else if b = 11 then .ok (firstOf s.host.counts 11)
  else if b = 12 then .ok (bookTotals s)
  else .error (.badArgument, 32)

/-- COUNTERS_READ. -/
def execCountersRead (m : Fin 64) (s : State) : Host.Outcome State Fault Refusal :=
  .next (serveOp 0x0802 { fields := [(0, 4), (4, 4)], hasRes := true } m (fun c s =>
    match counterBlock s (c.at_ 0 4) (c.at_ 4 4) with
    | .error e => refuse e.1 s e.2
    | .ok vs =>
      if !fits c (8 * vs.length) then tooSmall s
      else .reply { status := .ok, inline := leBytes 4 vs.length, res := (vs.map (leBytes 8)).flatten } s) s)

/-- IDLE_BY_CAUSE. -/
def execIdleByCause (m : Fin 64) (s : State) : Host.Outcome State Fault Refusal :=
  .next (serveOp 0x0806 { fields := [(0, 8)], hasRes := true } m (fun c s =>
    let ps := (List.range 64).filter (fun p => natBit p (c.at_ 0 8))
    if !fits c (72 * ps.length) then tooSmall s
    else .reply { status := .ok, res := (ps.map (fun p => ((firstOf (s.plot p).ic 9).map (leBytes 8)).flatten)).flatten } s) s)

/-! ### The event log and the sticky record (R376 to R379) -/

/-- An entry's 48 bytes (Table 15.9). -/
def LogEntry.bytes (e : LogEntry) : List Byte :=
  leBytes 4 e.seq ++ leBytes 2 e.rep ++ leBytes 1 e.group ++ leBytes 1 e.bit ++ leBytes 2 e.source ++ zeros 2 ++ leBytes 4 e.step
    ++ leBytes 8 e.time ++ padTo 24 e.data

/-- Entries before the one whose SEQ is FIRST; none when FIRST is older than the oldest. -/
def logSkip (s : State) (first : Nat) : Nat :=
  match s.hk.log.head? with
  | none => 0
  | some e =>
    let d := (first + 2 ^ 32 - e.seq) % 2 ^ 32
    if d < 2 ^ 31 then d else 0

/-- Entries k to k + n − 1 marked read. -/
def markRead (k n : Nat) : State → State :=
  State.onHk (fun h => { h with log := h.log.take k ++ ((h.log.drop k).take n).map (fun e => { e with read := true }) ++ h.log.drop (k + n) })

/-- ERRLOG_READ: as many whole entries as fit, oldest first. -/
def execErrlogRead (m : Fin 64) (s : State) : Host.Outcome State Fault Refusal :=
  .next (serveOp 0x0803 { fields := [(0, 4), (4, 4)], hasRes := true } m (fun c s =>
    let n := c.at_ 4 4
    if n = 0 || decide (1024 < n) then badField 4 s
    else
      let k := logSkip s (c.at_ 0 4)
      let es := (s.hk.log.drop k).take (min n (c.resLen / 48))
      .reply { status := .ok, inline := leBytes 4 es.length, res := (es.map LogEntry.bytes).flatten } (markRead k es.length s)) s)

/-- STICKY_CLEAR (R11). -/
def execStickyClear (m : Fin 64) (s : State) : Host.Outcome State Fault Refusal :=
  .next (serveOp 0x0804 { fields := [(0, 64)] } m (fun c s =>
    let t := State.each (fun g => clearSticky g (c.at_ (4 * g) 4)) (List.range 16) s
    okWith ((List.range 16).map (fun g => leBytes 4 (stickyGroup t g))).flatten t) s)

/-! ### COPPICE_RESULTS (R375) -/

/-- The blocks of Table 15.2 that the Coppice test covers, ascending. -/
def coppiceBlocks : List Nat :=
  List.range 0x4C ++ (List.range 16).map (· + 0x50) ++ (List.range 16).map (· + 0x60) ++ (List.range 11).map (· + 0x70)
    ++ (List.range 128).map (· + 0x100) ++ (List.range 256).map (· + 0x200)

/-- A block's stored record; a block never tested reads NOT_RUN (DESIGN CHOICE, log 40). -/
def copRecord (s : State) (b : Nat) : CopResult := (s.flash.coppice.get none b).getD ⟨0, 2, 0, 0, 0, 0, 0⟩

/-- Its 32 bytes (Table 15.5). -/
def copBytes (b : Nat) (r : CopResult) : List Byte :=
  leBytes 2 b ++ leBytes 1 r.kind ++ leBytes 1 r.result ++ leBytes 1 r.method ++ zeros 3 ++ leBytes 4 r.detail ++ leBytes 4 r.starts
    ++ leBytes 8 r.observed ++ leBytes 8 r.expected

/-- The header (Table 15.4). -/
def copHeader (s : State) : List Byte :=
  let h := s.flash.copHdr
  leBytes 4 0x45504F43 ++ leBytes 1 (h.getD 0 0) ++ zeros 3 ++ leBytes 4 (h.getD 1 0) ++ leBytes 4 (h.getD 2 0) ++ leBytes 4 (h.getD 3 0)
    ++ leBytes 2 coppiceBlocks.length ++ leBytes 2 (coppiceBlocks.filter (fun b => (copRecord s b).result != 0)).length ++ zeros 40

/-- COPPICE_RESULTS. -/
def execCoppiceResults (m : Fin 64) (s : State) : Host.Outcome State Fault Refusal :=
  .next (serveOp 0x0805 { hasRes := true } m (fun c s =>
    let n := 64 + 32 * coppiceBlocks.length
    if !fits c n then tooSmall s
    else .reply { status := .ok, inline := leBytes 4 n
                  res := copHeader s ++ (coppiceBlocks.map (fun b => copBytes b (copRecord s b))).flatten } s) s)

end Sys2Proof.Machine
end

