-- ==== Sys2Proof/Machine/Power.lean ====
section
/-! DEFINITION. Supply, power and thermal control, sensors, JTAG, the Coppice test, start-up, fallow mode and shutdown
(14 R335 to R353, R356, R358, R360; 15 R371 to R374). -/

namespace Sys2Proof.Machine

/-! ### Resets (R342, R349, R351) -/

/-- Every domain except housekeeping reset: flash, fuses and what the host has been sent stay. -/
def resetDomains (s : State) : State :=
  { hk := { s.hk with pwrgd := false, rails := false, alerting := [], thermal := 0, capLowered := false }
    fuses := s.fuses, flash := s.flash
    host := { hostMem := s.host.hostMem, hostEp := s.host.hostEp, irqs := s.host.irqs }
    ret := s.ret, free := s.free, pending := s.pending }

/-- The housekeeping domain loses its memory, with the input below 39.0 V. -/
def losePower (s : State) : State :=
  { s with hk := { logSeq := s.hk.logSeq, starts := s.hk.starts, failedStarts := s.flash.counter, belowWarn := true } }

/-- The sticky record and unread log entries written to flash. -/
def saveRecord (s : State) : State :=
  { s with flash := { s.flash with savedSticky := some s.hk.sticky, savedLog := s.hk.log.filter (fun e => !e.read) } }

/-! ### Sensors and temperature (R344 to R346) -/

/-- Alert level in degrees (Table 14.6). -/
def alertLevel (i : Nat) : Option Int :=
  if 32 ≤ i ∧ i < 96 then some 95 else if 96 ≤ i ∧ i < 104 then some 85 else if 104 ≤ i ∧ i < 108 then some 95
  else if 108 ≤ i ∧ i < 140 then some 85 else if 140 ≤ i ∧ i < 148 then some 110 else if i = 148 then some 42 else none

/-- Throttle level. -/
def throttleLevel (i : Nat) : Option Int :=
  if 32 ≤ i ∧ i < 96 then some 100 else if 96 ≤ i ∧ i < 104 then some 95 else if 104 ≤ i ∧ i < 108 then some 105
  else if 108 ≤ i ∧ i < 140 then some 95 else if 140 ≤ i ∧ i < 148 then some 120 else none

/-- A value is at or above a level. -/
def reaches (l : Option Int) (v : Int) : Bool := match l with | some d => decide (1000 * d ≤ v) | none => false

/-- The module has such a sensor. -/
def hasSensor (i : Nat) : Bool := decide (i < 22) || decide (32 ≤ i)

/-- Whole degrees by which a sensor stands above its throttle level. -/
def degreesOver (i : Nat) (v : Int) : Nat :=
  match throttleLevel i with
  | some d => ((v - 1000 * d) / 1000).toNat
  | none => 0

/-- The thermal controller (R344): the largest withholding of any sensor, and the cap lowered while a conversion stage stands at its
throttle level. -/
def thermalControl (s : State) : State :=
  let at_ (i : Nat) : Int := (s.hk.sensors.get {} i).value
  s.onHk (fun h => { h with thermal := min 15 (((List.range 166).map (fun i => degreesOver i (at_ i))).foldl max 0)
                            capLowered := (List.range 8).any (fun k => reaches (throttleLevel (140 + k)) (at_ (140 + k))) })

/-- A sample of a sensor that reads: its record, INPUT_MV for sensor 0, and the conditions that its value begins or ends. -/
def sampleValue (i : Nat) (v : Int) (s : State) : State :=
  let s := s.onHk (fun h => { h with sensors := h.sensors.modify {} i (fun x =>
    { value := v, lo := if x.seen then min x.lo v else v, hi := if x.seen then max x.hi v else v, seen := true, failed := false }) })
  let s := thermalControl (s.onHk (fun h => { h with alerting := h.alerting.set false i (reaches (alertLevel i) v) }))
  if i = 0 then
    let mv := v.toNat % 65536
    s.onHk (fun h => { h with inputMv := mv, minMv := min h.minMv mv, aboveHigh := h.aboveHigh && decide (56000 < mv) })
  else s

/-- SENSOR_SAMPLE. -/
def execSensorSample (sensor : Fin 166) (value : Option Int) (s : State) : Host.Outcome State Fault Refusal :=
  .next (if !hasSensor sensor then s
    else
      match value with
      | some v => sampleValue sensor v s
      | none => event 1 4 0x79 [sensor] (s.onHk (fun h => { h with sensors := h.sensors.modify {} sensor (fun x => { x with failed := true }) })))

/-- THERMAL_ALERT: COOLANT for the coolant inlet. -/
def execThermalAlert (sensor : Fin 166) (s : State) : Host.Outcome State Fault Refusal :=
  .next (event 1 (if sensor.val = 148 then 3 else 1) 0x79 [sensor] (s.onHk (fun h => { h with alerting := h.alerting.set false sensor true })))

/-- Clocks withheld from every plot, counted under an idle counter (R292). -/
def withhold (index clocks : Nat) (s : State) : State :=
  State.each (fun p s => s.onPlot p (fun q => { q with ic := q.ic.modify 0 index (fun c => sat48 (c + clocks)) })) (List.range 64)
    (s.onSch (fun c => { c with withheld := max c.withheld clocks }))

/-- POWER_THROTTLE (R343). -/
def execPowerThrottle (clocks : Nat) (s : State) : Host.Outcome State Fault Refusal :=
  .next (if clocks = 0 then s else event 0 6 0x79 [clocks] (withhold 7 clocks s))

/-- THERMAL_THROTTLE (R344): one clock in 16 for each whole degree, up to 15; a conversion stage also lowers the cap. -/
def execThermalThrottle (sensor : Fin 166) (degrees clocks : Nat) (s : State) : Host.Outcome State Fault Refusal :=
  .next (
    let k := min 15 degrees
    let s := s.onHk (fun h => { h with thermal := max h.thermal k, capLowered := h.capLowered || (decide (140 ≤ sensor.val) && decide (sensor.val < 148)) })
    event 1 0 0x79 [sensor] (withhold 8 (clocks * k / 16) s))

/-- RAIL_FAULT (R336, R360). -/
def execRailFault (rail : Nat) (s : State) : Host.Outcome State Fault Refusal :=
  .next (event 0 5 0x79 [rail] (s.onHk (fun h => { h with pwrgd := false })))

/-! ### Start causes (Table 14.9) -/

/-- A cause's code. -/
def startCode : StartCause → Nat
  | .rails => 1 | .clock => 2 | .signature => 3 | .rollback => 4 | .manifest => 5 | .flash => 6 | .maltster => 7 | .hbmTrain => 8
  | .cellarTrain => 9 | .d2dLink => 0xA | .serdes => 0xB | .selftest => 0xC | .thermal => 0xD | .memoryInit => 0xE

/-- A bit of the start in progress, kept until stage 4 has restored the record (R360). -/
def earlyBit (g b x : Nat) : State → State := State.onHk (fun h => { h with early := h.early ++ [(g, b, 0x7B, x)] })

/-- The bits kept are set. -/
def flushEarly (s : State) : State :=
  State.each (fun e s => event e.1 e.2.1 e.2.2.1 [e.2.2.2] s) s.hk.early (s.onHk (fun h => { h with early := [] }))

/-- A failed start (R353, R357): its cause goes to flash, START_FAILED is set, a slot on trial gives way to the previous one, and
the module resets. -/
def failStart (c : StartCause) (s : State) : State :=
  let stage := s.fw.stage
  let s := { s with flash := { s.flash with failCause := (startCode c), bootB := if s.flash.trial then !s.flash.bootB else s.flash.bootB, trial := false } }
  let s := if c = .flash then earlyBit 12 5 stage s else s
  let s := earlyBit 12 1 stage s
  resetDomains (if 4 < stage then flushEarly s else s)

/-- Fallow mode entered (R353): the fallow service serves mailboxes on core A. A start that no slot passes ends uncounted, and one that
begins in fallow mode was never counted. -/
def enterFallow (code : Nat) (s : State) : State :=
  let n := if s.fw.fallowStart then s.hk.failedStarts else s.hk.failedStarts - 1
  let s := { s with hk := { s.hk with failedStarts := n }, flash := { s.flash with counter := n }, fw := { s.fw with stage := 0, fallowStart := false } }
  let s := s.onMst (fun m => { m with mode := .fallow, fallowCause := code, ready := true, coreB := false })
  flushEarly (earlyBit 12 2 code s)

/-! ### Supply (R338 to R342) -/

/-- The lowest input noted. -/
def noteLow (mv : Nat) : State → State := State.onHk (fun h => { h with minMv := min h.minMv mv })

/-- HOLD (R339): in READY, RUNNING and PARKED the module enters hold; a start ends uncounted (R348). -/
def hold (mv : Nat) (s : State) : State :=
  let s := noteLow mv (s.onHk (fun h => { h with belowWarn := true }))
  match s.mst.mode with
  | .ready => s.onMst (fun m => { m with heldFrom := .ready, mode := .hold, resume := false })
  | .running => s.onMst (fun m => { m with heldFrom := .running, mode := .hold, resume := false })
  | .parked => s.onMst (fun m => { m with heldFrom := .parked, mode := .hold, resume := false })
  | .hold => s.onMst (fun m => { m with resume := false })
  | .starting =>
    if s.fw.stage = 0 then s
    else
      let n := if s.fw.fallowStart then s.hk.failedStarts else s.hk.failedStarts - 1
      resetDomains { s with hk := { s.hk with failedStarts := n }, flash := { s.flash with counter := n } }
  | _ => s

/-- HOLD. -/
def execHold (mv : BitVec 16) (s : State) : Host.Outcome State Fault Refusal := .next (announce s (hold mv.toNat s))

/-- An ACTIVE port sends PORT_NOTICE and goes OFF (R358). -/
def portOff (p : Nat) (s : State) : State :=
  if (s.port p).state = 5 then
    (sendNow p [noticeWord 2 0] s).onPort p (fun q => { q with state := 0, cause := 0, stage := 0, syntSrc := false, enable := false })
  else s

/-- What the quick-start record says: the blocks passed, the images' digests, the stepping (DESIGN CHOICE, log 38: R350 gives no layout). -/
def quickBytes (passed : Bool) (digests : List Nat) (stepping : Nat) : List Byte :=
  leBytes 1 (b2n passed) ++ leBytes 1 stepping ++ (digests.map (leBytes 64)).flatten

/-- Steps 5 and 6 of R358: the records written to flash, PWRGD low and every rail except housekeeping off. -/
def powerDown (passed : Option Bool) (s : State) : State :=
  let rec_ := passed.map (fun ok =>
    ({ passed := ok, digests := s.fw.digests, stepping := s.fuses.stepping, used := false
       sig := edSign (identitySeed s) (quickBytes ok s.fw.digests s.fuses.stepping) } : QuickRec))
  let s := saveRecord s
  let s := { s with flash := { s.flash with quick := rec_, orderly := true } }
  resetDomains s

/-- Step 3 of R358, once the module has parked; a dip below warning pauses it. -/
def shutdownParked (s : State) : State :=
  if s.mst.mode == .shuttingDown && !s.mst.parkPending && !s.hk.belowWarn then State.each portOff (List.range 16) s else s

/-- The rest of a shutdown without the Coppice test: at the next idle cycle, so that the response is written first (DESIGN
CHOICE, log 7). -/
def shutdownTick (s : State) : State :=
  let s := shutdownParked s
  if s.mst.mode == .shuttingDown && !s.mst.parkPending && !s.hk.belowWarn && s.mst.shutdown == some false then powerDown none s else s

/-- HOLD_END (R339, R340): SUPPLY_DIP is recorded and the mode that hold interrupted returns; the data path of a module that
was running resumes at the next release; a paused shutdown goes on. -/
def holdEnd (lowest us : Nat) (s : State) : State :=
  if !s.hk.belowWarn then s
  else
    let s := event 0 0 0x79 [lowest, us] (noteLow lowest (s.onHk (fun h => { h with belowWarn := false })))
    match s.mst.mode with
    | .hold =>
      s.onMst (fun m => { m with mode := m.heldFrom, resume := m.heldFrom == .running && s.hasBundle })
    | _ => shutdownParked (s.onMst (fun m => { m with resume := m.mode == .shuttingDown && m.parkPending && s.hasBundle }))

/-- HOLD_END. -/
def execHoldEnd (lowest : BitVec 16) (us : BitVec 32) (s : State) : Host.Outcome State Fault Refusal :=
  .next (announce s (holdEnd lowest.toNat us.toNat s))

/-- Present contributions that counted as applied count as dropped at the owner (R341). -/
def unapply (r : ReductionDef) (s : State) : State :=
  let n := s.ltr.books.get 0 (16 * r.group + 7)
  bookAdd r.group 8 n (s.onLtr (fun l => { l with books := l.books.set 0 (16 * r.group + 7) 0 }))

/-- A dense tensor's unfinished update dropped (R341): its bank stays, every group counts as dropped and in LATE. -/
def dropTensor (d : TensorDef) (s : State) : State :=
  let x := s.tensor d.tensor
  if d.ownCount = 0 || x.frozen || !(s.sch.updating || x.late) || denseComplete d x then s
  else
    let t := d.tensor
    let s := State.each (fun kv s => bookDense t kv.1 8 s) x.blocks s
    let s := State.each unapply (s.body.reductions.filter (fun r => !r.replica && r.target == t && r.owner == s.rank)) s
    let s := ltrEvent 3 d.ruleSet t (countLtr d.ruleSet 8 d.ownCount s)
    s.onTensor t (fun x => { x with parkedOff := true, late := false, done := [], blocks := [], deferred := [], factor := none })

/-- Unfinished updates dropped (R341). -/
def dropUpdates (s : State) : State :=
  let ts := s.grn.tables.map (·.1)
  let n := s.sch.step
  let s := State.each dropTensor s.body.tensors s
  let s := State.each (fun t s => if 0 < n then cutWalk t (n - 1) s else s) ts s
  if s.sch.updating then State.each (fun t s => cutWalk t n s) ts s else s

/-- SUPPLY_PARK (R341): 5 ms have passed since the dip began. -/
def supplyPark (s : State) : State :=
  if s.mst.mode == .hold && s.hk.belowWarn && s.mst.heldFrom != .parked then
    let s := event 0 1 0x79 [s.hk.minMv, 5000] (dropUpdates s)
    s.onMst (fun m => { m with heldFrom := .parked, parkCause := 3, parkPending := false, parkWhy := 0 })
  else s

/-- SUPPLY_PARK. -/
def execSupplyPark (s : State) : Host.Outcome State Fault Refusal := .next (announce s (supplyPark s))

/-- SUPPLY_RESET (R342): the record is saved from stored energy with the supply event, its lowest voltage and duration (R360); the
next start is a full one. -/
def supplyReset (mv us : Nat) (s : State) : State :=
  let s := saveRecord (event 0 2 0x79 [mv, us] (noteLow mv s))
  losePower (resetDomains { s with flash := { s.flash with orderly := false } })

/-- SUPPLY_RESET. -/
def execSupplyReset (mv : BitVec 16) (us : BitVec 32) (s : State) : Host.Outcome State Fault Refusal :=
  .next (supplyReset mv.toNat us.toNat s)

/-- OVERVOLT (R338): conversion stops and the module resets. -/
def execOvervolt (mv : BitVec 16) (us : BitVec 32) (s : State) : Host.Outcome State Fault Refusal :=
  .next (
    let s := event 0 4 0x79 [mv.toNat, us.toNat] (s.onHk (fun h => { h with aboveHigh := true }))
    resetDomains { s with flash := { s.flash with orderly := false } })

/-- SUPPLY_HIGH (R338). -/
def execSupplyHigh (mv : BitVec 16) (us : BitVec 32) (s : State) : Host.Outcome State Fault Refusal :=
  .next (event 0 3 0x79 [mv.toNat, us.toNat] (s.onHk (fun h => { h with aboveHigh := true })))

/-- THERMTRIP (R345): every rail but housekeeping's goes down, with nothing saved; during a start it ends the start. -/
def execThermtrip (sensor : Fin 166) (s : State) : Host.Outcome State Fault Refusal :=
  .next (
    let s := event 1 2 0x79 [sensor] s
    let t := if s.mst.mode == .starting && s.fw.stage != 0 then failStart .thermal s else resetDomains s
    { t with hk := { t.hk with thermtrip := true }, flash := { t.flash with orderly := false } })

/-! ### SHUTDOWN (R358) -/

/-- Step 1's change of mode; with no data path to park, or none that runs, the module has parked at once. -/
def beginShutdown (coppice : Bool) (s : State) : State :=
  let waits := s.hasBundle && (s.mst.mode == .running || (s.mst.mode == .hold && s.mst.heldFrom == .running))
  let s := if s.mst.mode == .fallow then { s with hk := { s.hk with failedStarts := 0 }, flash := { s.flash with counter := 0 } } else s
  s.onMst (fun m => { m with mode := .shuttingDown, shutdown := some coppice, parkPending := waits, unparkPending := false })

/-- SHUTDOWN: the response is written with OK before the sequence goes on. -/
def execShutdown (m : Fin 64) (s : State) : Host.Outcome State Fault Refusal :=
  .next (serveOp 0x0106 { fields := [(0, 1)] } m (fun c s =>
    if 1 < c.at_ 0 1 then badField 0 s
    else if s.mst.mode == .shuttingDown then refuse .refusedMode s
    else .pend (shutdownParked (respond c { status := .ok } (beginShutdown (c.at_ 0 1 == 1) s)))) s)

/-- SHUTDOWN_REQ_N low for 10 ms (R336): SHUTDOWN with COPPICE = 1 while the module is on. -/
def execShutdownReqN (s : State) : Host.Outcome State Fault Refusal :=
  .next (if !s.hk.rails || s.mst.mode == .shuttingDown || s.mst.mode == .starting then s
    else announce s (shutdownParked (beginShutdown true s)))

/-! ### The Coppice test (R371 to R375) -/

/-- A kind's code. -/
def kindCode : CoppiceKind → Nat
  | .shutdown => 0 | .start => 1 | .demand => 2

/-- A block's result: NOT_RUN where the image has no entry for this stepping (R374). -/
def copResult (s : State) (r : CoppiceRec) : Nat := if s.fuses.copEntry then r.result else 2

/-- One block's result stored, with COPPICE_FAIL for a failure and SCAN_BLOCKED where no scan could run. -/
def storeResult (k : CoppiceKind) (r : CoppiceRec) (s : State) : State :=
  let v := copResult s r
  let x : CopResult := ⟨kindCode k, v, r.method, if v = 0 then 0 else r.detail, s.hk.starts, r.observed, r.expected⟩
  let s := { s with flash := { s.flash with coppice := s.flash.coppice.set none r.block (some x) } }
  let s := if v = 0 then s else event 14 5 r.block [r.block] s
  if v = 3 then event 14 6 r.block [r.block] s else s

/-- Every block of a whole run passed. -/
def allPassed (s : State) (rs : List CoppiceRec) : Bool :=
  coppiceBlocks.all (fun b => rs.any (fun r => r.block == b && copResult s r == 0))

/-- A run's results and header stored; a live activation's Coppice image is taken up (R369). -/
def storeRun (k : CoppiceKind) (rs : List CoppiceRec) (ms : Nat) (s : State) : State :=
  let s := takeUp .coppice s
  let s := State.each (storeResult k) (rs.filter (fun r => coppiceBlocks.contains r.block)) s
  { s with flash := { s.flash with copHdr := [kindCode k, s.hk.starts, s.fw.ifvers.getD 3 0, ms] } }

/-- COPPICE_TEST: at step 4 of a shutdown, at stage 7 of a full start, or during CHANNEL_IN and CELLAR_IN. -/
def coppiceTest (k : CoppiceKind) (rs : List CoppiceRec) (ms : Nat) (s : State) : State :=
  match k with
  | .shutdown =>
    if s.mst.mode == .shuttingDown && s.mst.shutdown == some true && !s.mst.parkPending && !s.hk.belowWarn then
      powerDown (some (allPassed s rs)) (storeRun k rs ms (shutdownParked s))
    else s
  | .start =>
    if s.mst.mode == .starting && s.fw.stage == 7 && !s.fw.quick then
      let t := storeRun k rs ms s
      if allPassed s rs then t else failStart .selftest t
    else s
  | .demand => if dataPath s then storeRun k rs ms s else s

/-- COPPICE_TEST. -/
def execCoppiceTest (kind : CoppiceKind) (results : List CoppiceRec) (ms : Nat) (s : State) : Host.Outcome State Fault Refusal :=
  .next (announce s (coppiceTest kind results ms s))

/-! ### Start-up (R347 to R353) -/

/-- A start may begin: the module is off, both power blades carry input (R334), the input stands at the start level of Table 14.4,
and after a thermal trip every temperature is below 60 degrees (R345, R348). -/
def mayStart (s : State) : Bool :=
  s.mst.mode == .starting && s.fw.stage == 0 && !s.hk.rails && s.hk.blades.1 && s.hk.blades.2 &&
    decide (44000 ≤ s.hk.inputMv) && decide (s.hk.inputMv ≤ 58000) &&
    (!s.hk.thermtrip || sensorList.all (fun i => sensorKind i != 2 || decide ((s.hk.sensors.get {} i).value < 60000)))

/-- A start begins (R353): counted, unless the counter stands at 3, when it will end in fallow mode. -/
def beginStart (s : State) : State :=
  let fallow := decide (3 ≤ s.hk.failedStarts)
  let n := if fallow then s.hk.failedStarts else s.hk.failedStarts + 1
  { s with
    hk := { s.hk with now := 0, fresh := [], belowWarn := false, failedStarts := n, starts := (s.hk.starts + 1) % 2 ^ 32, thermtrip := false,
                      sensors := s.hk.sensors.map (fun kv => (kv.1, { kv.2 with lo := kv.2.value, hi := kv.2.value, seen := false })) }
    flash := { s.flash with counter := n }
    fw := { s.fw with stage := 1, fallowStart := fallow, quick := false } }

/-- START: what the input and the two blades carry is sampled, and a start that may begin begins. -/
def execStart (mv : BitVec 16) (bladeA bladeB : Bool) (s : State) : Host.Outcome State Fault Refusal :=
  .next (
    let s := s.onHk (fun h => { h with inputMv := mv.toNat, blades := (bladeA, bladeB) })
    if mayStart s then beginStart s else s)

/-- A slot passes R354 and R355. -/
def slotRuns (s : State) (b : FwBundle) : Bool := (slotBad s b).isNone && manifestOk s b

/-- The slot that runs: the boot slot, else the other, where one passes. -/
def runningSlot (s : State) : Option Bool :=
  if slotRuns s (fwSlot s s.flash.bootB) then some s.flash.bootB
  else if slotRuns s (fwSlot s (!s.flash.bootB)) then some (!s.flash.bootB)
  else none

/-- The security bits of a slot that fails, kept for stage 4. -/
def earlySecurity (b : FwBundle) (s : State) : State := State.each (fun x s => earlyBit 13 x b.keyslot s) (securityBits s b) s

/-- Stage 2 (R354): the boot slot checked, then the other. -/
def bootRom (s : State) : State :=
  let boot := fwSlot s s.flash.bootB
  let other := fwSlot s (!s.flash.bootB)
  let t := if slotRuns s boot then s else earlySecurity boot s
  match runningSlot s with
  | some b =>
    let f := fwSlot s b
    let t := if b = s.flash.bootB then t else earlyBit 12 0 (b2n b) t
    { t with fw := { t.fw with stage := 3, slotB := b, keyslot := f.keyslot, ifvers := f.ifvers, digests := f.digests } }
  | none =>
    let t := earlySecurity other t
    enterFallow ((((slotBad s boot).map startCode)).getD (startCode .manifest)) t

/-- Entries restored from flash stand before those of this start. -/
def restoreRecord (s : State) : State :=
  if !s.hk.powerLost then s
  else
    match s.flash.savedSticky with
    | none => s.onHk (fun h => { h with powerLost := false })
    | some t =>
      let s := s.onHk (fun h => { h with powerLost := false, sticky := t.foldl (fun u kv => u.set 0 kv.1 (u.get 0 kv.1 ||| kv.2)) h.sticky
                                         log := s.flash.savedLog ++ h.log })
      event 12 6 0x7B [s.flash.savedLog.length] s

/-- The quick-start record allows a quick start (R350). -/
def quickOk (s : State) : Bool :=
  match s.flash.quick with
  | none => false
  | some r =>
    s.flash.orderly && !r.used && r.passed && r.digests == s.fw.digests && r.stepping == s.fuses.stepping &&
      edVerify (edPublic (identitySeed s)) (quickBytes r.passed r.digests r.stepping) r.sig

/-- Stage 4: the record restored, the bits of stages 1 to 3 set, the quick-start record read and marked used. -/
def maltsterStage (s : State) : State :=
  let s := flushEarly (restoreRecord s)
  let q := quickOk s
  let s := { s with flash := { s.flash with quick := s.flash.quick.map (fun r => { r with used := true }), orderly := false }
                    fw := { s.fw with stage := 5, quick := q } }
  if q then s else event 12 3 0x7B [4] s

/-- A channel or link whose temperature lies more than 15 degrees from the one stored with its calibration (R350). -/
def calStale (s : State) (i : Nat) : Bool :=
  let t := (s.hk.sensors.get {} (calibSensor i)).value
  let k : Nat := s.flash.calib.get 0 i
  let v : Int := (k : Int) - 2 ^ 31
  decide (15000 < (t - v).natAbs)

/-- Stage 5: a quick start loads the stored values and retrains the channels that need it, those that fail the 1 MiB SEQ check of
R148 among them; a full start trains everything. -/
def memoryStage (weak : List Nat) (s : State) : State :=
  let s :=
    if s.fw.quick then
      let cs := (List.range 384).filter (fun i => calStale s i || weak.contains i)
      if cs.isEmpty then s else State.each train cs (event 12 4 0x7B [cs.headD 0] s)
    else State.each train (List.range 388) s
  { s with fw := { s.fw with stage := 6 } }

/-- SVN and revoke bits advanced at the first start with a bundle that asks for it (R356). -/
def commitSvn (s : State) : State :=
  let b := fwSlot s s.fw.slotB
  let rv := s.fuses.revoke ||| (b.revoke - (b.revoke &&& 2 ^ b.keyslot))
  let sv := max s.fuses.svn b.svn
  if b.commitSvn && !(rv == s.fuses.revoke && sv == s.fuses.svn) then
    event 13 4 0x7B [b.keyslot] { s with fuses := { s.fuses with svn := sv, revoke := rv } }
  else s

/-- Stage 8 (R351): memory reads zero, nothing is set or placed, every port is OFF, and mailboxes are served. -/
def readyStage (s : State) : State :=
  let s := { s with mem := {}, plots := [], grn := {}, ltr := {}, csk := {}, fab := {}, sch := {}
                    hk := { s.hk with failedStarts := 0 }, flash := { s.flash with counter := 0, trial := false, recal := [] }
                    fw := { s.fw with stage := 0, quick := false } }
  commitSvn (s.onMst (fun m => { m with mode := .ready, ready := true, parkCause := 0, fallowCause := 0 }))

/-- A stage completes. -/
def stagePassed (stage : Nat) (weak : List Nat) (s : State) : State :=
  if stage = 1 then { s with hk := { s.hk with rails := true, pwrgd := true }, fw := { s.fw with stage := 2 } }
  else if stage = 2 then bootRom s
  else if stage = 3 then (if s.fw.fallowStart then enterFallow s.flash.failCause s else { s with fw := { s.fw with stage := 4 } })
  else if stage = 4 then maltsterStage s
  else if stage = 5 then memoryStage weak s
  else if stage = 6 then { s with fw := { s.fw with stage := if s.fw.quick then 8 else 7 } }
  else if stage = 7 then { s with fw := { s.fw with stage := 8 } }
  else readyStage s

/-- A stage that fails: stages 2 and 3 end in fallow mode uncounted when no slot passes them; any other failure ends the start. The
channels that failed training set TRAIN_FAIL of their tier (R148). -/
def stageFailed (c : StartCause) (bad : List Nat) (s : State) : State :=
  let s := if s.fw.stage = 5 then State.each (fun ch => trainFail (if ch < 128 then 0x100 + ch else 0x200 + (ch - 128)) ch) bad s else s
  match c with
  | .signature => enterFallow (startCode c) (earlyBit 13 0 0 s)
  | .rollback => enterFallow (startCode c) (earlyBit 13 1 0 s)
  | .manifest => enterFallow (startCode c) (earlyBit 13 2 0 s)
  | _ => failStart c s

/-- The causes of a stage's failure (Table 14.8); a thermal trip can end any stage. -/
def stageCauses (stage : Nat) : List StartCause :=
  .thermal :: (if stage = 1 then [.rails, .clock] else if stage = 2 then [.signature, .rollback, .flash] else if stage = 3 then [.manifest]
    else if stage = 4 then [.maltster, .flash] else if stage = 5 then [.hbmTrain, .cellarTrain, .d2dLink] else if stage = 6 then [.serdes]
    else if stage = 7 then [.selftest] else [.memoryInit])

/-- START_STAGE: the stage in progress completes or fails with a cause of its own; stage 5 names the channels whose check, or whose
training, failed. -/
def execStartStage (stage : Fin 9) (failed : Option StartCause) (channels : List (Fin 384)) (s : State) : Host.Outcome State Fault Refusal :=
  .next (if s.mst.mode != .starting || s.fw.stage == 0 || s.fw.stage != stage.val then s
    else
      match failed with
      | none => announce s (stagePassed stage (channels.map Fin.val) s)
      | some c => if (stageCauses stage).contains c then announce s (stageFailed c (channels.map Fin.val) s) else s)

/-- START_FAILED (R353): the start in progress ends as a failed start; a new start begins after 1 s (START). -/
def execStartFailed (cause : StartCause) (s : State) : Host.Outcome State Fault Refusal :=
  .next (if s.mst.mode == .starting && s.fw.stage != 0 then announce s (failStart cause s) else s)

/-! ### JTAG (R337) -/

/-- BYPASS. -/
def execBypass (s : State) : Host.Outcome State Fault Refusal := .next (s.onHk (fun h => { h with jtagIr := 0, jtagDrive := false }))

/-- IDCODE: the identification register is shifted out. -/
def execIdcode (s : State) : Host.Outcome State Fault Refusal :=
  .next { s.onHk (fun h => { h with jtagIr := 1, jtagDrive := false }) with ret := { data := leBytes 4 s.fuses.idcode } }

/-- SAMPLE/PRELOAD: the boundary-scan register takes the pins. -/
def execSamplePreload (pins : List Bool) (s : State) : Host.Outcome State Fault Refusal :=
  .next (s.onHk (fun h => { h with jtagIr := 2, jtagBsr := pins, jtagDrive := false }))

/-- EXTEST: the boundary-scan register drives the pins. -/
def execExtest (s : State) : Host.Outcome State Fault Refusal := .next (s.onHk (fun h => { h with jtagIr := 3, jtagDrive := true }))

end Sys2Proof.Machine
end

