-- ==== Sys2Proof/Machine/Steps.lean ====
section
/-! DEFINITION. Acting on a release (R276): epochs (R229, R278), the look-ahead start (R24, R157), the opening of the update
exchange (R113, R114), the step boundary with its four actions (R26, Table 01.9), the acceptance of coordinated commands
(R171, R268) and a bundle becoming active (R268, R385). -/

namespace Sys2Proof.Machine

/-! ### Action 1: banks and halves (R189, R191 to R193, R199, R341) -/

/-- The update in progress of a tensor given up or finished: what it held of the step goes, and waiting blocks count as
dropped at the owner. -/
def endUpdate (d : TensorDef) (flip : Bool) (s : State) : State :=
  let t := d.tensor
  let s := State.each (fun kv s => bookDense t kv.1 8 s) (s.tensor t).blocks s
  s.onTensor t (fun x => { x with
    bank := if flip then 1 - x.bank else x.bank, step := s.sch.step + 1, late := false, parkedOff := x.parkedOff && !flip
    done := [], blocks := [], deferred := [], factor := none })

/-- The banks of one tensor at the boundary that ends the running step. -/
def bankBoundary (d : TensorDef) (s : State) : State :=
  let x := s.tensor d.tensor
  let whole := denseComplete d x && !x.frozen
  if d.ownCount = 0 then endUpdate d false s
  else if x.late then (if whole then endUpdate d true s else if x.frozen then endUpdate d false s else s)
  else if s.sch.skip || x.frozen || parked s || (x.parkedOff && !whole) then endUpdate d false s
  else if whole then endUpdate d true s
  else ltrEvent 3 d.ruleSet d.tensor (s.onTensor d.tensor (fun x => { x with late := true, eta := s.ltr.eta }))

/-- Every slice of a tensor for the step has arrived present, this module's own included: the working copy of every group has come. -/
def slicesWhole (s : State) (d : TensorDef) : Bool :=
  let x := s.tensor d.tensor
  x.absent.isEmpty && !x.frozen && (List.range d.groups).all (fun j => x.got.get false j)

/-- The working-copy slot groups of the bundle. -/
def wcGroups (s : State) : List Nat := (s.body.tensors.map TensorDef.wcGroup).eraseDups

/-- The slot groups whose halves flip at this boundary. -/
def flipping (s : State) : List Nat :=
  if s.sch.skip then [] else (wcGroups s).filter (fun g => (s.body.tensors.filter (fun d => d.wcGroup == g)).all (slicesWhole s))

/-- The owners of a tensor whose slices for the step are absent, lowest first. -/
def goneOwners (s : State) (d : TensorDef) : List Nat :=
  d.owners.filter (fun r => (s.tensor d.tensor).absent.get false r || (s.tensor d.tensor).slices.get 0 r == 0)

/-- WC_STALE's entry for a tensor with an absent slice: the step, the rule set and the tensor, and the owners, of which the 8 bytes left
in DATA name the lowest four, each plus 1 (DESIGN CHOICE, log 104). -/
def staleTensor (d : TensorDef) (s : State) : State :=
  if slicesWhole s d then s
  else event 9 9 0x73 [s.sch.step, d.ruleSet + 2 ^ 16 * d.tensor, ((goneOwners s d).take 4).foldr (fun r a => r + 1 + 2 ^ 16 * a) 0] s

/-- A slot group that keeps its halves at a boundary counts once for each rule set of its tensors (R193, R204). -/
def staleGroup (g : Nat) (s : State) : State :=
  let ds := s.body.tensors.filter (fun d => d.wcGroup == g)
  State.each (fun k s => countLtr k 10 1 s) (ds.map TensorDef.ruleSet).eraseDups (State.each staleTensor ds s)

/-- Action 1 of Table 01.9. -/
def commitDense (s : State) : State :=
  let fs := flipping s
  let s := if s.sch.skip || parked s then s
    else State.each (fun g s => if fs.contains g then s else staleGroup g s) (wcGroups s) s
  let s := State.each (fun d s => if fs.contains d.wcGroup then s.onTensor d.tensor (fun x => { x with half := 1 - x.half }) else s) s.body.tensors s
  let s := State.each bankBoundary s.body.tensors s
  State.each (fun d s => s.onTensor d.tensor (fun x => { x with slices := [], got := [], absent := [] })) s.body.tensors s

/-! ### Action 2: the books (R135, R162, R257, R283, R287) -/

/-- The members of an owned group whose contribution never arrived are absent in every block (R283). Under SKIP every reduction closes
with present = 0 and absent = members (R114). -/
def closeReduction (r : ReductionDef) (s : State) : State :=
  if s.sch.skip then bookAdd r.group 6 (r.members.length * r.blocks) (bookAdd r.group 5 (r.members.length * r.blocks) s)
  else State.each (fun m s =>
    if s.ltr.taken.get false (65536 * r.group + m) then s
    else takeContrib r m none [] s) r.members s

/-- A dense group whose last block the closing of its reduction completed is dealt with before the boundary (R190). -/
def finishGroup (r : ReductionDef) (had : Tab (Option GradBlock)) (s : State) : State :=
  if r.replica then s
  else State.each (fun kv s => if (had.get none kv.1).isSome then s else denseUpdate r.target kv.1 s) (s.tensor r.target).blocks s

/-- The step's reductions end: their runs have ended when the boundary comes. -/
def closeReductions (s : State) : State :=
  if parked s then s
  else State.each (fun r s => if r.owner = s.rank then finishGroup r (s.tensor r.target).blocks (closeReduction r s) else s) s.body.reductions s

/-- The TX CONTRIB streams of a group. -/
def contribStreams (s : State) (g : Nat) : List StreamDef := s.body.streams.filter (fun d => d.kind == .contrib && !d.rx && d.group == g)

/-- Flits of a group's contribution that went absent at their source. -/
def absentFlits (s : State) (g : Nat) : List Nat :=
  let ids := (contribStreams s g).map StreamDef.id
  ((s.fab.absentTx.filter (fun x => ids.contains x.1)).map (fun x => (List.range x.2.2).map (x.2.1 + ·))).flatten.eraseDups

/-- Blocks of an outgoing group that went absent at their source. -/
def missedBlocks (s : State) (r : ReductionDef) : List Nat :=
  let fs := absentFlits s r.group
  if s.sch.skip || parked s || contribLost r fs then List.range r.blocks else (List.range r.blocks).filter (contribGone r fs)

/-- The producer had completed a block before the boundary: its STREAM semaphore has passed the block's last byte (R281). -/
def blockProduced (s : State) (r : ReductionDef) (b : Nat) : Bool :=
  (contribStreams s r.group).any (fun d =>
    decide (contribHead r + 33 * (b + 1) ≤ 248 * (((s.plot d.plot).sems.get {} d.sem).value * d.unit)))

/-- The blocks carried into the next step (R285, R286). -/
def carriedBlocks (s : State) (r : ReductionDef) : List Nat :=
  if !s.sch.carry.get false r.group || s.sch.skip then []
  else if r.replica then missedBlocks s r
  else (missedBlocks s r).filter (fun b => blockProduced s r b && !s.ltr.carried.get false (2 ^ 32 * r.group + b))

/-- The groups this module sends to. -/
def outgoingDefs (s : State) : List ReductionDef := s.body.reductions.filter (fun r => r.members.contains s.rank && r.owner != s.rank)

/-- A sender's terms for one group. -/
def senderBooks (r : ReductionDef) (s : State) : State :=
  let m := (missedBlocks s r).length
  let c := (carriedBlocks s r).length
  bookAdd r.group 3 (m - c) (bookAdd r.group 2 c (bookAdd r.group 1 (r.blocks - m) (bookAdd r.group 0 r.blocks s)))

/-- The equations of R287 for one group. -/
def booksHold (s : State) (g : Nat) : Bool :=
  let b (i : Nat) : Nat := s.ltr.books.get 0 (16 * g + i)
  b 0 == b 1 + b 2 + b 3 && b 4 + b 5 == b 6 && b 4 == b 7 + b 8

/-- A group whose owner's blocks are not all counted yet: they wait for a tensor whose update ended late (R199). -/
def booksOpen (s : State) (r : ReductionDef) : Bool := !r.replica && r.owner == s.rank && (s.tensor r.target).late

/-- The contribution books checked; those that are still open go on. -/
def contribBooks (s : State) : State :=
  let s := State.each senderBooks (outgoingDefs s) s
  let n := s.sch.step
  let s := State.each (fun r s => if booksOpen s r || booksHold s r.group then s else event 7 12 0x73 [n, s.sch.epoch, r.group] s) s.body.reductions s
  let wait := (s.body.reductions.filter (booksOpen s)).map ReductionDef.group
  s.onLtr (fun l => { l with lastBooks := l.books, books := l.books.select (fun k _ => wait.contains (k / 16)) })

/-- The pins of the step that ends, and the books of those that were held past the boundary before (R162). -/
def stepPins (s : State) : State :=
  let n := s.sch.step
  let late := !s.sch.skip && s.grn.tables.any (fun kv => (stepEntry s kv.1 n).step == n && !walkOver (stepEntry s kv.1 n))
  let r := releasePins n late (heldBooks s)
  if r.2 then pinBooks n r.1 else r.1

/-- The tun books of every slice (R135). -/
def tunBooks (s : State) : State :=
  let s := State.each (fun sl s =>
    if s.mem.tunIssued.get 0 sl = s.mem.tunApplied.get 0 sl then s
    else event (if sl < 8 then 2 else 3) 7 (0x40 + sl) [s.sch.step, s.mem.tunIssued.get 0 sl, s.mem.tunApplied.get 0 sl] s) (List.range 16) s
  s.onMem (fun m => { m with tunIssued := [], tunApplied := [] })

/-- The credits of every switched port (R257). -/
def creditBooks (s : State) : State :=
  State.each (fun p s => if (s.port p).switched && !creditsOk (s.flow p) then event 5 13 (0x60 + p) [p, s.sch.step, s.sch.epoch] s else s) (List.range 16) s

/-- Action 2. -/
def checkBooks (s : State) : State := creditBooks (pageBooks (tunBooks (stepPins (contribBooks s))))

/-- A park that is pending takes place: the module is parked from action 2 on (R327). -/
def parkNow (s : State) : State :=
  let m := s.mst
  if m.parkWhy = 0 ∧ !m.parkPending then s
  else
    s.onMst (fun m => { m with
      mode := if m.mode = .running then .parked else m.mode
      heldFrom := if m.mode = .hold then .parked else m.heldFrom
      parkCause := if m.mode = .shuttingDown then m.parkCause else if m.parkWhy = 0 then 1 else m.parkWhy
      parkPending := false, parkWhy := 0 })

/-! ### Action 3: latches, scales, carried blocks (R27, R96 to R101, R181, R195, R269, R286) -/

/-- UNPARK takes effect. -/
def unparkNow (s : State) : State :=
  s.onMst (fun m => { m with
    mode := if m.mode = .parked then .running else m.mode
    heldFrom := if m.mode = .hold ∧ m.heldFrom = .parked then .running else m.heldFrom
    parkCause := 0, unparkPending := false })

/-- One latched command takes effect; a bundle's activation is handled on its own. -/
def applyLatch (w : LatchWhat) (s : State) : State :=
  match w with
  | .version t => commitVersion t s
  | .replicate t rows => addReplicas t rows s
  | .unreplicate t rows => dropReplicas t rows s
  | .straggler es => s.onSch (fun c => { c with carry := es.foldl (fun m e => m.set false e.1 e.2) c.carry })
  | .profile n => s.onSch (fun c => { c with profile := n })
  | .activate _ => s
  | .unpark => unparkNow s
  | .reshardStart t es => reshardAt t (.reshardStart t es) s
  | .reshardCancel t shs => reshardAt t (.reshardCancel t shs) s
  | .reshardDone t => reshardAt t (.reshardDone t) s

/-- The latched commands due at this boundary, in order of acceptance. -/
def applyDue (s : State) : State :=
  let due := s.sch.latches.filter Latch.due
  State.each (fun l s => applyLatch l.what s) due (s.onSch (fun c => { c with latches := c.latches.filter (fun l => !l.due) }))

/-- LTR_ETA_PEND becomes LTR_ETA_CUR for step n (R181). -/
def latchEta (n : Nat) : State → State := State.onLtr (fun l =>
  match l.etaPend with
  | some e => { l with etaPrev := l.eta, eta := e, etaStep := n, etaPend := none }
  | none => { l with etaPrev := l.eta })

/-- Root slots latched for every block of a PRECOND tensor (R195); a late update goes on with those it began with. -/
def latchRoots (s : State) : State :=
  State.each (fun d s =>
    match s.ltr.precond.get none d.tensor with
    | none => s
    | some pc =>
      if (s.tensor d.tensor).late then s
      else
        let n := d.ownCount / max 1 (pc.b / 32)
        let rs := (List.range n).foldl (fun (m : Tab Nat) b => Tab.set 0 m b (latchRoot s pc b)) []
        s.onTensor d.tensor (fun x => { x with roots := rs })) s.body.tensors s

/-- The record of a scale group on this module for the step that ends: the largest of its member slots' (R99). -/
def groupRecord (s : State) (g : Nat) : Int :=
  ((s.body.slots.filter (fun d => d.group == g && (d.mode == 1 || d.mode == 2))).map (fun d => ((s.plot d.plot).slot d.slot).amax)).foldl max noAmax

/-- The records of the step n that ends: kept for the combination during the next step, and entered at once for a group of one
module; a record of step n - 1 that was not combined in time is missed (R101). -/
def keepRecords (n : Nat) (s : State) : State :=
  let s := State.each (fun (g : GroupDef) s =>
    if g.tally.isSome && decide (1 ≤ n) && !((s.sch.hist.get [] g.group).any (fun x => x.1 == n - 1)) then
      event 8 6 0x70 [n - 1, g.group] ((putHist g.group (n - 1) noAmax s).onSch (fun c => { c with gaps := c.gaps.set 0 g.group n }))
    else s) s.body.groups s
  State.each (fun (g : GroupDef) s =>
    let a := groupRecord s g.group
    let s := s.onSch (fun c => { c with prevAmax := c.prevAmax.set 0 g.group (if a = noAmax then 0 else (a + 65536).toNat) })
    if g.tally.isNone then putHist g.group n a s else s) s.body.groups s

/-- A slot at the boundary that opens step n (R101, R108, R192): its override ends, its record is cleared, and a HISTORY slot
takes its pending K, a working-copy group's only when its halves flip. -/
def slotBoundary (n : Nat) (flips : List Nat) (d : SlotDef) (s : State) : State :=
  let t := (s.plot d.plot).slot d.slot
  let gap := decide (t.mode = 1) && (let m := s.sch.gaps.get 0 t.group; m != 0 && decide (n ≤ m + 1 + t.nwin))
  let s := s.onPlot d.plot (fun q => { q with slots := q.slots.set {} d.slot { t with
    ovr := false, amax := noAmax, gap := gap
    k := if t.ovr ∧ t.mode = 0 then d.k else if t.ovr ∧ t.mode = 1 then (groupDef s t.group).kinit else t.k } })
  if t.mode = 1 ∧ (!(wcGroups s).contains t.group ∨ flips.contains t.group) then
    match (historyK s d.plot d.slot n).2 with
    | some a => setSlotK d.plot d.slot a false d.slot s
    | none => s
  else s

/-- STREAM-class semaphores go to 0 (Table 11.4). -/
def clearStreamSems (s : State) : State :=
  State.each (fun d s => if d.cls = 5 then s.onPlot d.plot (fun q => { q with sems := q.sems.modify {} d.sem (fun x => { x with value := 0 }) }) else s)
    s.body.sems s

/-- The straggler work of one group: carried blocks decoded into CARRY_BASE, zeros over those carried before and not again; a
replica group's windows cleared unless its contribution is carried (R286). -/
def carryGroup (r : ReductionDef) (s : State) : State :=
  let now := carriedBlocks s r
  if r.replica then
    (match s.table r.target with
      | some tb => if now.isEmpty then State.each (fun i s => clearWindows (repWindow s tb (r.first + i) 0) tb.dim s) (List.range (r.blocks / (tb.dim / 32))) s else s
      | none => s)
  else
    let old := (s.ltr.carried.filter (fun kv => kv.2 && kv.1 / 2 ^ 32 == r.group)).map (fun kv => kv.1 % 2 ^ 32)
    let base := ((contribStreams s r.group).map StreamDef.base).headD r.srcBase
    let q := if now.isEmpty then (s, [], false) else ownContrib r base s
    let s := State.each (fun b s =>
      devWrite reqHedgerow .none (r.carryBase + 128 * b) (wordBytes ((contribVals r q.2.1 b).map convF32)) s) now q.1
    let s := State.each (fun b s => devWrite reqHedgerow .none (r.carryBase + 128 * b) (zeros 128) s) (old.filter (fun b => !now.contains b)) s
    s.onLtr (fun l =>
      let gone := old.foldl (fun m b => m.set false (2 ^ 32 * r.group + b) false) l.carried
      let kept := now.foldl (fun m b => m.set false (2 ^ 32 * r.group + b) true) gone
      { l with carried := kept })

/-- Carried contributions of every group. -/
def carryAll (s : State) : State :=
  State.each carryGroup (outgoingDefs s ++ s.body.reductions.filter (fun r => r.replica && r.owner == s.rank && r.members.contains s.rank)) s

/-- A skipped step's walks do not take place (R114, R169). -/
def skipWalks (s : State) : State :=
  if s.sch.skip then
    State.each (fun kv s => if (stepEntry s kv.1 s.sch.step).step = s.sch.step then onStepEntry kv.1 s.sch.step (fun x => { x with closed := true }) s else s)
      s.grn.tables s
  else s

/-! ### Noise statistics (R201) -/

/-- The dense contributions of this module enter the LOCAL windows. -/
def localNoise (s : State) : State :=
  State.each (fun r s =>
    match tensorDef s r.target with
    | none => s
    | some d =>
      match ruleSetOf s d.ruleSet with
      | none => s
      | some rs =>
        if r.replica || !r.members.contains s.rank then s
        else
          let own := decide (r.owner = s.rank)
          let base := if own then r.srcBase else ((contribStreams s r.group).map StreamDef.base).headD r.srcBase
          let gone := if own then [] else missedBlocks s r
          let q := ownContrib r base s
          State.each (fun b s => noiseLocal d.ruleSet rs (contribVals r q.2.1 b) s) ((List.range r.blocks).filter (fun b => !gone.contains b)) q.1)
    s.body.reductions s

/-- The step's entry, and the windows cleared; the local window of R187 of a late tensor's rule set goes on. -/
def pushNoise (s : State) : State :=
  let n := s.sch.step
  let s := if s.sch.skip then s else localNoise s
  let e : Noise := if s.sch.skip then ⟨n, true, []⟩ else
    ⟨n, false, s.ltr.sets.filterMap (fun kv => kv.2.map (fun rs => (kv.1, rs.xn, s.ltr.norms.get {} kv.1)))⟩
  let late := (s.body.tensors.filter (fun d => (s.tensor d.tensor).late)).map TensorDef.ruleSet
  s.onLtr (fun l =>
    let es := (l.noise ++ [e]).drop (l.noise.length + 1 - 64)
    { l with
    noise := es
    norms := l.norms.filterMap (fun kv => if late.contains kv.1 && (kv.2.glob != 0 || kv.2.satGlob || kv.2.sent.isSome) then
      some (kv.1, { glob := kv.2.glob, satGlob := kv.2.satGlob, sent := kv.2.sent }) else none) })

/-! ### Action 4: the next step -/

/-- Plot p begins the step's program; what was left of the last one is abandoned (R340). No region of the step has started: all
their flags and passing amounts are cleared (R105; DEDUCED, log 89). -/
def startPlot (p : Nat) (s : State) : State :=
  settle p .primary ((progOf s p .primary).length + 1) (settle p .deferred ((progOf s p .deferred).length + 1)
    (s.onPlot p (fun q => { q with pcP := 0, pcD := 0, replay := none, check := none, stopped := false, tallied := false
                                   hostLost := false, unreg := 0, regLevel := [], regFlags := [], regAmax := [], passOne := false
                                   scopeAmax := none, replayClocks := 0 })))

/-- Step n opens: its number, its samples, its books, and the plots. -/
def openStepNo (n : Nat) (s : State) : State :=
  let none_ := s.sch.armed.get 0 n == 0 || !s.sch.lookDone
  let s := s.onSch (fun c => { c with
    step := n % 2 ^ 32, unarmed := none_, skip := false, updating := false, lookDone := false, lookHeld := false, events := 0, combined := none, scopes := []
    armed := c.armed.select (fun k _ => decide (n ≤ k))
    recs := if none_ && !parked s then c.recs.modify {} n (fun r => { r with unarmed := true }) else c.recs })
  let s := s.onGrn (fun g => { g with
    bags := if none_ then [] else g.bagsNext, bagsNext := [], late := [], serving := g.served, handles := g.handlesNext
    subst := [], gradLost := [] })
  let s := s.onFab (fun f => { f with engReady := [], absentTx := [], delivered := [], unit := [] })
  let s := s.onLtr (fun l => { l with taken := [], reduced := [], repDone := [], missed := [] })
  let s := if none_ && !parked s then event 7 15 0x70 [n, s.sch.epoch] s else s
  if parked s then s else State.each startPlot (List.range 64) s

/-- The non-finite count that STEP_STATUS reports of a step: a skipped step's combined count (R114), which the root of the tally knows,
and which elsewhere is at least this module's own and above 0; the module's own otherwise. -/
def stepCount (s : State) : Nat :=
  if s.sch.skip then (s.sch.combined).getD (max 1 (s.sch.events + Config.othersCount s.sch.step)) else s.sch.events

/-- The record of the step that ends (STEP_STATUS). -/
def closeRecord (s : State) : State :=
  let n := s.sch.step
  let k := stepCount s
  s.onSch (fun c =>
    let done := c.recs.modify {} n (fun r => { r with complete := true, skipped := c.skip, nonfinite := k })
    let kept := done.map (fun kv => if kv.1 + 4096 < n then (kv.1, { kv.2 with unarmed := false, nonfinite := 0, replays := 0 }) else kv)
    { c with recs := kept })

/-! ### A bundle becomes active (R268, R385) -/

/-- A tensor of the new bundle is the outgoing bundle's at the same place (R385). -/
def samePlace (a b : TensorDef) : Bool :=
  a.tensor == b.tensor && a.groups == b.groups && a.bank0 == b.bank0 && a.bank1 == b.bank1 && a.wc0 == b.wc0 && a.wc1 == b.wc1

/-- The tensors of the new bundle with their current banks and halves. -/
def placeTensors (old new : BundleBody) (first : Nat) (t : Tab Tensor) : Tab Tensor :=
  new.tensors.foldl (fun m d =>
    let x : Tensor := if old.tensors.any (samePlace d) then t.get {} d.tensor else {}
    m.set {} d.tensor { bank := x.bank, half := x.half, frozen := x.frozen, step := first }) []

/-- A plot under the new bundle: registers, weight bank, semaphores and slots at the bundle's values. -/
def bundlePlot (b : BundleBody) (p : Nat) (q : Plot) : Plot :=
  { q with
    bank := [], v := [], s := [], m := [], flight := [], accs := [], mashQ := [], regFlags := [], regAmax := [], regLevel := [], passOne := false, scopeAmax := none
    sems := (b.sems.filter (fun d => d.plot == p)).foldl (fun t d => t.set {} d.sem { value := d.init, cls := d.cls, assigned := true }) []
    slots := (b.slots.filter (fun d => d.plot == p)).foldl (fun t d => t.set {} d.slot
      { k := if d.mode = 0 then d.k else ((b.groups.find? (fun g => g.group == d.group)).map GroupDef.kinit).getD 0
        mode := d.mode, nwin := d.nwin, tfmt := d.tfmt, margin := d.margin, group := d.group }) [] }

/-- The trained ports of the module's domain join the schedule of the bundle that becomes active: those ACTIVE or HELD with NONE, WIRING,
SCHEDULE or DELAY_EXCEEDED are looked at anew, and each sends its LINK_SIG (R237, R253; DEDUCED, log 105). -/
def activatePorts (s : State) : State :=
  State.each (fun p s =>
    let q := s.port p
    if q.state = 5 ∨ (q.state = 4 ∧ (q.cause = 0 ∨ q.cause = 0x0A ∨ q.cause = 0x0B ∨ q.cause = 0x0C)) then joinPort p false s else s) (List.range 16) s

/-- The run lists of the bundle's templates put at their RUN_BASEs (R245), when the bundle becomes active (DESIGN CHOICE, log 111). -/
def putRunLists (y : BundleBody) (s : State) : State :=
  State.each (fun t s => State.each (fun p s => if t.count p = 0 then s else devWrite reqMaltster .none (t.base p) (t.listBytes p) s) (List.range 16) s)
    y.templates s

/-- The bundle becomes active; `first` is the step it opens. IMAGES are written, tun regions 0 to 127 loaded, every group of
reductions at DROP, and no record precedes its first step. -/
def install (b : Bundle) (first : Nat) (s : State) : State :=
  let old := s.body
  let y := b.body
  let s := s.onSch (fun c => { c with
    active := some b, staged := none, rate := c.stagedRate, stagedRate := 0, allow := c.stagedAllow, stagedAllow := 0, carry := [], prevAmax := [], gaps := [], planIdx := 0, armed := []
    template := (y.plan.head?.map PlanEntry.template).getD 0
    hist := y.groups.foldl (fun t g => t.set [] g.group [(first - 1, noAmax)]) [] })
  let s := { s with plots := (List.range 64).foldl (fun t p => t.modify {} p (bundlePlot y p)) s.plots }
  let s := State.each (fun x s => devWrite reqMaltster .none x.1 x.2 s) y.images (s.onMem (fun m => unprotectAll { m with
    tun := y.tuns.foldl (fun t d => t.set {} d.n { base := d.base, fin := d.fin, x := d.x, en := true, int32 := d.int32 })
      (m.tun.select (fun k _ => decide (128 ≤ k))) }))
  let s := putRunLists y s
  let s := s.onLtr (fun l => { l with tensors := placeTensors old y first l.tensors, reduce := [], reduced := [], taken := [], books := [], carried := [], missed := [] })
  let s := s.onFab (fun f => { f with tallies := [], rel := [], engReady := [], absentTx := [], delivered := [], unit := [] })
  let s := s.onGrn (fun g => { g with bags := [], bagsNext := [], asks := [], served := [], handlesNext := [] })
  let s := startCasks old.casks (s.onCsk (fun c => { c with use := [], next := [], load := [], seqs := [], seqsNext := [] }))
  updateSlow (activatePorts s)

/-! ### The step boundary (R26) -/

/-- The activation due at this boundary, if any. -/
def dueActivation (s : State) : Option Bundle :=
  if s.sch.latches.any (fun l => match l.what with | .activate _ => l.due | _ => false) then s.sch.staged else none

/-- The boundary between the running step and the next. -/
def stepBoundary (s : State) : State :=
  let n := s.sch.step
  let skip := s.sch.skip
  let s := State.each finishPlot (List.range 64) s
  let s := closeReductions s
  let flips := flipping s
  let s := parkNow (checkBooks (commitDense s))
  let s := pushNoise (carryAll (skipWalks s))
  let next := dueActivation s
  let s := latchEta (n + 1) (applyDue s)
  let s := State.each (slotBoundary (n + 1) flips) s.body.slots (keepRecords n s)
  let s := if next.isSome then s.onCsk (fun c => { c with next := [], load := [], seqsNext := [] }) else s
  let s := serviceBoundary (caskBoundary skip (clearStreamSems s))
  let s := closeRecord s
  let s := match next with | some b => install b (n + 1) s | none => s
  fillCaskStreams (openStepNo (n + 1) (latchRoots s))

/-! ### Epochs (R229, R249, R278) -/

/-- The entry of the PLAN that describes the running epoch. -/
def planNow (s : State) : PlanEntry := s.body.plan.getD s.sch.planIdx ⟨0, 0, false, false, false⟩

/-- Unfinished runs cut by the release (R249): TX runs of every port, RX runs of ports whose partner sends nothing. -/
def cutEpoch (s : State) : State :=
  State.each (fun p s =>
    let s := cutTx p s
    if carriesRuns (s.port p) then s else cutRx p s.sch.template s) (List.range 16) s

/-- The Hedgerow reads the run lists of the epoch's template ahead through the Malt cache (R246); what they say is the bundle's, whose
lists stand there. -/
def readRunLists (s : State) : State :=
  match templateOf s s.sch.template with
  | none => s
  | some t => State.each (fun p s => if t.count p = 0 then s else (devRead reqHedgerow .none (t.base p) (16 * t.count p) s).1) (List.range 16) s

/-- The work of the look-ahead of the next step: its batch ingested, its sequence section read (R154, R211). -/
def lookWork (s : State) : State :=
  let a := s.sch.armed.get 0 (s.sch.step + 1)
  if a = 0 then s
  else if !grnIssues s then s.onSch (fun c => { c with lookHeld := true })
  else caskLook (a - 1) (ingest (a - 1) (s.onSch (fun c => { c with lookHeld := false })))

/-- The look-ahead start epoch (R24, R27, R157, R199): walks of the step before are cut, look-ahead bound commands become due at
the next boundary, and the next step's batch is read. -/
def lookStart (s : State) : State :=
  let n := s.sch.step
  let s := if n = 0 then s else State.each (fun kv s => cutWalk kv.1 (n - 1) s) s.grn.tables s
  let s := if n = 0 then s else asidePins (n - 1) s
  let s := s.onSch (fun c => { c with lookDone := true, latches := c.latches.map (fun l => { l with due := true }) })
  lookWork (s.onGrn (fun g => { g with bagsNext := [], asks := [], served := [], handlesNext := [] }))

/-- The update exchange opens (R113, R114): SKIP counts only on this release. -/
def openUpdate (skip : Bool) (s : State) : State :=
  let s := s.onSch (fun c => { c with updating := true, skip := skip })
  if skip then event 8 1 0x70 [s.sch.step, s.sch.events] s
  else if parked s then s
  else applyReplicas (formReplicaContribs (formGradRecords s))

/-- The ports begin the epoch: flit times from 0, runs unchecked; retrained ports rejoin, and runs carry data again after
FREE (R229, R244, R253). -/
def startPorts (s : State) : State :=
  let s := State.each (fun p s =>
    let s := s.onFlow p (fun f => { f with
      t := 0, ready := [], checked := [], lostFwd := [], passed := [], fifo := f.fifo.filter (fun h => h.ep == s.sch.epoch) })
    if (s.port p).state = 5 ∧ (s.port p).rejoin then s.onPort p (fun q => { q with rejoin := false }) else s) (List.range 16) s
  s.onFab (fun f => { f with syntWait := f.syntWait && !decide (f.synt ≤ 1) })

/-- The data path resumes at the release after hold (R109, R340): a replay is not resumed, and a look-ahead that hold stopped
is done. -/
def resumeHold (s : State) : State :=
  if s.mst.resume then
    let s := s.onMst (fun m => { m with resume := false })
    let s := State.each (fun p s => if (s.plot p).replay.isSome then s.onPlot p (fun q => { q with stopped := true }) else s) (List.range 64) s
    if s.sch.lookHeld then lookWork s else s
  else s

/-- The EPOCH tally's next generation carries the number of the epoch to be opened (Table 11.7). -/
def nextEpochTally (s : State) : State :=
  match fabricTally s 1 with
  | some (d, _) => (closeTally d.n s).onTally d.n (fun t => { t with gen := (s.sch.epoch + 1) % 256 })
  | none => s

/-- The epoch that the PLAN gives begins. -/
def startEpoch (s : State) : State :=
  let s := nextEpochTally (readRunLists (startPorts (s.onSch (fun c => { c with arrived := false }))))
  if (planNow s).lookahead then lookStart s else s

/-- A release of the EPOCH tally acted on. -/
def actEpoch (r : Release) (s : State) : State :=
  if !s.hasBundle then s
  else
    let e := planNow s
    let s := resumeHold (cutEpoch s)
    let s := s.onSch (fun c => { c with
      epoch := r.epoch, template := r.template, planIdx := (c.planIdx + 1) % max 1 s.body.plan.length })
    let s := if e.opensUpdate then openUpdate r.skip s else s
    let s := if e.opensStep then stepBoundary (s.onSch (fun c => { c with planIdx := 0 })) else s
    shutdownParked (startEpoch s)

/-! ### BARRIER releases (R171, R268, R276) -/

/-- A BUNDLE_ACTIVATE accepted with no bundle active: the release is the boundary that opens FIRST_STEP. -/
def activateNow (b : Bundle) (first : Nat) (s : State) : State :=
  let s := install b first s
  let s := s.onSch (fun c => { c with epoch := 0, lookDone := false })
  let s := latchRoots (latchEta first (applyDue s))
  let s := s.onMst (fun m => { m with mode := if m.mode = .ready then .running else m.mode
                                      heldFrom := if m.mode = .hold ∧ m.heldFrom = .ready then .running else m.heldFrom })
  startEpoch (fillCaskStreams (openStepNo first s))

/-- A coordinated table command accepted: the generation advances and the change is latched. -/
def acceptTable (c : Cmd) (w : LatchWhat) (commit : Bool) (s : State) : State :=
  let t := c.at_ 0 2
  let n := lookStep s
  respond c { status := .ok, step := some n }
    (latch true w (s.onTable t (fun tb => { tb with gen := (tb.gen + 1) % 2 ^ 32, committing := tb.committing || commit })))

/-- A coordinated command accepted at the release of its tally. -/
def acceptCmd (c : Cmd) (s : State) : State :=
  let t := c.at_ 0 2
  if c.op = 0x0304 then acceptTable c (.version t) true s
  else if c.op = 0x0306 then acceptTable c (.replicate t (argRows c)) false s
  else if c.op = 0x0307 then acceptTable c (.unreplicate t (argRows c)) false s
  else if c.op = 0x0505 then
    acceptTable c (if c.at_ 2 1 = 1 then .reshardCancel t ((reshardEntries c).map Prod.fst) else .reshardStart t (reshardEntries c)) false s
  else if c.op = 0x0502 then
    match s.sch.staged with
    | none => respond c { status := .notPresent } s
    | some b =>
      if s.hasBundle then respond c { status := .ok, step := some (boundStep s) } (latch false (.activate (c.at_ 8 8)) s)
      else activateNow b (c.at_ 8 8) (respond c { status := .ok, step := some (c.at_ 8 8) } s)
  else s

/-- Tables whose completion marker a release of their coordination tally accepts, when no command waits on it (R291). -/
def acceptMarkers (fid : Nat) (s : State) : State :=
  State.each (fun kv s =>
    match kv.2 with
    | some tb => if tb.members = fid ∧ !tb.movingShards.isEmpty then latch true (.reshardDone kv.1) s else s
    | none => s) s.grn.tables s

/-- A release of a BARRIER tally acted on: its semaphores posted, and the commands that wait on it accepted. -/
def actBarrier (fid : Nat) (d : TallyDef) (s : State) : State :=
  let s := State.each (fun x s => semPostAt x.1 x.2 1 s) d.posts (closeTally d.n s)
  let ms := (List.range 64).filter (fun m => match (s.mbx m).coord with | some k => k.fid == fid | none => false)
  if ms.isEmpty then acceptMarkers fid s
  else State.each (fun m s => match heldCmd s m with | some c => acceptCmd c s | none => s) ms s

/-- RELEASE_ACT: D_group - ACC has passed since the release of a fabric tally arrived, or D_group since its root issued it. -/
def releaseAct (fid : Nat) (s : State) : State :=
  match s.fab.rel.get none fid, fabricTally s fid with
  | some r, some (d, _) =>
    let s := s.onFab (fun f => { f with rel := f.rel.set none fid none })
    if d.kind = .epoch then actEpoch r s else actBarrier fid d s
  | _, _ => s

/-- RELEASE_ACT. -/
def execReleaseAct (fid : Fin 64) (s : State) : Host.Outcome State Fault Refusal := .next (announce s (releaseAct fid s))

end Sys2Proof.Machine
end

