-- ==== Sys2Proof/Machine/Dispatch.lean ====
section
/-! DEFINITION. One arm for each command: its meaning. -/

namespace Sys2Proof.Machine

/-- What a command does to everything but the queue. -/
def exec (i : Instr) (s : State) : Host.Outcome State Fault Refusal :=
  match i with
  | .getInfo m => Sys2Proof.Machine.execGetInfo m s
  | .getStatus m => Sys2Proof.Machine.execGetStatus m s
  | .setProfile m => Sys2Proof.Machine.execSetProfile m s
  | .park m => Sys2Proof.Machine.execPark m s
  | .unpark m => Sys2Proof.Machine.execUnpark m s
  | .shutdown m => Sys2Proof.Machine.execShutdown m s
  | .getAttestation m => Sys2Proof.Machine.execGetAttestation m s
  | .setPartition m => Sys2Proof.Machine.execSetPartition m s
  | .allocObject m => Sys2Proof.Machine.execAllocObject m s
  | .freeObject m => Sys2Proof.Machine.execFreeObject m s
  | .moveObject m => Sys2Proof.Machine.execMoveObject m s
  | .setTunWindow m => Sys2Proof.Machine.execSetTunWindow m s
  | .hopperRun m => Sys2Proof.Machine.execHopperRun m s
  | .tableCreate m => Sys2Proof.Machine.execTableCreate m s
  | .tableLoad m => Sys2Proof.Machine.execTableLoad m s
  | .tableStageVersion m => Sys2Proof.Machine.execTableStageVersion m s
  | .tableCommitVersion m => Sys2Proof.Machine.execTableCommitVersion m s
  | .tableExport m => Sys2Proof.Machine.execTableExport m s
  | .replicateRows m => Sys2Proof.Machine.execReplicateRows m s
  | .unreplicateRows m => Sys2Proof.Machine.execUnreplicateRows m s
  | .granaryStats m => Sys2Proof.Machine.execGranaryStats m s
  | .portConfig m => Sys2Proof.Machine.execPortConfig m s
  | .portMeasure m exch offset => Sys2Proof.Machine.execPortMeasure m exch offset s
  | .portRetrain m => Sys2Proof.Machine.execPortRetrain m s
  | .portStatus m => Sys2Proof.Machine.execPortStatus m s
  | .partnerTable m => Sys2Proof.Machine.execPartnerTable m s
  | .setMac m => Sys2Proof.Machine.execSetMac m s
  | .bundleLoad m body => Sys2Proof.Machine.execBundleLoad m body s
  | .bundleActivate m => Sys2Proof.Machine.execBundleActivate m s
  | .stepArm m => Sys2Proof.Machine.execStepArm m s
  | .stepStatus m => Sys2Proof.Machine.execStepStatus m s
  | .reshard m => Sys2Proof.Machine.execReshard m s
  | .reshardCancel m => Sys2Proof.Machine.execReshardCancel m s
  | .setStragglerPolicy m => Sys2Proof.Machine.execSetStragglerPolicy m s
  | .ruleSet m => Sys2Proof.Machine.execRuleSet m s
  | .setStepSize m => Sys2Proof.Machine.execSetStepSize m s
  | .precondConfig m => Sys2Proof.Machine.execPrecondConfig m s
  | .stateExport m => Sys2Proof.Machine.execStateExport m s
  | .stateImport m => Sys2Proof.Machine.execStateImport m s
  | .noiseStats m => Sys2Proof.Machine.execNoiseStats m s
  | .fwStage m => Sys2Proof.Machine.execFwStage m s
  | .fwActivate m => Sys2Proof.Machine.execFwActivate m s
  | .channelOut m => Sys2Proof.Machine.execChannelOut m s
  | .channelIn m bad => Sys2Proof.Machine.execChannelIn m bad s
  | .cellarOut m => Sys2Proof.Machine.execCellarOut m s
  | .cellarIn m bad => Sys2Proof.Machine.execCellarIn m bad s
  | .recalibrate m failed => Sys2Proof.Machine.execRecalibrate m failed s
  | .sensorsRead m => Sys2Proof.Machine.execSensorsRead m s
  | .countersRead m => Sys2Proof.Machine.execCountersRead m s
  | .errlogRead m => Sys2Proof.Machine.execErrlogRead m s
  | .stickyClear m => Sys2Proof.Machine.execStickyClear m s
  | .coppiceResults m => Sys2Proof.Machine.execCoppiceResults m s
  | .idleByCause m => Sys2Proof.Machine.execIdleByCause m s
  | .reservedOpcode m => Sys2Proof.Machine.execReservedOpcode m s
  | .coordFail m => Sys2Proof.Machine.execCoordFail m s
  | .bundleCoordFail m => Sys2Proof.Machine.execBundleCoordFail m s
  | .mbxCmdProd m v => Sys2Proof.Machine.execMbxCmdProd m v s
  | .mbxRspCons m v => Sys2Proof.Machine.execMbxRspCons m v s
  | .mbxCtrlReset m v => Sys2Proof.Machine.execMbxCtrlReset m v s
  | .stmStickyW1c g v => Sys2Proof.Machine.execStmStickyW1c g v s
  | .stmSupplyWrite => Sys2Proof.Machine.execStmSupplyWrite s
  | .fncBar2BaseWrite v => Sys2Proof.Machine.execFncBar2BaseWrite v s
  | .fncHostLatWrite v => Sys2Proof.Machine.execFncHostLatWrite v s
  | .fncFenceReq low wide v => Sys2Proof.Machine.execFncFenceReq low wide v s
  | .segmentEnable n w0 => Sys2Proof.Machine.execSegmentEnable n w0 s
  | .segmentDisable n w0 => Sys2Proof.Machine.execSegmentDisable n w0 s
  | .registerWrite off wide v => Sys2Proof.Machine.execRegisterWrite off wide v s
  | .fenceComplete => Sys2Proof.Machine.execFenceComplete s
  | .bar0Access write off len data => Sys2Proof.Machine.execBar0Access write off len data s
  | .bar2Read off len => Sys2Proof.Machine.execBar2Read off len s
  | .bar2Write off data ep => Sys2Proof.Machine.execBar2Write off data ep s
  | .atomicopRequest off => Sys2Proof.Machine.execAtomicopRequest off s
  | .configRequest write reg v => Sys2Proof.Machine.execConfigRequest write reg v s
  | .readCompletion tag status ep data => Sys2Proof.Machine.execReadCompletion tag status ep data s
  | .cplTimeout tag => Sys2Proof.Machine.execCplTimeout tag s
  | .pcieRecovery ns => Sys2Proof.Machine.execPcieRecovery ns s
  | .linkSlow speed width => Sys2Proof.Machine.execLinkSlow speed width s
  | .hostDetach cause => Sys2Proof.Machine.execHostDetach cause s
  | .coalesceTimeout m => Sys2Proof.Machine.execCoalesceTimeout m s
  | .takeover cause => Sys2Proof.Machine.execTakeover cause s
  | .maltsterRestart served => Sys2Proof.Machine.execMaltsterRestart served s
  | .maltsterLoss => Sys2Proof.Machine.execMaltsterLoss s
  | .hop p st => Sys2Proof.Machine.execHop p st s
  | .rowGroupStart p h => Sys2Proof.Machine.execRowGroupStart p h s
  | .hedgeDrain p h => Sys2Proof.Machine.execHedgeDrain p h s
  | .hopComplete p => Sys2Proof.Machine.execHopComplete p s
  | .wload p st => Sys2Proof.Machine.execWload p st s
  | .wloadComplete p => Sys2Proof.Machine.execWloadComplete p s
  | .mash p st => Sys2Proof.Machine.execMash p st s
  | .move p st => Sys2Proof.Machine.execMove p st s
  | .moveComplete p => Sys2Proof.Machine.execMoveComplete p s
  | .swait p st => Sys2Proof.Machine.execSwait p st s
  | .spost p st => Sys2Proof.Machine.execSpost p st s
  | .ewait p st => Sys2Proof.Machine.execEwait p st s
  | .fclr p st => Sys2Proof.Machine.execFclr p st s
  | .regionCheck p => Sys2Proof.Machine.execRegionCheck p s
  | .scopeDecision p => Sys2Proof.Machine.execScopeDecision p s
  | .loopDescriptor p => Sys2Proof.Machine.execLoopDescriptor p s
  | .rootDescriptor p => Sys2Proof.Machine.execRootDescriptor p s
  | .nop p => Sys2Proof.Machine.execNop p s
  | .fadd p => Sys2Proof.Machine.execFadd p s
  | .fsub p => Sys2Proof.Machine.execFsub p s
  | .fmul p => Sys2Proof.Machine.execFmul p s
  | .ffma p => Sys2Proof.Machine.execFfma p s
  | .fmin p => Sys2Proof.Machine.execFmin p s
  | .fmax p => Sys2Proof.Machine.execFmax p s
  | .fabs p => Sys2Proof.Machine.execFabs p s
  | .fneg p => Sys2Proof.Machine.execFneg p s
  | .fdiv p => Sys2Proof.Machine.execFdiv p s
  | .fsqrt p => Sys2Proof.Machine.execFsqrt p s
  | .fexp2 p => Sys2Proof.Machine.execFexp2 p s
  | .flog2 p => Sys2Proof.Machine.execFlog2 p s
  | .fcmpeq p => Sys2Proof.Machine.execFcmpeq p s
  | .fcmplt p => Sys2Proof.Machine.execFcmplt p s
  | .fcmple p => Sys2Proof.Machine.execFcmple p s
  | .fcmpun p => Sys2Proof.Machine.execFcmpun p s
  | .iadd p => Sys2Proof.Machine.execIadd p s
  | .isub p => Sys2Proof.Machine.execIsub p s
  | .imul p => Sys2Proof.Machine.execImul p s
  | .and p => Sys2Proof.Machine.execAnd p s
  | .or p => Sys2Proof.Machine.execOr p s
  | .xor p => Sys2Proof.Machine.execXor p s
  | .shl p => Sys2Proof.Machine.execShl p s
  | .shra p => Sys2Proof.Machine.execShra p s
  | .shrl p => Sys2Proof.Machine.execShrl p s
  | .imin p => Sys2Proof.Machine.execImin p s
  | .imax p => Sys2Proof.Machine.execImax p s
  | .icmpeq p => Sys2Proof.Machine.execIcmpeq p s
  | .icmplt p => Sys2Proof.Machine.execIcmplt p s
  | .vmov p => Sys2Proof.Machine.execVmov p s
  | .fsel p => Sys2Proof.Machine.execFsel p s
  | .vbcs p => Sys2Proof.Machine.execVbcs p s
  | .vscal p => Sys2Proof.Machine.execVscal p s
  | .cvtF2b p => Sys2Proof.Machine.execCvtF2b p s
  | .cvtF2h p => Sys2Proof.Machine.execCvtF2h p s
  | .cvtB2f p => Sys2Proof.Machine.execCvtB2f p s
  | .cvtH2f p => Sys2Proof.Machine.execCvtH2f p s
  | .cvtF2i p => Sys2Proof.Machine.execCvtF2i p s
  | .cvtI2f p => Sys2Proof.Machine.execCvtI2f p s
  | .iota p => Sys2Proof.Machine.execIota p s
  | .rsum p => Sys2Proof.Machine.execRsum p s
  | .rsuma p => Sys2Proof.Machine.execRsuma p s
  | .rmax p => Sys2Proof.Machine.execRmax p s
  | .rmin p => Sys2Proof.Machine.execRmin p s
  | .ramax p => Sys2Proof.Machine.execRamax p s
  | .irsuma p => Sys2Proof.Machine.execIrsuma p s
  | .mand p => Sys2Proof.Machine.execMand p s
  | .mor p => Sys2Proof.Machine.execMor p s
  | .mnot p => Sys2Proof.Machine.execMnot p s
  | .mset p => Sys2Proof.Machine.execMset p s
  | .mclr p => Sys2Proof.Machine.execMclr p s
  | .mfclr p => Sys2Proof.Machine.execMfclr p s
  | .maltAccess req addr hint write len data err => Sys2Proof.Machine.execMaltAccess req addr hint write len data err s
  | .commitGroup req lines => Sys2Proof.Machine.execCommitGroup req lines s
  | .fence req => Sys2Proof.Machine.execFence req s
  | .tadd req addr fmt bits => Sys2Proof.Machine.execTadd req addr fmt bits s
  | .tread req addr => Sys2Proof.Machine.execTread req addr s
  | .treadclr req addr => Sys2Proof.Machine.execTreadclr req addr s
  | .tclr req addr => Sys2Proof.Machine.execTclr req addr s
  | .tunIadd req addr v => Sys2Proof.Machine.execTunIadd req addr v s
  | .ireadclr req addr => Sys2Proof.Machine.execIreadclr req addr s
  | .linkRetransmit die => Sys2Proof.Machine.execLinkRetransmit die s
  | .cellarDieLost die => Sys2Proof.Machine.execCellarDieLost die s
  | .scrub ch found => Sys2Proof.Machine.execScrub ch found s
  | .hotRefresh stack hot => Sys2Proof.Machine.execHotRefresh stack hot s
  | .driftTracking ch => Sys2Proof.Machine.execDriftTracking ch s
  | .hopperDone h rep => Sys2Proof.Machine.execHopperDone h rep s
  | .resolutionRequest table rank micro row answer => Sys2Proof.Machine.execResolutionRequest table rank micro row answer s
  | .sectorFill entry sector err => Sys2Proof.Machine.execSectorFill entry sector err s
  | .agingSweep => Sys2Proof.Machine.execAgingSweep s
  | .pool sample feature rows => Sys2Proof.Machine.execPool sample feature rows s
  | .gradientRecord table k blocks handles => Sys2Proof.Machine.execGradientRecord table k blocks handles s
  | .embeddingRowUpdate table slot => Sys2Proof.Machine.execEmbeddingRowUpdate table slot s
  | .contribArrival group rank payload absent => Sys2Proof.Machine.execContribArrival group rank payload absent s
  | .denseGroupUpdate tensor group => Sys2Proof.Machine.execDenseGroupUpdate tensor group s
  | .reducedBlock group block payload absent => Sys2Proof.Machine.execReducedBlock group block payload absent s
  | .distArrival tensor owner first payload absent => Sys2Proof.Machine.execDistArrival tensor owner first payload absent s
  | .normReduction set q sats => Sys2Proof.Machine.execNormReduction set q sats s
  | .reshardRecord table shard index record mirrored => Sys2Proof.Machine.execReshardRecord table shard index record mirrored s
  | .reshardComplete table => Sys2Proof.Machine.execReshardComplete table s
  | .reshardFail table => Sys2Proof.Machine.execReshardFail table s
  | .tokenAppend slot layer key value => Sys2Proof.Machine.execTokenAppend slot layer key value s
  | .spill entry => Sys2Proof.Machine.execSpill entry s
  | .prefetch entry => Sys2Proof.Machine.execPrefetch entry s
  | .partDelivery sample layer pos guest => Sys2Proof.Machine.execPartDelivery sample layer pos guest s
  | .saveImage slot => Sys2Proof.Machine.execSaveImage slot s
  | .loadImage slot => Sys2Proof.Machine.execLoadImage slot s
  | .splitPartial sample layer part partials => Sys2Proof.Machine.execSplitPartial sample layer part partials s
  | .release port fid skip template epoch acc residence => Sys2Proof.Machine.execRelease port fid skip template epoch acc residence s
  | .releaseAct fid => Sys2Proof.Machine.execReleaseAct fid s
  | .arriveAt => Sys2Proof.Machine.execArriveAt s
  | .gradTallyArrival table => Sys2Proof.Machine.execGradTallyArrival table s
  | .amaxArrival fid => Sys2Proof.Machine.execAmaxArrival fid s
  | .rootIssue fid => Sys2Proof.Machine.execRootIssue fid s
  | .tallyArrive port fid gen count lane value => Sys2Proof.Machine.execTallyArrive port fid gen count lane value s
  | .tallyCombined fid gen lane value => Sys2Proof.Machine.execTallyCombined fid gen lane value s
  | .localTally n => Sys2Proof.Machine.execLocalTally n s
  | .tallyTimeout fid => Sys2Proof.Machine.execTallyTimeout fid s
  | .semPost rank plot sem count => Sys2Proof.Machine.execSemPost rank plot sem count s
  | .absent port marker flit rank => Sys2Proof.Machine.execAbsent port marker flit rank s
  | .replayNotice port seq => Sys2Proof.Machine.execReplayNotice port seq s
  | .measReq port id turnaround => Sys2Proof.Machine.execMeasReq port id turnaround s
  | .measResp port id t41 turnaround => Sys2Proof.Machine.execMeasResp port id t41 turnaround s
  | .cap port rec => Sys2Proof.Machine.execCap port rec s
  | .portNotice port event sig => Sys2Proof.Machine.execPortNotice port event sig s
  | .withyFlit port raw => Sys2Proof.Machine.execWithyFlit port raw s
  | .dataFlit port raw => Sys2Proof.Machine.execDataFlit port raw s
  | .flitTime port => Sys2Proof.Machine.execFlitTime port s
  | .runCheck port run => Sys2Proof.Machine.execRunCheck port run s
  | .trainingStage port outcome => Sys2Proof.Machine.execTrainingStage port outcome s
  | .linkDown port cause => Sys2Proof.Machine.execLinkDown port cause s
  | .autoRetrain port => Sys2Proof.Machine.execAutoRetrain port s
  | .delayMeasurement port => Sys2Proof.Machine.execDelayMeasurement port s
  | .linkDegraded port => Sys2Proof.Machine.execLinkDegraded port s
  | .cmisPoll port flags => Sys2Proof.Machine.execCmisPoll port flags s
  | .syntHoldover => Sys2Proof.Machine.execSyntHoldover s
  | .syntLost => Sys2Proof.Machine.execSyntLost s
  | .syntLock port steer => Sys2Proof.Machine.execSyntLock port steer s
  | .switchedFrame port hdr bodies => Sys2Proof.Machine.execSwitchedFrame port hdr bodies s
  | .switchedResend port rank => Sys2Proof.Machine.execSwitchedResend port rank s
  | .pauseRx port => Sys2Proof.Machine.execPauseRx port s
  | .hold mv => Sys2Proof.Machine.execHold mv s
  | .holdEnd lowest us => Sys2Proof.Machine.execHoldEnd lowest us s
  | .supplyPark => Sys2Proof.Machine.execSupplyPark s
  | .supplyReset mv us => Sys2Proof.Machine.execSupplyReset mv us s
  | .overvolt mv us => Sys2Proof.Machine.execOvervolt mv us s
  | .supplyHigh mv us => Sys2Proof.Machine.execSupplyHigh mv us s
  | .powerThrottle clocks => Sys2Proof.Machine.execPowerThrottle clocks s
  | .thermalThrottle sensor degrees clocks => Sys2Proof.Machine.execThermalThrottle sensor degrees clocks s
  | .thermalAlert sensor => Sys2Proof.Machine.execThermalAlert sensor s
  | .thermtrip sensor => Sys2Proof.Machine.execThermtrip sensor s
  | .sensorSample sensor value => Sys2Proof.Machine.execSensorSample sensor value s
  | .shutdownReqN => Sys2Proof.Machine.execShutdownReqN s
  | .start mv bladeA bladeB => Sys2Proof.Machine.execStart mv bladeA bladeB s
  | .startStage stage failed channels => Sys2Proof.Machine.execStartStage stage failed channels s
  | .startFailed cause => Sys2Proof.Machine.execStartFailed cause s
  | .coppiceTest kind results ms => Sys2Proof.Machine.execCoppiceTest kind results ms s
  | .liveTakeUp what => Sys2Proof.Machine.execLiveTakeUp what s
  | .bypass => Sys2Proof.Machine.execBypass s
  | .idcode => Sys2Proof.Machine.execIdcode s
  | .samplePreload pins => Sys2Proof.Machine.execSamplePreload pins s
  | .extest => Sys2Proof.Machine.execExtest s
  | .pcieLinkUp speed width flit => Sys2Proof.Machine.execPcieLinkUp speed width flit s
  | .standbyReady => Sys2Proof.Machine.execStandbyReady s
  | .railFault rail => Sys2Proof.Machine.execRailFault rail s

end Sys2Proof.Machine
end

