-- ==== Sys2Proof/Machine/Tick.lean ====
section
/-! DEFINITION. One cycle of the housekeeping clock (40 ns) with nothing commanded: time and the plot-clock counters
(R50, R71, R292; assumption log, entry 7). -/

namespace Sys2Proof.Machine

/-- Plot clocks in one housekeeping cycle: 1.5, 1.3 or 1.0 GHz against 25 MHz (Table 01.4). -/
def clocksPerTick (profile : Nat) : Nat := if profile = 0 then 60 else if profile = 1 then 52 else 40

/-- The class of the semaphore or epoch a stream's head waits on (Table 11.4), as the index of its counter of Table 11.11; none
when the head is no unsatisfied wait. -/
def waitClass (s : State) (p : Nat) (st : Stream) : Option Nat :=
  match instrAt s p st with
  | some (.swait n k) =>
    if semReady s p n k then none
    else
      let c := ((s.plot p).sems.get {} n).cls
      some (if c = 1 then 1 else if c = 2 then 2 else if c = 3 then 3 else if c = 4 then 5 else 4)
  | some (.ewait e) => if epochReached s e then none else some 4
  | none => some 4
  | some _ => none

/-- The counter of Table 11.11 that a plot's clocks advance (R292): REPLAY; BUSY while either stream issues or is held by the
plot's own engines; else the class of the primary stream's wait. A sequencer that issues nothing (hold, park, no bundle) counts as
at the end of a program. -/
def idleIndex (s : State) (p : Nat) : Nat :=
  let q := s.plot p
  if q.replay.isSome || q.check.isSome then 6
  else if !issues s || q.stopped then 4
  else
    match waitClass s p .primary with
    | none => 0
    | some c => if (waitClass s p .deferred).isNone then 0 else c

/-- The TAG of the MOVE a plot's clocks are counted for: the first in flight, while it waits for memory or the host
(Table 06.10). -/
def moveTagOf (q : Plot) (i : Nat) : Nat :=
  if i = 2 ∨ i = 3 then ((q.flight.find? (fun f => f.kind == 2)).map (fun f => (moveOf f.desc).tag)).getD q.moveTag else q.moveTag

/-- The operation hedge h works at: the first in flight with a row group of its own still to drain, its wait satisfied. -/
def hedgeOp (s : State) (p h : Nat) : Option HopDesc :=
  match nextDrain (s.plot p) h with
  | none => none
  | some i =>
    let f := (s.plot p).flight.getD i default
    let d := hopOf f.desc
    if f.ready || !d.waitEn || semReady s p d.semWait 1 then some d else none

/-- Where hedge h's clocks go in the order of Table 02.10 (R50): n clocks at one counter, or, while it computes, those that
consumed a chunk and those lost to plot-store arbitration (Config.lostClocks). -/
def hedgeClocks (s : State) (p h n : Nat) : List (Nat × Nat) :=
  let q := s.plot p
  match hedgeOp s p h with
  | none => [(4, n)]
  | some _ =>
    if decide (2 ≤ (q.accs.get [] h).length) then [(2, n)]
    else
      match nextStart q h with
      | none => [(2, n)]
      | some i =>
        if halfLoading q i (hopOf (q.flight.getD i default).desc).half then [(3, n)]
        else
          let lost := Config.lostClocks s.sch.clocks p h % (n + 1)
          [(0, n - lost), (1, lost)]

/-- The Mash engine's head waits: on its SEM_WAIT, or, after pass one of a replay's loop, on its scope. -/
def mashWaits (s : State) (p : Nat) : Bool :=
  let q := s.plot p
  q.passOne ||
    (match q.mashQ with
      | .loop off :: _ => (loopAt s p off).waitEn && !semReady s p (loopAt s p off).semWait 1
      | .root off :: _ => (rootAt s p off).waitEn && !rootMismatch s p (rootAt s p off) && !semReady s p (rootAt s p off).semWait 1
      | _ => false)

/-- Where the Mash engine's clocks go in the order of Table 03.7 (R71): IDLE, WAIT_SEM, or, while an entry runs, ACTIVE, STALL_DEP
and STALL_STORE (Config.lostClocks). -/
def mashClocksOf (s : State) (p n : Nat) : List (Nat × Nat) :=
  if (s.plot p).mashQ.isEmpty then [(4, n)]
  else if mashWaits s p then [(3, n)]
  else
    let dep := Config.lostClocks s.sch.clocks p 4 % (n + 1)
    let store := Config.lostClocks s.sch.clocks p 5 % (n - dep + 1)
    [(0, n - dep - store), (1, dep), (2, store)]

/-- A saturating 48-bit counter of a table advanced. -/
def addCount (i n : Nat) (t : Tab Nat) : Tab Nat := t.modify 0 i (fun c => sat48 (c + n))

/-- Counts from a first index on advanced. -/
def addCounts (base : Nat) (xs : List (Nat × Nat)) (t : Tab Nat) : Tab Nat := xs.foldl (fun t x => addCount (base + x.1) x.2 t) t

/-- One plot's counters advanced by n clocks, with the TAG of the operation each counts for: that of the last one counted (DESIGN
CHOICE, log 111). -/
def tickPlot (n p : Nat) (s : State) : State :=
  let i := idleIndex s p
  s.onPlot p (fun q => { q with
    hc := (List.range 4).foldl (fun t h => addCounts (5 * h) (hedgeClocks s p h n) t) q.hc
    htag := (List.range 4).foldl (fun t h => match hedgeOp s p h with | some d => t.set 0 h d.tag | none => t) q.htag
    mc := addCounts 0 (mashClocksOf s p n) q.mc
    ic := addCount i n q.ic
    moveTag := moveTagOf q i })

/-- One cycle of the clocks: the plot clock runs while the rails are up, less the clocks withheld. -/
def tickClocks (s : State) : State :=
  let s := s.onHk (fun h => { h with now := h.now + 1, fresh := [] })
  if s.hk.rails then
    let n := clocksPerTick s.sch.profile
    let w := min n s.sch.withheld
    let s := s.onSch (fun c => { c with clocks := sat48 (c.clocks + (n - w)), withheld := c.withheld - w })
    State.each (tickPlot (n - w)) (List.range 64) s
  else s

/-- One housekeeping cycle, in which a shutdown also goes on (R358). -/
def tick (s : State) : State := shutdownTick (tickClocks s)

end Sys2Proof.Machine
end

