-- ==== Sys2Proof/Certificates/Slice0/Obligations.lean ====
section
/-! DEFINITION. The statements for the provers, and the few words they are made of. -/

namespace Sys2Proof.Obl

open Sys2Proof.Machine

/-- The command mailbox m waits with, when its opcode is op and the checks common to all commands pass (R12, R322, R323,
R333), with its argument buffer read, and the state in which its body runs. -/
def taken (sh : Shape) (op m : Nat) (s : State) : Option (Cmd × State) :=
  match waiting s m with
  | none => none
  | some c =>
    if c.op = op ∧ precheck c sh (takeCmd m s) = none then
      let a := if c.argLen = 0 then (takeCmd m s, []) else bufferRead m c.argLocal c.argAddr c.argLen (takeCmd m s)
      some ({ c with arg := a.2 }, a.1)
    else none

/-- Command i completes on s: the response r to c is written over t, and nothing else happens. -/
def Replies (i : Instr) (s : State) (c : Cmd) (r : Reply) (t : State) : Prop :=
  exec i s = .next (announce s (respond c r t))

end Sys2Proof.Obl

open Sys2Proof Sys2Proof.Machine Sys2Proof.Obl

/-! ### The queue -/

/-- A step takes the command at the front of the queue and runs it with the queue's rest. -/
def Obligations.StepRunsFrontCommand : Prop :=
  ∀ (c : Instr) (cs : List Instr) (s : State), step { s with pending := c :: cs } = exec c { s with pending := cs }

/-- On an empty queue the block's clocks run for one cycle of 40 ns (DESIGN CHOICE, log 7). -/
def Obligations.IdleStepIsOneHousekeepingCycle : Prop :=
  ∀ s : State, s.pending = [] → s.mst.mode ≠ .shuttingDown →
    ∃ t, step s = .next t ∧ t.pending = [] ∧ t.hk.now = s.hk.now + 1 ∧ t.mem = s.mem ∧
      t.hk.fresh = [] ∧ (s.hk.rails = false → t = { s with hk := { s.hk with now := s.hk.now + 1, fresh := [] } }) ∧
      (s.hk.rails = true →
        t.sch.clocks = sat48 (s.sch.clocks + (clocksPerTick s.sch.profile - min (clocksPerTick s.sch.profile) s.sch.withheld)))

/-! ### Memory, whole -/

/-- Memory stays canonical, so equal memories are equal data. -/
def Obligations.EveryStepKeepsMemoryCanonical : Prop :=
  ∀ s t : State, s.mem.wf = true → step s = .next t → t.mem.wf = true

/-- Every command on every state answers a next state; a step takes one command and adds none; what is fused at manufacture stays. -/
def Obligations.EveryStepKeepsFusesAndTakesOneCommand : Prop :=
  (∀ (i : Instr) (s : State), ∃ t, exec i s = .next t ∧ t.pending = s.pending ∧ t.fuses.serial = s.fuses.serial ∧
    t.fuses.stepping = s.fuses.stepping ∧ t.fuses.secret = s.fuses.secret ∧ t.fuses.keys = s.fuses.keys ∧
    t.fuses.idcode = s.fuses.idcode ∧ t.fuses.copEntry = s.fuses.copEntry) ∧
  ∀ s t : State, step s = .next t →
    t.pending = s.pending.tail ∧ t.fuses.serial = s.fuses.serial ∧ t.fuses.stepping = s.fuses.stepping ∧
      t.fuses.secret = s.fuses.secret ∧ t.fuses.keys = s.fuses.keys ∧ t.fuses.idcode = s.fuses.idcode ∧ t.fuses.copEntry = s.fuses.copEntry

/-- The invariant holds at reset. -/
def Obligations.ResetMemoryIsCanonical : Prop := State.reset.mem.wf = true

/-! ### Reset -/

/-- The reset values of the register tables. -/
def Obligations.ResetValuesOfTheRegisterTables : Prop :=
  stmMode State.reset = 0 ∧ stmSupply State.reset = 0xFFFF0000 ∧
  (∀ m : Fin 64, ctrlWord m (State.reset.mbx m) = m * 2 ^ 8 + 2 ^ 16 ∧ (State.reset.mbx m).cmdProd = 0 ∧
    (State.reset.mbx m).cmdCons = 0 ∧ (State.reset.mbx m).rspProd = 0 ∧ (State.reset.mbx m).rspCons = 0) ∧
  State.reset.mst.eventEn = false ∧ State.reset.mst.eventVec = 255 ∧
  State.reset.host.bar2Base = 0 ∧ State.reset.host.hostLat = 2000 ∧ State.reset.host.mrrs = 2 ∧ State.reset.host.fences = [] ∧
  (∀ n, (State.reset.host.segs.get {} n).en = false) ∧
  (∀ p, (State.reset.port p).state = 0) ∧ State.reset.fab.synt = 3 ∧
  (∀ p n, (State.reset.plot p).hflags = 0 ∧ (State.reset.plot p).mflags = 0 ∧ ((State.reset.plot p).sems.get {} n).value = 0 ∧
    ((State.reset.plot p).slot n).k = 0 ∧ ((State.reset.plot p).slot n).mode = 0 ∧ slotWord1 ((State.reset.plot p).slot n) % 2 ^ 16 = 0x8000) ∧
  (∀ n, (State.reset.mem.tun.get {} n).en = false) ∧
  State.reset.hasBundle = false ∧ State.reset.sch.staged = none ∧ stickySummary State.reset = 0

/-! ### Mailboxes (13) -/

/-- Doorbells and consumed responses (R319). -/
def Obligations.DoorbellsFollowTheRingCounts : Prop :=
  (∀ (m : Fin 64) (v : BitVec 16) (s : State), (s.mbx m).cmdProd < 65536 → (s.mbx m).rspCons < 65536 →
    exec (.mbxCmdProd m v) s = .next
      (if (s.mbx m).en = true ∧ (v - BitVec.ofNat 16 (s.mbx m).rspCons).toNat ≤ 256 ∧
          (BitVec.ofNat 16 (s.mbx m).cmdProd - BitVec.ofNat 16 (s.mbx m).rspCons).toNat ≤ (v - BitVec.ofNat 16 (s.mbx m).rspCons).toNat
        then s.onMbx m (fun b => { b with cmdProd := v.toNat, dbReject := false })
        else s.onMbx m (fun b => { b with dbReject := true }))) ∧
  (∀ (m : Fin 64) (v : BitVec 16) (s : State), (s.mbx m).rspProd < 65536 → (s.mbx m).rspCons < 65536 →
    exec (.mbxRspCons m v) s = .next
      (if (v - BitVec.ofNat 16 (s.mbx m).rspCons).toNat ≤ (BitVec.ofNat 16 (s.mbx m).rspProd - BitVec.ofNat 16 (s.mbx m).rspCons).toNat
        then s.onMbx m (fun b => { b with rspCons := v.toNat }) else s)) ∧
  (∀ (m : Nat) (s : State) (c : Cmd), waiting s m = some c → c.slot = ringBytes s (areaOf m + 128 * ((s.mbx m).cmdCons % 256)) 128) ∧
  (∀ (m off : Nat) (bs : List Byte) (s : State), heldCmd (putRing off bs s) m = heldCmd s m)

/-- MBX_CTRL and the coalescing time (Table 13.4, R329). -/
def Obligations.MailboxControlAndCoalescing : Prop :=
  (∀ (m : Fin 64) (v : BitVec 64) (s : State), ∃ t, exec (.mbxCtrlReset m v) s = .next t ∧
    ctrlWord m (t.mbx m) = natBits 39 0 v.toNat - (if natBit 3 v.toNat then 8 else 0) - 16 * natBits 7 4 v.toNat ∧
    (let idle := natBit 3 v.toNat && !natBit 0 v.toNat && !(s.mbx m).active && (s.mbx m).coord.isNone
     (t.mbx m).cmdProd = (if idle then 0 else (s.mbx m).cmdProd) ∧ (t.mbx m).cmdCons = (if idle then 0 else (s.mbx m).cmdCons) ∧
     (t.mbx m).rspProd = (if idle then 0 else (s.mbx m).rspProd) ∧ (t.mbx m).rspCons = (if idle then 0 else (s.mbx m).rspCons)) ∧
    (∀ j, j ≠ m.val → t.mbx j = s.mbx j) ∧ t.mst.ring = s.mst.ring ∧ t.mem = s.mem) ∧
  (∀ (m : Fin 64) (s : State), (s.mbx m).irqEn = true → 0 < (s.mbx m).coal → s.host.detached = false →
    natBit 0 (msixByte s (16 * (s.mbx m).vector.getD m + 12)) = false →
    ∃ t, exec (.coalesceTimeout m) s = .next t ∧ t.host.irqs = s.host.irqs ++ [(s.mbx m).vector.getD m] ∧
      (t.mbx m).coal = 0 ∧ t.mem = s.mem ∧ t.sch = s.sch)

/-- The response slot (Table 13.6). -/
def Obligations.ResponseSlotLayout : Prop :=
  ∀ (c : Cmd) (r : Reply) (s : State), r.res = [] → (s.mbx c.m).shadowEn = false →
    ∃ a, a = areaOf c.m + 0x8000 + 128 * ((s.mbx c.m).rspProd % 256) ∧
      leNat (ringBytes (respond c r s) a 2) = c.op ∧
      leNat (ringBytes (respond c r s) (a + 2) 2) = r.status.code ∧
      ringBytes (respond c r s) (a + 4) 4 = slice c.slot 4 4 ∧
      leNat (ringBytes (respond c r s) (a + 12) 4) = 0 ∧
      leNat (ringBytes (respond c r s) (a + 16) 8) = r.step.getD s.sch.step % 2 ^ 64 ∧
      leNat (ringBytes (respond c r s) (a + 24) 8) = r.detail % 2 ^ 64 ∧
      ringBytes (respond c r s) (a + 32) 96 = padTo 96 r.inline ∧
      ((respond c r s).mbx c.m).rspProd = ((s.mbx c.m).rspProd + 1) % 65536 ∧ ((respond c r s).mbx c.m).active = false ∧
      (∀ k, k < a ∨ a + 128 ≤ k → (respond c r s).mst.ring.get 0 k = s.mst.ring.get 0 k) ∧
      (respond c r s).mem.cells = s.mem.cells

/-- Refusals change nothing (R324). -/
def Obligations.RefusedCommandsChangeNothing : Prop :=
  (∀ (m : Fin 64) (s : State) (c : Cmd), waiting s m = some c → knownOp c.op = false → s.mst.mode ≠ .fallow →
    Replies (.reservedOpcode m) s c { status := .badArgument } (takeCmd m s)) ∧
  (∀ (m : Fin 64) (s : State) (c : Cmd), waiting s m = some c → c.op = 0x0101 → c.flags < 8 → leAt c.slot 3 1 ≠ 0 →
    Replies (.getInfo m) s c { status := .badArgument, detail := 3 } (takeCmd m s)) ∧
  (∀ (m : Nat) (s : State), (takeCmd m s).mem = s.mem ∧ (takeCmd m s).plots = s.plots ∧ (takeCmd m s).grn = s.grn ∧ (takeCmd m s).ltr = s.ltr ∧
    (takeCmd m s).csk = s.csk ∧ (takeCmd m s).fab = s.fab ∧ (takeCmd m s).host = s.host ∧ (takeCmd m s).sch = s.sch ∧ (takeCmd m s).hk = s.hk ∧
    (takeCmd m s).mst.mode = s.mst.mode ∧ (takeCmd m s).mst.ring = s.mst.ring)

/-! ### Device and telemetry commands (Tables 13.8, 13.15) -/

/-- GET_INFO, GET_STATUS, SET_PROFILE and PARK. -/
def Obligations.DeviceCommandsAnswer : Prop :=
  (∀ (m : Fin 64) (s t : State) (c : Cmd), taken {} 0x0101 m s = some (c, t) →
    ∃ bs, Replies (.getInfo m) s c { status := .ok, inline := bs } t ∧ bs.length = 46 ∧
      leAt bs 0 8 = t.fuses.serial % 2 ^ 64 ∧ leAt bs 8 1 = t.fuses.stepping % 256 ∧ leAt bs 9 1 = b2n t.fw.slotB ∧
      leAt bs 10 1 = b2n t.mst.coreB ∧ (∀ i, i < 4 → leAt bs (12 + 4 * i) 4 = t.fw.ifvers.getD i 0 % 2 ^ 32) ∧
      leAt bs 28 4 = gibInService t false ∧ leAt bs 32 4 = gibInService t true ∧
      (t.sch.active = none → leAt bs 36 8 = 0 ∧ leAt bs 44 2 = 0xFFFF) ∧
      (∀ b, t.sch.active = some b → leAt bs 36 8 = b.hdr.scheduleId % 2 ^ 64 ∧ leAt bs 44 2 = b.hdr.rank % 65536)) ∧
  (∀ (m : Fin 64) (s t : State) (c : Cmd), taken {} 0x0102 m s = some (c, t) → (t.hk.sensors.get {} 148).failed = false →
    ∃ bs, Replies (.getStatus m) s c { status := .ok, inline := bs } t ∧ bs.length = 26 ∧
      leAt bs 0 8 = stmMode t % 2 ^ 64 ∧ leAt bs 8 8 = stmSupply t % 2 ^ 64 ∧ leAt bs 16 4 = t.sch.step % 2 ^ 32 ∧
      leAt bs 20 1 = t.sch.profile % 256 ∧ leAt bs 21 1 = b2n t.sch.staged.isSome + 2 * b2n t.hasBundle ∧
      leAt bs 22 2 = stickySummary t ∧
      leAt bs 24 2 = intBits 16 (Int.fdiv (t.hk.sensors.get {} 148).value 10)) ∧
  (∀ (m : Fin 64) (s t : State) (c : Cmd), taken { fields := [(0, 1)] } 0x0103 m s = some (c, t) →
    (c.at_ 0 1 ≤ 2 → (t.hasBundle = true → c.at_ 0 1 ≤ t.bhdr.profile) →
      Replies (.setProfile m) s c { status := .ok, step := some (if t.hasBundle then t.sch.step + 1 else 2 ^ 64 - 1) }
        { t with sch := { t.sch with latches := t.sch.latches ++ [⟨false, true, .profile (c.at_ 0 1)⟩] } }) ∧
    (c.at_ 0 1 ≤ 2 → t.hasBundle = true → t.bhdr.profile < c.at_ 0 1 →
      Replies (.setProfile m) s c { status := .refusedDeadline } t) ∧
    (2 < c.at_ 0 1 → Replies (.setProfile m) s c { status := .badArgument, detail := 32 } t)) ∧
  (∀ (m : Fin 64) (s t : State) (c : Cmd), taken {} 0x0104 m s = some (c, t) →
    (t.mst.mode = .running → ∃ u r, Replies (.park m) s c r u ∧ r.status = .ok ∧ u.mst.parkPending = true ∧ u.mst.parkWhy = 1 ∧
      u.mst.mode = .running ∧ u.mst.unparkPending = false ∧ u.mem = t.mem ∧ u.plots = t.plots) ∧
    (t.mst.mode = .ready → ∃ u r, Replies (.park m) s c r u ∧ r.status = .ok ∧ u.mst.mode = .parked ∧ u.mst.parkCause = 1 ∧
      u.mst.unparkPending = false ∧ u.mem = t.mem ∧ u.plots = t.plots))

/-- SENSORS_READ, COUNTERS_READ, IDLE_BY_CAUSE, COPPICE_RESULTS. -/
def Obligations.TelemetryReadsComplete : Prop :=
  (∀ (m : Fin 64) (s t : State) (c : Cmd), taken { hasRes := true } 0x0801 m s = some (c, t) → 16 * 156 ≤ c.resLen →
    ∃ u bs, Replies (.sensorsRead m) s c { status := .ok, inline := leBytes 2 156, res := bs } u ∧ bs.length = 16 * 156 ∧
      (∀ k, k < 156 → leAt bs (16 * k) 2 = (if k < 22 then k else k + 10) ∧
        (sensorVoid t (if k < 22 then k else k + 10) = true → leAt bs (16 * k + 4) 4 = 0x80000000)) ∧
      (∀ k, k < 156 → let x := u.hk.sensors.get {} (if k < 22 then k else k + 10)
        x.lo = x.value ∧ x.hi = x.value ∧ x.value = (t.hk.sensors.get {} (if k < 22 then k else k + 10)).value) ∧
      u.mem = t.mem ∧ u.plots = t.plots ∧ u.hk.sticky = t.hk.sticky ∧ u.hk.log = t.hk.log) ∧
  (∀ (m : Fin 64) (s t : State) (c : Cmd) (vs : List Nat),
    taken { fields := [(0, 4), (4, 4)], hasRes := true } 0x0802 m s = some (c, t) →
    counterBlock t (c.at_ 0 4) (c.at_ 4 4) = .ok vs → 8 * vs.length ≤ c.resLen →
    Replies (.countersRead m) s c { status := .ok, inline := leBytes 4 vs.length, res := (vs.map (leBytes 8)).flatten } t) ∧
  (∀ (m : Fin 64) (s t : State) (c : Cmd), taken { fields := [(0, 8)], hasRes := true } 0x0806 m s = some (c, t) → 72 * 64 ≤ c.resLen →
    Replies (.idleByCause m) s c { status := .ok, res := (((List.range 64).filter (fun p => natBit p (c.at_ 0 8))).map
      (fun p => ((List.range 9).map (fun i => leBytes 8 ((t.plot p).ic.get 0 i))).flatten)).flatten } t) ∧
  (∀ (m : Fin 64) (s t : State) (c : Cmd), taken { hasRes := true } 0x0805 m s = some (c, t) → 64 + 32 * coppiceBlocks.length ≤ c.resLen →
    ∃ bs, Replies (.coppiceResults m) s c { status := .ok, inline := leBytes 4 (64 + 32 * coppiceBlocks.length), res := bs } t ∧
      bs.length = 64 + 32 * coppiceBlocks.length ∧ leAt bs 0 4 = 0x45504F43 ∧
      (∀ k, k < coppiceBlocks.length → leAt bs (64 + 32 * k) 2 = coppiceBlocks.getD k 0))

/-- ERRLOG_READ and STICKY_CLEAR. -/
def Obligations.ErrorRecordCommandsComplete : Prop :=
  (∀ (m : Fin 64) (s t : State) (c : Cmd), taken { fields := [(0, 4), (4, 4)], hasRes := true } 0x0803 m s = some (c, t) →
    1 ≤ c.at_ 4 4 → c.at_ 4 4 ≤ 1024 →
    ∃ u k n bs, Replies (.errlogRead m) s c { status := .ok, inline := leBytes 4 n, res := bs } u ∧
      n ≤ c.at_ 4 4 ∧ 48 * n ≤ c.resLen ∧ bs.length = 48 * n ∧ k + n ≤ max k t.hk.log.length ∧
      u.hk.log.length = t.hk.log.length ∧
      (∀ (i : Nat) (e : LogEntry), t.hk.log[i]? = some e → u.hk.log[i]? = some ({ e with read := e.read || (decide (k ≤ i) && decide (i < k + n)) } : LogEntry)) ∧
      (∀ (i : Nat) (e : LogEntry), i < n → t.hk.log[k + i]? = some e → leAt bs (48 * i) 4 = e.seq % 2 ^ 32 ∧ leAt bs (48 * i + 6) 1 = e.group % 256 ∧
        leAt bs (48 * i + 7) 1 = e.bit % 256 ∧ leAt bs (48 * i + 8) 2 = e.source % 65536 ∧ leAt bs (48 * i + 16) 8 = e.time % 2 ^ 64) ∧
      u.hk.sticky = t.hk.sticky ∧ u.mem = t.mem ∧ u.plots = t.plots) ∧
  (∀ (m : Fin 64) (s t : State) (c : Cmd), taken { fields := [(0, 64)] } 0x0804 m s = some (c, t) → Tab.wf 0 t.hk.sticky = true →
    ∃ u bs, Replies (.stickyClear m) s c { status := .ok, inline := bs } u ∧ bs.length = 64 ∧
      (∀ g i, g < 16 → natBit i (stickyGroup u g) = (natBit i (stickyGroup t g) &&
        !(natBit i (c.at_ (4 * g) 4) && !natBit i (t.hk.fresh.get 0 g)))) ∧
      (∀ g, g < 16 → leAt bs (4 * g) 4 = stickyGroup u g % 2 ^ 32) ∧
      u.hk.log = t.hk.log ∧ u.mem = t.mem ∧ u.plots = t.plots ∧ u.mst = t.mst)

/-! ### Update commands (Table 13.13) -/

/-- RULE_SET, SET_STEP_SIZE, PRECOND_CONFIG. -/
def Obligations.UpdateDefinitionCommandsComplete : Prop :=
  (∀ (m : Fin 64) (s t : State) (c : Cmd), taken { fields := [(0, 36)], argOk := fun _ => true } 0x0601 m s = some (c, t) →
    (t.hasBundle = true → parked t = false → Replies (.ruleSet m) s c { status := .refusedMode } t) ∧
    ((t.hasBundle = false ∨ parked t = true) →
      (∀ o, ruleBad t c = some o → Replies (.ruleSet m) s c { status := .badArgument, detail := 32 + o } t) ∧
      (∀ ts, ts = (List.range (c.at_ 35 1)).map (fun i => leAt c.arg (2 * i) 2) → ruleBad t c = none → c.argLen = 2 * c.at_ 35 1 →
        (∀ k r, t.ltr.sets.get none k = some r → ∀ x ∈ ts, k ≠ c.at_ 0 1 → x ∉ r.targets) → Tab.wf none t.ltr.sets = true →
        Replies (.ruleSet m) s c { status := .ok } { t with ltr := { t.ltr with
          sets := t.ltr.sets.set none (c.at_ 0 1) (some (ruleOf c ts)), counts := t.ltr.counts.filter (fun kv => kv.1 / 16 != c.at_ 0 1) } }))) ∧
  (∀ (m : Fin 64) (s t : State) (c : Cmd), taken { fields := [(0, 4)] } 0x0602 m s = some (c, t) →
    (fNonNeg (BitVec.ofNat 32 (c.at_ 0 4)) = true →
      Replies (.setStepSize m) s c { status := .ok, step := some (if t.hasBundle then t.sch.step + 1 else 2 ^ 64 - 1) }
        { t with ltr := { t.ltr with etaPend := some (BitVec.ofNat 32 (c.at_ 0 4)) } }) ∧
    (fNonNeg (BitVec.ofNat 32 (c.at_ 0 4)) = false → Replies (.setStepSize m) s c { status := .badArgument, detail := 32 } t)) ∧
  (∀ (m : Fin 64) (s t : State) (c : Cmd) (d : TensorDef) (r : RuleSet),
    taken { fields := [(0, 5), (8, 2), (16, 8)] } 0x0603 m s = some (c, t) → (t.hasBundle = false ∨ parked t = true) →
    namedTensor t (c.at_ 0 2) = some d → ruleSetOf t d.ruleSet = some r → r.rule = 4 → precondBad t c d = none →
    Replies (.precondConfig m) s c { status := .ok } { t with ltr := { t.ltr with
      precond := t.ltr.precond.set none (c.at_ 0 2) (some { b := c.at_ 2 2, p := c.at_ 4 1, kr := c.at_ 8 2, rootBase := c.at_ 16 8 }) } })

/-- STATE_EXPORT, STATE_IMPORT, NOISE_STATS, SET_STRAGGLER_POLICY. -/
def Obligations.StateAndStatisticsCommandsComplete : Prop :=
  (∀ (m : Fin 64) (s t : State) (c : Cmd) (d : TensorDef),
    taken { fields := [(0, 3), (4, 8)], hasRes := true } 0x0604 m s = some (c, t) → tensorDef t (c.at_ 0 2) = some d → c.at_ 2 1 = 0 →
    c.at_ 4 4 + c.at_ 8 4 ≤ d.groups → 512 * c.at_ 8 4 ≤ c.resLen →
    ∃ r, r = piecesRead reqMaltster ((List.range (c.at_ 8 4)).map (fun i => (d.bank (t.tensor (c.at_ 0 2)).bank + 512 * (c.at_ 4 4 + i), 512))) t ∧
      Replies (.stateExport m) s c { status := .ok, res := r.2.1 } r.1 ∧ r.2.1.length = 512 * c.at_ 8 4) ∧
  (∀ (m : Fin 64) (s t : State) (c : Cmd) (d : TensorDef),
    taken { fields := [(0, 2), (4, 8)], argOk := fun _ => true } 0x0605 m s = some (c, t) → (t.hasBundle = false ∨ parked t = true) →
    namedTensor t (c.at_ 0 2) = some d → c.at_ 4 4 + c.at_ 8 4 ≤ d.groups → c.argLen = 512 * c.at_ 8 4 → importBad t c = none →
    ∃ u v, Replies (.stateImport m) s c { status := .ok } v ∧
      u = State.each (fun i s => importRecord d (importK t d) (c.at_ 4 4 + i) (slice c.arg (512 * i) 512) s) (List.range (c.at_ 8 4)) t ∧
      (v.tensor (c.at_ 0 2)).frozen = false ∧ v.mem = u.mem ∧ v.plots = t.plots ∧ v.grn = u.grn ∧
      (t.hasBundle = true → v.sch = t.sch) ∧
      (t.hasBundle = false → t.sch.restore ≤ v.sch.restore ∧ ∀ i, i < c.at_ 8 4 → leAt c.arg (512 * i) 4 ≤ v.sch.restore)) ∧
  (∀ (m : Fin 64) (s t : State) (c : Cmd), taken { hasRes := true } 0x0606 m s = some (c, t) →
    ∃ es, es = takeEntries c.resLen (t.ltr.noise.map noiseEntry) ∧ es <+: t.ltr.noise.map noiseEntry ∧
      es.flatten.length ≤ c.resLen ∧
      Replies (.noiseStats m) s c { status := .ok, inline := leBytes 1 es.length, res := es.flatten } t) ∧
  (∀ (m : Fin 64) (s t : State) (c : Cmd), taken { fields := [(0, 4)], argOk := fun _ => true } 0x0506 m s = some (c, t) →
    c.argLen = 4 * c.at_ 0 4 →
    (∀ i, i < c.at_ 0 4 → leAt c.arg (4 * i) 4 < 2 ^ 17 ∧ leAt c.arg (4 * i) 4 % 65536 ∈ outgoing t) →
    Replies (.setStragglerPolicy m) s c { status := .ok, step := some (if t.hasBundle then t.sch.step + 1 else 2 ^ 64 - 1) }
      { t with sch := { t.sch with latches := t.sch.latches ++ [⟨false, true, .straggler ((List.range (c.at_ 0 4)).map
        (fun i => (leAt c.arg (4 * i) 4 % 65536, natBit 16 (leAt c.arg (4 * i) 4))))⟩] } })

/-! ### Memory commands (Table 13.9) -/

/-- SET_PARTITION, ALLOC_OBJECT, FREE_OBJECT. -/
def Obligations.PartitionsAndObjectsComplete : Prop :=
  (∀ (m : Fin 64) (s t : State) (c : Cmd), taken { fields := [(0, 28)] } 0x0201 m s = some (c, t) →
    t.sch.active = none → t.sch.staged = none → objList t = [] →
    ((List.range 6).map (fun i => c.at_ (4 * i) 4)).sum = 512 → c.at_ 0 4 ∈ [4, 8, 16, 32, 64, 128, 256] → c.at_ 24 4 ≤ 2032 →
    ∃ u, Replies (.setPartition m) s c { status := .ok } { t with mem := u } ∧
      u.parts = (List.range 6).map (fun i => c.at_ (4 * i) 4) ∧ u.cellarGib = c.at_ 24 4 ∧ u.cells = t.mem.cells ∧
      u.objs = t.mem.objs ∧ u.tun = t.mem.tun ∧ u.withdrawn = t.mem.withdrawn ∧ u.chOut = t.mem.chOut) ∧
  (∀ (m : Fin 64) (s t : State) (c : Cmd), taken { fields := [(0, 11)] } 0x0202 m s = some (c, t) →
    (c.at_ 0 8 = 0 → Replies (.allocObject m) s c { status := .badArgument, detail := 32 } t) ∧
    (∀ a r, c.at_ 0 8 ≠ 0 → c.at_ 8 1 ≤ 1 → c.at_ 9 1 ∈ [1, 5, 7] → (objList t).length < 4096 →
      lowestFit t (c.at_ 9 1) (wholeFrames (c.at_ 0 8)) = some a → (if c.at_ 8 1 = 1 then freeRegion t else some 0) = some r →
      ∃ u, Replies (.allocObject m) s c { status := .ok, inline := leBytes 8 a ++ leBytes 4 (t.mem.lastObj + 1) ++ leBytes 1 r } { t with mem := u } ∧
        u.objs.get none (t.mem.lastObj + 1) = some ⟨a, wholeFrames (c.at_ 0 8), if c.at_ 8 1 = 1 then some r else none, none⟩ ∧
        (∀ i, i ≠ t.mem.lastObj + 1 → Tab.wf none t.mem.objs = true → u.objs.get none i = t.mem.objs.get none i) ∧
        (c.at_ 8 1 = 1 → 128 ≤ r ∧ r < 256 ∧ (Tab.wf {} t.mem.tun = true →
          u.tun.get {} r = { base := a, fin := a + wholeFrames (c.at_ 0 8), x := natSigned 8 (c.at_ 10 1), en := true })) ∧
        (c.at_ 8 1 = 0 → u.tun = t.mem.tun) ∧ u.cells = t.mem.cells ∧
        (partRange t (c.at_ 9 1)).1 ≤ a ∧ a + wholeFrames (c.at_ 0 8) ≤ (partRange t (c.at_ 9 1)).2 ∧
        rangeFree t a (wholeFrames (c.at_ 0 8)) = true ∧
        (∀ b, (partRange t (c.at_ 9 1)).1 ≤ b → b + wholeFrames (c.at_ 0 8) ≤ (partRange t (c.at_ 9 1)).2 →
          rangeFree t b (wholeFrames (c.at_ 0 8)) = true → a ≤ b))) ∧
  (∀ (m : Fin 64) (s t : State) (c : Cmd) (o : Obj), taken { fields := [(0, 4)] } 0x0203 m s = some (c, t) →
    Tab.wf none t.mem.objs = true → Tab.wf {} t.mem.tun = true →
    t.mem.objs.get none (c.at_ 0 4) = some o → o.table = none → bundleRefers t o = false →
    ∃ u, Replies (.freeObject m) s c { status := .ok } { t with mem := u } ∧ u.objs.get none (c.at_ 0 4) = none ∧
      (∀ i, i ≠ c.at_ 0 4 → u.objs.get none i = t.mem.objs.get none i) ∧
      (∀ r, o.region = some r → u.tun.get {} r = {}) ∧ (∀ r, o.region ≠ some r → u.tun.get {} r = t.mem.tun.get {} r) ∧
      u.cells = t.mem.cells)

/-- MOVE_OBJECT, SET_TUN_WINDOW, HOPPER_RUN, HOPPER_DONE. The targets of MOVE_OBJECT are the highest free frames (DESIGN CHOICE, log 20);
a Hopper's patterns in a channel out of service are the model's sequences (log 95), so only what they leave alone is stated. -/
def Obligations.MoveTunWindowAndHoppersComplete : Prop :=
  (∀ (m : Fin 64) (s t : State) (c : Cmd) (o : Obj) (fs ts : List Nat) (cel : Bool),
    taken { fields := [(0, 5), (8, 48)] } 0x0204 m s = some (c, t) → t.mem.objs.get none (c.at_ 0 4) = some o →
    c.at_ 4 1 ≤ 1 → (c.at_ 4 1 = 1 → c.at_ 8 48 < 16) → c.at_ 8 48 ≠ 0 → cel = decide (cellarBase ≤ o.base) →
    fs = (objFrames o).filter (fun f => excluded (c.at_ 4 1) (c.at_ 8 48) (frameChannel t cel f)) →
    ts = framesDown (fun f => freeFrame t cel f && !excluded (c.at_ 4 1) (c.at_ 8 48) (frameChannel t cel f)
      && !channelDown t (frameChannel t cel f)) (tierFrames cel) fs.length →
    ts.length = fs.length →
    replacements { t with mem := putMap cel ((List.zip fs ts).foldl (fun x y => swapPos x y.1 y.2) (mapOf t.mem cel)) t.mem } cel ≤ replacementLimit →
    ∃ u, Replies (.moveObject m) s c { status := .ok, inline := leBytes 8 fs.length } { t with mem := u } ∧ u.cells = t.mem.cells ∧
      u.hbmPoison = t.mem.hbmPoison ∧ u.kilnPoison = t.mem.kilnPoison ∧ u.objs = t.mem.objs ∧
      mapOf u cel = (List.zip fs ts).foldl (fun x y => swapPos x y.1 y.2) (mapOf t.mem cel) ∧ mapOf u (!cel) = mapOf t.mem (!cel)) ∧
  (∀ (m : Fin 64) (s t : State) (c : Cmd), taken { fields := [(0, 2)] } 0x0205 m s = some (c, t) → (t.mem.tun.get {} (c.at_ 0 1)).en = true →
    Replies (.setTunWindow m) s c { status := .ok } { t with mem := { t.mem with
      tun := t.mem.tun.modify {} (c.at_ 0 1) (fun r => { r with x := natSigned 8 (c.at_ 1 1), satAdds := 0, lowAdds := 0 }) } }) ∧
  (∀ (m : Fin 64) (s t : State) (c : Cmd), taken { fields := [(0, 2)] } 0x0205 m s = some (c, t) → (t.mem.tun.get {} (c.at_ 0 1)).en = false →
    Replies (.setTunWindow m) s c { status := .notPresent } t) ∧
  (∀ (m : Fin 64) (s t : State) (c : Cmd), taken { fields := [(0, 51), (52, 28)], hasRes := true } 0x0206 m s = some (c, t) →
    hopperBad c = none → 384 * (hoppersOf (c.at_ 0 48)).length ≤ c.resLen → hoppersOf (c.at_ 0 48) ≠ [] → t.mem.hop = none →
    (∀ h ∈ hoppersOf (c.at_ 0 48), hopperMayRun t h = true) →
    ∃ u k, exec (.hopperRun m) s = .next (announce s u) ∧ u.mem.hop = some k ∧ k.mailbox = c.m ∧ k.mask = c.at_ 0 48 ∧ k.done = [] ∧
      k.params = [c.at_ 48 1, c.at_ 49 1, c.at_ 50 1, c.at_ 52 4, c.at_ 56 8, c.at_ 64 8, c.at_ 72 8, t.hk.now] ∧
      u.mem.cells = t.mem.cells ∧ u.sch = t.sch ∧ u.plots = t.plots) ∧
  (∀ (h : Fin 384) (rep : HopperRep) (s : State) (r : HopRun), s.mem.hop = some r → natBit h r.mask = true →
    (∀ x, x ∈ hoppersOf r.mask → x ≠ h.val → r.done.get none x = none → ∃ t, exec (.hopperDone h rep) s = .next t ∧
      t.mem.hop = some { r with done := r.done.set none h (some rep) } ∧ t.mem.cells = s.mem.cells ∧ t.mst = s.mst) ∧
    (∀ c, heldCmd s r.mailbox = some c → Tab.wf none r.done = true → Tab.wf 0 s.mem.cells = true →
      (∀ x ∈ hoppersOf r.mask, x ≠ h.val → (r.done.get none x).isSome = true) →
      ∃ q u, exec (.hopperDone h rep) s = .next (announce s (respond c q u)) ∧ q.status = .ok ∧
        q.res.length = 384 * (hoppersOf r.mask).length ∧ u.mem.hop = none ∧ u.sch = s.sch ∧
        (∀ a, hopZeroed s ((hoppersOf r.mask).filter (fun x => !channelDown s x)) (r.params.getD 4 0) (r.params.getD 5 0) a = true →
          Tab.get 0 u.mem.cells a = 0) ∧
        (∀ a, hopZeroed s ((hoppersOf r.mask).filter (fun x => !channelDown s x)) (r.params.getD 4 0) (r.params.getD 5 0) a = false →
          (∀ x ∈ hoppersOf r.mask, channelDown s x = true → (channelRel s a).1 ≠ x) →
          Tab.get 0 u.mem.cells a = Tab.get 0 s.mem.cells a)))

/-! ### Table commands (Table 13.10) -/

/-- TABLE_CREATE. -/
def Obligations.TableCreateDefinesTheTable : Prop :=
  ∀ (m : Fin 64) (s t : State) (c : Cmd), taken { fields := [(0, 30)], argOk := fun _ => true } 0x0301 m s = some (c, t) →
    ((t.table (c.at_ 0 2)).isSome = true → Replies (.tableCreate m) s c { status := .badArgument, detail := 32 } t) ∧
    (∀ map tb, t.table (c.at_ 0 2) = none → createBad c = none →
      c.argLen = 8 * ceilDiv (c.at_ 8 6) (2 ^ c.at_ 6 1) → map = (List.range (ceilDiv (c.at_ 8 6) (2 ^ c.at_ 6 1))).map (fun i => leAt c.arg (8 * i) 8) →
      tb = createTable c map → mapBad tb.self map [] 0 = none →
      (∀ v ∈ map, v % 2 ^ 15 = tb.self → natBits 31 16 v < tb.homeSlots) →
      (placeTable (c.at_ 0 2) (c.at_ 17 1) tb t = none → Replies (.tableCreate m) s c { status := .refusedCapacity } t) ∧
      (∀ p, placeTable (c.at_ 0 2) (c.at_ 17 1) tb t = some p →
        ∃ u, Replies (.tableCreate m) s c { status := .ok, inline := leBytes 8 (homeBase u p.2 0) ++ leBytes 8 (objBase u p.2.accObj) ++ leBytes 8 (objBase u p.2.metaObj) } u ∧
          u.table (c.at_ 0 2) = some p.2 ∧ p.2.dim = c.at_ 2 2 ∧ p.2.wfmt = c.at_ 4 1 ∧ p.2.shift = c.at_ 6 1 ∧ p.2.rows = c.at_ 8 6 ∧
          p.2.members = c.at_ 16 1 ∧ p.2.self = c.at_ 18 2 ∧ p.2.accRows = c.at_ 24 4 ∧ p.2.cur = 0 ∧ p.2.staged = false ∧ p.2.reps = [] ∧
          (∀ i, i < 32 → Tab.wf 0 t.grn.counts = true → u.grn.counts.get 0 (32 * c.at_ 0 2 + i) = 0) ∧
          u.mem.cells = t.mem.cells ∧ u.sch = t.sch ∧ u.plots = t.plots ∧ u.ltr = t.ltr))

/-- TABLE_LOAD, TABLE_EXPORT, TABLE_STAGE_VERSION, GRANARY_STATS. -/
def Obligations.TableDataCommandsComplete : Prop :=
  (∀ (m : Fin 64) (s t : State) (c : Cmd) (tb : Table),
    taken { fields := [(0, 4), (8, 6), (16, 8)], argOk := fun _ => true } 0x0302 m s = some (c, t) → t.table (c.at_ 0 2) = some tb →
    rangeBad tb c = none → c.argLen = c.at_ 16 8 * tb.sr → (c.at_ 2 1 ≠ tb.cur ∨ t.hasBundle = false ∨ parked t = true) →
    (c.at_ 3 1 = 1 → loadBad t tb c = none) →
    (∃ u, Replies (.tableLoad m) s c { status := .ok, inline := leBytes 8 (((List.range (c.at_ 16 8)).map (c.at_ 8 6 + ·)).filter
        (fun r => tb.owns r || r == tb.rows)).length } u ∧ u.grn.tables = t.grn.tables ∧ u.plots = t.plots ∧ u.ltr = t.ltr) ∧
    (c.at_ 16 8 = 1 → c.at_ 3 1 = 0 → c.at_ 8 6 < tb.rows → tb.owns (c.at_ 8 6) = true → t.mem.kilnPoison = [] →
      findWay t (c.at_ 0 2) (c.at_ 2 1) (tb.localOf (c.at_ 8 6) / tb.per) = none →
      ∃ u, Replies (.tableLoad m) s c { status := .ok, inline := leBytes 8 1 } u ∧
        u.mem.cells = (devWrite reqGranary .none (homeAddr t tb (c.at_ 2 1) (tb.localOf (c.at_ 8 6)))
          (recFlags (c.at_ 2 1) false false (zeros 16 ++ slice (slice c.arg 0 tb.sr) 16 tb.wBytes ++ zeros tb.dim)) t).mem.cells)) ∧
  (∀ (m : Fin 64) (s t : State) (c : Cmd) (tb : Table),
    taken { fields := [(0, 4), (8, 6), (16, 8)], hasRes := true } 0x0305 m s = some (c, t) → t.table (c.at_ 0 2) = some tb →
    rangeBad tb c = none → (c.at_ 3 1 = 1 ∨ t.hasBundle = false ∨ parked t = true) → 64 + c.at_ 16 8 * tb.sr ≤ c.resLen →
    ∃ r, r = exportRows (c.at_ 0 2) tb (c.at_ 2 1) ((List.range (c.at_ 16 8)).map (c.at_ 8 6 + ·)) t ∧
      Replies (.tableExport m) s c { status := .ok, detail := r.2.2, res := exportHeader t c tb ++ r.2.1 } r.1 ∧
      (exportHeader t c tb).length = 64 ∧ leAt (exportHeader t c tb) 4 2 = tb.dim % 65536 ∧
      r.2.1.length = c.at_ 16 8 * tb.sr ∧ r.2.2 ≤ c.at_ 16 8 ∧ r.1.mem.cells = t.mem.cells) ∧
  (∀ (m : Fin 64) (s t : State) (c : Cmd) (tb : Table) (u : State) (i a r : Nat),
    taken { fields := [(0, 3)] } 0x0303 m s = some (c, t) → t.table (c.at_ 0 2) = some tb → c.at_ 2 1 ≤ 2 →
    tb.staged = false → tb.committing = false → placeObj 7 (homeBytes tb) false 0 (some (c.at_ 0 2)) t = some (u, i, a, r) →
    ∃ v, Replies (.tableStageVersion m) s c { status := .ok, inline := leBytes 1 (1 - tb.cur) } v ∧
      v.table (c.at_ 0 2) = some { tb with homes := tb.homes.set 0 (1 - tb.cur) i, staged := true } ∧
      (c.at_ 2 1 = 2 → v.mem.cells = t.mem.cells) ∧
      (c.at_ 2 1 = 1 → Tab.wf 0 t.mem.cells = true → ∀ b, Tab.get 0 v.mem.cells b =
        if a ≤ b ∧ b < a + homeBytes tb then 0 else Tab.get 0 t.mem.cells b)) ∧
  (∀ (m : Fin 64) (s t : State) (c : Cmd) (tb : Table) (hot : List (Nat × Nat)),
    taken { fields := [(0, 4)], hasRes := true } 0x0308 m s = some (c, t) → t.table (c.at_ 0 2) = some tb →
    hot = hotChosen t tb (c.at_ 2 2) → 136 + 16 * hot.length ≤ c.resLen →
    (∃ bs, bs = ((List.range 17).map (fun i => leBytes 8 (t.grn.counts.get 0 (32 * c.at_ 0 2 + i)))).flatten
        ++ (hot.map (fun x => leBytes 8 x.1 ++ leBytes 4 x.2 ++ zeros 4)).flatten ∧
      Replies (.granaryStats m) s c { status := .ok, inline := leBytes 4 hot.length, res := bs } t) ∧
      (∀ x ∈ hot, 0 < x.2 ∧ c.at_ 2 2 ≤ x.2) ∧ hot.Pairwise (fun x y => y.2 < x.2 ∨ (x.2 = y.2 ∧ x.1 ≤ y.1)))

/-- TABLE_COMMIT_VERSION, REPLICATE_ROWS, UNREPLICATE_ROWS, COORD_FAIL, AGING_SWEEP. -/
def Obligations.CoordinatedTableCommandsWait : Prop :=
  (∀ (m : Fin 64) (s t : State) (c : Cmd) (tb : Table), taken { fields := [(0, 2), (4, 4)] } 0x0304 m s = some (c, t) →
    t.table (c.at_ 0 2) = some tb → tableBusy t c.m (c.at_ 0 2) = false → c.at_ 4 4 = (tb.gen + 1) % 2 ^ 32 →
    tb.staged = true → tb.committing = false →
    exec (.tableCommitVersion m) s = .next (announce s
      ((tallyOwn tb.members [] t).onMbx c.m (fun b => { b with coord := some ⟨tb.members, c.slot, c.arg⟩ })))) ∧
  (∀ (m : Fin 64) (s t : State) (c : Cmd) (tb : Table) (add : Bool),
    taken { fields := [(0, 2), (4, 8)], argOk := fun _ => true } (if add then 0x0306 else 0x0307) m s = some (c, t) →
    t.table (c.at_ 0 2) = some tb → tableBusy t c.m (c.at_ 0 2) = false → c.at_ 4 4 = (tb.gen + 1) % 2 ^ 32 →
    1 ≤ c.at_ 8 4 → c.at_ 8 4 ≤ 65536 → c.argLen = 8 * c.at_ 8 4 → (argRows c).Pairwise (· < ·) → (∀ r ∈ argRows c, r < tb.rows) →
    (∀ r ∈ argRows c, (latestTable t (c.at_ 0 2) tb).reps.contains r = !add) →
    (add = true → (latestTable t (c.at_ 0 2) tb).reps.length + c.at_ 8 4 ≤ 65536) →
    exec (if add then .replicateRows m else .unreplicateRows m) s = .next (announce s
      ((tallyOwn tb.members [] t).onMbx c.m (fun b => { b with coord := some ⟨tb.members, c.slot, c.arg⟩ })))) ∧
  (∀ (m : Fin 64) (s : State) (k : Coord) (c : Cmd), (s.mbx m).coord = some k → heldCmd s m = some c →
    c.op ∈ [0x0304, 0x0306, 0x0307, 0x0505] →
    exec (.coordFail m) s = .next (announce s (respond c { status := .interrupted }
      (event 10 6 0x72 [c.at_ 0 2, (tallyWithdraw k.fid s).sch.step, 0] (tallyWithdraw k.fid s))))) ∧
  (∀ s : State, (agePeriod s = s.grn.swept → exec .agingSweep s = .next s) ∧
    (agePeriod s ≠ s.grn.swept → ∃ t, exec .agingSweep s = .next t ∧ t.grn.swept = agePeriod s ∧
      (s.grn.tables = [] → Tab.wf {} s.grn.dir = true → (∀ e, (dirEntry t e).freq = effFreq (agePeriod s) (dirEntry s e)) ∧
        t.mem = s.mem ∧ t.sch = s.sch)))

/-! ### Resharding and service in place -/

/-- RESHARD, its records, completion and failure. -/
def Obligations.ReshardingCommandsComplete : Prop :=
  (∀ (m : Fin 64) (s t : State) (c : Cmd) (tb : Table),
    taken { fields := [(0, 3), (4, 8)], argOk := fun _ => true } 0x0505 m s = some (c, t) → t.table (c.at_ 0 2) = some tb →
    tableBusy t c.m (c.at_ 0 2) = false → c.at_ 4 4 = (tb.gen + 1) % 2 ^ 32 → 1 ≤ c.at_ 8 4 → c.at_ 8 4 ≤ 4096 → c.argLen = 8 * c.at_ 8 4 →
    (∀ lt, lt = latestTable t (c.at_ 0 2) tb → c.at_ 2 1 = 0 → reshardBad lt c = none → (∀ e ∈ reshardEntries c, lt.moving e.1 = false) →
      lt.staged = false → lt.committing = false → (slotsAsked lt (reshardEntries c)).Nodup →
      (∀ k ∈ slotsAsked lt (reshardEntries c), k < lt.homeSlots ∧ k ∉ slotsInUse lt) →
      exec (.reshard m) s = .next (announce s
        ((tallyOwn lt.members [] t).onMbx c.m (fun b => { b with coord := some ⟨lt.members, c.slot, c.arg⟩ })))) ∧
    (c.at_ 2 1 = 1 → (∀ i, i < c.at_ 8 4 → leAt c.arg (8 * i) 2 < tb.shards ∧ leAt c.arg (8 * i + 6) 2 = 0) →
      exec (.reshardCancel m) s = .next (announce s
        ((tallyOwn tb.members [] t).onMbx c.m (fun b => { b with coord := some ⟨tb.members, c.slot, c.arg⟩ }))))) ∧
  (∀ (table shard : BitVec 16) (index : Nat) (record : List Byte) (s : State) (tb : Table), s.table table.toNat = some tb →
    (tb.moving shard.toNat = true → tb.newOwner shard.toNat = tb.self → index < 2 ^ tb.shift → paused s = false →
      s.grn.moved.get 0 (65536 * table.toNat + shard.toNat) ≤ index →
      ∃ t, exec (.reshardRecord table shard index record false) s = .next t ∧
        t.grn.moved.get 0 (65536 * table.toNat + shard.toNat) = index + 1 ∧
        t.mem = (recWrite table.toNat tb tb.cur (tb.localAt (tb.newSlot shard.toNat) index) (padTo tb.recLen record) s).mem ∧
        t.grn.tables = s.grn.tables ∧ t.sch = s.sch) ∧
    (∀ mir, tb.moving shard.toNat = false → exec (.reshardRecord table shard index record mir) s = .next s)) ∧
  (∀ (table : BitVec 16) (s : State) (tb : Table), s.table table.toNat = some tb → tb.movingShards ≠ [] →
    ((∀ sh ∈ tb.movingShards, tb.owner sh = tb.self → 2 ^ tb.shift ≤ s.grn.moved.get 0 (65536 * table.toNat + sh)) →
      (∀ m ∈ s.grn.mirrors, m.1 ≠ table.toNat) → exec (.reshardComplete table) s = .next (tallyOwn tb.members [] s)) ∧
    (∀ sh ∈ tb.movingShards, tb.owner sh = tb.self → s.grn.moved.get 0 (65536 * table.toNat + sh) < 2 ^ tb.shift →
      exec (.reshardComplete table) s = .next s) ∧
    exec (.reshardFail table) s = .next (event 7 14 0x72 [s.sch.step, s.sch.epoch, table.toNat] s))

/-- CHANNEL_OUT and CELLAR_OUT. -/
def Obligations.MemoryIsTakenOutOfService : Prop :=
  ∀ (die : Bool) (m : Fin 64) (s t : State) (c : Cmd) (i : Instr) (chs : List Nat),
    taken { fields := [(0, if die then 1 else 2)] } (if die then 0x0705 else 0x0703) m s = some (c, t) →
    i = (if die then .cellarOut m else .channelOut m) → serviceBusy t = false → t.mst.mode ≠ .shuttingDown →
    chs = (if die then (List.range 64).map (fun k => 128 + 64 * c.at_ 0 1 + k) else [c.at_ 0 2]) →
    (die = false → 384 ≤ c.at_ 0 2 → Replies i s c { status := .notPresent } t) ∧
    (die = true → 4 ≤ c.at_ 0 1 → Replies i s c { status := .notPresent } t) ∧
    (die = false → c.at_ 0 2 < 384 → channelDown t (c.at_ 0 2) = true → Replies i s c { status := .refusedMode } t) ∧
    (die = true → c.at_ 0 1 < 4 → t.mem.dieOut.get false (c.at_ 0 1) = true → Replies i s c { status := .refusedMode } t) ∧
    (∀ cel used targets, (die = false → c.at_ 0 2 < 384 ∧ channelDown t (c.at_ 0 2) = false) →
      (die = true → c.at_ 0 1 < 4 ∧ t.mem.dieOut.get false (c.at_ 0 1) = false) → cel = decide (128 ≤ chs.headD 0) →
      used = (framesOn t cel chs).filter (usedFrame t cel) → targets = serviceTargets t cel chs used.length →
      (targets.length < used.length → Replies i s c { status := .refusedCapacity } t) ∧
      (∀ u d, u = migrate cel used targets (if cel then [] else (framesOn t cel chs).filter (wayFrame t))
            ((framesOn t cel chs).filter (fun f => !usedFrame t cel f && (cel || !wayFrame t f) && !t.mem.withdrawn.get false (frameAddr cel f / 65536)))
            (die && t.mem.dieLost.get false (c.at_ 0 1)) t →
          d = { c with arg := leBytes 8 used.length } → used.length ≤ targets.length → replacements u cel ≤ replacementLimit →
          (migrationRate t (if cel then 0 else chs.length) (if cel then chs.length else 0)).1 ≠ 0 →
          (waysLeft u = [] → exec i s = .next (announce s (serviceDone d u)) ∧
            (die = false → c.op = 0x0703 → (serviceDone d u).mem.chOut.get false (c.at_ 0 2) = true) ∧
            (die = true → c.op = 0x0705 → (serviceDone d u).mem.dieOut.get false (c.at_ 0 1) = true)) ∧
          (waysLeft u ≠ [] → exec i s = .next (announce s
            (u.onMbx c.m (fun b => { b with coord := some ⟨serviceFid, c.slot, leBytes 8 used.length⟩ }))))))

/-- CHANNEL_IN, CELLAR_IN, RECALIBRATE. A channel whose die is out fails its training (DEDUCED, log 22). -/
def Obligations.MemoryComesBackIntoService : Prop :=
  (∀ (die : Bool) (m : Fin 64) (s t : State) (c : Cmd) (k : Nat),
    taken { fields := [(0, if die then 1 else 2)] } (if die then 0x0706 else 0x0704) m s = some (c, t) →
    serviceBusy t = false → t.mst.mode ≠ .shuttingDown → k = c.at_ 0 (if die then 1 else 2) →
    (if die then k < 4 ∧ t.mem.dieOut.get false k = true
      else k < 384 ∧ t.mem.chOut.get false k = true ∧ ¬ (128 ≤ k ∧ t.mem.dieOut.get false ((k - 128) / 64) = true)) →
    (∃ u, Replies (if die then .cellarIn m none else .channelIn m none) s c { status := .ok } u ∧
      (Tab.wf false t.mem.chOut = true → Tab.wf false t.mem.dieOut = true →
        (if die then u.mem.dieOut.get false k = false else u.mem.chOut.get false k = false)) ∧
      (Tab.wf 0 t.mem.cells = true → Tab.wf false t.mem.withdrawn = true → ∀ a,
        (t.mem.withdrawn.get false (a / 65536) = true ∧ u.mem.withdrawn.get false (a / 65536) = false → Tab.get 0 u.mem.cells a = 0) ∧
        (t.mem.withdrawn.get false (a / 65536) = false → Tab.get 0 u.mem.cells a = Tab.get 0 t.mem.cells a)) ∧
      u.sch = t.sch ∧ u.plots = t.plots) ∧
    (∀ ch bad, bad ∈ [ServiceFail.training ch, ServiceFail.coppice ch, ServiceFail.check ch] →
      ∃ u, Replies (if die then .cellarIn m (some bad) else .channelIn m (some bad)) s c { status := .interrupted, detail := ch } u ∧
        u.mem = t.mem ∧ stickyBit u 14 (if bad = .coppice ch then 5 else 3) = true ∧
        (bad ≠ .coppice ch → stickyBit u (if ch < 128 then 2 else 3) 3 = true))) ∧
  (∀ (m : Fin 64) (bad : Option ServiceFail) (s t : State) (c : Cmd), taken { fields := [(0, 2)] } 0x0704 m s = some (c, t) →
    serviceBusy t = false → t.mst.mode ≠ .shuttingDown → 128 ≤ c.at_ 0 2 → c.at_ 0 2 < 384 → t.mem.chOut.get false (c.at_ 0 2) = true →
    t.mem.dieOut.get false ((c.at_ 0 2 - 128) / 64) = true →
    ∃ u, Replies (.channelIn m bad) s c { status := .interrupted, detail := c.at_ 0 2 } u ∧ u.mem = t.mem ∧ stickyBit u 3 3 = true) ∧
  (∀ (m : Fin 64) (failed : List Nat) (s t : State) (c : Cmd), taken { fields := [(0, 49)] } 0x0707 m s = some (c, t) →
    serviceBusy t = false → t.mst.mode ≠ .shuttingDown → c.at_ 48 1 < 16 →
    (t.hasBundle = false ∨ ((∀ ch ∈ hoppersOf (c.at_ 0 48), channelDown t ch = true) ∧
      ∀ d, d < 4 → natBit d (c.at_ 48 1) = true → t.mem.dieOut.get false d = true)) →
    ∃ u, Replies (.recalibrate m failed) s c { status := .ok } u ∧
      (Tab.wf 0 t.flash.calib = true →
        (∀ i, i < 384 → natBit i (c.at_ 0 48) = true → i ∉ failed →
          u.flash.calib.get 0 i = ((t.hk.sensors.get ({} : Sensor) (calibSensor i)).value + 2 ^ 31).toNat) ∧
        (∀ i, i ∈ failed → u.flash.calib.get 0 i = t.flash.calib.get 0 i)) ∧
      (∀ i, i < 384 → natBit i (c.at_ 0 48) = true → i ∈ failed → stickyBit u 14 4 = true) ∧ u.mem = t.mem ∧ u.plots = t.plots)

/-! ### Firmware and the Maltster (13, 14, 15) -/

/-- GET_ATTESTATION, FW_STAGE, FW_ACTIVATE. -/
def Obligations.FirmwareCommandsComplete : Prop :=
  (∀ (m : Fin 64) (s t : State) (c : Cmd), taken { fields := [(0, 32)], hasRes := true } 0x0107 m s = some (c, t) → 512 ≤ c.resLen →
    Replies (.getAttestation m) s c { status := .ok, inline := leBytes 4 512, res := attestReport t (slice c.slot 32 32) } t ∧
      leAt (attestReport t (slice c.slot 32 32)) 0 4 = 0x54415741 ∧ leAt (attestReport t (slice c.slot 32 32)) 4 2 = 1 ∧
      leAt (attestReport t (slice c.slot 32 32)) 6 1 = t.fuses.stepping % 256 ∧ leAt (attestReport t (slice c.slot 32 32)) 7 1 = t.fw.keyslot % 256 ∧
      leAt (attestReport t (slice c.slot 32 32)) 8 8 = t.fuses.serial % 2 ^ 64) ∧
  (∀ (m : Fin 64) (s t : State) (c : Cmd) (b : FwBundle), taken { argOk := fun n => decide (0 < n) } 0x0701 m s = some (c, t) →
    fwLayoutBad c.arg = none → leAt c.arg 5 1 = 1 → b = fwParse t.fuses.keys c.arg →
    (slotBad t b = none → manifestOk t b = true →
      Replies (.fwStage m) s c { status := .ok, inline := leBytes 1 (if t.fw.slotB then 0 else 1) }
        { t with flash := if t.fw.slotB then { t.flash with slotA := b, stagedFw := true } else { t.flash with slotB := b, stagedFw := true } }) ∧
    (slotBad t b = some .rollback → ∃ u, Replies (.fwStage m) s c { status := .refusedVersion } u ∧ u.flash = t.flash ∧ u.fw = t.fw) ∧
    (slotBad t b = some .signature → ∃ u, Replies (.fwStage m) s c { status := .badSignature } u ∧ u.flash = t.flash ∧ u.fw = t.fw)) ∧
  (∀ (m : Fin 64) (s t : State) (c : Cmd), taken { fields := [(0, 1)] } 0x0702 m s = some (c, t) → t.flash.stagedFw = true →
    (c.at_ 0 1 = 0 → Replies (.fwActivate m) s c { status := .ok }
      { t with flash := { t.flash with bootB := !t.fw.slotB, trial := true, stagedFw := false } }) ∧
    (c.at_ 0 1 = 1 → t.mst.mode = .fallow → Replies (.fwActivate m) s c { status := .refusedMode } t) ∧
    (c.at_ 0 1 = 1 → t.mst.mode ≠ .fallow → (fwSlot t (!t.fw.slotB)).ifvers = t.fw.ifvers →
      ∃ u, exec (.fwActivate m) s = .next (announce s u) ∧ u.flash = { t.flash with bootB := !t.fw.slotB, trial := true, stagedFw := false } ∧
        (u.mbx c.m).coord = some ⟨65, c.slot, c.arg⟩ ∧ u.mem = t.mem ∧ u.sch = t.sch))

/-- TAKEOVER, STANDBY_READY, MALTSTER_RESTART, MALTSTER_LOSS, LIVE_TAKE_UP. -/
def Obligations.MaltsterEventsComplete : Prop :=
  (∀ s : State, s.mst.standby = true → s.mst.ready = true →
    (∀ cause, cause ≠ TakeoverCause.fwActivate → ∃ t, exec (.takeover cause) s = .next t ∧ t.mst.coreB = !s.mst.coreB ∧ t.mst.standby = false ∧
      t.mst.takeovers = min 0xFFFF (s.mst.takeovers + 1) ∧ t.mst.lastCause = (if cause = .heartbeat then 2 else 3) ∧
      t.mst.mbx = s.mst.mbx ∧ t.mst.ring = s.mst.ring ∧ t.mem = s.mem ∧ t.plots = s.plots ∧ t.sch = s.sch ∧ t.flash = s.flash) ∧
    (∀ c, liveWaiting s = some c → ∃ u, exec (.takeover .fwActivate) s = .next (announce s (respond c { status := .ok } u)) ∧
      u.mst.coreB = !s.mst.coreB ∧ u.mst.lastCause = 1 ∧ u.fw.slotB = s.flash.bootB ∧ u.fw.next = some (fwSlot s s.flash.bootB).digests ∧
      stickyBit u 14 7 = true ∧ u.mem = s.mem ∧ u.sch = s.sch)) ∧
  (∀ s : State, s.mst.ready = true → s.mst.mode ≠ .fallow →
    exec .standbyReady s = .next { s with mst := { s.mst with standby := true } }) ∧
  (∀ (s : State) (served : Bool), s.mst.standby = false → s.mst.ready = true →
    ∃ t, exec (.maltsterRestart served) s = .next t ∧ t.mst = { s.mst with ready := served } ∧ t.mem = s.mem ∧ t.sch = s.sch ∧ t.plots = s.plots) ∧
  (∀ s : State, s.mst.ready = false →
    (s.mst.mode = .ready → ∃ t, exec .maltsterLoss s = .next t ∧ t.mst.mode = .parked ∧ t.mst.parkCause = 4 ∧ t.mem = s.mem) ∧
    (s.mst.mode = .running → ∃ t, exec .maltsterLoss s = .next t ∧ t.mst.mode = .running ∧ t.mst.parkWhy = 4 ∧ t.mem = s.mem)) ∧
  (∀ (s : State) (ds : List Nat), s.fw.next = some ds →
    exec (.liveTakeUp .phy) s = .next { s with fw := { s.fw with digests := s.fw.digests.set 2 (ds.getD 2 0) } } ∧
    exec (.liveTakeUp .coppice) s = .next { s with fw := { s.fw with digests := s.fw.digests.set 3 (ds.getD 3 0) } } ∧
    (∀ p : Fin 16, s.fw.portsWait.set false p false ≠ [] →
      exec (.liveTakeUp (.port p)) s = .next { s with fw := { s.fw with portsWait := s.fw.portsWait.set false p false } }) ∧
    (∀ p : Fin 16, s.fw.portsWait.set false p false = [] →
      exec (.liveTakeUp (.port p)) s = .next { s with fw := { s.fw with portsWait := [], digests := s.fw.digests.set 1 (ds.getD 1 0) } }))

/-! ### Supply, sensors, power and thermal control (14) -/

/-- HOLD, HOLD_END, SUPPLY_PARK, SUPPLY_HIGH. -/
def Obligations.SupplyDipHoldsAndParks : Prop :=
  (∀ (mv : BitVec 16) (s : State) (k : Mode), k ∈ [Mode.ready, Mode.running, Mode.parked] → s.mst.mode = k →
    ∃ t, exec (.hold mv) s = .next t ∧ t.mst.mode = .hold ∧ t.mst.heldFrom = k ∧ t.hk.minMv = min s.hk.minMv mv.toNat ∧ t.hk.belowWarn = true ∧
      t.mem = s.mem ∧ t.plots = s.plots ∧ t.sch = s.sch ∧ t.grn = s.grn ∧ t.ltr = s.ltr) ∧
  (∀ (mv : BitVec 16) (us : BitVec 32) (s : State), s.hk.belowWarn = true → s.mst.mode = .hold →
    ∃ t, exec (.holdEnd mv us) s = .next t ∧ t.hk.belowWarn = false ∧ stickyBit t 0 0 = true ∧ t.hk.minMv = min s.hk.minMv mv.toNat ∧
      t.mst.mode = s.mst.heldFrom ∧ t.mst.resume = (s.mst.heldFrom == .running && s.hasBundle) ∧
      t.mem = s.mem ∧ t.plots = s.plots ∧ t.sch = s.sch) ∧
  (∀ s : State, s.mst.mode = .hold → s.hk.belowWarn = true → s.mst.heldFrom ≠ .parked →
    ∃ t, exec .supplyPark s = .next t ∧ t.mst.mode = .hold ∧ t.mst.heldFrom = .parked ∧ t.mst.parkCause = 3 ∧ t.mst.parkPending = false ∧
      stickyBit t 0 1 = true ∧ t.plots = s.plots ∧ t.sch.step = s.sch.step) ∧
  (∀ (mv : BitVec 16) (us : BitVec 32) (s : State), exec (.supplyHigh mv us) s =
    .next (event 0 3 0x79 [mv.toNat, us.toNat] { s with hk := { s.hk with aboveHigh := true } }))

/-- SUPPLY_RESET, OVERVOLT, THERMTRIP, RAIL_FAULT. -/
def Obligations.SupplyLossResetsTheDomains : Prop :=
  (∀ (i : Instr) (s t : State), (∃ mv us, i = .supplyReset mv us) ∨ (∃ mv us, i = .overvolt mv us) ∨ (∃ k, i = .thermtrip k ∧ (s.mst.mode ≠ .starting ∨ s.fw.stage = 0)) →
    exec i s = .next t → t.mst = {} ∧ t.mem = {} ∧ t.plots = [] ∧ t.grn = {} ∧ t.ltr = {} ∧ t.csk = {} ∧ t.fab = {} ∧ t.sch = {} ∧ t.fw = {} ∧
      t.host.hostMem = s.host.hostMem ∧ t.hk.rails = false ∧ t.hk.pwrgd = false ∧ t.fuses = s.fuses ∧ t.flash.orderly = false ∧
      t.flash.slotA = s.flash.slotA ∧ t.flash.slotB = s.flash.slotB ∧ t.flash.bootB = s.flash.bootB ∧ t.flash.calib = s.flash.calib ∧ t.pending = s.pending) ∧
  (∀ (mv : BitVec 16) (us : BitVec 32) (s : State), ∃ t r, exec (.supplyReset mv us) s = .next t ∧ t.flash.savedSticky = some r ∧ natBit 2 (r.get 0 0) = true ∧
    (∀ g b, stickyBit s g b = true → natBit b (r.get 0 g) = true) ∧ t.hk.sticky = [] ∧ t.hk.log = [] ∧ t.hk.powerLost = true ∧ (∀ e ∈ t.flash.savedLog, e.read = false)) ∧
  (∀ (mv : BitVec 16) (us : BitVec 32) (s : State), ∃ t, exec (.overvolt mv us) s = .next t ∧ stickyBit t 0 4 = true ∧ t.flash.savedSticky = s.flash.savedSticky) ∧
  (∀ (k : Fin 166) (s : State), s.mst.mode ≠ .starting ∨ s.fw.stage = 0 →
    ∃ t, exec (.thermtrip k) s = .next t ∧ stickyBit t 1 2 = true ∧ t.hk.thermtrip = true ∧ t.flash.savedSticky = s.flash.savedSticky) ∧
  (∀ (rail : Nat) (s : State), exec (.railFault rail) s = .next (event 0 5 0x79 [rail] { s with hk := { s.hk with pwrgd := false } }))

/-- SENSOR_SAMPLE, THERMAL_ALERT, POWER_THROTTLE, THERMAL_THROTTLE. -/
def Obligations.SensorsAlertAndThrottle : Prop :=
  (∀ (k : Fin 166) (v : Int) (s : State), hasSensor k = true → ∃ t, exec (.sensorSample k (some v)) s = .next t ∧
    (let x := s.hk.sensors.get ({} : Sensor) k
     t.hk.sensors.get {} k = { value := v, lo := if x.seen then min x.lo v else v, hi := if x.seen then max x.hi v else v, seen := true, failed := false }) ∧
    (k.val = 0 → t.hk.inputMv = v.toNat % 65536 ∧ t.hk.minMv = min s.hk.minMv (v.toNat % 65536)) ∧
    t.mem = s.mem ∧ t.plots = s.plots ∧ t.hk.sticky = s.hk.sticky ∧ t.mst = s.mst) ∧
  (∀ (k : Fin 166) (s : State), hasSensor k = true → ∃ t, exec (.sensorSample k none) s = .next t ∧
    (t.hk.sensors.get {} k).failed = true ∧ stickyBit t 1 4 = true ∧ t.mem = s.mem) ∧
  (∀ (k : Fin 166) (s : State), ∃ t, exec (.thermalAlert k) s = .next t ∧ t.hk.alerting.get false k = true ∧
    stickyBit t 1 (if k.val = 148 then 3 else 1) = true ∧ alertLow t = true ∧ t.mem = s.mem ∧ t.plots = s.plots) ∧
  (∀ (n : Nat) (s : State), 0 < n → ∃ t, exec (.powerThrottle n) s = .next t ∧
    (∀ p, p < 64 → (t.plot p).ic.get 0 7 = sat48 ((s.plot p).ic.get 0 7 + n)) ∧ t.sch.withheld = max s.sch.withheld n ∧
    stickyBit t 0 6 = true ∧ t.mem = s.mem) ∧
  (∀ (k : Fin 166) (deg n : Nat) (s : State), ∃ t, exec (.thermalThrottle k deg n) s = .next t ∧
    (Tab.wf {} s.plots = true → (∀ p, Tab.wf 0 (s.plot p).ic = true) → ∀ p, p < 64 → (t.plot p).ic.get 0 8 = sat48 ((s.plot p).ic.get 0 8 + n * min 15 deg / 16)) ∧ t.hk.thermal = max s.hk.thermal (min 15 deg) ∧
    t.hk.capLowered = (s.hk.capLowered || (decide (140 ≤ k.val) && decide (k.val < 148))) ∧
    stickyBit t 1 0 = true ∧ t.mem = s.mem)

/-! ### Start, shutdown, Coppice test, JTAG (14, 15) -/

/-- START and START_STAGE. -/
def Obligations.StartStagesFollowOneAnother : Prop :=
  (∀ (mv : BitVec 16) (s : State), s.mst.mode = .starting → s.fw.stage = 0 → s.hk.rails = false → 44000 ≤ mv.toNat → mv.toNat ≤ 58000 →
    (s.hk.thermtrip = true → ∀ i ∈ sensorList, sensorKind i = 2 → (s.hk.sensors.get ({} : Sensor) i).value < 60000) →
    ∃ t, exec (.start mv true true) s = .next t ∧ t.fw.stage = 1 ∧ t.hk.now = 0 ∧ t.hk.starts = (s.hk.starts + 1) % 2 ^ 32 ∧
      t.hk.failedStarts = (if 3 ≤ s.hk.failedStarts then s.hk.failedStarts else s.hk.failedStarts + 1) ∧ t.flash.counter = t.hk.failedStarts ∧
      t.fw.fallowStart = decide (3 ≤ s.hk.failedStarts) ∧ t.hk.sticky = s.hk.sticky ∧ t.hk.inputMv = mv.toNat ∧ t.mem = s.mem) ∧
  (∀ (mv : BitVec 16) (a b : Bool) (s : State), (s.mst.mode ≠ .starting ∨ s.fw.stage ≠ 0 ∨ s.hk.rails = true ∨ a = false ∨ b = false ∨
      mv.toNat < 44000 ∨ 58000 < mv.toNat ∨
      (s.hk.thermtrip = true ∧ ∃ i ∈ sensorList, sensorKind i = 2 ∧ 60000 ≤ (s.hk.sensors.get ({} : Sensor) i).value)) →
    exec (.start mv a b) s = .next { s with hk := { s.hk with inputMv := mv.toNat, blades := (a, b) } }) ∧
  (∀ (k : Fin 9) (weak : List (Fin 384)) (s : State), s.mst.mode = .starting → k.val ≠ 0 → s.fw.stage = k.val →
    ∃ t, exec (.startStage k none weak) s = .next t ∧
      (k.val = 1 → t.fw.stage = 2 ∧ t.hk.rails = true ∧ t.hk.pwrgd = true ∧ t.mem = s.mem) ∧
      (∀ b, k.val = 2 → b = (if slotRuns s (fwSlot s s.flash.bootB) then s.flash.bootB else !s.flash.bootB) → slotRuns s (fwSlot s b) = true →
        t.fw.stage = 3 ∧ t.fw.slotB = b ∧ t.fw.ifvers = (fwSlot s b).ifvers ∧ t.fw.digests = (fwSlot s b).digests) ∧
      (k.val = 2 → slotRuns s s.flash.slotA = false → slotRuns s s.flash.slotB = false → t.mst.mode = .fallow ∧ t.mst.ready = true ∧ t.fw.stage = 0) ∧
      (k.val = 3 → s.fw.fallowStart = false → t.fw.stage = 4) ∧
      (k.val = 3 → s.fw.fallowStart = true → t.mst.mode = .fallow ∧ t.mst.fallowCause = s.flash.failCause ∧ t.mst.ready = true ∧ t.fw.stage = 0) ∧
      (k.val = 4 → t.fw.stage = 5 ∧ t.flash.orderly = false ∧ (t.fw.quick = false → stickyBit t 12 3 = true)) ∧
      (k.val = 5 → t.fw.stage = 6 ∧ (s.fw.quick = false → t.flash.trainings = s.flash.trainings + 388) ∧
        (Tab.wf 0 s.flash.calib = true → ∀ i, i < 384 → (s.fw.quick = false ∨ calStale s i = true ∨ ∃ c ∈ weak, c.val = i) →
          t.flash.calib.get 0 i = ((s.hk.sensors.get ({} : Sensor) (calibSensor i)).value + 2 ^ 31).toNat)) ∧
      (k.val = 6 → t.fw.stage = if s.fw.quick then 8 else 7) ∧
      (k.val = 7 → t.fw.stage = 8) ∧
      (k.val = 8 → t.mst.mode = .ready ∧ t.mst.ready = true ∧ t.fw.stage = 0 ∧ t.mem = {} ∧ t.plots = [] ∧ t.grn = {} ∧ t.fab = {} ∧ t.sch = {} ∧
        t.hk.failedStarts = 0 ∧ t.flash.counter = 0 ∧ t.flash.trial = false)) ∧
  (∀ (k : Fin 9) (f : Option StartCause) (chs : List (Fin 384)) (s : State), (s.mst.mode ≠ .starting ∨ s.fw.stage = 0 ∨ s.fw.stage ≠ k.val) →
    exec (.startStage k f chs) s = .next s)

/-- START_FAILED and failing stages. -/
def Obligations.FailedStartsAreStoredAndReset : Prop :=
  (∀ (c : StartCause) (s : State), s.mst.mode = .starting → s.fw.stage ≠ 0 →
    ∃ t, exec (.startFailed c) s = .next t ∧ t.flash.failCause = startCode c ∧ t.flash.trial = false ∧
      t.flash.bootB = (if s.flash.trial then !s.flash.bootB else s.flash.bootB) ∧ t.mst = {} ∧ t.mem = {} ∧ t.fw = {} ∧ t.hk.rails = false ∧
      t.hk.failedStarts = s.hk.failedStarts ∧
      (4 < s.fw.stage → stickyBit t 12 1 = true) ∧ (s.fw.stage ≤ 4 → (12, 1, 0x7B, s.fw.stage) ∈ t.hk.early)) ∧
  (∀ (k : Fin 9) (c : StartCause) (chs : List (Fin 384)) (s : State), s.mst.mode = .starting → k.val ≠ 0 → s.fw.stage = k.val →
    (c ∈ stageCauses k → c ∈ [StartCause.signature, StartCause.rollback, StartCause.manifest] → ∃ t, exec (.startStage k (some c) chs) s = .next t ∧
      t.mst.mode = .fallow ∧ t.mst.fallowCause = startCode c ∧ t.mst.ready = true ∧
      t.hk.failedStarts = (if s.fw.fallowStart then s.hk.failedStarts else s.hk.failedStarts - 1) ∧ stickyBit t 12 2 = true) ∧
    (c ∈ stageCauses k → c ∉ [StartCause.signature, StartCause.rollback, StartCause.manifest] → k.val ≠ 5 ∨ chs = [] →
      exec (.startStage k (some c) chs) s = exec (.startFailed c) s) ∧
    (c ∈ stageCauses k → k.val = 5 → ∃ t, exec (.startStage k (some c) chs) s = .next t ∧ t.flash.failCause = startCode c ∧ t.mst = {} ∧ t.mem = {} ∧
      t.hk.rails = false ∧ stickyBit t 12 1 = true ∧ ∀ ch ∈ chs, stickyBit t (if ch.val < 128 then 2 else 3) 3 = true) ∧
    (c ∉ stageCauses k → exec (.startStage k (some c) chs) s = .next s))

/-- SHUTDOWN, SHUTDOWN_REQ_N, COPPICE_TEST. That a shutdown without the Coppice test ends in an idle cycle is DESIGN CHOICE, log 7. -/
def Obligations.ShutdownAndCoppiceTestComplete : Prop :=
  (∀ (m : Fin 64) (s t u : State) (c : Cmd) (w : Bool), taken { fields := [(0, 1)] } 0x0106 m s = some (c, t) → c.at_ 0 1 ≤ 1 →
    t.mst.mode ≠ .shuttingDown → w = (t.hasBundle && (t.mst.mode == .running || (t.mst.mode == .hold && t.mst.heldFrom == .running))) →
    u = { t with
      mst := { t.mst with mode := .shuttingDown, shutdown := some (c.at_ 0 1 == 1), parkPending := w, unparkPending := false }
      hk := { t.hk with failedStarts := if t.mst.mode == .fallow then 0 else t.hk.failedStarts }
      flash := { t.flash with counter := if t.mst.mode == .fallow then 0 else t.flash.counter } } →
    ∃ v, exec (.shutdown m) s = .next (announce s v) ∧
      (w = true ∨ t.hk.belowWarn = true → v = respond c { status := .ok } u) ∧
      (w = false → t.hk.belowWarn = false → v = { respond c { status := .ok } u with fab := { t.fab with ports := v.fab.ports, flows := v.fab.flows } } ∧
        (Tab.wf {} t.fab.ports = true → ∀ p, p < 16 → (v.port p).state = if (t.port p).state = 5 then 0 else (t.port p).state))) ∧
  (∀ s : State, s.hk.rails = true → s.mst.mode ≠ .shuttingDown → s.mst.mode ≠ .starting →
    ∃ u, exec .shutdownReqN s = .next (announce s (shutdownParked u)) ∧ u.mst.mode = .shuttingDown ∧ u.mst.shutdown = some true ∧ u.mem = s.mem ∧
      u.mst.parkPending = (s.hasBundle && (s.mst.mode == .running || (s.mst.mode == .hold && s.mst.heldFrom == .running)))) ∧
  (∀ s : State, s.pending = [] → s.mst.mode = .shuttingDown → s.mst.shutdown = some false → s.mst.parkPending = false → s.hk.belowWarn = false →
    ∃ t, step s = .next t ∧ t.mst = {} ∧ t.mem = {} ∧ t.sch = {} ∧ t.hk.rails = false ∧ t.flash.orderly = true ∧ t.flash.quick = none ∧
      t.flash.savedSticky.isSome = true) ∧
  (∀ (rs : List CoppiceRec) (ms : Nat) (s : State), s.mst.mode = .shuttingDown → s.mst.shutdown = some true → s.mst.parkPending = false →
    s.hk.belowWarn = false → ∃ t q, exec (.coppiceTest .shutdown rs ms) s = .next t ∧ t.flash.quick = some q ∧ q.passed = allPassed s rs ∧ q.used = false ∧
      t.flash.orderly = true ∧ t.flash.copHdr = [0, s.hk.starts, s.fw.ifvers.getD 3 0, ms] ∧ t.flash.savedSticky.isSome = true ∧
      t.mst = {} ∧ t.mem = {} ∧ t.sch = {} ∧ t.hk.rails = false) ∧
  (∀ (rs : List CoppiceRec) (ms : Nat) (s : State), s.mst.mode = .starting → s.fw.stage = 7 → s.fw.quick = false →
    ∃ t, exec (.coppiceTest .start rs ms) s = .next t ∧ t.flash.copHdr = [1, s.hk.starts, s.fw.ifvers.getD 3 0, ms] ∧
      (allPassed s rs = true → t.fw.stage = 7 ∧ t.mst.mode = .starting ∧ t.hk.rails = s.hk.rails) ∧
      (allPassed s rs = false → t.flash.failCause = 0xC ∧ t.mst = {} ∧ t.fw = {} ∧ t.hk.rails = false ∧ stickyBit t 12 1 = true)) ∧
  (∀ (rs : List CoppiceRec) (ms : Nat) (s : State), dataPath s = true → (rs.map (·.block)).Nodup →
    ∃ t, exec (.coppiceTest .demand rs ms) s = .next t ∧ t.flash.copHdr = [2, s.hk.starts, s.fw.ifvers.getD 3 0, ms] ∧
      (∀ r ∈ rs, ∀ v, r.block ∈ coppiceBlocks → v = (if s.fuses.copEntry then r.result else 2) →
        t.flash.coppice.get none r.block = some ⟨2, v, r.method, if v = 0 then 0 else r.detail, s.hk.starts, r.observed, r.expected⟩ ∧
        (v ≠ 0 → stickyBit t 14 5 = true) ∧ (v = 3 → stickyBit t 14 6 = true)) ∧
      t.mem = s.mem ∧ t.sch = s.sch ∧ t.plots = s.plots) ∧
  (∀ (rs : List CoppiceRec) (ms : Nat) (s : State), dataPath s = false → exec (.coppiceTest .demand rs ms) s = .next s)

/-- BYPASS, IDCODE, SAMPLE/PRELOAD, EXTEST. -/
def Obligations.JtagInstructionsComplete : Prop :=
  (∀ s : State, exec .bypass s = .next { s with hk := { s.hk with jtagIr := 0, jtagDrive := false } }) ∧
  (∀ s : State, exec .idcode s = .next { s with hk := { s.hk with jtagIr := 1, jtagDrive := false }, ret := { data := leBytes 4 s.fuses.idcode } }) ∧
  (∀ (pins : List Bool) (s : State), exec (.samplePreload pins) s = .next { s with hk := { s.hk with jtagIr := 2, jtagBsr := pins, jtagDrive := false } }) ∧
  (∀ s : State, exec .extest s = .next { s with hk := { s.hk with jtagIr := 3, jtagDrive := true } })

/-! ### Events, and the registers of BAR0 (12, 13, 15) -/

/-- The sticky bit and the log entry of an event. -/
def Obligations.EventsSetTheirBitAndTheirLogEntry : Prop :=
  ∀ (g b src : Nat) (data : List Nat) (s : State), Tab.wf 0 s.hk.sticky = true → ¬ (g = 14 ∧ b = 8) →
    ∃ t, t = event g b src data s ∧ stickyBit t g b = true ∧
    (∀ g' b', stickyBit s g' b' = true → stickyBit t g' b' = true) ∧
    (∀ g' b', ¬ (g' = g ∧ b' = b) → ¬ (g' = 14 ∧ b' = 8) → stickyBit t g' b' = stickyBit s g' b') ∧
    (s.hk.log.length < 1024 →
      ∃ e, t.hk.log.getLast? = some e ∧ e.group = g ∧ e.bit = b ∧ e.source = src ∧
        ((t.hk.log = s.hk.log ++ [e] ∧ e.seq = s.hk.logSeq ∧ e.rep = 0 ∧ e.step = s.sch.step ∧ e.time = s.hk.now ∧
            t.hk.logSeq = (s.hk.logSeq + 1) % 2 ^ 32) ∨
         (∃ o, s.hk.log.getLast? = some o ∧ o.group = g ∧ o.bit = b ∧ o.source = src ∧ s.hk.now ≤ o.time + 25000 ∧
            t.hk.log = s.hk.log.dropLast ++ [e] ∧ e = { o with rep := min 0xFFFF (o.rep + 1) }))) ∧
    t.mem = s.mem ∧ t.plots = s.plots ∧ t.fab = s.fab ∧ t.mst = s.mst ∧ t.pending = s.pending

/-- Registers of the status mirror and the flush and fence unit; ring memory (R10, R296, R297, R316). -/
def Obligations.RegisterAndRingAccessesComplete : Prop :=
  (∀ (g : Fin 16) (v : BitVec 32) (s : State), ∃ t, exec (.stmStickyW1c g v) s = .next t ∧
    t = { s with hk := { s.hk with sticky := t.hk.sticky } } ∧
    (Tab.wf 0 s.hk.sticky = true → (∀ b, stickyBit t g b = (stickyBit s g b && !(natBit b v.toNat && !natBit b (s.hk.fresh.get 0 g)))) ∧
      ∀ j b, j ≠ g.val → stickyBit t j b = stickyBit s j b) ∧
    exec (.registerWrite (BitVec.ofNat 26 (0x200100 + 8 * g)) false (v.zeroExtend 64)) s = .next t) ∧
  (∀ s : State, exec .stmSupplyWrite s = .next { s with hk := { s.hk with minMv := 0xFFFF } }) ∧
  (∀ (v : BitVec 64) (s : State), exec (.registerWrite 0x200008 true v) s = exec .stmSupplyWrite s ∧
    exec (.registerWrite 0x200000 true v) s = .next s ∧ exec (.registerWrite 0x200010 true v) s = .next s ∧
    exec (.registerWrite 0x200018 true v) s = .next s) ∧
  (∀ (v : BitVec 64) (s : State),
    exec (.fncBar2BaseWrite v) s = .next { s with host := { s.host with bar2Base := v.toNat / 2 ^ 30 % 2 ^ 14 * 2 ^ 30 } } ∧
    exec (.registerWrite 0x100008 true v) s = exec (.fncBar2BaseWrite v) s) ∧
  (∀ (v : BitVec 64) (s : State),
    exec (.fncHostLatWrite v) s = .next
      (if 500 ≤ v.toNat % 2 ^ 32 ∧ v.toNat % 2 ^ 32 ≤ 100000 then { s with host := { s.host with hostLat := v.toNat % 2 ^ 32 } } else s) ∧
    exec (.registerWrite 0x100010 true v) s = exec (.fncHostLatWrite v) s) ∧
  (∀ (off : BitVec 26) (v : BitVec 64) (wide : Bool) (s : State), off.toNat < 0x1000000 →
    off.toNat % (if wide then 8 else 4) ≠ 0 →
    ∃ t, exec (.registerWrite off wide v) s = .next t ∧ stickyBit t 6 5 = true ∧ t.mem = s.mem ∧ t.plots = s.plots ∧ t.mst = s.mst) ∧
  (∀ (off : BitVec 26) (bs : List Byte) (s : State), s.host.memEn = true → 0x1000000 ≤ off.toNat →
    off.toNat + bs.length ≤ 0x4000000 → 0 < bs.length → bs.length ≤ 128 * 2 ^ s.host.mps →
    off.toNat / 4096 = (off.toNat + bs.length - 1) / 4096 →
    ∃ t, exec (.bar0Access true off bs.length bs) s = .next t ∧
      t = { s with mst := { s.mst with ring := t.mst.ring } } ∧
      (Tab.wf 0 s.mst.ring = true → ringBytes t (off.toNat - 0x1000000) bs.length = bs ∧
        ∀ k, k < off.toNat - 0x1000000 ∨ off.toNat - 0x1000000 + bs.length ≤ k → t.mst.ring.get 0 k = s.mst.ring.get 0 k) ∧
      exec (.bar0Access false off bs.length []) s = .next { s with ret := { data := ringBytes s (off.toNat - 0x1000000) bs.length } }) ∧
  (∀ (off : BitVec 26) (n : Nat) (bs : List Byte) (s : State), s.host.memEn = false → exec (.bar0Access true off n bs) s = .next s)

/-- Segments (R298, R299). -/
def Obligations.SegmentsAreCheckedWhenEnabled : Prop :=
  (∀ (n : Fin 16) (w : BitVec 64) (s : State), (s.host.segs.get {} n).en = true → exec (.segmentEnable n w) s = .next s) ∧
  (∀ (n : Fin 16) (w : BitVec 64) (s : State) (g : Seg), (s.host.segs.get {} n).en = false → Tab.wf {} s.host.segs = true →
    g = { s.host.segs.get {} n with base := w.toNat / 2 ^ 16 % 2 ^ 28 } →
    ∃ t, exec (.segmentEnable n w) s = .next t ∧
      (∀ j, j ≠ n.val → t.host.segs.get {} j = s.host.segs.get {} j) ∧ t.mem = s.mem ∧ t.plots = s.plots ∧
      ((g.base < 2 ^ 27 ∨ g.limit < g.base ∨ 2 ^ 64 ≤ g.host * 4096 + ((g.limit - g.base) * 65536 + 65535) ∨
          (∃ j, j < 16 ∧ j ≠ n.val ∧ (s.host.segs.get {} j).en = true ∧ (s.host.segs.get {} j).base ≤ g.limit ∧ g.base ≤ (s.host.segs.get {} j).limit)) →
        t.host.segs.get {} n = g ∧ stickyBit t 6 6 = true) ∧
      (2 ^ 27 ≤ g.base → g.base ≤ g.limit → g.limit < 2 ^ 28 → g.host * 4096 + ((g.limit - g.base) * 65536 + 65535) < 2 ^ 64 →
        (∀ j, j < 16 → j ≠ n.val → (s.host.segs.get {} j).en = true → g.limit < (s.host.segs.get {} j).base ∨ (s.host.segs.get {} j).limit < g.base) →
        (∀ j, (s.host.segs.get {} j).en = true → (s.host.segs.get {} j).base ≤ (s.host.segs.get {} j).limit) →
        t = { s with host := { s.host with segs := t.host.segs } } ∧ t.host.segs.get {} n = { g with en := true } ∧
        (∀ a, g.base * 65536 ≤ a → a ≤ g.limit * 65536 + 65535 →
          (segOf t a).map (fun x => segTranslate x a) = some (g.host * 4096 + (a - g.base * 65536))))) ∧
  (∀ (n : Fin 16) (w : BitVec 64) (s : State), Tab.wf {} s.host.segs = true →
    ∃ t, exec (.segmentDisable n w) s = .next t ∧ t = { s with host := { s.host with segs := t.host.segs } } ∧
      t.host.segs.get {} n = { s.host.segs.get {} n with
        en := false, base := if (s.host.segs.get {} n).en then (s.host.segs.get {} n).base else w.toNat / 2 ^ 16 % 2 ^ 28 } ∧
      (∀ j, j ≠ n.val → t.host.segs.get {} j = s.host.segs.get {} j))

/-- FNC_FENCE_REQ and the completion of a fence (R303, R304). -/
def Obligations.HostFencesCompleteInOrder : Prop :=
  (∀ (wide : Bool) (v : BitVec 64) (s : State), exec (.fncFenceReq false wide v) s = .next s) ∧
  (∀ (v : BitVec 64) (s : State), s.host.fences.length < 16 → (v.toNat % 128 ≤ 68 ∨ v.toNat % 128 = 127) →
    ∃ t, exec (.fncFenceReq true true v) s = .next t ∧
      t.host.fences = s.host.fences ++ [⟨v.toNat % 128, natBit 7 v.toNat, natBit 8 v.toNat, natBits 23 16 v.toNat, v.toNat / 2 ^ 32⟩] ∧
      t.mem.cells = s.mem.cells ∧ t.plots = s.plots ∧ t.mst = s.mst ∧ t.hk = s.hk) ∧
  (∀ (v : BitVec 64) (s : State), (16 ≤ s.host.fences.length ∨ (69 ≤ v.toNat % 128 ∧ v.toNat % 128 ≤ 126)) →
    ∃ t, exec (.fncFenceReq true true v) s = .next t ∧ t.host.fences = s.host.fences ∧ stickyBit t 6 7 = true ∧ t.mem = s.mem) ∧
  (∀ (s : State) (f : FenceReq) (fs : List FenceReq), s.host.fences = f :: fs →
    ∃ t, exec .fenceComplete s = .next t ∧ t.host.fences = fs ∧ t.host.doneToken = f.token ∧ t.host.doneFailed = false ∧
      t.host.hostMem = (if f.flag then putHost s.host.hostMem s.host.fenceFlag (leBytes 4 f.token ++ leBytes 1 f.engine ++ [0, 0, 0]) else s.host.hostMem) ∧
      (f.irq = false → t.host.irqs = s.host.irqs ∧ t.host.pba = s.host.pba) ∧
      (f.irq = true → s.host.detached = false → natBit 0 (msixByte s (16 * f.vector + 12)) = false → t.host.irqs = s.host.irqs ++ [f.vector]) ∧
      t.mem = s.mem ∧ t.plots = s.plots ∧ t.mst = s.mst)

/-- BAR2, atomic requests and configuration requests. -/
def Obligations.Bar2AndConfigurationComplete : Prop :=
  (∀ (off n : Nat) (s : State), bar2Claims s off n = true → bar2Refused s (bar2Base s + off) n false = false →
    ∃ t p, exec (.bar2Read off n) s = .next t ∧ t.ret = { data := rawBytes s (bar2Base s + off) n, poison := p } ∧
      t.mem.cells = s.mem.cells ∧ t.plots = s.plots ∧ t.mst = s.mst) ∧
  (∀ (off : Nat) (bs : List Byte) (s : State), bar2Claims s off bs.length = true → bar2Refused s (bar2Base s + off) bs.length true = false →
    bar2Base s + off + bs.length ≤ 0x8000000000 → (bar2Base s + off) % 128 + bs.length ≤ 128 → Tab.wf 0 s.mem.cells = true →
    ∃ t, exec (.bar2Write off bs false) s = .next t ∧ rawBytes t (bar2Base s + off) bs.length = bs ∧
      (∀ a, a < bar2Base s + off ∨ bar2Base s + off + bs.length ≤ a → rawByte t a = rawByte s a) ∧ t.plots = s.plots ∧ t.mst = s.mst) ∧
  (∀ (off : Nat) (bs : List Byte) (s : State), bar2Claims s off bs.length = true →
    (∃ t, exec (.bar2Write off bs true) s = .next t ∧ stickyBit t 6 4 = true ∧ t.mem = s.mem) ∧
    (bar2Refused s (bar2Base s + off) bs.length true = true →
      ∃ t, exec (.bar2Write off bs false) s = .next t ∧ stickyBit t 6 5 = true ∧ t.mem = s.mem)) ∧
  (∀ (off : Nat) (s : State), ∃ d, exec (.atomicopRequest off) s = .next { s with ret := { data := d, status := 1 } }) ∧
  (∀ (w : Bool) (r : BitVec 12) (v : BitVec 32) (s : State),
    (s.mst.mode = .starting → s.fw.stage ≤ 2 → exec (.configRequest w r v) s = .next { s with ret := { status := 2 } }) ∧
    (s.mst.mode ≠ .starting → exec (.configRequest false 0 v) s = .next { s with ret := { data := leBytes 4 0x0A095651 } } ∧
      ∃ t, exec (.configRequest true 4 v) s = .next t ∧ t.host.memEn = natBit 1 v.toNat ∧ t.mem = s.mem ∧ t.mst = s.mst ∧ t.plots = s.plots))

/-- Link speed, recovery, completions, host loss (R295, R302, R309 to R311, R333). -/
def Obligations.LinkCompletionsAndHostLoss : Prop :=
  (∀ (sp : BitVec 3) (w : BitVec 5) (fl : Bool) (s : State), ∃ t, exec (.pcieLinkUp sp w fl) s = .next t ∧
    t.host.speed = sp.toNat ∧ t.host.width = w.toNat ∧ t.host.flit = fl ∧
    (t.host.slow = true ↔ s.hasBundle = true ∧ laneRate sp.toNat * w.toNat < s.sch.rate) ∧
    (t.host.slow = true → s.host.slow = false → stickyBit t 6 1 = true) ∧ t.mem = s.mem ∧ t.plots = s.plots) ∧
  (∀ (sp : BitVec 3) (w : BitVec 5) (s : State), exec (.linkSlow sp w) s = exec (.pcieLinkUp sp w s.host.flit) s) ∧
  (∀ (ns : Nat) (s : State), ∃ t, exec (.pcieRecovery ns) s = .next t ∧ t = { s with host := { s.host with counts := t.host.counts } } ∧
    (Tab.wf 0 s.host.counts = true → t.host.counts.get 0 4 = sat48 (s.host.counts.get 0 4 + 1) ∧ t.host.counts.get 0 5 = sat48 (s.host.counts.get 0 5 + ns))) ∧
  (∀ (tag : Nat) (st : CplStatus) (ep : Bool) (bs : List Byte) (s : State), (768 ≤ tag ∨ s.host.reads.get none tag = none) →
    exec (.readCompletion tag st ep bs) s = .next s ∧ exec (.cplTimeout tag) s = .next s) ∧
  (∀ (tag : Nat) (bs : List Byte) (s : State) (r : HostRead) (p off : Nat), tag < 768 → s.host.reads.get none tag = some r →
    (∀ k, 1024 ≤ k → s.host.reads.get none k = none) → Tab.wf none s.host.reads = true → Tab.wf 0 s.mem.cells = true →
    p < 64 → off + r.len ≤ 0x300000 → r.dest = storeBase p + off → bs.length = r.len → off / 65536 = (off + r.len - 1) / 65536 →
    (∃ t, exec (.readCompletion tag .success false bs) s = .next t ∧ t.host.reads.get none tag = none ∧
      rawBytes t r.dest r.len = bs ∧ (∀ a, a < r.dest ∨ r.dest + r.len ≤ a → rawByte t a = rawByte s a) ∧ t.hk = s.hk) ∧
    (∃ t, exec (.readCompletion tag .success true bs) s = .next t ∧ t.host.reads.get none tag = none ∧ stickyBit t 6 4 = true) ∧
    (∃ t, exec (.readCompletion tag .unsupported false bs) s = .next t ∧ t.host.reads.get none tag = none ∧ stickyBit t 6 3 = true) ∧
    (∃ t, exec (.cplTimeout tag) s = .next t ∧ t.host.reads.get none tag = none ∧ stickyBit t 6 2 = true)) ∧
  (∀ (c : DetachCause) (s : State), s.host.detached = true → exec (.hostDetach c) s = .next s) ∧
  (∀ (c : DetachCause) (s : State), s.host.detached = false → Tab.wf {} s.mst.mbx = true → Tab.wf {} s.host.segs = true →
    ∃ t, exec (.hostDetach c) s = .next t ∧ t.host.detached = true ∧ stickyBit t 6 0 = true ∧
      (∀ n, (t.host.segs.get {} n).en = false) ∧ t.host.fences = [] ∧ (s.host.fences ≠ [] → t.host.doneFailed = true) ∧
      (∀ m, m < 64 → (t.mbx m).en = false ∧ (t.mbx m).shadowEn = false ∧ (t.mbx m).cmdProd = (t.mbx m).cmdCons) ∧
      t.host.bar2Base = s.host.bar2Base ∧ t.host.hostLat = s.host.hostLat ∧ t.sch.step = s.sch.step)

/-! ### Plots (02, 05, 06, 11) -/

namespace Sys2Proof.Obl

/-- Stream st of plot p may issue the instruction i, and the instruction after it is no marker of the bundle. -/
def Issues (s : State) (p : Nat) (st : Stream) (i : SeqInstr) : Prop :=
  Tab.wf {} s.plots = true ∧ mayIssue s p st = true ∧ instrAt s p st = some i ∧
    ∀ j, (progOf s p st)[(s.plot p).pc st + 1]? = some j → j ≠ .tallyPoint ∧ ∀ n, j ≠ .arrive n

/-- Stream st of plot p one instruction further. -/
def past (p : Nat) (st : Stream) (s : State) : State := s.onPlot p (fun q => q.setPc st (q.pc st + 1))

/-- Table 05.6: what plot p does under combined flags F and n non-finite events so far at a check c of region g, when the outcome is
not logged yet. -/
def Outcome (s : State) (p : Nat) (g : RegionDef) (c : Check) (F n : Nat) (t : State) : Prop :=
  (F % 32 = 0 → (t.plot p).pcP = (if (s.plot p).replay.isSome then g.resumePc else g.checkPc + 1) ∧ (t.plot p).replay = none ∧
    (t.plot p).check = none ∧ t.sch.events = s.sch.events) ∧
  ((natBit 1 F || natBit 2 F) = true → c.level < 2 → n = 0 →
    (t.plot p).pcP = (if c.level = 0 then g.wide16 else g.wide32) ∧
    (t.plot p).replay = some ⟨if c.level = 0 then g.end16 else g.end32, g.tag, c.level + 1, c.since, s.sch.clocks⟩ ∧ (t.plot p).check = none ∧
    t.sch.events = s.sch.events ∧
    ∃ e, t.sch.replays.getLast? = some e ∧ e.step = s.sch.step ∧ e.tag = g.tag ∧ e.from_ = c.level ∧ e.to_ = c.level + 1 ∧ e.flags = F ∧ e.suppressed = false) ∧
  ((natBit 1 F || natBit 2 F) = true → c.level < 2 → 0 < n →
    (t.plot p).pcP = g.resumePc ∧ (t.plot p).replay = none ∧ t.sch.events = s.sch.events + 1 ∧
    ∃ e, t.sch.replays.getLast? = some e ∧ e.tag = g.tag ∧ e.to_ = 3 ∧ e.suppressed = true) ∧
  (F % 32 ≠ 0 → (c.level = 2 ∨ (natBit 1 F || natBit 2 F) = false) → c.level ≤ 2 →
    (t.plot p).pcP = g.resumePc ∧ (t.plot p).replay = none ∧ t.sch.events = s.sch.events + 1 ∧ stickyBit t 8 0 = true ∧
    ∃ e, t.sch.replays.getLast? = some e ∧ e.tag = g.tag ∧ e.to_ = 3 ∧ e.suppressed = false)

end Sys2Proof.Obl

/-- What the sequencer's instructions do when issued. A post to a rank that no port leads to only moves on (DESIGN CHOICE, log 105). -/
def Obligations.SequencerInstructionsIssueInOrder : Prop :=
  (∀ (p : Fin 64) (st : Stream) (off : Nat) (s : State), Issues s p st (.hop off) →
    exec (.hop p st) s = .next (past p st (s.onPlot p (fun q =>
      { q with flight := q.flight ++ [⟨0, off, rawBytes s (storeBase p + off) 64, false, [], [], false, 0⟩] })))) ∧
  (∀ (p : Fin 64) (st : Stream) (off : Nat) (s : State), Issues s p st (.wload off) →
    exec (.wload p st) s = .next (past p st (s.onPlot p (fun q =>
      { q with flight := q.flight ++ [⟨1, off, rawBytes s (storeBase p + off) 32, false, [], [], false, 0⟩] })))) ∧
  (∀ (p : Fin 64) (st : Stream) (m : MashItem) (s : State), Issues s p st (.mash m) →
    exec (.mash p st) s = .next (if (s.plot p).mashQ.length < 4 then past p st (s.onPlot p (fun q => { q with mashQ := q.mashQ ++ [m] })) else s)) ∧
  (∀ (p : Fin 64) (st : Stream) (n k : Nat) (s : State) (x : Sem), Issues s p st (.swait n k) → x = (s.plot p).sems.get {} n →
    exec (.swait p st) s = .next (if x.assigned = false then past p st (event 7 2 p [p, n] s)
      else if k ≤ x.value then past p st (s.onPlot p (fun q => { q with sems := q.sems.set {} n { x with value := x.value - k } })) else s)) ∧
  (∀ (p : Fin 64) (st : Stream) (n : Nat) (d : Int) (s : State) (x : Sem), Issues s p st (.spost n d) → x = (s.plot p).sems.get {} n →
    (x.assigned = false → exec (.spost p st) s = .next (past p st (event 7 2 p [p, n] s))) ∧
    (x.assigned = true → 0 ≤ (x.value : Int) + d → (x.value : Int) + d ≤ 0xFFFF →
      exec (.spost p st) s = .next (past p st (s.onPlot p (fun q => { q with sems := q.sems.set {} n { x with value := ((x.value : Int) + d).toNat } }))))) ∧
  (∀ (p : Fin 64) (st : Stream) (r q n : Nat) (d : Int) (s : State) (v : Nat), Issues s p st (.spostRemote r q n d) → routeTo s r = some v →
    exec (.spost p st) s = .next (if (s.flow v).stalled = [] ∧ queuedWords (s.flow v).queue < 1024 then
        past p st (s.onFlow v (fun f => { f with queue := f.queue ++ [⟨3, [semPostWord r q n d], (s.flow v).sent⟩] }))
      else event 5 4 (0x60 + v) [v, s.sch.step, s.sch.epoch] s)) ∧
  (∀ (p : Fin 64) (st : Stream) (r q n : Nat) (d : Int) (s : State), Issues s p st (.spostRemote r q n d) → routeTo s r = none →
    exec (.spost p st) s = .next (past p st s)) ∧
  (∀ (p : Fin 64) (st : Stream) (e : Nat) (s : State), Issues s p st (.ewait e) →
    exec (.ewait p st) s = .next (if e ≤ s.sch.planIdx then past p st s else s)) ∧
  (∀ (p : Fin 64) (st : Stream) (s : State), Issues s p st .fclr →
    exec (.fclr p st) s = .next (if (s.plot p).flight.all (fun f => f.kind != 0 || drainedAll f) = true
      then past p st (s.onPlot p (fun q => { q with hflags := 0 })) else s)) ∧
  (∀ (p : Fin 64) (st : Stream) (s : State), mayIssue s p st = false →
    exec (.hop p st) s = .next s ∧ exec (.wload p st) s = .next s ∧ exec (.mash p st) s = .next s ∧ exec (.move p st) s = .next s ∧
    exec (.swait p st) s = .next s ∧ exec (.spost p st) s = .next s ∧ exec (.ewait p st) s = .next s ∧ exec (.fclr p st) s = .next s)

/-- Integer accumulation (R34). -/
def Obligations.IntegerHedgesAccumulateWithSaturation : Prop :=
  (∀ (s : State) (p : Nat) (d : HopDesc) (row n kc : Nat) (xs ws : List Int), d.fmtA ∈ [Fmt.int16, Fmt.int8, Fmt.int4] →
    kc = (if d.fmtA = .int16 then 2 else if d.fmtA = .int8 then 8 else 16) →
    xs = (d.fmtA.decodeMany d.k (rawBytes s (storeBase p + d.aOff + row * d.aStride) (d.fmtA.bytesFor d.k))).map xInt →
    ws = (weightCol ((s.plot p).bank.get {} d.half) d.fmtW d.k0 d.k (d.n0 + n)).map xInt →
    ∃ acc : Nat → Int,
      acc 0 = (if d.mma then natSigned 32 (rawNat s (storeBase p + d.cinOff + row * d.cinStride + 4 * n) 4) else 0) ∧
      (∀ j, j < ceilDiv d.k kc → acc (j + 1) =
        max (-2147483648) (min 2147483647 (acc j + ((List.range kc).map (fun i => xs.getD (j * kc + i) 0 * ws.getD (j * kc + i) 0)).sum))) ∧
      (hopElement s p d row n).1 = intBits 32 (acc (ceilDiv d.k kc)) ∧
      ((hopElement s p d row n).2.sat = true ↔ ∃ j, j < ceilDiv d.k kc ∧
        (acc j + ((List.range kc).map (fun i => xs.getD (j * kc + i) 0 * ws.getD (j * kc + i) 0)).sum < -2147483648 ∨
          2147483647 < acc j + ((List.range kc).map (fun i => xs.getD (j * kc + i) 0 * ws.getD (j * kc + i) 0)).sum)) ∧
      (hopElement s p d row n).2 = { sat := (hopElement s p d row n).2.sat }) ∧
  (∀ (p : Fin 64) (h : Fin 4) (s t : State) (i : Nat) (f : Flight) (d : HopDesc) (row n : Nat), d = hopOf f.desc →
    nextStart (s.plot p) h = some i → (s.plot p).flight[i]? = some f → ((s.plot p).accs.get [] h).length < 2 →
    halfLoading (s.plot p) i d.half = false → d.waitEn = false → row ∈ groupRows d (groupAt d h (f.started.get 0 h)) → n < d.n →
    (hopElement s p d row n).2.sat = true → exec (.rowGroupStart p h) s = .next t → natBit (4 * h + 2) (t.plot p).hflags = true)

/-- ROW_GROUP_START, HEDGE_DRAIN, HOP_COMPLETE, WLOAD_COMPLETE. -/
def Obligations.HedgeOperationsRunToCompletion : Prop :=
  (∀ (p : Fin 64) (h : Fin 4) (s : State) (i : Nat) (f : Flight) (d : HopDesc) (rows : List Nat), d = hopOf f.desc →
    nextStart (s.plot p) h = some i → (s.plot p).flight[i]? = some f → ((s.plot p).accs.get [] h).length < 2 →
    halfLoading (s.plot p) i d.half = false → d.waitEn = false →
    rows = (List.range d.seg).filterMap (fun j => if groupAt d h (f.started.get 0 h) * d.seg + j < d.m then some (groupAt d h (f.started.get 0 h) * d.seg + j) else none) →
    ∃ t, exec (.rowGroupStart p h) s = .next t ∧ t.mem = s.mem ∧ t.hk = s.hk ∧ t.sch = s.sch ∧
      (t.plot p).accs.get [] h = (s.plot p).accs.get [] h ++
        [⟨f.desc, groupAt d h (f.started.get 0 h), (rows.map (fun r => (List.range d.n).map (fun n => (hopElement s p d r n).1))).flatten⟩] ∧
      (∀ b, natBit b (s.plot p).hflags = true → natBit b (t.plot p).hflags = true) ∧
      (t.plot p).bank = (s.plot p).bank ∧ (t.plot p).sems = (s.plot p).sems ∧ (t.plot p).pcP = (s.plot p).pcP ∧ ∀ j, j ≠ p.val → t.plot j = s.plot j) ∧
  (∀ (p : Fin 64) (h : Fin 4) (s : State) (i : Nat) (a : Acc) (as : List Acc) (d : HopDesc), d = hopOf a.desc →
    (s.plot p).accs.get [] h = a :: as → nextDrain (s.plot p) h = some i → Tab.wf 0 s.mem.cells = true → Tab.wf [] (s.plot p).accs = true →
    ∃ t, exec (.hedgeDrain p h) s = .next t ∧ (t.plot p).accs.get [] h = as ∧ (t.plot p).sems = (s.plot p).sems ∧ (t.plot p).bank = (s.plot p).bank ∧
      (∀ x, (∀ w ∈ (drainWrites s p d a).1, x < w.1 ∨ w.1 + w.2.length ≤ x) → rawByte t x = rawByte s x) ∧
      (rawOut d = true → d.seg = 1 → a.group < d.m → a.vals.length = d.n →
        storeBase p + d.cOff + a.group * d.cStride + 4 * d.n ≤ 0xC010000000 →
        rawBytes t (storeBase p + d.cOff + a.group * d.cStride) (4 * d.n) = (a.vals.map (leBytes 4)).flatten) ∧
      ∀ j, j ≠ p.val → t.plot j = s.plot j) ∧
  (∀ (p : Fin 64) (s : State) (i : Nat) (f : Flight), (s.plot p).flight.findIdx? (fun f => f.kind == 0 && drainedAll f) = some i →
    (s.plot p).flight[i]? = some f → ∃ t, t = s.onPlot p (fun q => { q with flight := q.flight.eraseIdx i }) ∧
    exec (.hopComplete p) s = .next (if (hopOf f.desc).postEn then semPostAt p (hopOf f.desc).semPost 1 t else t)) ∧
  (∀ (p : Fin 64) (s : State) (f : Flight) (fs : List Flight) (d : WloadDesc), (s.plot p).flight = f :: fs → f.kind = 1 → d = wloadOf f.desc →
    exec (.wloadComplete p) s = .next (s.onPlot p (fun q => { q with
      flight := fs
      bank := q.bank.set {} d.half ⟨some d.fmt.code, d.kw, d.nw, ((List.range (ceilDiv d.kw d.fmt.blockVals)).map (fun r =>
        rawBytes s (storeBase p + (d.src + r * d.stride)) (d.nw * d.fmt.blockBytes))).flatten⟩ }))) ∧
  (∀ (p h : Nat) (f : Fmt) (k0 k n : Nat), (State.reset.plot p).bank.get {} h = {} ∧
    weightCol ((State.reset.plot p).bank.get {} h) f k0 k n = List.replicate k (.fin false 0 0)) ∧
  (∀ (p : Fin 64) (h : Fin 4) (s : State), (nextStart (s.plot p) h = none → exec (.rowGroupStart p h) s = .next s) ∧
    ((s.plot p).accs.get [] h = [] → exec (.hedgeDrain p h) s = .next s) ∧
    ((s.plot p).flight = [] → exec (.hopComplete p) s = .next s ∧ exec (.wloadComplete p) s = .next s ∧ exec (.moveComplete p) s = .next s))

/-- MOVE and MOVE_COMPLETE (R139, R140). -/
def Obligations.MoveCopiesRowsIntoHbm : Prop :=
  (∀ (p : Fin 64) (st : Stream) (off n : Nat) (s : State) (d : MoveDesc) (src dst : Tensor5), Issues s p st (.move off) →
    d = moveOf (rawBytes s (storeBase p + off) 32) → src = tensorOf (rawBytes s (storeBase p + d.src) 64) →
    dst = tensorOf (rawBytes s (storeBase p + d.dst) 64) → d.mode = 0 → d.waitEn = false →
    tensorRows src = [src.base] → tensorRows dst = [dst.base] → n = src.fmt.bytesFor src.e0 →
    storeBase p ≤ src.base → src.base + n ≤ storeBase p + 0x300000 → dst.base + n ≤ 0x8000000000 →
    (∀ a, dst.base ≤ a → a < dst.base + n → s.mem.withdrawn.get false (a / 0x10000) = false) → Tab.wf 0 s.mem.cells = true →
    ∃ t, exec (.move p st) s = .next t ∧ rawBytes t dst.base n = rawBytes s src.base n ∧
      (∀ a, a < dst.base ∨ dst.base + n ≤ a → rawByte t a = rawByte s a) ∧
      (t.plot p).pc st = (s.plot p).pc st + 1 ∧
      (t.plot p).flight = (s.plot p).flight ++ [⟨2, off, rawBytes s (storeBase p + off) 32, true, [], [], false, 0⟩] ∧
      (∀ j, j ≠ p.val → t.plot j = s.plot j) ∧ t.hk = s.hk ∧ t.host = s.host) ∧
  (∀ (p : Fin 64) (s : State) (i : Nat) (f : Flight), (s.plot p).flight.findIdx? (fun f => f.kind == 2) = some i →
    (s.plot p).flight[i]? = some f → f.ready = true → moveReads s p f.off = 0 → Tab.wf {} s.plots = true →
    ∃ t, exec (.moveComplete p) s = .next (if (moveOf f.desc).postEn then semPostAt p (moveOf f.desc).semPost 1 t else t) ∧
      (t.plot p).flight = (s.plot p).flight.eraseIdx i ∧ t.mem.cells = s.mem.cells ∧
      (Tab.wf 0 s.mem.fences = true → t.mem.fences.get 0 p = sat48 (s.mem.fences.get 0 p + 1)) ∧ t.hk = s.hk)

/-- REGION_CHECK and SCOPE_DECISION (Table 05.6). That an outcome enters the log and the count once is the model's reading (log 12). -/
def Obligations.RegionChecksFollowTheOutcomeTable : Prop :=
  (∀ (p : Fin 64) (s : State) (g : RegionDef) (level : Nat) (c : Check), issues s = true → (s.plot p).stopped = false → Tab.wf {} s.plots = true →
    checkAt s p = some (g, level) → c = (s.plot p).check.getD ⟨g.tag, level, s.sch.clocks, false⟩ →
    (regionBusy s p g.tag = true → exec (.regionCheck p) s = .next (s.onPlot p (fun q => { q with check := some c }))) ∧
    (regionBusy s p g.tag = false → g.scopeEn = false → outcomeNoted s g c = false →
      (∀ j ∈ [(progOf s p .primary)[g.checkPc + 1]?, (progOf s p .primary)[g.resumePc]?], j ≠ some .tallyPoint ∧ ∀ n, j ≠ some (.arrive n)) →
      ∃ t, exec (.regionCheck p) s = .next t ∧ Outcome s p g c (regionFlags s p g.tag) s.sch.events t ∧ t.mem = s.mem) ∧
    (∀ x y, regionBusy s p g.tag = false → g.scopeEn = true → c.reported = false → x = s.scope g → x.doneF = false →
      (x.passed = [] ∨ x.doneA = true) →
      y = { x with flagged := x.flagged ++ [p.val], flags := x.flags ||| regionFlags s p g.tag, amax := max x.amax ((s.plot p).regAmax.get 0 g.tag) } →
      ∃ t, exec (.regionCheck p) s = .next t ∧ (t.plot p).check = some { c with reported := true } ∧ (t.plot p).pcP = (s.plot p).pcP ∧ t.mem = s.mem ∧
        (allMates s g y.flagged = false → t.scope g = y) ∧
        (∀ d, allMates s g y.flagged = true → tallyDef s g.scopeTally = some d → d.kind = .localT → d.posts = [] →
          t.scope g = { y with doneF := true, arrived := false, events := s.sch.events }))) ∧
  (∀ (p : Fin 64) (s : State) (g : RegionDef) (c : Check), (s.plot p).check = some c → c.reported = true → Tab.wf {} s.plots = true →
    regionOf s p c.tag = some g → (s.scope g).doneF = true → p.val ∉ (s.scope g).acted → outcomeNoted s g c = false →
    (∀ j ∈ [(progOf s p .primary)[g.checkPc + 1]?, (progOf s p .primary)[g.resumePc]?], j ≠ some .tallyPoint ∧ ∀ n, j ≠ some (.arrive n)) →
    ∃ t, exec (.scopeDecision p) s = .next t ∧ Outcome s p g c (s.scope g).flags (s.scope g).events t ∧ t.mem = s.mem ∧
      (allMates s g ((s.scope g).acted ++ [p.val]) = false → t.scope g = { s.scope g with acted := (s.scope g).acted ++ [p.val] })) ∧
  (∀ (p : Fin 64) (s : State) (g : RegionDef), (s.plot p).check = none → Tab.wf {} s.plots = true → replayRegion s p = some g →
    (s.plot p).passOne = true → (s.scope g).doneA = true → p.val ∉ (s.scope g).acted →
    ∃ t, exec (.scopeDecision p) s = .next t ∧ t = { s with plots := t.plots, sch := { s.sch with scopes := t.sch.scopes } } ∧
      t.plot p = { s.plot p with scopeAmax := some (s.scope g).amax } ∧ ∀ j, j ≠ p.val → t.plot j = s.plot j) ∧
  (∀ (p : Fin 64) (s : State), (s.plot p).check = none → (s.plot p).replay = none → exec (.scopeDecision p) s = .next s) ∧
  (∀ (p : Fin 64) (s : State), checkAt s p = none → exec (.regionCheck p) s = .next s)

/-! ### Mash engines (03) -/

namespace Sys2Proof.Obl

/-- Element e of a register: one of 128 lanes, or of 256 packed elements. -/
def el (pk : Bool) (q : Plot) (r e : Nat) : Nat := (elemsOf pk (q.vreg r)).getD e 0

/-- Element e is active: outside a loop the effective mask is M[MSK], with M0 all ones (R61, R62). -/
def active (q : Plot) (w e : Nat) : Bool := natBit e (q.mask allOnes (mMsk w))

/-- With a Mash instruction of one of these opcodes at the head of plot p's queue, command i completes: the instruction leaves
the queue, nothing but the plot's vector, scalar and mask registers, its Mash flags and its unregioned set changes, no flag
clears but by MFCLR, and R holds of the plot before, the instruction word, and the plot after. -/
def MashRuns (i : Instr) (p : Nat) (ops : List Nat) (R : Plot → Nat → Plot → Prop) : Prop :=
  ∀ (s : State) (w : Nat) (rest : List MashItem), (s.plot p).mashQ = .reg w :: rest → mOp w ∈ ops → Tab.wf {} s.plots = true →
    Tab.wf [] (s.plot p).v = true → Tab.wf 0 (s.plot p).s = true → Tab.wf 0 (s.plot p).m = true →
    ∃ t, exec i s = .next t ∧ t = { s with plots := t.plots } ∧ (∀ j, j ≠ p → t.plot j = s.plot j) ∧
      t.plot p = { s.plot p with mashQ := rest, v := (t.plot p).v, s := (t.plot p).s, m := (t.plot p).m, mflags := (t.plot p).mflags, unreg := (t.plot p).unreg } ∧
      (mOp w ≠ 0x80 → ∀ b, natBit b (s.plot p).mflags = true → natBit b (t.plot p).mflags = true) ∧
      R (s.plot p) w (t.plot p)

/-- The active elements of an instruction, ascending. -/
def actives (pk : Bool) (q : Plot) (w : Nat) : List Nat := (List.range (if pk then 256 else 128)).filter (fun e => active q w e)

/-- The flags of the active elements join PLT_MFLAGS (Table 03.6: NAN, OVF, INV, DZ, SAT from bit 0) and, since a register
instruction has no TAG, the unregioned set (Table 05.8's order: NAN, OVF, SAT, INV, DZ); no other flag changes. -/
def Raised (q r : Plot) (fs : List NFlags) : Prop :=
  ∀ b, natBit b r.mflags = (natBit b q.mflags ||
      fs.any (fun f => natBit b (b2n f.nan + 2 * b2n f.ovf + 4 * b2n f.inv + 8 * b2n f.dz + 16 * b2n f.sat))) ∧
    natBit b r.unreg = (natBit b q.unreg ||
      fs.any (fun f => natBit b (b2n f.nan + 2 * b2n f.ovf + 4 * b2n f.sat + 8 * b2n f.inv + 16 * b2n f.dz)))

/-- An element-wise instruction: active elements of VD take f of the sources' elements and raise its flags, inactive ones keep their
value, and no other register changes. -/
def Elems (pk : Bool) (f : Nat → Nat → Nat → Nat × NFlags) (q : Plot) (w : Nat) (r : Plot) : Prop :=
  r.s = q.s ∧ r.m = q.m ∧ (∀ j, j ≠ mVd w → r.vreg j = q.vreg j) ∧
  (∀ e, e < (if pk then 256 else 128) → el pk r (mVd w) e =
    if active q w e then (f (el pk q (mVa w) e) (el pk q (mVb w) e) (el pk q (mVc w) e)).1 % 2 ^ (if pk then 16 else 32) else el pk q (mVd w) e) ∧
  Raised q r ((actives pk q w).map (fun e => (f (el pk q (mVa w) e) (el pk q (mVb w) e) (el pk q (mVc w) e)).2))

/-- A compare: bit e of the destination mask is the test of element e where it is active, and every other bit is clear; a
compare into M0 writes nothing; an active element raises NAN when g holds of it. -/
def Compares (pk : Bool) (f g : Nat → Nat → Bool) (q : Plot) (w : Nat) (r : Plot) : Prop :=
  r.s = q.s ∧ r.v = q.v ∧ (∀ j, j ≠ mVd w % 8 → r.m.get 0 j = q.m.get 0 j) ∧
  (mVd w % 8 = 0 → r.m = q.m) ∧
  (mVd w % 8 ≠ 0 → ∀ e, natBit e (r.m.get 0 (mVd w % 8)) = (decide (e < if pk then 256 else 128) && active q w e && f (el pk q (mVa w) e) (el pk q (mVb w) e))) ∧
  Raised q r ((actives pk q w).map (fun e => { nan := g (el pk q (mVa w) e) (el pk q (mVb w) e) }))

/-- A mask instruction: active bits of the destination mask take f, the others stay; M0 is never written. -/
def Masks (f : Bool → Bool → Bool) (q : Plot) (w : Nat) (r : Plot) : Prop :=
  r.s = q.s ∧ r.v = q.v ∧ r.mflags = q.mflags ∧ r.unreg = q.unreg ∧ (∀ j, j ≠ mVd w % 8 → r.m.get 0 j = q.m.get 0 j) ∧ (mVd w % 8 = 0 → r.m = q.m) ∧
  (mVd w % 8 ≠ 0 → ∀ e, e < 256 → natBit e (r.m.get 0 (mVd w % 8)) =
    if active q w e then f (natBit e (q.mask allOnes (mVa w % 8))) (natBit e (q.mask allOnes (mVb w % 8))) else natBit e (q.m.get 0 (mVd w % 8)))

/-- A reduction: lane 0 of VD takes the value, its lanes 1 to 127 and every other register stay, and its flags are raised. -/
def Lane0 (v : Nat) (f : NFlags) (q : Plot) (w : Nat) (r : Plot) : Prop :=
  r.s = q.s ∧ r.m = q.m ∧ (∀ j, j ≠ mVd w → r.vreg j = q.vreg j) ∧ el false r (mVd w) 0 = v % 2 ^ 32 ∧
  (∀ e, 0 < e → e < 128 → el false r (mVd w) e = el false q (mVd w) e) ∧ Raised q r [f]

/-- The values of the active lanes of VA, ascending. -/
def lanesIn (q : Plot) (w : Nat) : List Nat := ((List.range 128).filter (fun e => active q w e)).map (fun e => el false q (mVa w) e)

/-- The value of an element under an opcode. -/
def val (op a : Nat) : XVal := (mashLayout op).decode a

/-- A float result of opcode op with operands xs: the exact result x rounded once into the type the opcode names (R59), with
Table 03.6's flags: NAN when a NaN is consumed or produced, INV when one is produced from none, OVF when the result overflows. -/
def once (op : Nat) (xs : List XVal) (x : XVal) : Nat × NFlags :=
  (((mashLayout op).arith x).1,
    { nan := xs.any XVal.isNan || x.isNan, inv := x.isNan && !xs.any XVal.isNan, ovf := ((mashLayout op).arith x).2.ovf })

/-- A 32-bit integer result saturated, with SAT (R58). -/
def satOf (v : Int) : Nat × NFlags :=
  (intBits 32 (max (-2147483648) (min 2147483647 v)), { sat := decide (v < -2147483648) || decide (2147483647 < v) })

end Sys2Proof.Obl

/-- Float arithmetic and compares (Table 03.3). FDIV of infinities raises no INV: Table 03.6 names 0/0 only. A compare of 32-bit
elements clears the mask's bits 128 to 255 (DESIGN CHOICE, log 86). -/
def Obligations.MashFloatInstructionsRoundOnce : Prop :=
  ∀ (p : Fin 64) (k : Nat), k < 3 →
    (∀ op, op = 0x10 + 16 * k → MashRuns (.fadd p) p [op] (Elems (decide (0 < k)) (fun a b _ => once op [val op a, val op b] ((val op a).add (val op b))))) ∧
    (∀ op, op = 0x11 + 16 * k → MashRuns (.fsub p) p [op] (Elems (decide (0 < k)) (fun a b _ => once op [val op a, val op b] ((val op a).sub (val op b))))) ∧
    (∀ op, op = 0x12 + 16 * k → MashRuns (.fmul p) p [op] (Elems (decide (0 < k)) (fun a b _ => once op [val op a, val op b] ((val op a).mul (val op b))))) ∧
    (∀ op, op = 0x13 + 16 * k → MashRuns (.ffma p) p [op] (Elems (decide (0 < k)) (fun a b c =>
      let y := ((val op a).mul (val op b)).add (val op c)
      ((once op [] y).1, { nan := [val op a, val op b, val op c].any XVal.isNan || y.isNan
                           inv := y.isNan && !([val op a, val op b, val op c].any XVal.isNan) || ((val op a).mul (val op b)).isNan && !([val op a, val op b].any XVal.isNan)
                           ovf := (once op [] y).2.ovf })))) ∧
    (∀ op, op = 0x14 + 16 * k → MashRuns (.fmin p) p [op] (Elems (decide (0 < k)) (fun a b _ => once op [val op a, val op b] ((val op a).fmin (val op b))))) ∧
    (∀ op, op = 0x15 + 16 * k → MashRuns (.fmax p) p [op] (Elems (decide (0 < k)) (fun a b _ => once op [val op a, val op b] ((val op a).fmax (val op b))))) ∧
    (∀ op, op = 0x16 + 16 * k → MashRuns (.fabs p) p [op] (Elems (decide (0 < k)) (fun a _ _ => once op [val op a] (val op a).abs))) ∧
    (∀ op, op = 0x17 + 16 * k → MashRuns (.fneg p) p [op] (Elems (decide (0 < k)) (fun a _ _ => once op [val op a] (val op a).neg))) ∧
    MashRuns (.fdiv p) p [0x18] (Elems false (fun a b _ =>
      let r := once 0x18 [val 0x18 a, val 0x18 b] ((val 0x18 a).div (val 0x18 b))
      (r.1, { r.2 with inv := (val 0x18 a).isZero && (val 0x18 b).isZero, dz := (val 0x18 a).isFin && !(val 0x18 a).isZero && (val 0x18 b).isZero }))) ∧
    MashRuns (.fsqrt p) p [0x19] (Elems false (fun a _ _ => once 0x19 [val 0x19 a] (val 0x19 a).sqrt)) ∧
    MashRuns (.fexp2 p) p [0x1A] (Elems false (fun a _ _ => once 0x1A [val 0x1A a] (val 0x1A a).exp2)) ∧
    MashRuns (.flog2 p) p [0x1B] (Elems false (fun a _ _ =>
      let r := once 0x1B [val 0x1B a] (val 0x1B a).log2
      (r.1, { r.2 with dz := (val 0x1B a).isZero }))) ∧
    (∀ op t g, (∀ a b, g a b = ((val op a).isNan || (val op b).isNan)) →
      (op = 0x1C + 16 * k → (∀ a b, t a b = (val op a).eqv (val op b)) → MashRuns (.fcmpeq p) p [op] (Compares (decide (0 < k)) t g)) ∧
      (op = 0x1D + 16 * k → (∀ a b, t a b = (val op a).lt (val op b)) → MashRuns (.fcmplt p) p [op] (Compares (decide (0 < k)) t g)) ∧
      (op = 0x1E + 16 * k → (∀ a b, t a b = ((val op a).lt (val op b) || (val op a).eqv (val op b))) → MashRuns (.fcmple p) p [op] (Compares (decide (0 < k)) t g)) ∧
      (op = 0x1F + 16 * k → (∀ a b, t a b = g a b) → MashRuns (.fcmpun p) p [op] (Compares (decide (0 < k)) t g)))

/-- Integer, move, conversion and mask instructions (Table 03.3). The untyped VMOV, FSEL and VBCS outside a loop work on 32-bit lanes
(DESIGN CHOICE, log 85), and an integer compare clears the mask's bits 128 to 255 (DESIGN CHOICE, log 86). -/
def Obligations.MashIntegerMoveAndMaskInstructions : Prop :=
  ∀ p : Fin 64,
    MashRuns (.iadd p) p [0x40] (Elems false (fun a b _ => satOf (natSigned 32 a + natSigned 32 b))) ∧
    MashRuns (.isub p) p [0x41] (Elems false (fun a b _ => satOf (natSigned 32 a - natSigned 32 b))) ∧
    MashRuns (.imul p) p [0x42] (Elems false (fun a b _ => satOf (natSigned 32 a * natSigned 32 b))) ∧
    MashRuns (.and p) p [0x43] (Elems false (fun a b _ => (a &&& b, {}))) ∧
    MashRuns (.or p) p [0x44] (Elems false (fun a b _ => (a ||| b, {}))) ∧
    MashRuns (.xor p) p [0x45] (Elems false (fun a b _ => (a ^^^ b, {}))) ∧
    MashRuns (.shl p) p [0x46] (Elems false (fun a b _ => (a * 2 ^ (b % 32), {}))) ∧
    MashRuns (.shra p) p [0x47] (Elems false (fun a b _ => (intBits 32 (natSigned 32 a / (2 ^ (b % 32) : Int)), {}))) ∧
    MashRuns (.shrl p) p [0x48] (Elems false (fun a b _ => (a / 2 ^ (b % 32), {}))) ∧
    MashRuns (.imin p) p [0x49] (Elems false (fun a b _ => (intBits 32 (min (natSigned 32 a) (natSigned 32 b)), {}))) ∧
    MashRuns (.imax p) p [0x4A] (Elems false (fun a b _ => (intBits 32 (max (natSigned 32 a) (natSigned 32 b)), {}))) ∧
    MashRuns (.icmpeq p) p [0x4C] (Compares false (fun a b => decide (a = b)) (fun _ _ => false)) ∧
    MashRuns (.icmplt p) p [0x4D] (Compares false (fun a b => decide (natSigned 32 a < natSigned 32 b)) (fun _ _ => false)) ∧
    MashRuns (.vmov p) p [0x50] (Elems false (fun a _ _ => (a, {}))) ∧
    MashRuns (.cvtF2i p) p [0x5A] (Elems false (fun a _ _ => convInt 32 (lay32.decode a))) ∧
    MashRuns (.cvtI2f p) p [0x5B] (Elems false (fun a _ _ => lay32.conv (XVal.ofInt false (natSigned 32 a) 0))) ∧
    MashRuns (.fsel p) p [0x51] (fun q w r => r.s = q.s ∧ r.m = q.m ∧ Raised q r [] ∧ (∀ j, j ≠ mVd w → r.vreg j = q.vreg j) ∧
      ∀ e, e < 128 → el false r (mVd w) e = if active q w e then el false q (mVa w) e else el false q (mVb w) e) ∧
    MashRuns (.vbcs p) p [0x52] (fun q w r => r.s = q.s ∧ r.m = q.m ∧ Raised q r [] ∧ (∀ j, j ≠ mVd w → r.vreg j = q.vreg j) ∧
      ∀ e, e < 128 → el false r (mVd w) e = if active q w e then (q.s.get 0 (mVa w % 16)).toNat else el false q (mVd w) e) ∧
    MashRuns (.vscal p) p [0x53] (fun q w r => r.v = q.v ∧ r.m = q.m ∧ Raised q r [] ∧ (∀ j, j ≠ mVd w % 16 → r.s.get 0 j = q.s.get 0 j) ∧
      (r.s.get 0 (mVd w % 16)).toNat = if active q w 0 then el false q (mVa w) 0 else (q.s.get 0 (mVd w % 16)).toNat) ∧
    (∀ k, k < 2 → MashRuns (if k = 0 then .cvtF2b p else .cvtF2h p) p [0x54 + k] (fun q w r => r.s = q.s ∧ r.m = q.m ∧
      (∀ j, j ≠ mVd w → r.vreg j = q.vreg j) ∧ ∃ g : Nat → Nat × NFlags,
        (∀ e, g e = (if k = 0 then Fmt.bf16 else Fmt.fp16).encode (lay32.decode (if e < 128 then el false q (mVa w) e else el false q (mVb w) (e - 128)))) ∧
        (∀ e, e < 256 → el true r (mVd w) e = if active q w e then (g e).1 % 65536 else el true q (mVd w) e) ∧
        Raised q r ((actives true q w).map (fun e => (g e).2)))) ∧
    (∀ k, k < 4 → MashRuns (if k < 2 then .cvtB2f p else .cvtH2f p) p [0x56 + k] (fun q w r => r.s = q.s ∧ r.m = q.m ∧
      (∀ j, j ≠ mVd w → r.vreg j = q.vreg j) ∧ ∃ g : Nat → Nat × NFlags,
        (∀ e, g e = lay32.conv ((if k < 2 then Fmt.bf16 else Fmt.fp16).decode (el true q (mVa w) (e + 128 * (k % 2))))) ∧
        (∀ e, e < 128 → el false r (mVd w) e = if active q w e then (g e).1 % 2 ^ 32 else el false q (mVd w) e) ∧
        Raised q r ((actives false q w).map (fun e => (g e).2)))) ∧
    MashRuns (.iota p) p [0x5C] (fun q w r => r.s = q.s ∧ r.m = q.m ∧ Raised q r [] ∧ (∀ j, j ≠ mVd w → r.vreg j = q.vreg j) ∧
      ∀ e, e < 128 → el false r (mVd w) e = if active q w e then e else el false q (mVd w) e) ∧
    MashRuns (.mand p) p [0x70] (Masks (fun a b => a && b)) ∧ MashRuns (.mor p) p [0x71] (Masks (fun a b => a || b)) ∧
    MashRuns (.mnot p) p [0x72] (Masks (fun a _ => !a)) ∧ MashRuns (.mset p) p [0x73] (Masks (fun _ _ => true)) ∧
    MashRuns (.mclr p) p [0x74] (Masks (fun _ _ => false)) ∧
    MashRuns (.mfclr p) p [0x80] (fun q _ r => r.mflags = 0 ∧ r.v = q.v ∧ r.s = q.s ∧ r.m = q.m ∧ r.unreg = q.unreg) ∧
    MashRuns (.nop p) p [0x00] (fun q _ r => r.mflags = q.mflags ∧ r.v = q.v ∧ r.s = q.s ∧ r.m = q.m ∧ r.unreg = q.unreg) ∧
    (∀ s, (s.plot p).mashQ = [] → ∀ i ∈ ([.nop p, .fadd p, .ffma p, .fdiv p, .fcmpeq p, .iadd p, .vmov p, .fsel p, .vscal p, .cvtF2b p, .iota p,
      .rsum p, .rsuma p, .rmax p, .irsuma p, .mand p, .mset p, .mfclr p, .loopDescriptor p, .rootDescriptor p] : List Instr), exec i s = .next s)

namespace Sys2Proof.Obl

/-- An FP32 reduction over the values xs with exact result x. -/
def Reduces (xs : List XVal) (x : XVal) : Plot → Nat → Plot → Prop := Lane0 (once 0x10 xs x).1 (once 0x10 xs x).2

end Sys2Proof.Obl

/-- Reductions (R60). -/
def Obligations.MashReductionsWriteLaneZero : Prop :=
  ∀ p : Fin 64,
    MashRuns (.rsum p) p [0x60] (fun q w r => ∀ xs, xs = (lanesIn q w).map lay32.decode → Reduces xs (exactSum xs) q w r) ∧
    MashRuns (.rsuma p) p [0x61] (fun q w r => ∀ xs, xs = (el false q (mVd w) 0 :: lanesIn q w).map lay32.decode → Reduces xs (exactSum xs) q w r) ∧
    MashRuns (.rmax p) p [0x62] (fun q w r => ∀ xs a, xs = (lanesIn q w).map lay32.decode → a = lay32.decode (el false q (mVd w) 0) →
      Reduces (a :: xs) (xs.foldl XVal.fmax a) q w r) ∧
    MashRuns (.rmin p) p [0x63] (fun q w r => ∀ xs a, xs = (lanesIn q w).map lay32.decode → a = lay32.decode (el false q (mVd w) 0) →
      Reduces (a :: xs) (xs.foldl XVal.fmin a) q w r) ∧
    MashRuns (.ramax p) p [0x64] (fun q w r => ∀ xs a, xs = ((lanesIn q w).map lay32.decode).map XVal.abs → a = lay32.decode (el false q (mVd w) 0) →
      Reduces (a :: xs) (xs.foldl XVal.fmax a) q w r) ∧
    MashRuns (.irsuma p) p [0x65] (fun q w r => ∀ v, v = satOf (natSigned 32 (el false q (mVd w) 0) + ((lanesIn q w).map (natSigned 32)).sum) →
      Lane0 v.1 v.2 q w r)

/-- LOOP_DESCRIPTOR and ROOT_DESCRIPTOR (R66, R74). An entry out of sequence takes no wait and posts nothing (DEDUCED, log 64). -/
def Obligations.MashLoopsAndRootsStoreTheirResults : Prop :=
  (∀ (p : Fin 64) (off n : Nat) (rest : List MashItem) (s : State) (d : LoopDesc) (a b : Tensor5) (w : Nat),
    (s.plot p).mashQ = .loop off :: rest → d = loopAt s p off → d.ins = [a, b] → d.outEn = true → d.outMode = 0 → d.regt = 0 →
    d.body = [w] → mOp w = 0x10 → mVd w = 3 → mVa w = 0 → mVb w = 1 → mMsk w = 0 → d.waitEn = false → d.postEn = false →
    (∀ x ∈ [a, b, d.out], x.fmt = .fp32 ∧ x.scale = 0 ∧ x.e0 = n ∧ x.e1 = 1 ∧ x.e2 = 1 ∧ x.e3 = 1 ∧ x.e4 = 1) → 2 ≤ n → n ≤ 128 →
    (s.plot p).replay = none → (s.plot p).passOne = false → storeBase p ≤ d.out.base → d.out.base + 4 * n ≤ storeBase p + 0x300000 →
    Tab.wf 0 s.mem.cells = true → Tab.wf [] (s.plot p).v = true → Tab.wf {} s.plots = true →
    ∃ t, exec (.loopDescriptor p) s = .next t ∧ (t.plot p).mashQ = rest ∧
      (∀ e, e < n → rawNat t (d.out.base + 4 * e) 4 = (Fmt.encode .fp32 (lay32.decode (lay32.arith
        ((lay32.decode (rawNat s (a.base + 4 * e) 4)).add (lay32.decode (rawNat s (b.base + 4 * e) 4)))).1)).1) ∧
      (∀ x, x < d.out.base ∨ d.out.base + 4 * n ≤ x → rawByte t x = rawByte s x) ∧ (∀ j, j ≠ p.val → t.plot j = s.plot j) ∧ t.hk = s.hk) ∧
  (∀ (p : Fin 64) (off : Nat) (rest : List MashItem) (s : State), (s.plot p).mashQ = .loop off :: rest →
    (loopAt s p off).outEn = false → (loopAt s p off).waitEn = false → (s.plot p).passOne = false → Tab.wf {} s.plots = true →
    ∃ t, exec (.loopDescriptor p) s = .next t ∧ t.mem = s.mem ∧ (t.plot p).mashQ = rest) ∧
  (∀ (p : Fin 64) (off : Nat) (rest : List MashItem) (s : State) (d : LoopDesc), (s.plot p).mashQ = .loop off :: rest → d = loopAt s p off →
    d.waitEn = false → (s.plot p).passOne = false → (s.plot p).replay = none → Tab.wf {} s.plots = true →
    ∃ t, exec (.loopDescriptor p) s = .next t ∧ (t.plot p).mashQ = rest ∧ (∀ j, j ≠ p.val → t.plot j = s.plot j) ∧ t.grn = s.grn ∧ t.fab = s.fab ∧
      (d.outEn = false ∨ ((s.plot p).slot d.out.scale).mode ≠ 2 → t = endLoop p d (runLoop p d false s)) ∧
      (d.outEn = true → ((s.plot p).slot d.out.scale).mode = 2 → ∃ u, u = (firstPass p d s).1 ∧ u.mem = s.mem ∧
        t = secondPass p d (setSlotK p d.out.scale (firstPass p d s).2 false d.tag u))) ∧
  (∀ (p : Fin 64) (off : Nat) (rest : List MashItem) (s : State) (x : Sem),
    ((s.plot p).mashQ = .loop off :: rest → (s.plot p).passOne = false → (s.plot p).replay = none → (loopAt s p off).waitEn = true →
      x = (s.plot p).sems.get {} (loopAt s p off).semWait → x.assigned = true → x.value = 0 → exec (.loopDescriptor p) s = .next s) ∧
    ((s.plot p).mashQ = .root off :: rest → rootMismatch s p (rootAt s p off) = false → (rootAt s p off).waitEn = true →
      x = (s.plot p).sems.get {} (rootAt s p off).semWait → x.assigned = true → x.value = 0 → exec (.rootDescriptor p) s = .next s)) ∧
  (∀ (p : Fin 64) (off : Nat) (rest : List MashItem) (s : State) (d : RootDesc), (s.plot p).mashQ = .root off :: rest → d = rootAt s p off →
    d.first ≠ 0 → d.first ≠ rawNat s (storeBase p + d.stat) 4 % 1024 + 1 →
    exec (.rootDescriptor p) s = .next (s.onPlot p (fun q => { q with mflags := q.mflags ||| 32, mashQ := rest }))) ∧
  (∀ (p : Fin 64) (off : Nat) (rest : List MashItem) (s : State) (d : RootDesc) (top : Nat), (s.plot p).mashQ = .root off :: rest → d = rootAt s p off →
    d.waitEn = false → (d.first = 0 ∨ d.first = rawNat s (storeBase p + d.stat) 4 % 1024 + 1) →
    top = min d.last (1 + d.iter * (d.p + 2)) → top < 1024 → storeBase p + d.stat + 4 ≤ 0xC010000000 → Tab.wf 0 s.mem.cells = true → Tab.wf {} s.plots = true →
    ∃ t, exec (.rootDescriptor p) s = .next t ∧ (t.plot p).mashQ = rest ∧ (t.plot p).mflags % 32 = (s.plot p).mflags % 32 ∧
      (t.plot p).v = (s.plot p).v ∧ rawNat t (storeBase p + d.stat) 4 % 1024 = (if d.first ≤ top then top else d.first - 1) ∧
      (∀ x, (∀ o ∈ [d.x, d.m, d.t, d.w], x < storeBase p + o ∨ storeBase p + o + 4 * d.n * d.n ≤ x) →
        (top < 1 + d.iter * (d.p + 2) ∨ x < storeBase p + d.out ∨ storeBase p + d.out + 4 * d.n * d.n ≤ x) →
        (x < storeBase p + d.stat ∨ storeBase p + d.stat + 4 ≤ x) → rawByte t x = rawByte s x))

/-! ### Memory accesses and tun adders (06) -/

namespace Sys2Proof.Obl

/-- Two states that differ at most in which lines the Malt cache holds and in the Kiln codec's traffic counts. -/
def SameButCache (s t : State) : Prop := t = { s with mem := { s.mem with malt := t.mem.malt, kiln := t.mem.kiln } }

/-- The tun region n of kind INT32 or WINDOW holds the aligned operand at a, in HBM, with nothing refused or poisoned there. -/
def TunAt (s : State) (req a n : Nat) (int32 : Bool) (r : TunRegion) : Prop :=
  tunRegionOf s a = some (n, r) ∧ r.int32 = int32 ∧ a % (if int32 then 4 else 16) = 0 ∧ a < 0x8000000000 ∧
    refuses s req a true = false ∧ s.mem.hbmPoison.get false (a / 128) = false

end Sys2Proof.Obl

/-- Hints (R128). -/
def Obligations.HintsNeverChangeValues : Prop :=
  ∀ (req : Nat) (a : BitVec 44) (h h' : Hint) (wr : Bool) (n : Nat) (bs : List Byte) (s s' : State), SameButCache s s' →
    ∃ t t', exec (.maltAccess req a h wr n bs .clean) s = .next t ∧ exec (.maltAccess req a h' wr n bs .clean) s' = .next t' ∧
      SameButCache t t' ∧ t'.ret = t.ret ∧ t'.mem.cells = t.mem.cells

/-- MALT_ACCESS, COMMIT_GROUP, FENCE and the rows of the arrays. -/
def Obligations.MemoryAccessesReadAndStoreTheirLine : Prop :=
  (∀ (req : Nat) (a : BitVec 44) (h : Hint) (n : Nat) (s : State), refuses s req a.toNat false = false → locate a.toNat ≠ .aperture →
    ∃ t, exec (.maltAccess req a h false n [] .clean) s = .next t ∧ t.ret.data = rawBytes s a.toNat (min n (128 - a.toNat % 128)) ∧
      t.ret.status = 0 ∧ t.mem.cells = s.mem.cells ∧ t.grn = s.grn ∧ t.sch = s.sch) ∧
  (∀ (req : Nat) (a : BitVec 44) (h : Hint) (bs : List Byte) (s : State), refuses s req a.toNat true = false → a.toNat < 0x20000000000 →
    (∀ o, locate a.toNat ≠ .dir o) → a.toNat % 128 + bs.length ≤ 128 → Tab.wf 0 s.mem.cells = true →
    ∃ t, exec (.maltAccess req a h true 0 bs .clean) s = .next t ∧ rawBytes t a.toNat bs.length = bs ∧
      (∀ x, x < a.toNat ∨ a.toNat + bs.length ≤ x → rawByte t x = rawByte s x) ∧ t.plots = s.plots ∧ t.hk = s.hk ∧ t.grn = s.grn) ∧
  (∀ (req : Nat) (a : BitVec 44) (h : Hint) (wr : Bool) (n : Nat) (bs : List Byte) (s : State), refuses s req a.toNat wr = true → 0 < n → bs ≠ [] →
    ∃ t, exec (.maltAccess req a h wr n bs .clean) s = .next t ∧ stickyBit t 4 2 = true ∧ t.mem = s.mem ∧
      (wr = false → t.ret.data = zeros (min n (128 - a.toNat % 128)))) ∧
  (∀ (req : Nat) (ls : List (BitVec 44 × List Byte)) (f : Nat) (s : State), 1 ≤ ls.length → ls.length ≤ 8 → f < 0x800000 →
    (∀ l ∈ ls, l.1.toNat / 0x10000 = f ∧ l.1.toNat % 128 = 0 ∧ l.2.length = 128) → (ls.map (fun l => l.1)).Nodup →
    s.mem.withdrawn.get false f = false → Tab.wf 0 s.mem.cells = true →
    ∃ t, exec (.commitGroup req ls) s = .next t ∧ (∀ l ∈ ls, rawBytes t l.1.toNat 128 = l.2) ∧
      (∀ x, (∀ l ∈ ls, x < l.1.toNat ∨ l.1.toNat + 128 ≤ x) → rawByte t x = rawByte s x) ∧ t.plots = s.plots ∧ t.hk = s.hk) ∧
  (∀ (req : Nat) (ls : List (BitVec 44 × List Byte)) (s : State), (ls = [] ∨ 8 < ls.length) → exec (.commitGroup req ls) s = .next s) ∧
  (∀ (req : Nat) (s : State), ∃ t, exec (.fence req) s = .next t ∧ t.mem = { s.mem with fences := t.mem.fences } ∧
    (Tab.wf 0 s.mem.fences = true → t.mem.fences.get 0 req = sat48 (s.mem.fences.get 0 req + 1)) ∧ t.plots = s.plots ∧ t.hk = s.hk) ∧
  (∀ (d : Fin 4) (s : State), ∃ t, exec (.linkRetransmit d) s = .next t ∧ stickyBit t 3 4 = true ∧ t.mem.cells = s.mem.cells ∧ t.plots = s.plots) ∧
  (∀ (d : Fin 4) (s : State), ∃ t, exec (.cellarDieLost d) s = .next t ∧ stickyBit t 3 9 = true ∧ t.mem.dieLost.get false d = true ∧
    (∀ a, locate a = .cellar → (channelOf s a - 128) / 64 = d.val → poisonedAt t a = true) ∧ t.mem.cells = s.mem.cells) ∧
  (∀ (c : Fin 384) (found : List (BitVec 44 × MemErr)) (s : State), ∃ t, exec (.scrub c found) s = .next t ∧ t.mem.cells = s.mem.cells ∧
    t.mem.scrubs.get 0 c = s.mem.scrubs.get 0 c + 1 ∧ t.plots = s.plots ∧ t.sch = s.sch ∧
    (∀ x ∈ found, x.2 = .uncorrectable → channelOf s x.1.toNat = c.val → stickyBit t (tierGroup x.1.toNat) 1 = true) ∧
    (∀ kv ∈ s.mem.hbmPoison, channelOf s (kv.1 * 128) = c.val → kv.1 * 128 < cellarBase → stickyBit t 2 2 = true) ∧
    (c.val < 128 → found = [] → (∀ kv ∈ s.mem.hbmPoison, channelOf s (kv.1 * 128) ≠ c.val) → (∀ kv ∈ s.mem.kilnPoison, channelOf s (cellarBase + kv.1 * 512) ≠ c.val) →
      t = { s with mem := { s.mem with scrubs := s.mem.scrubs.modify 0 c (· + 1) } })) ∧
  (∀ (c : Fin 384) (s : State), exec (.driftTracking c) s = .next { s with mem := { s.mem with drift := s.mem.drift.modify 0 c (· + 1) } }) ∧
  (∀ (k : Fin 8) (hot : Bool) (s : State), ∃ t, exec (.hotRefresh k hot) s = .next t ∧ t.mem = { s.mem with hotRefresh := s.mem.hotRefresh.set false k hot } ∧
    (hot = true → stickyBit t 2 4 = true) ∧ (hot = false → t.hk = s.hk))

/-- TADD, TREAD, TREADCLR, TCLR, IADD, IREADCLR (R131 to R133). -/
def Obligations.TunOperationsAddExactly : Prop :=
  (∀ (req n : Nat) (a : BitVec 44) (s : State) (r : TunRegion) (fmt : BitVec 4) (bits : Word) (neg : Bool) (m : Nat) (e : Int),
    TunAt s req a.toNat n false r → tunValue fmt.toNat bits.toNat = some (.fin neg m e) → Tab.wf 0 s.mem.cells = true →
    ∃ t, exec (.tadd req a fmt bits) s = .next t ∧
      windowAt t a.toNat = (if windowAt s a.toNat = nanMark then nanMark
        else max (-winMax) (min winMax (windowAt s a.toNat + rneInt neg m (e + 95 - r.x)))) ∧
      (∀ x, x < a.toNat ∨ a.toNat + 16 ≤ x → rawByte t x = rawByte s x) ∧ t.plots = s.plots) ∧
  (∀ (req n : Nat) (a : BitVec 44) (s : State) (r : TunRegion), TunAt s req a.toNat n false r → Tab.wf 0 s.mem.cells = true →
    (∃ t, exec (.tread req a) s = .next t ∧ t.ret.data = leBytes 4 (tunRead r.x (windowAt s a.toNat)).1.toNat ∧ t.mem.cells = s.mem.cells ∧ t.ret.poison = false) ∧
    (∃ t, exec (.treadclr req a) s = .next t ∧ t.ret.data = leBytes 4 (tunRead r.x (windowAt s a.toNat)).1.toNat ∧ windowAt t a.toNat = 0 ∧
      ∀ x, x < a.toNat ∨ a.toNat + 16 ≤ x → rawByte t x = rawByte s x) ∧
    (∃ t, exec (.tclr req a) s = .next t ∧ windowAt t a.toNat = 0 ∧ (∀ x, x < a.toNat ∨ a.toNat + 16 ≤ x → rawByte t x = rawByte s x) ∧ t.ret = s.ret)) ∧
  (∀ (req n : Nat) (a : BitVec 44) (v : Word) (s : State) (r : TunRegion), TunAt s req a.toNat n true r → Tab.wf 0 s.mem.cells = true →
    (∃ t, exec (.tunIadd req a v) s = .next t ∧
      natSigned 32 (rawNat t a.toNat 4) = max (-2147483648) (min 2147483647 (natSigned 32 (rawNat s a.toNat 4) + v.toInt)) ∧
      ∀ x, x < a.toNat ∨ a.toNat + 4 ≤ x → rawByte t x = rawByte s x) ∧
    (∃ t, exec (.ireadclr req a) s = .next t ∧ t.ret.data = rawBytes s a.toNat 4 ∧ rawNat t a.toNat 4 = 0 ∧
      ∀ x, x < a.toNat ∨ a.toNat + 4 ≤ x → rawByte t x = rawByte s x)) ∧
  (∀ (req : Nat) (a : BitVec 44) (fmt : BitVec 4) (v : Word) (s : State), tunRegionOf s a.toNat = none → refuses s req a.toNat true = false →
    ∀ i ∈ ([.tadd req a fmt v, .tread req a, .treadclr req a, .tclr req a, .tunIadd req a v, .ireadclr req a] : List Instr),
      ∃ t, exec i s = .next t ∧ stickyBit t (tierGroup a.toNat) 6 = true ∧ t.mem = s.mem ∧ t.plots = s.plots) ∧
  (∀ (x w : Int) (u v : XVal), (tunStep x w u).2.1 = false → (tunStep x w v).2.1 = false →
    (tunStep x (tunStep x w u).1 v).2.1 = false → (tunStep x (tunStep x w v).1 u).2.1 = false →
    (tunStep x (tunStep x w u).1 v).1 = (tunStep x (tunStep x w v).1 u).1)

/-! ### Embedding tables: look-up and gradients (07) -/

/-- RESOLUTION_REQUEST, SECTOR_FILL, POOL, GRADIENT_RECORD. -/
def Obligations.LookupsAndGradientsComplete : Prop :=
  (∀ (table : BitVec 16) (rank : BitVec 15) (mb : Nat) (row : BitVec 48) (answer : Option (BitVec 24)) (s : State) (tb0 tb : Table) (e : TableStep)
      (asked again : Bool), grnIssues s = true →
    s.table table.toNat = some tb0 → tb = nextTable s table.toNat tb0 → e = stepEntry s table.toNat (s.sch.step + 1) → e.step = s.sch.step + 1 →
    asked = (rank.toNat == s.rank && s.grn.asks.any (fun a => a.1 == table.toNat && a.2.2.2 == row.toNat)) →
    again = s.grn.served.any (fun x => x.1 == table.toNat && x.2.1 == rank.toNat && x.2.2.2 == row.toNat) →
    (tb.owns row.toNat = false → asked = false → exec (.resolutionRequest table rank mb row answer) s = .next s) ∧
    (∀ h, tb.owns row.toNat = false → asked = true → answer = some h →
      exec (.resolutionRequest table rank mb row answer) s = .next { s with grn := { s.grn with
        handlesNext := s.grn.handlesNext.set 0 (2 ^ 48 * table.toNat + row.toNat) (h.toNat + 1) } }) ∧
    (tb.owns row.toNat = false → asked = true → answer = none →
      ∃ t, exec (.resolutionRequest table rank mb row answer) s = .next t ∧
        t.grn.counts.get 0 (32 * table.toNat + 11) = sat48 (s.grn.counts.get 0 (32 * table.toNat + 11) + 1) ∧ stickyBit t 10 5 = true ∧
        (∀ smp f d bag, s.body.features[f]? = some d → d.table = table.toNat →
          (smp * s.body.features.length + f, bag) ∈ t.grn.bagsNext → BagPos.row row.toNat ∉ bag) ∧ t.mem = s.mem ∧ t.plots = s.plots ∧ t.sch = s.sch) ∧
    (tb.owns row.toNat = true → e.slotOf.get 0 row.toNat = 0 → e.used < tb.accRows →
      ∃ t, exec (.resolutionRequest table rank mb row answer) s = .next t ∧ t.ret.status = 0 ∧ t.ret.data = leBytes 4 e.used ∧
        (stepEntry t table.toNat (s.sch.step + 1)).used = e.used + 1 ∧ (stepEntry t table.toNat (s.sch.step + 1)).slotOf.get 0 row.toNat = e.used + 1 ∧
        t.grn.served = s.grn.served ++ [(table.toNat, rank.toNat, mb, row.toNat)] ∧ t.plots = s.plots ∧ t.sch = s.sch) ∧
    (tb.owns row.toNat = true → e.slotOf.get 0 row.toNat = 0 → tb.accRows ≤ e.used →
      ∃ t, exec (.resolutionRequest table rank mb row answer) s = .next t ∧ t.ret.status = 3 ∧ stepEntry t table.toNat (s.sch.step + 1) = e ∧ t.mem = s.mem ∧
        (rank.toNat = s.rank → stickyBit t 10 5 = true) ∧ t.plots = s.plots ∧ t.sch = s.sch) ∧
    (∀ k, tb.owns row.toNat = true → e.slotOf.get 0 row.toNat = k + 1 →
      ∃ t, exec (.resolutionRequest table rank mb row answer) s = .next t ∧ t.ret.status = 0 ∧ t.ret.data = leBytes 4 k ∧
        stepEntry t table.toNat (s.sch.step + 1) = e ∧ (again = true → t.mem = s.mem) ∧ t.plots = s.plots ∧ t.sch = s.sch)) ∧
  (∀ (en : BitVec 22) (x : Fin 32) (err : MemErr) (s : State) (tb : Table), (dirEntry s en.toNat).state ≠ 0 → s.table (dirEntry s en.toNat).table = some tb →
    (natBit x (dirEntry s en.toNat).valid = true → exec (.sectorFill en x err) s = .next s) ∧
    (natBit x (dirEntry s en.toNat).valid = false → err = .clean → s.mem.hbmPoison = [] → s.mem.kilnPoison = [] → s.mem.dieLost = [] →
      wayAddr en.toNat + 0x10000 ≤ 0x8000000000 → Tab.wf {} s.grn.dir = true → Tab.wf 0 s.mem.cells = true →
      ∃ t, exec (.sectorFill en x err) s = .next t ∧ natBit x (dirEntry t en.toNat).valid = true ∧ t.plots = s.plots ∧ t.sch = s.sch ∧
        ∀ a, a < wayAddr en.toNat + 2048 * x ∨ wayAddr en.toNat + 2048 * x + 2048 ≤ a → locate a = .hbm → rawByte t a = rawByte s a)) ∧
  (∀ (smp f : Nat) (s : State) (d : FeatureDef) (tb : Table), issues s = true → s.body.features[f]? = some d → s.table d.table = some tb →
    s.grn.bags.get [] (smp * s.body.features.length + f) = [] → d.outFmt = 0 → 0 < tb.dim → d.plot < 64 →
    d.off + smp % max 1 s.body.micro * d.stride + 4 * tb.dim ≤ 0x300000 → Tab.wf 0 s.mem.cells = true →
    ∃ t, exec (.pool smp f []) s = .next t ∧
      rawBytes t (storeBase d.plot + d.off + smp % max 1 s.body.micro * d.stride) (4 * tb.dim) = zeros (4 * tb.dim) ∧
      (∀ a, a < storeBase d.plot + d.off + smp % max 1 s.body.micro * d.stride ∨
        storeBase d.plot + d.off + smp % max 1 s.body.micro * d.stride + 4 * tb.dim ≤ a → rawByte t a = rawByte s a) ∧ t.hk = s.hk ∧ t.plots = s.plots) ∧
  (∀ (smp f r : Nat) (bs : List Byte) (s : State) (d : FeatureDef) (tb : Table) (a : Nat), issues s = true → s.body.features[f]? = some d →
    s.table d.table = some tb → s.grn.bags.get [] (smp * s.body.features.length + f) = [.row r] → tb.owns r = false → d.outFmt = 0 → d.mean = false →
    d.plot < 64 → a = d.off + smp % max 1 s.body.micro * d.stride → a + 4 * tb.dim ≤ 0x300000 → Tab.wf 0 s.mem.cells = true →
    ∃ t, exec (.pool smp f [.data bs]) s = .next t ∧
      rawBytes t (storeBase d.plot + a) (4 * tb.dim) = (Fmt.fp32.encodeMany ((tb.fmt.decodeMany tb.dim (padTo tb.wBytes bs)).map (fun v => f32 (toF32 v)))).1 ∧
      (∀ x, x < storeBase d.plot + a ∨ storeBase d.plot + a + 4 * tb.dim ≤ x → rawByte t x = rawByte s x) ∧ t.hk = s.hk ∧ t.plots = s.plots ∧ t.grn = s.grn) ∧
  (∀ (table : BitVec 16) (k : BitVec 8) (bs : List Byte) (h : Nat) (s : State) (tb : Table) (e : TableStep) (xs : List XVal) (n : Nat) (r : TunRegion),
    issues s = true → s.table table.toNat = some tb → e = stepEntry s table.toNat s.sch.step → e.step = s.sch.step → h < e.used → e.used ≤ 2 ^ 24 →
    xs = (Fmt.mb8.decodeMany tb.dim (padTo (tb.dim / 32 * 33) bs)).map (XVal.scale (-k.toInt)) →
    natBit 49 (rawNat s (slotEntry s tb s.sch.step h) 16) = false → natBit 48 (rawNat s (slotEntry s tb s.sch.step h) 16) = true →
    accWindow s tb s.sch.step h 0 % 16 = 0 → accWindow s tb s.sch.step h tb.dim ≤ 0x8000000000 → s.mem.withdrawn = [] →
    (∀ j, j < tb.dim → tunRegionOf s (accWindow s tb s.sch.step h j) = some (n, r)) → r.int32 = false → Tab.wf 0 s.mem.cells = true →
    (∀ m, m ≠ n → (s.mem.tun.get {} m).en = false) →
    ∃ t, exec (.gradientRecord table k bs [h]) s = .next t ∧
      (∀ j x, xs[j]? = some x → windowAt t (accWindow s tb s.sch.step h j) = (tunStep r.x (windowAt s (accWindow s tb s.sch.step h j)) x).1) ∧
      (∀ a, a < accWindow s tb s.sch.step h 0 ∨ accWindow s tb s.sch.step h tb.dim ≤ a → rawByte t a = rawByte s a) ∧ t.plots = s.plots) ∧
  (∀ (table : BitVec 16) (k : BitVec 8) (bs : List Byte) (h : Nat) (s : State), (stepEntry s table.toNat s.sch.step).used ≤ h → h < 2 ^ 24 →
    exec (.gradientRecord table k bs [h]) s = .next s) ∧
  (∀ (table : BitVec 16) (k : BitVec 8) (bs : List Byte) (hs : List Nat) (smp f : Nat) (rows : List RowIn) (s : State), issues s = false →
    exec (.gradientRecord table k bs hs) s = .next s ∧ exec (.pool smp f rows) s = .next s)

/-! ### The Lauter engine and the reductions (08, 11) -/

/-- DENSE_GROUP_UPDATE, EMBEDDING_ROW_UPDATE, DIST_ARRIVAL, REDUCED_BLOCK, CONTRIB_ARRIVAL, NORM_REDUCTION. -/
def Obligations.UpdatesAreAppliedOnce : Prop :=
  (∀ (tn : BitVec 16) (j : Nat) (s : State) (d : TensorDef) (rs : RuleSet) (x : Tensor) (b : GradBlock) (raw : List Word) (old : List Byte) (u : UnitVals) (o : Nat),
    tensorDef s tn.toNat = some d → ruleSetOf s d.ruleSet = some rs → x = s.tensor tn.toNat → d.owns j = true → lauterRuns s x.late = true →
    x.done.get false j = false → x.frozen = false → x.late = false → x.deferred.get false j = false → x.blocks.get none j = some b →
    b.sums.length = 32 → rs.rule ≠ 4 → rs.deferred = false → blockGrad rs d j b = .ok raw → o = 1 - x.bank → x.bank ≤ 1 →
    old = rawBytes s (denseAddr d x.bank j) 512 → recStep old < x.step → x.step < 2 ^ 32 → s.mem.hbmPoison = [] → s.mem.withdrawn = [] →
    denseAddr d 0 j + 512 ≤ 0x8000000000 → denseAddr d 1 j + 512 ≤ 0x8000000000 → denseAddr d x.bank j % 128 = 0 →
    (denseAddr d 0 j + 512 ≤ denseAddr d 1 j ∨ denseAddr d 1 j + 512 ≤ denseAddr d 0 j) → distStreams s tn.toNat = [] →
    (∀ k ∈ [0, 1], d.wc (1 - x.half) + (j + 1) * d.wcBytes ≤ denseAddr d k j ∨ denseAddr d k j + 512 ≤ d.wc (1 - x.half) + j * d.wcBytes) →
    u = ruleStep rs (fMul s.ltr.eta rs.mult) 32 (clipUnit rs raw).1 (clipUnit rs raw).1 (unitVals [(j, old)]) → u.finite = true →
    d.wc (1 - x.half) + (j + 1) * d.wcBytes ≤ 0x8000000000 → Tab.wf 0 s.mem.cells = true →
    ∃ t, exec (.denseGroupUpdate tn j) s = .next t ∧ (t.tensor tn.toNat).done.get false j = true ∧
      rawBytes t (denseAddr d o j) 512 =
        denseRecord x.step (nextCount (leAt old 4 4)) j tn.toNat (d.unpad j (u.w.take 32)) (u.m.take 32) (u.v.take 32) ∧
      rawBytes t (denseAddr d x.bank j) 512 = old ∧ (t.tensor tn.toNat).got.get false j = true) ∧
  (∀ (tn : BitVec 16) (j : Nat) (s : State) (d : TensorDef) (rs : RuleSet), tensorDef s tn.toNat = some d → ruleSetOf s d.ruleSet = some rs →
    d.owns j = true → lauterRuns s (s.tensor tn.toNat).late = true → (s.tensor tn.toNat).done.get false j = true →
    exec (.denseGroupUpdate tn j) s = .next (countLtr d.ruleSet 2 1 s)) ∧
  (∀ (tn : BitVec 16) (k : Nat) (s : State) (tb : Table) (e : TableStep) (p : Nat) (w : Nat), s.table tn.toNat = some tb → e = stepEntry s tn.toNat s.sch.step →
    e.step = s.sch.step → (stepEntry s tn.toNat (s.sch.step + 1)).step + 1 ≠ s.sch.step → lauterRuns s false = true → e.closed = false → k < e.used → e.present = some p →
    w = rawNat s (slotEntry s tb e.step k) 16 →
    (e.done.get false k = true → ∃ t, exec (.embeddingRowUpdate tn k) s = .next t ∧ t.mem = s.mem ∧ t.grn = s.grn) ∧
    (e.done.get false k = false → (∃ i, i < k ∧ e.done.get false i = false) → exec (.embeddingRowUpdate tn k) s = .next s) ∧
    (e.done.get false k = false → (∀ i, i < k → e.done.get false i = true) →
      (natBit 48 w = false →
        ∃ t, exec (.embeddingRowUpdate tn k) s = .next t ∧ t.mem = s.mem ∧ (stepEntry t tn.toNat s.sch.step).done.get false k = true) ∧
      (∀ (n : Nat) (rs : RuleSet) (r : State × List Word × Bool × Bool) (raw : List Word) (old bs : List Byte) (a : Nat),
        natBit 48 w = true → natBit 49 w = false → setOfTable s tn.toNat = some (n, rs) → 0 < p → a = natBits 107 64 w →
        r = takeWindows true (accWindow s tb e.step k 0) tb.dim s → r.2.2.1 = false → r.2.2.2 = false →
        raw = r.2.1.map (fun x => toF32 ((f32 x).div (XVal.ofInt false (avgDiv rs p s.bhdr.members) 0))) →
        old = rawBytes r.1 a tb.recLen → recStep old < e.step →
        rowUpdate tn.toNat (w % 2 ^ 48) e.step tb rs (fMul s.ltr.eta rs.mult) (clipUnit rs raw).1 old = some bs →
        a + tb.recLen ≤ 0x8000000000 → a + bs.length ≤ 0x8000000000 → s.mem.hbmPoison = [] → s.mem.withdrawn = [] → Tab.wf 0 s.mem.cells = true →
        ∃ t, exec (.embeddingRowUpdate tn k) s = .next t ∧ rawBytes t a bs.length = bs ∧
          (∀ y, y < a ∨ a + bs.length ≤ y → Tab.get 0 t.mem.cells y = Tab.get 0 r.1.mem.cells y) ∧
          (stepEntry t tn.toNat s.sch.step).done.get false k = true))) ∧
  (∀ (tn : BitVec 16) (o first n : Nat) (bs : List Byte) (s : State) (d : TensorDef) (a : Nat), tensorDef s tn.toNat = some d → d.owners.contains o = true →
    o ≠ s.rank → s.sch.skip = false → a = d.wc (1 - (s.tensor tn.toNat).half) + first * d.wcBytes → n = min (bs.length / d.wcBytes) (d.groups - first) →
    (∃ t, exec (.distArrival tn o first bs true) s = .next t ∧ (t.tensor tn.toNat).absent.get false o = true ∧ t.mem = s.mem) ∧
    (0 < n → a + n * d.wcBytes ≤ 0x8000000000 → s.mem.withdrawn = [] → Tab.wf 0 s.mem.cells = true →
      ∃ t, exec (.distArrival tn o first bs false) s = .next t ∧ rawBytes t a (n * d.wcBytes) = bs.take (n * d.wcBytes) ∧
        (∀ y, y < a ∨ a + n * d.wcBytes ≤ y → rawByte t y = rawByte s y) ∧
        (t.tensor tn.toNat).slices.get 0 o = (s.tensor tn.toNat).slices.get 0 o + n ∧ t.plots = s.plots)) ∧
  (∀ (g b : Nat) (bs : List Byte) (s : State) (r : ReductionDef) (tb : Table), reductionDef s g = some r → s.table r.target = some tb → r.replica = true →
    r.members.contains s.rank = true → b < r.blocks → s.sch.skip = false → parked s = false →
    (∃ t, exec (.reducedBlock g b bs true) s = .next t ∧ stickyBit t 7 11 = true ∧ t.mem = s.mem ∧ t.ltr = s.ltr) ∧
    (lauterRuns s false = false → paused s = false →
      exec (.reducedBlock g b bs false) s = .next (s.onLtr (fun l => { l with reduced := l.reduced.set [] (2 ^ 32 * g + b) (padTo 136 bs) }))) ∧
    (∀ (n : Nat) (rs : RuleSet) (a : Nat) (old rec : List Byte), lauterRuns s false = true → paused s = false → s.ltr.reduced = [] → b < 2 ^ 32 →
      tb.dim = 32 → setOfTable s r.target = some (n, rs) → s.ltr.repDone.get false (2 ^ 17 * r.target + (r.first + b)) = false → bs.length = 136 →
      leAt bs 0 2 ≠ 0 → natBit 0 (leAt bs 4 1) = false → a = repAddr s tb (r.first + b) → old = rawBytes s a tb.recLen → recStep old < s.sch.step →
      rowUpdate r.target (replicaRow tb (r.first + b)) s.sch.step tb rs (etaOf s rs s.sch.step) (clipUnit rs (wordsAt bs 8 32)).1 old = some rec →
      a + tb.recLen ≤ 0x8000000000 → a + rec.length ≤ 0x8000000000 → s.mem.hbmPoison = [] → s.mem.withdrawn = [] → Tab.wf 0 s.mem.cells = true →
      ∃ t, exec (.reducedBlock g b bs false) s = .next t ∧ rawBytes t a rec.length = rec ∧
        (∀ y, y < a ∨ a + rec.length ≤ y → rawByte t y = rawByte s y) ∧
        t.ltr.repDone.get false (2 ^ 17 * r.target + (r.first + b)) = true)) ∧
  (∀ (g rank : Nat) (bs : List Byte) (ab : List Nat) (s : State), s.ltr.taken.get false (65536 * g + rank) = true →
    exec (.contribArrival g rank bs ab) s = .next s) ∧
  (∀ (g rank : Nat) (bs : List Byte) (s : State) (r : ReductionDef) (x : Reduce), reductionDef s g = some r → r.owner = s.rank → r.members.contains rank = true →
    s.ltr.taken.get false (65536 * g + rank) = false → s.sch.skip = false → parked s = false → paused s = false → r.blocks = 1 →
    x = s.ltr.reduce.get {} (2 ^ 32 * g) →
    (rank ≠ s.rank → x.present + x.absent + 1 < r.members.length →
      (contribOk r rank bs = true → contribGone r [] 0 = false →
        ∃ t, exec (.contribArrival g rank bs []) s = .next t ∧ t.ltr.taken.get false (65536 * g + rank) = true ∧
          t.ltr.reduce.get {} (2 ^ 32 * g) = reduceAdd (some (contribVals r bs 0)) x ∧ t.mem = s.mem) ∧
      (contribOk r rank bs = false →
        ∃ t, exec (.contribArrival g rank bs []) s = .next t ∧ t.ltr.taken.get false (65536 * g + rank) = true ∧
          t.ltr.reduce.get {} (2 ^ 32 * g) = { x with absent := x.absent + 1 } ∧ stickyBit t 7 10 = true ∧ t.mem = s.mem)) ∧
    (rank ≠ s.rank → x.present + x.absent + 1 = r.members.length → contribOk r rank bs = true → r.replica = false →
      (s.tensor r.target).late = false → (s.tensor r.target).frozen = false → (s.tensor r.target).done.get false r.first = false →
      ∃ t, exec (.contribArrival g rank bs []) s = .next t ∧
        (t.tensor r.target).blocks.get none r.first = some ((reduceAdd (some (contribVals r bs 0)) x).block r.members.length) ∧ t.mem = s.mem) ∧
    (rank = s.rank → x.present + x.absent + 1 < r.members.length → s.sch.unarmed = false →
      r.srcBase + contribHead r + 33 ≤ 0x8000000000 → s.mem.hbmPoison = [] → s.mem.withdrawn = [] →
      ∃ t, exec (.contribArrival g rank bs []) s = .next t ∧ t.ltr.taken.get false (65536 * g + rank) = true ∧
        t.ltr.reduce.get {} (2 ^ 32 * g) = reduceAdd (some (contribVals r
          (contribWords r s.rank (segmentKs s r) ++ rawBytes s (r.srcBase + contribHead r) 33) 0)) x ∧ t.mem.cells = s.mem.cells)) ∧
  (∀ (k : Fin 64) (q n : Nat) (s : State) (rs : RuleSet) (d : TensorDef), ruleSetOf s k = some rs → rs.deferred = true → tensorsOf s k = [d] →
    (s.tensor d.tensor).late = false → lauterRuns s false = true → (s.tensor d.tensor).deferred = [] →
    (∃ t, exec (.normReduction k q 0) s = .next t ∧ (t.tensor d.tensor).factor = some (globalFactor rs q) ∧ t.mem = s.mem) ∧
    (0 < n → exec (.normReduction k q n) s = .next (ltrEvent 4 k 0 s))) ∧
  (∀ (u v : List XVal) (x : Reduce), u.length = 32 → v.length = 32 → (x.sums = [] ∨ x.sums.length = 32) → (x.nans = [] ∨ x.nans.length = 32) →
    reduceAdd (some v) (reduceAdd (some u) x) = reduceAdd (some u) (reduceAdd (some v) x) ∧
    reduceAdd none (reduceAdd (some u) x) = reduceAdd (some u) (reduceAdd none x))

/-! ### The Cask store (09) -/

/-- TOKEN_APPEND, SPILL, PREFETCH, PART_DELIVERY, LOAD_IMAGE, SAVE_IMAGE, SPLIT_PARTIAL. -/
def Obligations.CaskStoreCommandsComplete : Prop :=
  (∀ (sl : Fin 2048) (l : Fin 8) (key val : List Byte) (s : State) (k : CaskDef) (u : SeqUse) (p a : Nat), caskDef s = some k → u = useOf s sl →
    u.faulty = false → l.val < k.layers → u.written.get 0 l < u.new → seqState s k sl = 1 → issues s = true →
    p = seqTokens s k sl % 16 + u.written.get 0 l → a = steepAt k sl l (seqSteep s k sl l) → key.length = k.row → val.length = k.row →
    a % 65536 + 32 * k.row ≤ 65536 → a + 32 * k.row ≤ 0x8000000000 → s.mem.withdrawn = [] → Tab.wf 0 s.mem.cells = true → 0 < k.row →
    (p < 15 →
      ∃ t, exec (.tokenAppend sl l key val) s = .next t ∧ rawBytes t (a + p * k.row) k.row = key ∧ rawBytes t (a + (16 + p) * k.row) k.row = val ∧
        (∀ x, (x < a + p * k.row ∨ a + (p + 1) * k.row ≤ x) → (x < a + (16 + p) * k.row ∨ a + (17 + p) * k.row ≤ x) → rawByte t x = rawByte s x) ∧
        (useOf t sl).written.get 0 l = u.written.get 0 l + 1 ∧ t.plots = s.plots ∧ t.hk = s.hk) ∧
    (p = 15 → (caskHolder s k sl (seqTokens s k sl / 16)).isSome = true →
      ∃ t, exec (.tokenAppend sl l key val) s = .next t ∧ rawBytes t (a + 15 * k.row) k.row = key ∧ rawBytes t (a + 31 * k.row) k.row = val ∧
        (useOf t sl).written.get 0 l = u.written.get 0 l + 1 ∧ (useOf t sl).flushed.get 0 l = caskLimit + 1 ∧ t.plots = s.plots)) ∧
  (∀ (sl : Fin 2048) (l : Fin 8) (key val : List Byte) (s : State), (useOf s sl).new ≤ (useOf s sl).written.get 0 l →
    exec (.tokenAppend sl l key val) s = .next s) ∧
  (∀ (n : Nat) (s : State) (k : CaskDef), caskDef s = some k →
    (k.spills[n]? = none → exec (.spill n) s = .next s) ∧
    (∀ e, k.spills[n]? = some e →
      ((chainAt s k e.home e.slot e.layer).find? (fun c => s.csk.toSpill.get false c && (page s k c).loc == 0) = none →
        exec (.spill n) s = .next s) ∧
      (∀ c pg, (chainAt s k e.home e.slot e.layer).find? (fun c => s.csk.toSpill.get false c && (page s k c).loc == 0) = some c → pg = page s k c →
        issues s = true → k.spillHost = false → s.mem.hbmPoison = [] → s.mem.withdrawn = [] → s.mem.dieLost = [] →
        Tab.wf 0 s.mem.cells = true → Tab.wf false s.csk.toSpill = true → pageAt k c + 16 ≤ 0x8000000000 → pageAt k c % 16 = 0 →
        frameAt s k pg.frame + k.bytes ≤ 0x8000000000 → cellarBase ≤ spillAt k c → spillAt k c + k.bytes ≤ 0x3FC00000000 →
        ∃ t, exec (.spill n) s = .next t ∧ page t k c = { pg with loc := 1, frame := 0 } ∧
          rawBytes t (spillAt k c) k.bytes = rawBytes s (frameAt s k pg.frame) k.bytes ∧
          t.csk.toSpill.get false c = false ∧ t.csk.spilledNow = s.csk.spilledNow + 1 ∧ t.plots = s.plots))) ∧
  (∀ (n sl c : Nat) (s : State) (k : CaskDef) (e : CaskFetch), caskDef s = some k → k.fetches[n]? = some e →
    sampleSlot (if e.micro = 0 then s.csk.seqsNext else s.csk.seqs) (e.micro * s.body.micro + e.smp) = some sl →
    (chain s k sl e.layer)[e.idx]? = some c →
    ((page s k c).loc = 0 → exec (.prefetch n) s = .next s) ∧
    (∀ f, (page s k c).loc ≠ 0 → issues s = true → e.frame < k.window → f = caskFrames s k - k.window + e.frame →
      (∃ t, exec (.prefetch n) s = .next t ∧ t.csk.window.get 0 f = c + 1 ∧ t.plots = s.plots ∧ t.sch = s.sch) ∧
      (cellarBase ≤ spillAt k c → spillAt k c + k.bytes ≤ 0x3FC00000000 → frameAt s k f + k.bytes ≤ 0x8000000000 →
        s.mem.kilnPoison = [] → s.mem.withdrawn = [] → s.mem.dieLost = [] → Tab.wf 0 s.mem.cells = true →
        ∃ t, exec (.prefetch n) s = .next t ∧ rawBytes t (frameAt s k f) k.bytes = rawBytes s (spillAt k c) k.bytes))) ∧
  (∀ (n : Nat) (l : Fin 8) (pos : Nat) (gu : Option (Nat × Fin 2048)) (s : State) (k : CaskDef), caskDef s = some k →
    (partEntry s k ((gu.map (·.1)).getD s.rank) n l pos = none → exec (.partDelivery n l pos gu) s = .next s) ∧
    (∀ (e : CaskPart) (r : State × Option (List Byte)) (bs : List Byte) (x : Sem), partEntry s k ((gu.map (·.1)).getD s.rank) n l pos = some e →
      issues s = true → l.val < k.layers → r = (match gu with | some g => guestPart k g.1 g.2 l pos s | none => ownPart k n l pos s) →
      r.2 = some bs → e.plot < 64 → x = (s.plot e.plot).sems.get {} e.sem → x.assigned = true → x.value < 0xFFFF → e.off + bs.length ≤ 0x300000 →
      Tab.wf 0 s.mem.cells = true →
      ∃ t, exec (.partDelivery n l pos gu) s = .next t ∧ rawBytes t (storeBase e.plot + e.off) bs.length = bs ∧
        (∀ y, y < storeBase e.plot + e.off ∨ storeBase e.plot + e.off + bs.length ≤ y → rawByte t y = rawByte r.1 y) ∧
        (t.plot e.plot).sems.get {} e.sem = { x with value := x.value + 1 }) ∧
    (gu = none → pos = 0 → (∀ sl, sampleSlot s.csk.seqs n = some sl → (useOf s sl).faulty = true ∨ seqState s k sl = 0) →
      ownPart k n l pos s = (s, some (padTo 64 (leBytes 2 0 ++ leBytes 2 1 ++ leBytes 2 0) ++ zeros k.bytes)))) ∧
  (∀ (sl : Fin 2048) (s : State) (k : CaskDef) (bs : List Byte), caskDef s = some k → bs = s.csk.next.get [] sl → issues s = true →
    (recAction bs ≠ 2 → exec (.loadImage sl) s = .next s) ∧
    (bs.length = 32 → recAction bs = 2 → (leAt bs 16 8 % 2 ^ 44) % 128 = 0 → leAt bs 16 8 % 2 ^ 44 + 64 ≤ 0x8000000000 → s.mem.withdrawn = [] →
      imageOk k (rawBytes s (leAt bs 16 8 % 2 ^ 44) 64) = false →
      ∃ t, exec (.loadImage sl) s = .next t ∧ stickyBit t 11 4 = true ∧ t.csk.next.get [] sl = [0xFF] ∧ t.mem.cells = s.mem.cells) ∧
    (bs.length = 32 → recAction bs = 2 → (leAt bs 16 8 % 2 ^ 44) % 128 = 0 → leAt bs 16 8 % 2 ^ 44 + 64 ≤ 0x8000000000 → s.mem.withdrawn = [] →
      imageOk k (rawBytes s (leAt bs 16 8 % 2 ^ 44) 64) = true →
      ∃ t, exec (.loadImage sl) s = .next t ∧ (t.csk.load.get [] sl).length = 1 + k.layers * (leAt (rawBytes s (leAt bs 16 8 % 2 ^ 44) 64) 20 4 + 1) ∧
        ((t.csk.load.get [] sl).headD ([], true)).1 = rawBytes s (leAt bs 16 8 % 2 ^ 44) 64 ∧ t.mem.cells = s.mem.cells)) ∧
  (∀ (sl : Fin 2048) (s : State) (k : CaskDef), caskDef s = some k →
    (s.csk.saving.get 0 sl = 0 → exec (.saveImage sl) s = .next s) ∧
    (∀ (r : State × List Byte) (a : Nat), s.csk.saving.get 0 sl = a + 1 → s.csk.saved.get false sl = false → seqState s k sl = 2 → issues s = true →
      r = imageLayers k sl (List.range k.layers) s →
      (∃ t, exec (.saveImage sl) s = .next t ∧ t.csk.saved.get false sl = true ∧ t.plots = s.plots ∧ t.csk.counts = s.csk.counts) ∧
      (a + 64 + r.2.length ≤ 0x8000000000 → s.mem.withdrawn = [] → Tab.wf 0 s.mem.cells = true →
        ∃ t, exec (.saveImage sl) s = .next t ∧ rawBytes t a (64 + r.2.length) = imageHeader s k sl ++ r.2))) ∧
  (∀ (n : Nat) (sl : Nat) (l : Fin 8) (part : Nat) (ps : Option (List Word)) (s : State) (k : CaskDef), caskDef s = some k →
    sampleSlot s.csk.seqs n = some sl →
    ((splitOf k s.rank sl).isNone = true → exec (.splitPartial n l part ps) s = .next s) ∧
    ((splitOf k s.rank sl).isNone = false → ∃ t, exec (.splitPartial n l part ps) s = .next t ∧
      t.csk.partials.get [] (8 * n + l) = s.csk.partials.get [] (8 * n + l) ++ [(part, ps)] ∧ t.mem = s.mem ∧
      (ps = none → stickyBit t 11 6 = true ∧ t.csk.short.contains n = true)))

/-! ### Tallies and releases (11) -/

namespace Sys2Proof.Obl

/-- The tables of ports and flows are in canonical form. -/
def Wired (s : State) : Prop := Tab.wf {} s.fab.ports = true ∧ Tab.wf {} s.fab.flows = true

/-- Port p's queue has room for so many words (R235). -/
def Room (s : State) (p n : Nat) : Prop := (s.flow p).stalled = [] ∧ queuedWords (s.flow p).queue + n ≤ 1024

/-- A message of class cls waits last in port p's queue, and nothing else has been added to it since s. -/
def Queued (p cls : Nat) (words : List Nat) (s t : State) : Prop :=
  (t.flow p).queue = (s.flow p).queue ++ [⟨cls, words, (s.flow p).sent⟩]

end Sys2Proof.Obl

/-- LOCAL_TALLY, TALLY_ARRIVE, ARRIVE_AT, GRAD_TALLY_ARRIVAL, AMAX_ARRIVAL, TALLY_COMBINED, TALLY_TIMEOUT, ROOT_ISSUE, RELEASE, SEM_POST. -/
def Obligations.TalliesAndReleasesComplete : Prop :=
  (∀ (n : Fin 256) (s : State) (d : TallyDef), tallyDef s n = some d → d.kind = .localT →
    ((s.tally n).count + 1 < d.target → exec (.localTally n) s = .next (s.onTally n (fun t => { t with count := t.count + 1 }))) ∧
    (d.target ≤ (s.tally n).count + 1 → d.posts = [] → Tab.wf {} s.fab.tallies = true →
      ∃ t, exec (.localTally n) s = .next t ∧ (t.tally n).count = 0 ∧ (t.tally n).gen = ((s.tally n).gen + 1) % 256 ∧ t.mem = s.mem)) ∧
  (∀ (p : Fin 16) (fid : Fin 64) (g : BitVec 8) (c : BitVec 16) (l : BitVec 12) (v : BitVec 13) (s : State) (d : TallyDef) (nd : TreeNode),
    fabricTally s fid = some (d, nd) →
    (g.toNat ≠ (s.tally d.n).gen → ∃ t, exec (.tallyArrive p fid g c l v) s = .next t ∧ stickyBit t 7 6 = true ∧ t.tally d.n = s.tally d.n ∧ t.mem = s.mem) ∧
    (g.toNat = (s.tally d.n).gen → (s.tally d.n).sent = false → (s.tally d.n).from_.contains (senderOf s p) = false →
      (s.tally d.n).from_.contains (senderOf s p + 65536) = false → Tab.wf {} s.fab.tallies = true →
      (l.toNat + 1 < laneCount d → exec (.tallyArrive p fid g c l v) s =
        .next (s.onTally d.n (fun x => { x with words := x.words ++ [(senderOf s p, l.toNat, v.toNat)] }))) ∧
      (laneCount d ≤ l.toNat + 1 → (s.tally d.n).count + c.toNat < tallyTarget d nd →
        ∃ t, exec (.tallyArrive p fid g c l v) s = .next t ∧ (t.tally d.n).count = (s.tally d.n).count + c.toNat ∧
          (t.tally d.n).from_ = (s.tally d.n).from_ ++ [senderOf s p] ∧ t.mem = s.mem ∧ t.plots = s.plots))) ∧
  (∀ (s : State) (d : TallyDef) (nd : TreeNode), fabricTally s 1 = some (d, nd) → s.hasBundle = true → s.sch.arrived = false → (s.tally d.n).own = false →
    (∀ c ∈ nd.children, carriesWithy (s.port c.2.1) = true) → d.kind = .epoch →
    ((s.tally d.n).count + 1 < tallyTarget d nd →
      ∃ t, exec .arriveAt s = .next t ∧ t.sch.arrived = true ∧ (t.tally d.n).own = true ∧ (t.tally d.n).count = (s.tally d.n).count + 1 ∧ t.mem = s.mem) ∧
    (∀ p, (s.tally d.n).count + 1 = tallyTarget d nd → (s.tally d.n).sent = false → parentPort s nd = some p → d.lanes = [] →
      Room s p 1 → ∃ t v, exec .arriveAt s = .next t ∧ t.sch.arrived = true ∧ (t.tally d.n).sent = true ∧ t.mem = s.mem ∧
        Queued p 1 [tallyWord false 1 (s.tally d.n).gen (tallyTarget d nd) 0 v] s t)) ∧
  (∀ s : State, s.sch.arrived = true → exec .arriveAt s = .next s) ∧
  (∀ (fid : Fin 64) (tb : BitVec 16) (s : State) (d : TallyDef) (nd : TreeNode) (f : TableFDef), fabricTally s fid = some (d, nd) →
    s.body.tablesF.find? (fun t => t.table == tb.toNat) = some f → f.gradTally = fid.val →
    (d.kind = .combine → (s.tally d.n).sent = true → Tab.wf {} s.fab.tallies = true → (∀ c ∈ nd.children, carriesWithy (s.port c.2.1) = true) → 1 < tallyTarget d nd →
      ∃ t, exec (.amaxArrival fid) s = .next t ∧ (t.tally d.n).gen = ((s.tally d.n).gen + 1) % 256 ∧ (t.tally d.n).own = true ∧ (t.tally d.n).count = 1 ∧ t.mem = s.mem) ∧
    ((s.tally d.n).sent = false → (s.tally d.n).own = true → exec (.amaxArrival fid) s = .next s ∧ exec (.gradTallyArrival tb) s = .next s) ∧
    ((s.tally d.n).sent = false → (s.tally d.n).own = false → (∀ c ∈ nd.children, carriesWithy (s.port c.2.1) = true) → (s.tally d.n).count + 1 < tallyTarget d nd →
      (∃ t, exec (.amaxArrival fid) s = .next t ∧ (t.tally d.n).own = true ∧ (t.tally d.n).count = (s.tally d.n).count + 1 ∧ t.mem = s.mem) ∧
      (∃ t, exec (.gradTallyArrival tb) s = .next t ∧ (t.tally d.n).own = true ∧ (t.tally d.n).count = (s.tally d.n).count + 1 ∧ t.mem = s.mem))) ∧
  (∀ (fid : Fin 64) (g : BitVec 8) (l : BitVec 12) (v : BitVec 13) (s : State) (d : TallyDef) (nd : TreeNode), fabricTally s fid = some (d, nd) →
    (d.kind ≠ .combine → exec (.tallyCombined fid g l v) s = .next s) ∧
    (d.kind = .combine → ∃ t, exec (.tallyCombined fid g l v) s = .next t ∧ t.mem = s.mem ∧ t.plots = s.plots ∧
      ((g.toNat ≠ (s.tally d.n).gen ∨ l.toNat + 1 < laneCount d) → t.tally d.n = s.tally d.n) ∧
      (g.toNat = (s.tally d.n).gen → laneCount d ≤ l.toNat + 1 → Tab.wf {} s.fab.tallies = true → t.tally d.n = { gen := ((s.tally d.n).gen + 1) % 256 }) ∧
      ∀ c, nd.children = [c] → carriesWithy (s.port c.2.1) = true → Room s c.2.1 1 →
        Queued c.2.1 1 [tallyWord true fid g.toNat 0 l.toNat v.toNat] s t)) ∧
  (∀ (fid : Fin 64) (s : State) (d : TallyDef) (nd : TreeNode), fabricTally s fid = some (d, nd) →
    ((nd.parent.isSome = true ∨ (s.tally d.n).sent = true) → exec (.tallyTimeout fid) s = .next s) ∧
    (nd.parent = none → (s.tally d.n).sent = false → d.kind = .epoch →
      ∃ t, exec (.tallyTimeout fid) s = .next t ∧ (t.tally d.n).sent = true ∧ stickyBit t 7 3 = true ∧ stickyBit t 7 4 = true ∧ t.mem = s.mem)) ∧
  (∀ (fid : Fin 64) (s : State) (d : TallyDef) (nd : TreeNode), fabricTally s fid = some (d, nd) → d.kind = .barrier → nd.parent = none →
    ((s.tally d.n).sent = false → exec (.rootIssue fid) s = .next s) ∧
    ((s.tally d.n).sent = true → s.fab.rel.get none fid = none →
      ∃ t, exec (.rootIssue fid) s = .next t ∧ t.fab.rel.get none fid = some ⟨false, 0, 0, nd.dGroup / 25⟩ ∧ t.mem = s.mem ∧
        ∀ c, nd.children = [c] → carriesWithy (s.port c.2.1) = true → Room s c.2.1 2 →
          Queued c.2.1 0 (releaseWords fid false 0 0 (linkDelay (s.port c.2.1))) s t)) ∧
  (∀ (p : Fin 16) (fid : Fin 64) (k : Bool) (m : BitVec 3) (e : BitVec 32) (a : BitVec 40) (r : Nat) (s : State) (d : TallyDef) (nd : TreeNode),
    fabricTally s fid = some (d, nd) → d.kind ≠ .combine →
    (s.fab.rel.get none fid ≠ none → exec (.release p fid k m e a r) s = .next s) ∧
    (s.fab.rel.get none fid = none → 25 * a.toNat ≤ nd.dGroup → (s.port p).switched = false →
      ∃ t, exec (.release p fid k m e a r) s = .next t ∧ t.fab.rel.get none fid = some ⟨k, m.toNat, e.toNat, nd.dGroup / 25 - a.toNat⟩ ∧ t.mem = s.mem ∧
        ∀ c, nd.children = [c] → carriesWithy (s.port c.2.1) = true → Room s c.2.1 2 →
          Queued c.2.1 0 (releaseWords fid k m.toNat e.toNat (a.toNat + r + linkDelay (s.port c.2.1))) s t)) ∧
  (∀ (r : BitVec 15) (p : Fin 64) (n : Fin 64) (c : BitVec 16) (s : State) (x : Sem), x = (s.plot p).sems.get {} n →
    (r.toNat = s.rank → x.assigned = true → 0 ≤ (x.value : Int) + c.toInt → (x.value : Int) + c.toInt ≤ 0xFFFF →
      exec (.semPost r p n c) s = .next (s.onPlot p (fun q => { q with sems := q.sems.set {} n { x with value := ((x.value : Int) + c.toInt).toNat } }))) ∧
    (∀ q, r.toNat ≠ s.rank → routeTo s r.toNat = some q → Room s q 1 → ∃ t, exec (.semPost r p n c) s = .next t ∧
      Queued q 3 [semPostWord r.toNat p n c.toInt] s t ∧ t.fab.ports = s.fab.ports ∧ t.plots = s.plots ∧ t.mem = s.mem) ∧
    (r.toNat ≠ s.rank → routeTo s r.toNat = none → exec (.semPost r p n c) s = .next s))

/-! ### Espalier ports (10) -/

/-- TRAINING_STAGE, CAP, PORT_NOTICE, LINK_DOWN, AUTO_RETRAIN, MEAS_REQ, MEAS_RESP, DELAY_MEASUREMENT, CMIS_POLL, LINK_DEGRADED. The event
codes of PORT_NOTICE (log 15) and the median of an even set (log 17) are the model's choice. -/
def Obligations.PortsTrainMeasureAndGoDown : Prop :=
  (∀ (p : Fin 16) (o : StageEnd) (s : State), (s.port p).stage = 0 → exec (.trainingStage p o) s = .next s) ∧
  (∀ (p : Fin 16) (c : Nat) (s : State), (s.port p).stage ≠ 0 →
    ∃ t, exec (.trainingStage p (.fail c)) s = .next t ∧ (t.port p).state = 7 ∧ (t.port p).cause = c % 256 ∧ (t.port p).stage = 0 ∧
      t.mem = s.mem ∧ t.fab.flows = s.fab.flows) ∧
  (∀ (p : Fin 16) (k cm w a : Nat) (s : State), ∃ t, exec (.trainingStage p (.pass k cm w a)) s = .next t ∧ t.mem = s.mem ∧ t.plots = s.plots ∧
    ((s.port p).stage = 1 → (t.port p).present = true ∧ (t.port p).cable = k % 8 ∧ (t.port p).cmisCm = cm ∧
      (t.port p).lowPower = decide ((s.port p).maxPower < w) ∧
      ((s.port p).maxPower < w → (t.port p).state = 7 ∧ (t.port p).cause = 3) ∧
      (w ≤ (s.port p).maxPower → natBit (b2n (s.port p).switched) a = false → (t.port p).state = 7 ∧ (t.port p).cause = 2) ∧
      (w ≤ (s.port p).maxPower → natBit (b2n (s.port p).switched) a = true → (t.port p).state = 2 ∧ (t.port p).stage = 2)) ∧
    ((s.port p).stage = 2 → (t.port p).stage = 3 ∧ (t.port p).state = (s.port p).state) ∧
    ((s.port p).stage = 3 → (s.port p).switched = true → (t.port p).state = 6 ∧ (t.port p).stage = 0) ∧
    ((s.port p).stage = 3 → (s.port p).switched = false → (t.port p).stage = 4 ∧ (Room s p 9 → Queued p 4 (capWords (ownCap s p)) s t)) ∧
    ((s.port p).stage = 4 → (t.port p).state = 3 ∧ (t.port p).stage = 5 ∧ (t.flow p).asks = some 0 ∧ (Room s p 1 → Queued p 4 [5] s t)) ∧
    (5 ≤ (s.port p).stage → (s.flow p).asks.isSome = true → t = s) ∧
    (5 ≤ (s.port p).stage → (s.flow p).asks = none → (s.port p).partner = none → (t.port p).state = 7 ∧ (t.port p).cause = 0x0F) ∧
    (∀ c, 5 ≤ (s.port p).stage → (s.flow p).asks = none → (s.port p).partner = some c → (t.port p).delay = (s.port p).delay ∧ (t.port p).stage = 0 ∧
      (c.domain.toNat ≠ s.fab.domain → (t.port p).state = 4 ∧ (t.port p).cause = 9 ∧ stickyBit t 5 6 = true) ∧
      (c.domain.toNat = s.fab.domain → s.hasBundle = false → (t.port p).state = 4 ∧ (t.port p).cause = 0) ∧
      (∀ l, c.domain.toNat = s.fab.domain → linkIn s.sch.active p = some l →
        ((c.rank.toNat ≠ l.partnerRank ∨ c.port.toNat ≠ l.partnerPort) → (t.port p).state = 4 ∧ (t.port p).cause = 0x0A ∧ stickyBit t 5 6 = true) ∧
        (c.rank.toNat = l.partnerRank → c.port.toNat = l.partnerPort →
          (l.delayMax < (s.port p).delay → (t.port p).state = 4 ∧ (t.port p).cause = 0x0C ∧ stickyBit t 5 5 = true) ∧
          ((s.port p).delay ≤ l.delayMax → (∀ x, (s.flow p).sig = some x → x = l.linkSig) → (t.port p).state = 5 ∧ (t.port p).rejoin = true ∧
            (Room s p 1 → s.fab.tallies = [] → Queued p 4 [noticeWord 0 l.ownSig] s t)) ∧
          (∀ x, (s.port p).delay ≤ l.delayMax → (s.flow p).sig = some x → x ≠ l.linkSig →
            (t.port p).state = 4 ∧ (t.port p).cause = 0x0B ∧ stickyBit t 5 7 = true))))) ∧
  (∀ (p : Fin 16) (r : CapRec) (s : State), ((s.port p).state ≠ 2 → exec (.cap p r) s = .next s) ∧
    ((s.port p).state = 2 → ∃ t, exec (.cap p r) s = .next t ∧ (t.port p).partner = some r ∧ t.mem = s.mem ∧ t.fab.flows = s.fab.flows ∧
      (r.proto.toNat / 256 = 1 → (t.port p).state = 2) ∧ (r.proto.toNat / 256 ≠ 1 → (t.port p).state = 7 ∧ (t.port p).cause = 8))) ∧
  (∀ (p : Fin 16) (e : BitVec 4) (g : BitVec 32) (s : State),
    ((sendsWithy (s.port p) = false ∨ (e ≠ 0 ∧ e ≠ 1)) → exec (.portNotice p e g) s = .next s) ∧
    (sendsWithy (s.port p) = true → e = 1 →
      ∃ t, exec (.portNotice p e g) s = .next t ∧ (t.port p).state = 2 ∧ (t.port p).stage = 2 ∧ t.mem = s.mem ∧ t.plots = s.plots) ∧
    (sendsWithy (s.port p) = true → e = 0 → linkIn s.sch.active p = none →
      exec (.portNotice p e g) s = .next (s.onFlow p (fun f => { f with sig := some g.toNat }))) ∧
    (∀ l, e = 0 → linkIn s.sch.active p = some l →
      ((s.port p).state = 5 → g.toNat ≠ l.linkSig → ∃ t, exec (.portNotice p e g) s = .next t ∧ (t.port p).state = 4 ∧ (t.port p).cause = 0x0B ∧
        stickyBit t 5 7 = true ∧ (t.flow p).sig = some g.toNat ∧ t.mem = s.mem) ∧
      ((s.port p).state = 5 → g.toNat = l.linkSig → ∃ t, exec (.portNotice p e g) s = .next t ∧ t.fab.ports = s.fab.ports ∧ t.hk = s.hk ∧ t.mem = s.mem) ∧
      ((s.port p).state = 4 → (s.port p).cause = 0x0B → g.toNat = l.linkSig → ∃ t, exec (.portNotice p e g) s = .next t ∧
        (t.port p).state = 5 ∧ (t.port p).cause = 0 ∧ (t.port p).rejoin = true ∧ t.mem = s.mem))) ∧
  (∀ (p : Fin 16) (c : BitVec 8) (s : State),
    (¬ (3 ≤ (s.port p).state ∧ (s.port p).state ≤ 6) → exec (.linkDown p c) s = .next s) ∧
    (3 ≤ (s.port p).state → (s.port p).state ≤ 6 → ∃ t, exec (.linkDown p c) s = .next t ∧ (t.port p).state = 7 ∧ (t.port p).cause = c.toNat ∧
      (t.port p).syntSrc = false ∧ stickyBit t 5 0 = true ∧ t.mem = s.mem ∧ t.plots = s.plots)) ∧
  (∀ (p : Fin 16) (s : State),
    (((s.port p).state ≠ 7 ∨ (s.port p).autoRetrain = false ∨ (s.port p).enable = false) → exec (.autoRetrain p) s = .next s) ∧
    ((s.port p).state = 7 → (s.port p).autoRetrain = true → (s.port p).enable = true → ∃ t, exec (.autoRetrain p) s = .next t ∧
      (t.port p).state = 1 ∧ (t.port p).stage = 1 ∧ (t.port p).tries = (s.port p).tries + 1 ∧ t.mem = s.mem ∧ t.plots = s.plots)) ∧
  (∀ (p : Fin 16) (id : BitVec 8) (n : BitVec 48) (s : State),
    (sendsWithy (s.port p) = false → exec (.measReq p id n) s = .next s) ∧
    (sendsWithy (s.port p) = true → ∃ t, exec (.measReq p id n) s = .next t ∧ (t.flow p).meas = some (id.toNat, n.toNat) ∧
      (Room s p 1 → Queued p 4 [6 + 2 ^ 8 * id.toNat + 2 ^ 16 * n.toNat] s t) ∧ t.fab.ports = s.fab.ports ∧ t.mem = s.mem)) ∧
  (∀ (p : Fin 16) (id : BitVec 8) (x : Nat) (n : BitVec 48) (ds : List Nat) (s : State),
    ((sendsWithy (s.port p) = false ∨ (s.flow p).asks ≠ some id.toNat) → exec (.measResp p id x n) s = .next s) ∧
    (sendsWithy (s.port p) = true → (s.flow p).asks = some id.toNat → ds = (s.flow p).samples ++ [(x - 25 * n.toNat) / 2] →
      (ds.length < 64 → ∃ t, exec (.measResp p id x n) s = .next t ∧ (t.flow p).samples = ds ∧ (t.flow p).asks = some ((id.toNat + 1) % 256) ∧
        (Room s p 1 → Queued p 4 [5 + 2 ^ 8 * ((id.toNat + 1) % 256)] s t) ∧ t.fab.ports = s.fab.ports ∧ t.mem = s.mem) ∧
      (64 ≤ ds.length → Wired s → ∃ t, exec (.measResp p id x n) s = .next t ∧ (t.port p).delay = units25 (medianNat ds) ∧
        (t.flow p).samples = [] ∧ (t.flow p).asks = none ∧ (t.port p).state = (s.port p).state ∧ t.mem = s.mem))) ∧
  (∀ (p : Fin 16) (s : State),
    ((s.port p).state ≠ 5 → exec (.delayMeasurement p) s = .next s) ∧
    ((s.port p).state = 5 → ∃ t, exec (.delayMeasurement p) s = .next t ∧ (t.flow p).asks = some 0 ∧ (t.flow p).samples = [] ∧
      (Room s p 1 → Queued p 4 [5] s t) ∧ t.fab.ports = s.fab.ports ∧ t.mem = s.mem)) ∧
  (∀ (p : Fin 16) (f : CmisFlags) (s : State),
    (((s.port p).state < 3 ∨ (s.port p).state = 7 ∨ (f.alarm = false ∧ f.fault = false)) → exec (.cmisPoll p f) s = .next s) ∧
    (3 ≤ (s.port p).state → (s.port p).state ≠ 7 → ∃ t, exec (.cmisPoll p f) s = .next t ∧ t.mem = s.mem ∧
      (f.alarm = true → stickyBit t 5 12 = true) ∧ (f.fault = false → t.fab = s.fab) ∧
      (f.fault = true → (t.port p).state = 7 ∧ (t.port p).cause = 0x10 ∧ stickyBit t 5 0 = true))) ∧
  (∀ (p : Fin 16) (s : State),
    ((s.flow p).corrWindow ≤ degradedLimit → exec (.linkDegraded p) s = .next (s.onFlow p (fun f => { f with corrWindow := 0 }))) ∧
    (degradedLimit < (s.flow p).corrWindow → Wired s → ∃ t, exec (.linkDegraded p) s = .next t ∧ stickyBit t 5 2 = true ∧ (t.flow p).corrWindow = 0 ∧
      t.fab.ports = s.fab.ports ∧ t.mem = s.mem))

/-- FLIT_TIME, WITHY_FLIT, DATA_FLIT, REPLAY_NOTICE, RUN_CHECK, ABSENT, SWITCHED_FRAME, SWITCHED_RESEND, PAUSE_RX. What a port sends while
eight flits are unacknowledged, that a port asks once for a flit it lacks (log 101), and the empty frame that takes a lost frame's place
(log 102) are the model's choice. -/
def Obligations.FlitsAndFramesFollowTheirSequence : Prop :=
  (∀ (p : Fin 16) (s : State) (f : PortFlow) (q : Port), f = s.flow p → q = s.port p → q.state ≠ 6 →
    (∀ now wait ms, f.t % 32 = 0 → sendsWithy q = true → f.resend = 0 → f.unacked.length < 8 → f.stalled = [] →
      now = byClass (f.queue.filter (fun m => carriesWithy q || m.cls == 4)) → wait = f.queue.filter (fun m => !(carriesWithy q || m.cls == 4)) →
      ms = takeFit 30 now → ∃ t, exec (.flitTime p) s = .next t ∧
        (t.flow p).unacked = f.unacked ++ [(f.txSeq, ms)] ∧ (t.flow p).txSeq = (f.txSeq + 1) % 256 ∧ (t.flow p).queue = wait ++ now.drop ms.length ∧
        (t.flow p).lastTx = withyBytes s f f.txSeq ms ∧ (t.flow p).lastTx.length = 256 ∧ (t.flow p).t = f.t + 1 ∧ t.mem = s.mem ∧ t.fab.ports = s.fab.ports) ∧
    (f.t % 32 = 0 → sendsWithy q = false →
      exec (.flitTime p) s = .next (s.onFlow p (fun g => { g with t := g.t + 1, sent := g.sent + 1 }))) ∧
    (∀ k ns, f.t % 32 = 0 → sendsWithy q = true → f.resend = 0 → 8 ≤ f.unacked.length → k = f.unacked.getLastD (0, []) →
      ns = takeFit (30 - queuedWords k.2) (f.queue.filter WithyMsg.isNotice) → ∃ t, exec (.flitTime p) s = .next t ∧
        (t.flow p).unacked = f.unacked ∧ (t.flow p).txSeq = f.txSeq ∧ (t.flow p).lastTx = withyBytes s f k.1 (k.2 ++ ns) ∧ (t.flow p).t = f.t + 1 ∧
        t.mem = s.mem ∧ t.fab.ports = s.fab.ports) ∧
    (∀ k, f.t % 32 = 0 → sendsWithy q = true → 0 < f.resend → k = f.unacked.getD (f.unacked.length - f.resend) (0, []) →
      ∃ t, exec (.flitTime p) s = .next t ∧ (t.flow p).unacked = f.unacked ∧ (t.flow p).resend = f.resend - 1 ∧
        (t.flow p).lastTx = withyBytes s f k.1 k.2 ∧ stickyBit t 5 3 = true ∧ (t.flow p).t = f.t + 1 ∧ t.mem = s.mem) ∧
    (f.t % 32 ≠ 0 → s.hasBundle = true → (∀ r ∈ runsOf s s.sch.template p, (r.tx && r.covers (f.t - 1 - f.t / 32)) = false) →
      ∃ t, exec (.flitTime p) s = .next t ∧ (t.flow p).lastTx = flitBytes [] ∧ (t.flow p).t = f.t + 1 ∧ t.mem = s.mem) ∧
    (∀ i r d, f.t % 32 ≠ 0 → s.hasBundle = true → carriesRuns q = true →
      (runsOf s s.sch.template p).findIdx? (fun r => r.tx && r.covers (f.t - 1 - f.t / 32)) = some i →
      (runsOf s s.sch.template p)[i]? = some r → r.kind = .txLocal → f.checked.get false i = true → streamOf s r.stream = some d →
      (f.ready.get false i = true → ∃ t, exec (.flitTime p) s = .next t ∧ (t.flow p).t = f.t + 1 ∧ (t.flow p).lastTx =
        flitBytes (devRead reqHedgerow .none (d.base + 248 * (r.streamOff + (f.t - 1 - f.t / 32 - r.start))) 248 s).2.1) ∧
      (f.ready.get false i = false → ∃ t, exec (.flitTime p) s = .next t ∧ (t.flow p).t = f.t + 1 ∧ (t.flow p).lastTx = flitBytes [] ∧ t.mem = s.mem))) ∧
  (∀ (p : Fin 16) (s : State) (r : Nat) (x : SwPeer) (ms : List WithyMsg) (bs : List (List Byte)), (s.port p).state = 6 → r = peerRank s p → x = swPeer s p r →
    byClass (s.flow p).queue ≠ [] → ms = takeFit 63 (byClass (s.flow p).queue) → bs = (ms.map (departing (s.flow p).sent)).flatten.map (leBytes 8) →
    ∃ t, exec (.flitTime p) s = .next t ∧ (swPeer t p r).unacked = x.unacked ++ [⟨x.txSeq, 1, 0, bs⟩] ∧ (swPeer t p r).txSeq = (x.txSeq + 1) % 2 ^ 32 ∧
      (t.flow p).lastTx = frameBytes s p r 1 x.txSeq ((x.rxNext + 2 ^ 32 - 1) % 2 ^ 32) 0 0 bs ∧ (swPeer t p r).credits = x.credits ∧ t.mem = s.mem) ∧
  (∀ (p : Fin 16) (raw : List Byte) (s : State) (f : PortFlow), f = s.flow p →
    (sendsWithy (s.port p) = false → exec (.withyFlit p raw) s = .next s) ∧
    (sendsWithy (s.port p) = true → flitDecode raw = none → Room s p 1 → ∃ t, exec (.withyFlit p raw) s = .next t ∧
      Queued p 4 [4 + 2 ^ 8 * f.rxSeq] s t ∧ (t.flow p).asked = true ∧ (t.flow p).rxSeq = f.rxSeq ∧ (t.flow p).held = f.held ++ [⟨0, none, 0, 0, 1⟩] ∧
      t.mem = s.mem) ∧
    (∀ body n l, sendsWithy (s.port p) = true → flitDecode raw = some (body, n) → l = linkOf body → Wired s →
      (l.seq.toNat = f.rxSeq → f.held = [] → (∀ m ∈ flitMessages body, m.headD 0 % 256 = 0) →
        (l.epochStart = false → ∃ t, exec (.withyFlit p raw) s = .next t ∧ (t.flow p).rxSeq = (f.rxSeq + 1) % 256 ∧ (t.flow p).asked = false ∧
          (t.flow p).unacked = ackTo l.ack.toNat f.unacked ∧ (t.port p).state = (s.port p).state ∧ t.mem = s.mem) ∧
        (l.epochStart = true → f.rxTemplate = none → ∃ t, exec (.withyFlit p raw) s = .next t ∧ (t.flow p).rxSeq = (f.rxSeq + 1) % 256 ∧
          (t.flow p).rxTemplate = some l.template.toNat ∧ (t.flow p).rxPos = 0 ∧ (t.flow p).rxEpoch = some l.epoch.toNat ∧ t.mem = s.mem)) ∧
      (l.seq.toNat ≠ f.rxSeq → (∀ m ∈ flitMessages body, m.headD 0 % 256 ≠ 4) →
        ((f.rxSeq + 255 - l.seq.toNat) % 256 < 8 → ∃ t, exec (.withyFlit p raw) s = .next t ∧ (t.flow p).rxSeq = f.rxSeq ∧
          (t.flow p).queue = f.queue ∧ (t.flow p).unacked = ackTo l.ack.toNat f.unacked ∧ t.mem = s.mem) ∧
        (8 ≤ (f.rxSeq + 255 - l.seq.toNat) % 256 → f.asked = false → Room s p 1 → ∃ t, exec (.withyFlit p raw) s = .next t ∧
          (t.flow p).rxSeq = f.rxSeq ∧ Queued p 4 [4 + 2 ^ 8 * f.rxSeq] s t ∧ (t.flow p).asked = true ∧ t.mem = s.mem)))) ∧
  (∀ (p : Fin 16) (raw : List Byte) (s : State) (f : PortFlow), f = s.flow p →
    (sendsWithy (s.port p) = false → exec (.dataFlit p raw) s = .next s) ∧
    (sendsWithy (s.port p) = true → ∃ t, exec (.dataFlit p raw) s = .next t ∧ t.mem = s.mem ∧ (t.flow p).rxPos = f.rxPos + 1 ∧
      (∀ body n, flitDecode raw = some (body, n) → (t.flow p).held = f.held ++ [⟨f.rxPos, some body, s.rank, f.rxEpoch.getD 0, 0⟩] ∧
        (t.flow p).corrWindow = f.corrWindow + n) ∧
      (flitDecode raw = none → (t.flow p).held = f.held ++ [⟨f.rxPos, none, s.rank, f.rxEpoch.getD 0, 0⟩] ∧ stickyBit t 5 1 = true))) ∧
  (∀ (p : Fin 16) (n : BitVec 8) (s : State) (f : PortFlow), f = s.flow p →
    (sendsWithy (s.port p) = false → exec (.replayNotice p n) s = .next s) ∧
    (sendsWithy (s.port p) = true → 15 ≤ f.notices → ∃ t, exec (.replayNotice p n) s = .next t ∧ (t.port p).state = 7 ∧ (t.port p).cause = 0x0D ∧
      stickyBit t 5 0 = true ∧ t.mem = s.mem) ∧
    (∀ i, sendsWithy (s.port p) = true → f.notices < 15 → f.unacked.findIdx? (fun u => u.1 == n.toNat) = some i →
      exec (.replayNotice p n) s = .next (s.onFlow p (fun f => { f with notices := f.notices + 1, resend := f.unacked.length - i }))) ∧
    (sendsWithy (s.port p) = true → f.notices < 15 → f.unacked.findIdx? (fun u => u.1 == n.toNat) = none →
      exec (.replayNotice p n) s = .next (s.onFlow p (fun f => { f with notices := f.notices + 1 })))) ∧
  (∀ (p : Fin 16) (i : Nat) (s : State), (s.port p).state = 6 → exec (.runCheck p i) s = .next s) ∧
  (∀ (p : Fin 16) (i : Nat) (s u : State) (r : Run), (s.port p).state ≠ 6 → (runsOf s s.sch.template p)[i]? = some r → u = fillRun r s →
    ((r.tx = false ∨ (s.flow p).checked.get false i = true) → exec (.runCheck p i) s = .next s) ∧
    (r.tx = true → (s.flow p).checked.get false i = false →
      (txGoes u p r = true → ∃ t, exec (.runCheck p i) s = .next t ∧ (t.flow p).checked.get false i = true ∧ (t.flow p).ready.get false i = true ∧
        t.fab.ports = u.fab.ports ∧ t.mem = u.mem) ∧
      (txGoes u p r = false → Wired u → Tab.wf 0 (u.port p).counts = true → ∃ t, exec (.runCheck p i) s = .next t ∧
        (t.flow p).checked.get false i = true ∧ (t.port p).counts.get 0 6 = sat48 ((u.port p).counts.get 0 6 + r.len) ∧ t.mem = u.mem ∧
        ((u.port p).state = 5 → Room u p 1 → Queued p 2 [absentWord r.marker 0xFFFFF u.rank] u t)))) ∧
  (∀ (p : Fin 16) (m : BitVec 16) (n : BitVec 20) (r : BitVec 15) (s : State),
    ∃ t, exec (.absent p m n r) s = .next t ∧ (t.flow p).markers = (s.flow p).markers ++ [(m.toNat, n.toNat, r.toNat)] ∧ t.mem = s.mem ∧ t.fab.ports = s.fab.ports) ∧
  (∀ (p : Fin 16) (h : FrameHdr) (bs : List (List Byte)) (s : State) (x : SwPeer),
    x = peerCredit (if h.kind = 1 then 0 else h.credit.toNat) (peerAck h.ack.toNat (swPeer s p h.srcRank.toNat)) →
    (((s.port p).state ≠ 6 ∨ 3 ≤ h.kind.toNat) → exec (.switchedFrame p h bs) s = .next s) ∧
    ((s.port p).state = 6 → h.kind.toNat ≤ 2 → Wired s → Tab.wf {} (s.flow p).peers = true →
      ((h.kind = 2 ∨ h.seq.toNat ≠ x.rxNext) → ∃ t, exec (.switchedFrame p h bs) s = .next t ∧ swPeer t p h.srcRank.toNat = x ∧ t.mem = s.mem) ∧
      (h.kind ≠ 2 → h.seq.toNat = x.rxNext → ∃ t, exec (.switchedFrame p h bs) s = .next t ∧
        (swPeer t p h.srcRank.toNat).rxNext = (x.rxNext + 1) % 2 ^ 32 ∧ (swPeer t p h.srcRank.toNat).ackDue = true ∧
        (swPeer t p h.srcRank.toNat).toReturn = x.toReturn + (if h.kind = 0 then bs.length else 0)))) ∧
  (∀ (p : Fin 16) (r : BitVec 15) (s : State) (x : SwPeer), x = swPeer s p r.toNat →
    (x.unacked = [] → exec (.switchedResend p r) s = .next s) ∧
    (∀ u us, x.unacked = u :: us → ∃ t, exec (.switchedResend p r) s = .next t ∧ t.mem = s.mem ∧
      (x.resends < 16 → (swPeer t p r.toNat).unacked = x.unacked ∧ (swPeer t p r.toNat).resends = x.resends + 1) ∧
      (16 ≤ x.resends → (swPeer t p r.toNat).unacked = { u with bodies := [] } :: us ∧ (swPeer t p r.toNat).resends = 0 ∧
        (swPeer t p r.toNat).credits = x.credits + u.credit))) ∧
  (∀ (p : Fin 16) (s : State), exec (.pauseRx p) s = .next (s.countPort p 16 1))

/-- PORT_CONFIG, PORT_MEASURE, PORT_RETRAIN, PORT_STATUS, PARTNER_TABLE, SET_MAC, SYNT_HOLDOVER, SYNT_LOST, SYNT_LOCK. -/
def Obligations.FabricCommandsComplete : Prop :=
  (∀ (m : Fin 64) (s t : State) (c : Cmd), taken { fields := [(0, 17), (18, 9), (28, 4)] } 0x0401 m s = some (c, t) →
    (∀ o, portConfigBad c = some o → Replies (.portConfig m) s c { status := .badArgument, detail := 32 + o } t) ∧
    (portConfigBad c = none → (portsOf (c.at_ 0 2)).any (fun p => portConfigMoves t c p && bundleUses t p) = true →
      Replies (.portConfig m) s c { status := .refusedMode } t) ∧
    (portConfigBad c = none → (portsOf (c.at_ 0 2)).any (fun p => portConfigMoves t c p && bundleUses t p) = false → Wired t →
      ∃ u, Replies (.portConfig m) s c { status := .ok } u ∧ u.mem = t.mem ∧ u.plots = t.plots ∧
        u.fab.domain = (if natBit 2 (c.at_ 28 4) then c.at_ 4 4 else t.fab.domain) ∧
        (∀ p, p < 16 → natBit p (c.at_ 0 2) = true →
          (u.port p).enable = (if natBit 0 (c.at_ 28 4) then c.at_ 2 1 == 1 else (t.port p).enable) ∧
          (u.port p).switched = (if natBit 1 (c.at_ 28 4) then c.at_ 3 1 == 1 else (t.port p).switched) ∧
          (u.port p).medium = (if natBit 3 (c.at_ 28 4) then c.at_ 8 1 else (t.port p).medium) ∧
          (u.port p).autoRetrain = (if natBit 4 (c.at_ 28 4) then c.at_ 9 1 == 1 else (t.port p).autoRetrain) ∧
          (u.port p).userPs = (if natBit 5 (c.at_ 28 4) then c.at_ 10 2 else (t.port p).userPs) ∧
          (u.port p).opticPs = (if natBit 6 (c.at_ 28 4) then c.at_ 12 2 else (t.port p).opticPs) ∧
          (u.port p).carrierPs = (if natBit 7 (c.at_ 28 4) then c.at_ 14 2 else (t.port p).carrierPs) ∧
          (u.port p).maxPower = (if natBit 8 (c.at_ 28 4) then c.at_ 16 1 else (t.port p).maxPower) ∧
          (u.port p).ethertype = (if natBit 10 (c.at_ 28 4) then c.at_ 22 2 else (t.port p).ethertype) ∧
          (u.port p).vlan = (if natBit 11 (c.at_ 28 4) then c.at_ 24 2 else (t.port p).vlan) ∧
          (u.port p).maxBodies = (if natBit 12 (c.at_ 28 4) then c.at_ 26 1 else (t.port p).maxBodies) ∧
          ((u.port p).enable = false → (u.port p).state = 0) ∧
          ((u.port p).enable = true → (t.port p).state = 0 → (u.port p).state = 1 ∧ (u.port p).stage = 1)) ∧
        (∀ p, natBit p (c.at_ 0 2) = false → (u.port p).enable = (t.port p).enable ∧ (u.port p).state = (t.port p).state))) ∧
  (∀ (m : Fin 64) (es : List (Nat × Nat)) (off : Int) (s t : State) (c : Cmd) (p : Nat), taken { fields := [(0, 1)] } 0x0402 m s = some (c, t) → p = c.at_ 0 1 →
    (16 ≤ p → Replies (.portMeasure m es off) s c { status := .notPresent } t) ∧
    (p < 16 → ((t.port p).state < 3 ∨ 6 < (t.port p).state) → Replies (.portMeasure m es off) s c { status := .refusedMode } t) ∧
    (∀ ds d u bs, p < 16 → 3 ≤ (t.port p).state → (t.port p).state ≤ 6 → es ≠ [] →
      ds = (if (t.port p).state = 6 then es.map (fun e => e.1 - e.2) else exchDelays es) → d = units25 (medianNat ds) →
      u = (if (t.port p).state = 6 then t else t.onPort p (fun q => { q with delay := d })) →
      bs = leBytes 4 d ++ leBytes 4 (units25 (ds.foldl min (ds.headD 0))) ++ leBytes 4 (units25 (ds.foldl max 0))
        ++ leBytes 4 (lengthCm (u.port p)) ++ leBytes 4 (intBits 32 off) →
      Replies (.portMeasure m es off) s c { status := .ok, inline := bs } u)) ∧
  (∀ (m : Fin 64) (s t : State) (c : Cmd) (p : Nat), taken { fields := [(0, 1)] } 0x0403 m s = some (c, t) → p = c.at_ 0 1 →
    (16 ≤ p → Replies (.portRetrain m) s c { status := .notPresent } t) ∧
    (p < 16 → (t.port p).enable = false → Replies (.portRetrain m) s c { status := .refusedMode } t) ∧
    (p < 16 → (t.port p).enable = true → ∃ u, Replies (.portRetrain m) s c { status := .ok } u ∧ (u.port p).state = 2 ∧ (u.port p).stage = 2 ∧
      u.mem = t.mem ∧ u.plots = t.plots ∧ ∀ q, q ≠ p → u.port q = t.port q)) ∧
  (∀ (m : Fin 64) (s t : State) (c : Cmd) (ps : List Nat), taken { fields := [(0, 2)], hasRes := true } 0x0404 m s = some (c, t) → ps = portsOf (c.at_ 0 2) →
    (c.resLen < 64 * ps.length → Replies (.portStatus m) s c { status := .badArgument, detail := 20 } t) ∧
    (64 * ps.length ≤ c.resLen → ∃ bs, bs = (ps.map (portStatusBytes t)).flatten ∧ bs.length = 64 * ps.length ∧
      Replies (.portStatus m) s c { status := .ok, inline := leBytes 1 ps.length, res := bs } t)) ∧
  (∀ (m : Fin 64) (s t : State) (c : Cmd), taken { fields := [(0, 1), (4, 4)], hasRes := true } 0x0405 m s = some (c, t) →
    (2 ≤ c.at_ 0 1 → Replies (.partnerTable m) s c { status := .badArgument, detail := 32 } t) ∧
    (c.at_ 0 1 = 0 → c.resLen < 1024 → Replies (.partnerTable m) s c { status := .badArgument, detail := 20 } t) ∧
    (c.at_ 0 1 = 0 → 1024 ≤ c.resLen → ∃ bs, Replies (.partnerTable m) s c { status := .ok, res := bs } t ∧ bs.length = 1024 ∧
      ∀ p, p < 16 → slice bs (64 * p) 64 = (match (t.port p).partner with | some r => capBytes r | none => zeros 64))) ∧
  (∀ (m : Fin 64) (s t : State) (c : Cmd) (n : Nat), taken { fields := [(0, 1), (4, 4)], argOk := fun _ => true } 0x0405 m s = some (c, t) → c.at_ 0 1 = 1 →
    n = c.at_ 4 4 →
    (1024 < n → Replies (.setMac m) s c { status := .badArgument, detail := 36 } t) ∧
    (n ≤ 1024 → c.argLen = 8 * n → (∀ i < n, leAt c.arg (8 * i) 2 ≤ 0x7FFF) → ((List.range n).map (fun i => leAt c.arg (8 * i) 2)).Nodup →
      ∃ u, Replies (.setMac m) s c { status := .ok } u ∧ u.mem = t.mem ∧ u.fab.ports = t.fab.ports ∧
        (∀ i < n, u.fab.macs.get 0 (leAt c.arg (8 * i) 2) = leNat (slice c.arg (8 * i + 2) 6).reverse + 1) ∧
        (∀ r, (∀ i < n, leAt c.arg (8 * i) 2 ≠ r) → u.fab.macs.get 0 r = 0))) ∧
  (∀ s : State, (s.fab.synt ≠ 1 → exec .syntHoldover s = .next s) ∧ (s.fab.synt ≠ 2 → exec .syntLost s = .next s) ∧
    (s.fab.synt = 1 → ∃ t, exec .syntHoldover s = .next t ∧ t.fab.synt = 2 ∧ t.fab.steer = s.fab.steer ∧ stickyBit t 5 10 = true ∧ t.mem = s.mem) ∧
    (s.fab.synt = 2 → ∃ t, exec .syntLost s = .next t ∧ t.fab.synt = 3 ∧ stickyBit t 5 11 = true ∧ t.mem = s.mem)) ∧
  (∀ (p : Fin 16) (w : BitVec 32) (s : State), s.fab.syntRoot = false →
    (s.fab.syntUp.find? (usableSource s) = some p.val → ∃ t, exec (.syntLock (some p) w) s = .next t ∧ t.fab.synt = 1 ∧ t.fab.syntPort = p.val ∧
      t.fab.steer = w ∧ (t.port p).syntSrc = true ∧ t.fab.syntWait = (s.fab.syntWait || s.fab.synt == 3) ∧ t.mem = s.mem) ∧
    (s.fab.syntUp.find? (usableSource s) ≠ some p.val → exec (.syntLock (some p) w) s = .next s)) ∧
  (∀ (w : BitVec 32) (s : State), (s.fab.syntRoot = false → exec (.syntLock none w) s = .next s) ∧
    (s.fab.syntRoot = true → exec (.syntLock none w) s = .next (s.onFab (fun f => { f with synt := 0, syntPort := 0, steer := 0 })) ∧
      ∀ p, exec (.syntLock (some p) w) s = .next s))

/-! ### Bundles, batches, park and releases (11, 13) -/

/-- BUNDLE_LOAD, BUNDLE_ACTIVATE, BUNDLE_COORD_FAIL, STEP_ARM, STEP_STATUS, UNPARK. The section contents of a bundle are an operand
(log 8). -/
def Obligations.BundlesBatchesAndUnparkComplete : Prop :=
  (∀ (m : Fin 64) (y : BundleBody) (s t : State) (c : Cmd) (b : Bundle), taken { argOk := fun _ => true } 0x0501 m s = some (c, t) → b = ⟨headerOf c.arg, y⟩ →
    (activatePending t = true → Replies (.bundleLoad m y) s c { status := .busy } t) ∧
    (∀ v, activatePending t = false → admission t c.arg b = some v → Replies (.bundleLoad m y) s c { status := v.status, inline := v.inline } t) ∧
    (activatePending t = false → leAt c.arg 0 4 ≠ 0x31425358 →
      Replies (.bundleLoad m y) s c { status := .refusedVersion, inline := [1] ++ zeros 19 } t) ∧
    (activatePending t = false → admission t c.arg b = none → ∃ u, Replies (.bundleLoad m y) s c { status := .ok, inline := zeros 20 } u ∧
      u.sch.staged = some b ∧ u.sch.active = t.sch.active ∧ u.mem = t.mem ∧ u.plots = t.plots ∧ u.fab = t.fab)) ∧
  (∀ (m : Fin 64) (s t : State) (c : Cmd), taken { fields := [(0, 8), (8, 8)] } 0x0502 m s = some (c, t) →
    (t.sch.staged = none → Replies (.bundleActivate m) s c { status := .notPresent } t) ∧
    (∀ b, t.sch.staged = some b →
      (c.at_ 0 8 ≠ b.hdr.scheduleId → Replies (.bundleActivate m) s c { status := .badArgument, detail := 32 } t) ∧
      (c.at_ 0 8 = b.hdr.scheduleId → c.at_ 8 8 < t.sch.step → Replies (.bundleActivate m) s c { status := .badArgument, detail := 40 } t) ∧
      (c.at_ 0 8 = b.hdr.scheduleId → t.sch.step ≤ c.at_ 8 8 → (t.hasBundle = true ∨ t.sch.restore ≤ c.at_ 8 8) → activatePending t = false →
        caskConflict t b = false → exec (.bundleActivate m) s = .next (announce s
          ((tallyOwn 0 [] t).onMbx c.m (fun x => { x with coord := some ⟨0, c.slot, c.arg⟩ })))))) ∧
  (∀ (m : Fin 64) (s : State), (heldCmd s m = none → exec (.bundleCoordFail m) s = .next s) ∧
    (∀ c, heldCmd s m = some c → c.op = 0x0502 → ∃ t u, t = event 7 13 0x71 [u.sch.step, u.sch.epoch, c.at_ 0 8] u ∧ u = tallyWithdraw 0 s ∧
      exec (.bundleCoordFail m) s = .next (respond c { status := .interrupted } t) ∧ stickyBit t 7 13 = true ∧ t.mem = s.mem)) ∧
  (∀ (m : Fin 64) (s t : State) (c : Cmd) (n : Nat), taken { fields := [(0, 8)], argOk := fun n => decide (64 ≤ n) } 0x0503 m s = some (c, t) → n = c.at_ 0 8 →
    (t.hasBundle = false → Replies (.stepArm m) s c { status := .refusedMode } t) ∧
    (∀ o, t.hasBundle = true → batchBad t.body n c.arg = some o → Replies (.stepArm m) s c { status := .badArgument, detail := 0x80000000 + o } t) ∧
    (t.hasBundle = true → batchBad t.body n c.arg = none → c.arg.length ≤ t.body.batchBytes →
      (t.sch.step + 2 < n → Replies (.stepArm m) s c { status := .refusedCapacity } t) ∧
      (n ≤ t.sch.step + 2 → t.sch.armed.get 0 n ≠ 0 → Replies (.stepArm m) s c { status := .refusedMode } t) ∧
      (t.sch.armed.get 0 n = 0 → (n ≤ t.sch.step ∨ (n = t.sch.step + 1 ∧ t.sch.lookDone = true)) → Replies (.stepArm m) s c { status := .refusedDeadline } t) ∧
      (∀ a, t.sch.step < n → n ≤ t.sch.step + 2 → (n = t.sch.step + 1 → t.sch.lookDone = false) → t.sch.armed.get 0 n = 0 →
        a = t.body.batchBase + n % 3 * t.body.batchBytes → ∃ u, Replies (.stepArm m) s c { status := .ok } u ∧ u.sch.armed.get 0 n = a + 1 ∧
          u.mem = (devWrite reqMaltster .none a c.arg t).mem ∧ u.sch.step = t.sch.step ∧ u.ltr = t.ltr))) ∧
  (∀ (m : Fin 64) (s t : State) (c : Cmd) (n : Nat), taken { fields := [(0, 8), (8, 1)], hasRes := true } 0x0504 m s = some (c, t) → n = c.at_ 0 8 →
    (1 < c.at_ 8 1 → Replies (.stepStatus m) s c { status := .badArgument, detail := 40 } t) ∧
    (c.at_ 8 1 = 0 → n ≤ t.sch.step + 2 → t.sch.step ≤ n → ∃ bs, bs = leBytes 4 (stepState t n) ++
      leBytes 4 (if n = t.sch.step then t.sch.events else (t.sch.recs.get {} n).nonfinite) ++ leBytes 4 (t.sch.recs.get {} n).replays ++ leBytes 2 0 ∧
      Replies (.stepStatus m) s c { status := .ok, inline := bs } t) ∧
    (∀ es, c.at_ 8 1 = 1 → es = (t.sch.replays.filter (fun e => !e.read)).take (c.resLen / 16) → ∃ bs u,
      Replies (.stepStatus m) s c { status := .ok, inline := bs, res := (es.map ReplayEntry.bytes).flatten } u ∧ slice bs 12 2 = leBytes 2 es.length ∧
        (u.sch.replays.filter (fun e => !e.read)) = (t.sch.replays.filter (fun e => !e.read)).drop (c.resLen / 16) ∧
        u.sch.replays.length = t.sch.replays.length ∧ u.mem = t.mem)) ∧
  (∀ (m : Fin 64) (s t : State) (c : Cmd), taken {} 0x0105 m s = some (c, t) →
    (parkedOrPending t = false → Replies (.unpark m) s c { status := .refusedMode } t) ∧
    (parkedOrPending t = true → t.hk.belowWarn = false → t.mst.mode ≠ .hold → t.mst.mode ≠ .shuttingDown →
      (t.sch.active = none → ∃ u, Replies (.unpark m) s c { status := .ok } u ∧ u.mst.mode = (if t.mst.mode = .parked then .ready else t.mst.mode) ∧
        u.mst.parkPending = false ∧ u.mst.parkCause = 0 ∧ u.host.detached = false ∧ u.mem = t.mem ∧ u.plots = t.plots) ∧
      (∀ b v, t.sch.active = some b → unparkFail t b = some v → Replies (.unpark m) s c { status := v.status, inline := v.inline } t) ∧
      (∀ b, t.sch.active = some b → unparkFail t b = none → parked t = true → ∃ u, Replies (.unpark m) s c { status := .ok, step := some (lookStep t) } u ∧
        u.mst.unparkPending = true ∧ u.mst.mode = t.mst.mode ∧ u.host.detached = false ∧ u.mem = t.mem ∧ u.plots = t.plots ∧
        u.sch.latches = t.sch.latches.filter (fun l => l.what != .unpark) ++ [⟨true, false, .unpark⟩])))

/-- RELEASE_ACT. -/
def Obligations.ReleasesAreActedOnOnce : Prop :=
  (∀ (fid : Fin 64) (s : State), s.fab.rel.get none fid = none → exec (.releaseAct fid) s = .next s) ∧
  (∀ (fid : Fin 64) (s : State) (r : Release) (d : TallyDef) (nd : TreeNode), s.fab.rel.get none fid = some r → fabricTally s fid = some (d, nd) →
    d.kind = .barrier → d.posts = [] → (∀ m, m < 64 → (s.mbx m).coord = none) → s.grn.tables = [] → Tab.wf none s.fab.rel = true → Tab.wf {} s.fab.tallies = true →
    ∃ t, exec (.releaseAct fid) s = .next t ∧ t.fab.rel.get none fid = none ∧ (t.tally d.n).count = 0 ∧ (t.tally d.n).sent = false ∧
      (t.tally d.n).gen = ((s.tally d.n).gen + 1) % 256 ∧ (∀ n, n ≠ d.n → t.tally n = s.tally n) ∧ t.mem = s.mem ∧ t.plots = s.plots ∧ t.sch = s.sch ∧
      t.mst = s.mst) ∧
  (∀ (s : State) (r : Release) (d : TallyDef) (nd : TreeNode) (m : Nat) (c : Cmd) (b : Bundle), s.fab.rel.get none 0 = some r → fabricTally s 0 = some (d, nd) →
    d.kind = .barrier → m < 64 → (s.mbx m).coord = some ⟨0, c.slot, c.arg⟩ → c.m = m → c.op = 0x0502 → (∀ j, j < 64 → j ≠ m → (s.mbx j).coord = none) →
    s.hasBundle = false → s.sch.staged = some b → s.sch.latches = [] → s.mst.mode = .ready → Tab.wf {} s.mst.mbx = true →
    ∃ t, exec (.releaseAct 0) s = .next t ∧ t.sch.active = some b ∧ t.sch.staged = none ∧ t.sch.step = c.at_ 8 8 % 2 ^ 32 ∧ t.mst.mode = .running ∧
      (t.mbx m).coord = none) ∧
  (∀ (s : State) (r : Release) (d : TallyDef) (nd : TreeNode) (e : PlanEntry), s.fab.rel.get none 1 = some r → fabricTally s 1 = some (d, nd) → d.kind = .epoch →
    s.hasBundle = true → e = planNow s → s.mst.mode ≠ .hold → s.mst.mode ≠ .shuttingDown →
    (e.opensStep = false → e.opensUpdate = false →
      (s.body.plan.getD ((s.sch.planIdx + 1) % max 1 s.body.plan.length) ⟨0, 0, false, false, false⟩).lookahead = false → Tab.wf {} s.fab.flows = true →
      ∃ t, exec (.releaseAct 1) s = .next t ∧ t.sch.epoch = r.epoch ∧ t.sch.template = r.template ∧
        t.sch.planIdx = (s.sch.planIdx + 1) % max 1 s.body.plan.length ∧ t.sch.step = s.sch.step ∧ t.sch.arrived = false ∧
        ∀ p, p < 16 → (t.flow p).t = 0 ∧ (t.flow p).checked = []) ∧
    (e.opensStep = true → ∃ t, exec (.releaseAct 1) s = .next t ∧ t.sch.step = (s.sch.step + 1) % 2 ^ 32 ∧ t.sch.epoch = r.epoch ∧ t.sch.planIdx = 0))

/-! ### Number formats (04) -/

/-- Decode and encode agree on every finite encoding of the floating-point formats. -/
def Obligations.FiniteEncodingsRoundToThemselves : Prop :=
  ∀ (f : Fmt) (L : FLayout) (c : Nat) (neg : Bool) (m : Nat) (e : Int), f.layout = some L → c < 2 ^ (1 + L.eb + L.fb) → L.decode c = .fin neg m e →
    L.conv (L.decode c) = (c, {}) ∧ (∀ u, u < 2 ^ 24 → L.sr u (L.decode c) = (c, {})) ∧ L.arith (L.decode c) = (c, {})
end

