-- ==== Sys2Proof/Laws/Tab.lean ====
section
/-! SUPPORT. The laws of sparse tables: what a key reads as after a write, and that every write keeps the canonical form. -/

namespace Sys2Proof

variable {α : Type}

@[simp] theorem Tab.get_nil (d : α) (k : Nat) : Tab.get d [] k = d := rfl

/-! ### Reads after writes -/

theorem Tab.get_insert_self (d : α) (t : Tab α) (k : Nat) (v : α) : Tab.get d (Tab.insert t k v) k = v := by
  induction t with
  | nil => simp [Tab.insert, Tab.get]
  | cons x t ih =>
    obtain ⟨j, w⟩ := x
    unfold Tab.insert
    split
    · simp [Tab.get]
    · split
      · simp [Tab.get]
      · rename_i h1 h2; simp [Tab.get, h1, h2, ih]

theorem Tab.get_insert_other (d : α) (t : Tab α) (k i : Nat) (v : α) (h : i ≠ k) :
    Tab.get d (Tab.insert t k v) i = Tab.get d t i := by
  induction t with
  | nil =>
    simp only [Tab.insert, Tab.get]
    split
    · omega
    · split <;> rfl
  | cons x t ih =>
    obtain ⟨j, w⟩ := x
    unfold Tab.insert
    split
    · rename_i h1; subst h1
      simp only [Tab.get]
      split
      · omega
      · rfl
    · split
      · rename_i h1 h2
        simp only [Tab.get]
        split
        · omega
        · split
          · rw [if_neg (by omega), if_pos (by omega)]
          · rfl
      · simp only [Tab.get, ih]

/-- A table whose keys are all above k reads its default there. -/
theorem Tab.get_below [DecidableEq α] (d : α) (t : Tab α) (lo k : Nat) (hw : Tab.wfFrom d lo t = true) (hk : k < lo) :
    Tab.get d t k = d := by
  cases t with
  | nil => rfl
  | cons x t =>
    obtain ⟨j, w⟩ := x
    simp only [Tab.wfFrom, Bool.and_eq_true, decide_eq_true_eq] at hw
    simp only [Tab.get]
    rw [if_neg (by omega), if_pos (by omega)]

theorem Tab.get_erase_self [DecidableEq α] (d : α) (t : Tab α) (lo k : Nat) (hw : Tab.wfFrom d lo t = true) :
    Tab.get d (Tab.erase t k) k = d := by
  induction t generalizing lo with
  | nil => rfl
  | cons x t ih =>
    obtain ⟨j, w⟩ := x
    simp only [Tab.wfFrom, Bool.and_eq_true, decide_eq_true_eq] at hw
    unfold Tab.erase
    split
    · exact Tab.get_below d t (j + 1) k hw.2 (by omega)
    · split
      · rename_i h1 h2; simp only [Tab.get, if_neg h1, if_pos h2]
      · rename_i h1 h2; simp only [Tab.get, if_neg h1, if_neg h2]; exact ih _ hw.2

theorem Tab.get_erase_other [DecidableEq α] (d : α) (t : Tab α) (lo k i : Nat) (hw : Tab.wfFrom d lo t = true) (h : i ≠ k) :
    Tab.get d (Tab.erase t k) i = Tab.get d t i := by
  induction t generalizing lo with
  | nil => rfl
  | cons x t ih =>
    obtain ⟨j, w⟩ := x
    simp only [Tab.wfFrom, Bool.and_eq_true, decide_eq_true_eq] at hw
    unfold Tab.erase
    split
    · rename_i h1
      simp only [Tab.get]
      rw [if_neg (by omega)]
      split
      · exact Tab.get_below d t (j + 1) i hw.2 (by omega)
      · rfl
    · split
      · rfl
      · simp only [Tab.get, ih _ hw.2]

/-- What was written is read. -/
theorem Tab.get_set_self [DecidableEq α] (d : α) (t : Tab α) (k : Nat) (v : α) (hw : Tab.wf d t = true) :
    Tab.get d (Tab.set d t k v) k = v := by
  unfold Tab.set
  split
  · rename_i h; rw [h]; exact Tab.get_erase_self d t 0 k hw
  · exact Tab.get_insert_self d t k v

/-- A written value that is not the default is read, whatever the table. -/
theorem Tab.get_set_of_ne [DecidableEq α] (d : α) (t : Tab α) (k : Nat) (v : α) (hv : v ≠ d) :
    Tab.get d (Tab.set d t k v) k = v := by
  unfold Tab.set; rw [if_neg hv]; exact Tab.get_insert_self d t k v

/-- Every other key reads as before. -/
theorem Tab.get_set_other [DecidableEq α] (d : α) (t : Tab α) (k i : Nat) (v : α) (hw : Tab.wf d t = true) (h : i ≠ k) :
    Tab.get d (Tab.set d t k v) i = Tab.get d t i := by
  unfold Tab.set
  split
  · exact Tab.get_erase_other d t 0 k i hw h
  · exact Tab.get_insert_other d t k i v h

theorem Tab.get_set [DecidableEq α] (d : α) (t : Tab α) (k i : Nat) (v : α) (hw : Tab.wf d t = true) :
    Tab.get d (Tab.set d t k v) i = if i = k then v else Tab.get d t i := by
  split
  · rename_i h; rw [h]; exact Tab.get_set_self d t k v hw
  · rename_i h; exact Tab.get_set_other d t k i v hw h

theorem Tab.get_modify [DecidableEq α] (d : α) (t : Tab α) (k i : Nat) (f : α → α) (hw : Tab.wf d t = true) :
    Tab.get d (Tab.modify d t k f) i = if i = k then f (Tab.get d t k) else Tab.get d t i :=
  Tab.get_set d t k i _ hw

/-! ### The canonical form is kept -/

theorem Tab.wfFrom_mono [DecidableEq α] (d : α) (t : Tab α) (lo hi : Nat) (h : lo ≤ hi) (hw : Tab.wfFrom d hi t = true) :
    Tab.wfFrom d lo t = true := by
  cases t with
  | nil => rfl
  | cons x t =>
    obtain ⟨j, w⟩ := x
    simp only [Tab.wfFrom, Bool.and_eq_true, decide_eq_true_eq] at hw ⊢
    exact ⟨⟨by omega, hw.1.2⟩, hw.2⟩

theorem Tab.wfFrom_insert [DecidableEq α] (d : α) (t : Tab α) (lo k : Nat) (v : α) (hw : Tab.wfFrom d lo t = true)
    (hv : v ≠ d) (hk : lo ≤ k) : Tab.wfFrom d lo (Tab.insert t k v) = true := by
  induction t generalizing lo with
  | nil => simp [Tab.insert, Tab.wfFrom, hv, hk]
  | cons x t ih =>
    obtain ⟨j, w⟩ := x
    simp only [Tab.wfFrom, Bool.and_eq_true, decide_eq_true_eq] at hw
    unfold Tab.insert
    split
    · rename_i h; subst h
      simp [Tab.wfFrom, hv, hk, hw.2]
    · split
      · rename_i h1 h2
        simp only [Tab.wfFrom, Bool.and_eq_true, decide_eq_true_eq]
        exact ⟨⟨hk, hv⟩, ⟨by omega, hw.1.2⟩, hw.2⟩
      · rename_i h1 h2
        simp only [Tab.wfFrom, Bool.and_eq_true, decide_eq_true_eq]
        exact ⟨hw.1, ih (j + 1) hw.2 (by omega)⟩

theorem Tab.wfFrom_erase [DecidableEq α] (d : α) (t : Tab α) (lo k : Nat) (hw : Tab.wfFrom d lo t = true) :
    Tab.wfFrom d lo (Tab.erase t k) = true := by
  induction t generalizing lo with
  | nil => rfl
  | cons x t ih =>
    obtain ⟨j, w⟩ := x
    have hw' := hw
    simp only [Tab.wfFrom, Bool.and_eq_true, decide_eq_true_eq] at hw
    unfold Tab.erase
    split
    · exact Tab.wfFrom_mono d t lo (j + 1) (by omega) hw.2
    · split
      · exact hw'
      · simp only [Tab.wfFrom, Bool.and_eq_true, decide_eq_true_eq]
        exact ⟨hw.1, ih (j + 1) hw.2⟩

theorem Tab.wf_set [DecidableEq α] (d : α) (t : Tab α) (k : Nat) (v : α) (hw : Tab.wf d t = true) :
    Tab.wf d (Tab.set d t k v) = true := by
  unfold Tab.set
  split
  · exact Tab.wfFrom_erase d t 0 k hw
  · rename_i h; exact Tab.wfFrom_insert d t 0 k v hw h (Nat.zero_le k)

theorem Tab.wf_modify [DecidableEq α] (d : α) (t : Tab α) (k : Nat) (f : α → α) (hw : Tab.wf d t = true) :
    Tab.wf d (Tab.modify d t k f) = true := Tab.wf_set d t k _ hw

theorem Tab.wf_setMany [DecidableEq α] (d : α) (t : Tab α) (k : Nat) (vs : List α) (hw : Tab.wf d t = true) :
    Tab.wf d (Tab.setMany d t k vs) = true := by
  induction vs generalizing t k with
  | nil => exact hw
  | cons v vs ih => exact ih _ _ (Tab.wf_set d t k v hw)

theorem Tab.wfFrom_filter [DecidableEq α] (d : α) (p : Nat × α → Bool) (t : Tab α) (lo : Nat) (hw : Tab.wfFrom d lo t = true) :
    Tab.wfFrom d lo (t.filter p) = true := by
  induction t generalizing lo with
  | nil => rfl
  | cons x t ih =>
    obtain ⟨j, w⟩ := x
    simp only [Tab.wfFrom, Bool.and_eq_true, decide_eq_true_eq] at hw
    rw [List.filter_cons]
    split
    · simp only [Tab.wfFrom, Bool.and_eq_true, decide_eq_true_eq]
      exact ⟨hw.1, ih _ hw.2⟩
    · exact ih _ (Tab.wfFrom_mono d t lo (j + 1) (by omega) hw.2)

theorem Tab.wf_filter [DecidableEq α] (d : α) (p : Nat × α → Bool) (t : Tab α) (hw : Tab.wf d t = true) :
    Tab.wf d (t.filter p) = true := Tab.wfFrom_filter d p t 0 hw

/-- Writing consecutive keys: those keys read as written, every other one as before. -/
theorem Tab.get_setMany [DecidableEq α] (d : α) (t : Tab α) (k : Nat) (vs : List α) (i : Nat) (hw : Tab.wf d t = true) :
    Tab.get d (Tab.setMany d t k vs) i = if k ≤ i ∧ i < k + vs.length then vs.getD (i - k) d else Tab.get d t i := by
  induction vs generalizing t k with
  | nil => rw [if_neg (by simp only [List.length_nil]; omega)]; rfl
  | cons v vs ih =>
    simp only [Tab.setMany, List.length_cons]
    rw [ih _ _ (Tab.wf_set d t k v hw), Tab.get_set d t k i v hw]
    by_cases h : i = k
    · subst h
      rw [if_neg (by omega), if_pos rfl, if_pos (by omega)]
      simp
    · rw [if_neg h]
      by_cases h2 : k + 1 ≤ i ∧ i < k + 1 + vs.length
      · rw [if_pos h2, if_pos (by omega)]
        obtain ⟨n, hn⟩ : ∃ n, i - k = n + 1 := ⟨i - k - 1, by omega⟩
        rw [hn, show i - (k + 1) = n by omega]
        simp
      · rw [if_neg h2, if_neg (by omega)]

theorem Tab.getMany_eq_map (d : α) (t : Tab α) (k n : Nat) :
    Tab.getMany d t k n = (List.range n).map (fun i => Tab.get d t (k + i)) := by
  induction n generalizing k with
  | zero => rfl
  | succ n ih =>
    rw [Tab.getMany, ih, List.range_succ_eq_map]
    simp [Function.comp_def, Nat.add_assoc, Nat.add_comm 1]

/-- Canonical tables that read alike are the same data. -/
theorem Tab.ext_of_wfFrom [DecidableEq α] (d : α) (t u : Tab α) (lo : Nat) (ht : Tab.wfFrom d lo t = true)
    (hu : Tab.wfFrom d lo u = true) (h : ∀ k, Tab.get d t k = Tab.get d u k) : t = u := by
  induction t generalizing u lo with
  | nil =>
    cases u with
    | nil => rfl
    | cons y u =>
      obtain ⟨j, w⟩ := y
      simp only [Tab.wfFrom, Bool.and_eq_true, decide_eq_true_eq] at hu
      have := h j
      simp only [Tab.get, if_pos] at this
      exact absurd this.symm hu.1.2
  | cons x t ih =>
    obtain ⟨j, w⟩ := x
    simp only [Tab.wfFrom, Bool.and_eq_true, decide_eq_true_eq] at ht
    cases u with
    | nil =>
      have := h j
      simp only [Tab.get, if_pos] at this
      exact absurd this ht.1.2
    | cons y u =>
      obtain ⟨i, v⟩ := y
      simp only [Tab.wfFrom, Bool.and_eq_true, decide_eq_true_eq] at hu
      have hj := h j
      have hi := h i
      simp only [Tab.get, if_pos] at hj hi
      have hij : i = j := by
        rcases Nat.lt_trichotomy i j with hlt | heq | hgt
        · rw [if_neg (by omega), if_pos hlt] at hi
          exact absurd hi.symm hu.1.2
        · exact heq
        · rw [if_neg (by omega), if_pos hgt] at hj
          exact absurd hj ht.1.2
      subst hij
      rw [if_pos rfl] at hj
      subst hj
      rw [ih u (i + 1) ht.2 hu.2 ?_]
      intro k
      by_cases hk : k ≤ i
      · rw [Tab.get_below d t (i + 1) k ht.2 (by omega), Tab.get_below d u (i + 1) k hu.2 (by omega)]
      · have := h k
        simp only [Tab.get] at this
        rwa [if_neg (by omega), if_neg (by omega), if_neg (by omega), if_neg (by omega)] at this

end Sys2Proof
end

