-- ==== Sys2Proof/Laws/State.lean ====
section
/-! SUPPORT. What every update of a part of the state leaves in every field, true by unfolding: later proofs rewrite with
these and never unfold a record update. -/

namespace Sys2Proof.Machine

/-! ### onHk -/

@[simp] theorem State.onHk_hk (f : Housekeeping → Housekeeping) (s : State) : (s.onHk f).hk = f s.hk := rfl
@[simp] theorem State.onHk_fuses (f : Housekeeping → Housekeeping) (s : State) : (s.onHk f).fuses = s.fuses := rfl
@[simp] theorem State.onHk_flash (f : Housekeeping → Housekeeping) (s : State) : (s.onHk f).flash = s.flash := rfl
@[simp] theorem State.onHk_fw (f : Housekeeping → Housekeeping) (s : State) : (s.onHk f).fw = s.fw := rfl
@[simp] theorem State.onHk_mem (f : Housekeeping → Housekeeping) (s : State) : (s.onHk f).mem = s.mem := rfl
@[simp] theorem State.onHk_plots (f : Housekeeping → Housekeeping) (s : State) : (s.onHk f).plots = s.plots := rfl
@[simp] theorem State.onHk_grn (f : Housekeeping → Housekeeping) (s : State) : (s.onHk f).grn = s.grn := rfl
@[simp] theorem State.onHk_ltr (f : Housekeeping → Housekeeping) (s : State) : (s.onHk f).ltr = s.ltr := rfl
@[simp] theorem State.onHk_csk (f : Housekeeping → Housekeeping) (s : State) : (s.onHk f).csk = s.csk := rfl
@[simp] theorem State.onHk_fab (f : Housekeeping → Housekeeping) (s : State) : (s.onHk f).fab = s.fab := rfl
@[simp] theorem State.onHk_host (f : Housekeeping → Housekeeping) (s : State) : (s.onHk f).host = s.host := rfl
@[simp] theorem State.onHk_mst (f : Housekeeping → Housekeeping) (s : State) : (s.onHk f).mst = s.mst := rfl
@[simp] theorem State.onHk_sch (f : Housekeeping → Housekeeping) (s : State) : (s.onHk f).sch = s.sch := rfl
@[simp] theorem State.onHk_ret (f : Housekeeping → Housekeeping) (s : State) : (s.onHk f).ret = s.ret := rfl
@[simp] theorem State.onHk_free (f : Housekeeping → Housekeeping) (s : State) : (s.onHk f).free = s.free := rfl
@[simp] theorem State.onHk_pending (f : Housekeeping → Housekeeping) (s : State) : (s.onHk f).pending = s.pending := rfl

/-! ### onMem -/

@[simp] theorem State.onMem_hk (f : Memory → Memory) (s : State) : (s.onMem f).hk = s.hk := rfl
@[simp] theorem State.onMem_fuses (f : Memory → Memory) (s : State) : (s.onMem f).fuses = s.fuses := rfl
@[simp] theorem State.onMem_flash (f : Memory → Memory) (s : State) : (s.onMem f).flash = s.flash := rfl
@[simp] theorem State.onMem_fw (f : Memory → Memory) (s : State) : (s.onMem f).fw = s.fw := rfl
@[simp] theorem State.onMem_mem (f : Memory → Memory) (s : State) : (s.onMem f).mem = f s.mem := rfl
@[simp] theorem State.onMem_plots (f : Memory → Memory) (s : State) : (s.onMem f).plots = s.plots := rfl
@[simp] theorem State.onMem_grn (f : Memory → Memory) (s : State) : (s.onMem f).grn = s.grn := rfl
@[simp] theorem State.onMem_ltr (f : Memory → Memory) (s : State) : (s.onMem f).ltr = s.ltr := rfl
@[simp] theorem State.onMem_csk (f : Memory → Memory) (s : State) : (s.onMem f).csk = s.csk := rfl
@[simp] theorem State.onMem_fab (f : Memory → Memory) (s : State) : (s.onMem f).fab = s.fab := rfl
@[simp] theorem State.onMem_host (f : Memory → Memory) (s : State) : (s.onMem f).host = s.host := rfl
@[simp] theorem State.onMem_mst (f : Memory → Memory) (s : State) : (s.onMem f).mst = s.mst := rfl
@[simp] theorem State.onMem_sch (f : Memory → Memory) (s : State) : (s.onMem f).sch = s.sch := rfl
@[simp] theorem State.onMem_ret (f : Memory → Memory) (s : State) : (s.onMem f).ret = s.ret := rfl
@[simp] theorem State.onMem_free (f : Memory → Memory) (s : State) : (s.onMem f).free = s.free := rfl
@[simp] theorem State.onMem_pending (f : Memory → Memory) (s : State) : (s.onMem f).pending = s.pending := rfl

/-! ### onGrn -/

@[simp] theorem State.onGrn_hk (f : Granary → Granary) (s : State) : (s.onGrn f).hk = s.hk := rfl
@[simp] theorem State.onGrn_fuses (f : Granary → Granary) (s : State) : (s.onGrn f).fuses = s.fuses := rfl
@[simp] theorem State.onGrn_flash (f : Granary → Granary) (s : State) : (s.onGrn f).flash = s.flash := rfl
@[simp] theorem State.onGrn_fw (f : Granary → Granary) (s : State) : (s.onGrn f).fw = s.fw := rfl
@[simp] theorem State.onGrn_mem (f : Granary → Granary) (s : State) : (s.onGrn f).mem = s.mem := rfl
@[simp] theorem State.onGrn_plots (f : Granary → Granary) (s : State) : (s.onGrn f).plots = s.plots := rfl
@[simp] theorem State.onGrn_grn (f : Granary → Granary) (s : State) : (s.onGrn f).grn = f s.grn := rfl
@[simp] theorem State.onGrn_ltr (f : Granary → Granary) (s : State) : (s.onGrn f).ltr = s.ltr := rfl
@[simp] theorem State.onGrn_csk (f : Granary → Granary) (s : State) : (s.onGrn f).csk = s.csk := rfl
@[simp] theorem State.onGrn_fab (f : Granary → Granary) (s : State) : (s.onGrn f).fab = s.fab := rfl
@[simp] theorem State.onGrn_host (f : Granary → Granary) (s : State) : (s.onGrn f).host = s.host := rfl
@[simp] theorem State.onGrn_mst (f : Granary → Granary) (s : State) : (s.onGrn f).mst = s.mst := rfl
@[simp] theorem State.onGrn_sch (f : Granary → Granary) (s : State) : (s.onGrn f).sch = s.sch := rfl
@[simp] theorem State.onGrn_ret (f : Granary → Granary) (s : State) : (s.onGrn f).ret = s.ret := rfl
@[simp] theorem State.onGrn_free (f : Granary → Granary) (s : State) : (s.onGrn f).free = s.free := rfl
@[simp] theorem State.onGrn_pending (f : Granary → Granary) (s : State) : (s.onGrn f).pending = s.pending := rfl

/-! ### onLtr -/

@[simp] theorem State.onLtr_hk (f : Lauter → Lauter) (s : State) : (s.onLtr f).hk = s.hk := rfl
@[simp] theorem State.onLtr_fuses (f : Lauter → Lauter) (s : State) : (s.onLtr f).fuses = s.fuses := rfl
@[simp] theorem State.onLtr_flash (f : Lauter → Lauter) (s : State) : (s.onLtr f).flash = s.flash := rfl
@[simp] theorem State.onLtr_fw (f : Lauter → Lauter) (s : State) : (s.onLtr f).fw = s.fw := rfl
@[simp] theorem State.onLtr_mem (f : Lauter → Lauter) (s : State) : (s.onLtr f).mem = s.mem := rfl
@[simp] theorem State.onLtr_plots (f : Lauter → Lauter) (s : State) : (s.onLtr f).plots = s.plots := rfl
@[simp] theorem State.onLtr_grn (f : Lauter → Lauter) (s : State) : (s.onLtr f).grn = s.grn := rfl
@[simp] theorem State.onLtr_ltr (f : Lauter → Lauter) (s : State) : (s.onLtr f).ltr = f s.ltr := rfl
@[simp] theorem State.onLtr_csk (f : Lauter → Lauter) (s : State) : (s.onLtr f).csk = s.csk := rfl
@[simp] theorem State.onLtr_fab (f : Lauter → Lauter) (s : State) : (s.onLtr f).fab = s.fab := rfl
@[simp] theorem State.onLtr_host (f : Lauter → Lauter) (s : State) : (s.onLtr f).host = s.host := rfl
@[simp] theorem State.onLtr_mst (f : Lauter → Lauter) (s : State) : (s.onLtr f).mst = s.mst := rfl
@[simp] theorem State.onLtr_sch (f : Lauter → Lauter) (s : State) : (s.onLtr f).sch = s.sch := rfl
@[simp] theorem State.onLtr_ret (f : Lauter → Lauter) (s : State) : (s.onLtr f).ret = s.ret := rfl
@[simp] theorem State.onLtr_free (f : Lauter → Lauter) (s : State) : (s.onLtr f).free = s.free := rfl
@[simp] theorem State.onLtr_pending (f : Lauter → Lauter) (s : State) : (s.onLtr f).pending = s.pending := rfl

/-! ### onCsk -/

@[simp] theorem State.onCsk_hk (f : Cask → Cask) (s : State) : (s.onCsk f).hk = s.hk := rfl
@[simp] theorem State.onCsk_fuses (f : Cask → Cask) (s : State) : (s.onCsk f).fuses = s.fuses := rfl
@[simp] theorem State.onCsk_flash (f : Cask → Cask) (s : State) : (s.onCsk f).flash = s.flash := rfl
@[simp] theorem State.onCsk_fw (f : Cask → Cask) (s : State) : (s.onCsk f).fw = s.fw := rfl
@[simp] theorem State.onCsk_mem (f : Cask → Cask) (s : State) : (s.onCsk f).mem = s.mem := rfl
@[simp] theorem State.onCsk_plots (f : Cask → Cask) (s : State) : (s.onCsk f).plots = s.plots := rfl
@[simp] theorem State.onCsk_grn (f : Cask → Cask) (s : State) : (s.onCsk f).grn = s.grn := rfl
@[simp] theorem State.onCsk_ltr (f : Cask → Cask) (s : State) : (s.onCsk f).ltr = s.ltr := rfl
@[simp] theorem State.onCsk_csk (f : Cask → Cask) (s : State) : (s.onCsk f).csk = f s.csk := rfl
@[simp] theorem State.onCsk_fab (f : Cask → Cask) (s : State) : (s.onCsk f).fab = s.fab := rfl
@[simp] theorem State.onCsk_host (f : Cask → Cask) (s : State) : (s.onCsk f).host = s.host := rfl
@[simp] theorem State.onCsk_mst (f : Cask → Cask) (s : State) : (s.onCsk f).mst = s.mst := rfl
@[simp] theorem State.onCsk_sch (f : Cask → Cask) (s : State) : (s.onCsk f).sch = s.sch := rfl
@[simp] theorem State.onCsk_ret (f : Cask → Cask) (s : State) : (s.onCsk f).ret = s.ret := rfl
@[simp] theorem State.onCsk_free (f : Cask → Cask) (s : State) : (s.onCsk f).free = s.free := rfl
@[simp] theorem State.onCsk_pending (f : Cask → Cask) (s : State) : (s.onCsk f).pending = s.pending := rfl

/-! ### onFab -/

@[simp] theorem State.onFab_hk (f : Fabric → Fabric) (s : State) : (s.onFab f).hk = s.hk := rfl
@[simp] theorem State.onFab_fuses (f : Fabric → Fabric) (s : State) : (s.onFab f).fuses = s.fuses := rfl
@[simp] theorem State.onFab_flash (f : Fabric → Fabric) (s : State) : (s.onFab f).flash = s.flash := rfl
@[simp] theorem State.onFab_fw (f : Fabric → Fabric) (s : State) : (s.onFab f).fw = s.fw := rfl
@[simp] theorem State.onFab_mem (f : Fabric → Fabric) (s : State) : (s.onFab f).mem = s.mem := rfl
@[simp] theorem State.onFab_plots (f : Fabric → Fabric) (s : State) : (s.onFab f).plots = s.plots := rfl
@[simp] theorem State.onFab_grn (f : Fabric → Fabric) (s : State) : (s.onFab f).grn = s.grn := rfl
@[simp] theorem State.onFab_ltr (f : Fabric → Fabric) (s : State) : (s.onFab f).ltr = s.ltr := rfl
@[simp] theorem State.onFab_csk (f : Fabric → Fabric) (s : State) : (s.onFab f).csk = s.csk := rfl
@[simp] theorem State.onFab_fab (f : Fabric → Fabric) (s : State) : (s.onFab f).fab = f s.fab := rfl
@[simp] theorem State.onFab_host (f : Fabric → Fabric) (s : State) : (s.onFab f).host = s.host := rfl
@[simp] theorem State.onFab_mst (f : Fabric → Fabric) (s : State) : (s.onFab f).mst = s.mst := rfl
@[simp] theorem State.onFab_sch (f : Fabric → Fabric) (s : State) : (s.onFab f).sch = s.sch := rfl
@[simp] theorem State.onFab_ret (f : Fabric → Fabric) (s : State) : (s.onFab f).ret = s.ret := rfl
@[simp] theorem State.onFab_free (f : Fabric → Fabric) (s : State) : (s.onFab f).free = s.free := rfl
@[simp] theorem State.onFab_pending (f : Fabric → Fabric) (s : State) : (s.onFab f).pending = s.pending := rfl

/-! ### onHost -/

@[simp] theorem State.onHost_hk (f : HostLink → HostLink) (s : State) : (s.onHost f).hk = s.hk := rfl
@[simp] theorem State.onHost_fuses (f : HostLink → HostLink) (s : State) : (s.onHost f).fuses = s.fuses := rfl
@[simp] theorem State.onHost_flash (f : HostLink → HostLink) (s : State) : (s.onHost f).flash = s.flash := rfl
@[simp] theorem State.onHost_fw (f : HostLink → HostLink) (s : State) : (s.onHost f).fw = s.fw := rfl
@[simp] theorem State.onHost_mem (f : HostLink → HostLink) (s : State) : (s.onHost f).mem = s.mem := rfl
@[simp] theorem State.onHost_plots (f : HostLink → HostLink) (s : State) : (s.onHost f).plots = s.plots := rfl
@[simp] theorem State.onHost_grn (f : HostLink → HostLink) (s : State) : (s.onHost f).grn = s.grn := rfl
@[simp] theorem State.onHost_ltr (f : HostLink → HostLink) (s : State) : (s.onHost f).ltr = s.ltr := rfl
@[simp] theorem State.onHost_csk (f : HostLink → HostLink) (s : State) : (s.onHost f).csk = s.csk := rfl
@[simp] theorem State.onHost_fab (f : HostLink → HostLink) (s : State) : (s.onHost f).fab = s.fab := rfl
@[simp] theorem State.onHost_host (f : HostLink → HostLink) (s : State) : (s.onHost f).host = f s.host := rfl
@[simp] theorem State.onHost_mst (f : HostLink → HostLink) (s : State) : (s.onHost f).mst = s.mst := rfl
@[simp] theorem State.onHost_sch (f : HostLink → HostLink) (s : State) : (s.onHost f).sch = s.sch := rfl
@[simp] theorem State.onHost_ret (f : HostLink → HostLink) (s : State) : (s.onHost f).ret = s.ret := rfl
@[simp] theorem State.onHost_free (f : HostLink → HostLink) (s : State) : (s.onHost f).free = s.free := rfl
@[simp] theorem State.onHost_pending (f : HostLink → HostLink) (s : State) : (s.onHost f).pending = s.pending := rfl

/-! ### onMst -/

@[simp] theorem State.onMst_hk (f : Maltster → Maltster) (s : State) : (s.onMst f).hk = s.hk := rfl
@[simp] theorem State.onMst_fuses (f : Maltster → Maltster) (s : State) : (s.onMst f).fuses = s.fuses := rfl
@[simp] theorem State.onMst_flash (f : Maltster → Maltster) (s : State) : (s.onMst f).flash = s.flash := rfl
@[simp] theorem State.onMst_fw (f : Maltster → Maltster) (s : State) : (s.onMst f).fw = s.fw := rfl
@[simp] theorem State.onMst_mem (f : Maltster → Maltster) (s : State) : (s.onMst f).mem = s.mem := rfl
@[simp] theorem State.onMst_plots (f : Maltster → Maltster) (s : State) : (s.onMst f).plots = s.plots := rfl
@[simp] theorem State.onMst_grn (f : Maltster → Maltster) (s : State) : (s.onMst f).grn = s.grn := rfl
@[simp] theorem State.onMst_ltr (f : Maltster → Maltster) (s : State) : (s.onMst f).ltr = s.ltr := rfl
@[simp] theorem State.onMst_csk (f : Maltster → Maltster) (s : State) : (s.onMst f).csk = s.csk := rfl
@[simp] theorem State.onMst_fab (f : Maltster → Maltster) (s : State) : (s.onMst f).fab = s.fab := rfl
@[simp] theorem State.onMst_host (f : Maltster → Maltster) (s : State) : (s.onMst f).host = s.host := rfl
@[simp] theorem State.onMst_mst (f : Maltster → Maltster) (s : State) : (s.onMst f).mst = f s.mst := rfl
@[simp] theorem State.onMst_sch (f : Maltster → Maltster) (s : State) : (s.onMst f).sch = s.sch := rfl
@[simp] theorem State.onMst_ret (f : Maltster → Maltster) (s : State) : (s.onMst f).ret = s.ret := rfl
@[simp] theorem State.onMst_free (f : Maltster → Maltster) (s : State) : (s.onMst f).free = s.free := rfl
@[simp] theorem State.onMst_pending (f : Maltster → Maltster) (s : State) : (s.onMst f).pending = s.pending := rfl

/-! ### onSch -/

@[simp] theorem State.onSch_hk (f : Schedule → Schedule) (s : State) : (s.onSch f).hk = s.hk := rfl
@[simp] theorem State.onSch_fuses (f : Schedule → Schedule) (s : State) : (s.onSch f).fuses = s.fuses := rfl
@[simp] theorem State.onSch_flash (f : Schedule → Schedule) (s : State) : (s.onSch f).flash = s.flash := rfl
@[simp] theorem State.onSch_fw (f : Schedule → Schedule) (s : State) : (s.onSch f).fw = s.fw := rfl
@[simp] theorem State.onSch_mem (f : Schedule → Schedule) (s : State) : (s.onSch f).mem = s.mem := rfl
@[simp] theorem State.onSch_plots (f : Schedule → Schedule) (s : State) : (s.onSch f).plots = s.plots := rfl
@[simp] theorem State.onSch_grn (f : Schedule → Schedule) (s : State) : (s.onSch f).grn = s.grn := rfl
@[simp] theorem State.onSch_ltr (f : Schedule → Schedule) (s : State) : (s.onSch f).ltr = s.ltr := rfl
@[simp] theorem State.onSch_csk (f : Schedule → Schedule) (s : State) : (s.onSch f).csk = s.csk := rfl
@[simp] theorem State.onSch_fab (f : Schedule → Schedule) (s : State) : (s.onSch f).fab = s.fab := rfl
@[simp] theorem State.onSch_host (f : Schedule → Schedule) (s : State) : (s.onSch f).host = s.host := rfl
@[simp] theorem State.onSch_mst (f : Schedule → Schedule) (s : State) : (s.onSch f).mst = s.mst := rfl
@[simp] theorem State.onSch_sch (f : Schedule → Schedule) (s : State) : (s.onSch f).sch = f s.sch := rfl
@[simp] theorem State.onSch_ret (f : Schedule → Schedule) (s : State) : (s.onSch f).ret = s.ret := rfl
@[simp] theorem State.onSch_free (f : Schedule → Schedule) (s : State) : (s.onSch f).free = s.free := rfl
@[simp] theorem State.onSch_pending (f : Schedule → Schedule) (s : State) : (s.onSch f).pending = s.pending := rfl

/-! ### onPlot -/

@[simp] theorem State.onPlot_hk (p : Nat) (f : Plot → Plot) (s : State) : (s.onPlot p f).hk = s.hk := rfl
@[simp] theorem State.onPlot_fuses (p : Nat) (f : Plot → Plot) (s : State) : (s.onPlot p f).fuses = s.fuses := rfl
@[simp] theorem State.onPlot_flash (p : Nat) (f : Plot → Plot) (s : State) : (s.onPlot p f).flash = s.flash := rfl
@[simp] theorem State.onPlot_fw (p : Nat) (f : Plot → Plot) (s : State) : (s.onPlot p f).fw = s.fw := rfl
@[simp] theorem State.onPlot_mem (p : Nat) (f : Plot → Plot) (s : State) : (s.onPlot p f).mem = s.mem := rfl
@[simp] theorem State.onPlot_plots (p : Nat) (f : Plot → Plot) (s : State) : (s.onPlot p f).plots = s.plots.modify {} p f := rfl
@[simp] theorem State.onPlot_grn (p : Nat) (f : Plot → Plot) (s : State) : (s.onPlot p f).grn = s.grn := rfl
@[simp] theorem State.onPlot_ltr (p : Nat) (f : Plot → Plot) (s : State) : (s.onPlot p f).ltr = s.ltr := rfl
@[simp] theorem State.onPlot_csk (p : Nat) (f : Plot → Plot) (s : State) : (s.onPlot p f).csk = s.csk := rfl
@[simp] theorem State.onPlot_fab (p : Nat) (f : Plot → Plot) (s : State) : (s.onPlot p f).fab = s.fab := rfl
@[simp] theorem State.onPlot_host (p : Nat) (f : Plot → Plot) (s : State) : (s.onPlot p f).host = s.host := rfl
@[simp] theorem State.onPlot_mst (p : Nat) (f : Plot → Plot) (s : State) : (s.onPlot p f).mst = s.mst := rfl
@[simp] theorem State.onPlot_sch (p : Nat) (f : Plot → Plot) (s : State) : (s.onPlot p f).sch = s.sch := rfl
@[simp] theorem State.onPlot_ret (p : Nat) (f : Plot → Plot) (s : State) : (s.onPlot p f).ret = s.ret := rfl
@[simp] theorem State.onPlot_free (p : Nat) (f : Plot → Plot) (s : State) : (s.onPlot p f).free = s.free := rfl
@[simp] theorem State.onPlot_pending (p : Nat) (f : Plot → Plot) (s : State) : (s.onPlot p f).pending = s.pending := rfl

/-! ### onPort -/

@[simp] theorem State.onPort_hk (p : Nat) (f : Port → Port) (s : State) : (s.onPort p f).hk = s.hk := rfl
@[simp] theorem State.onPort_fuses (p : Nat) (f : Port → Port) (s : State) : (s.onPort p f).fuses = s.fuses := rfl
@[simp] theorem State.onPort_flash (p : Nat) (f : Port → Port) (s : State) : (s.onPort p f).flash = s.flash := rfl
@[simp] theorem State.onPort_fw (p : Nat) (f : Port → Port) (s : State) : (s.onPort p f).fw = s.fw := rfl
@[simp] theorem State.onPort_mem (p : Nat) (f : Port → Port) (s : State) : (s.onPort p f).mem = s.mem := rfl
@[simp] theorem State.onPort_plots (p : Nat) (f : Port → Port) (s : State) : (s.onPort p f).plots = s.plots := rfl
@[simp] theorem State.onPort_grn (p : Nat) (f : Port → Port) (s : State) : (s.onPort p f).grn = s.grn := rfl
@[simp] theorem State.onPort_ltr (p : Nat) (f : Port → Port) (s : State) : (s.onPort p f).ltr = s.ltr := rfl
@[simp] theorem State.onPort_csk (p : Nat) (f : Port → Port) (s : State) : (s.onPort p f).csk = s.csk := rfl
@[simp] theorem State.onPort_fab (p : Nat) (f : Port → Port) (s : State) : (s.onPort p f).fab = { s.fab with ports := s.fab.ports.modify {} p f } := rfl
@[simp] theorem State.onPort_host (p : Nat) (f : Port → Port) (s : State) : (s.onPort p f).host = s.host := rfl
@[simp] theorem State.onPort_mst (p : Nat) (f : Port → Port) (s : State) : (s.onPort p f).mst = s.mst := rfl
@[simp] theorem State.onPort_sch (p : Nat) (f : Port → Port) (s : State) : (s.onPort p f).sch = s.sch := rfl
@[simp] theorem State.onPort_ret (p : Nat) (f : Port → Port) (s : State) : (s.onPort p f).ret = s.ret := rfl
@[simp] theorem State.onPort_free (p : Nat) (f : Port → Port) (s : State) : (s.onPort p f).free = s.free := rfl
@[simp] theorem State.onPort_pending (p : Nat) (f : Port → Port) (s : State) : (s.onPort p f).pending = s.pending := rfl

/-! ### onFlow -/

@[simp] theorem State.onFlow_hk (p : Nat) (f : PortFlow → PortFlow) (s : State) : (s.onFlow p f).hk = s.hk := rfl
@[simp] theorem State.onFlow_fuses (p : Nat) (f : PortFlow → PortFlow) (s : State) : (s.onFlow p f).fuses = s.fuses := rfl
@[simp] theorem State.onFlow_flash (p : Nat) (f : PortFlow → PortFlow) (s : State) : (s.onFlow p f).flash = s.flash := rfl
@[simp] theorem State.onFlow_fw (p : Nat) (f : PortFlow → PortFlow) (s : State) : (s.onFlow p f).fw = s.fw := rfl
@[simp] theorem State.onFlow_mem (p : Nat) (f : PortFlow → PortFlow) (s : State) : (s.onFlow p f).mem = s.mem := rfl
@[simp] theorem State.onFlow_plots (p : Nat) (f : PortFlow → PortFlow) (s : State) : (s.onFlow p f).plots = s.plots := rfl
@[simp] theorem State.onFlow_grn (p : Nat) (f : PortFlow → PortFlow) (s : State) : (s.onFlow p f).grn = s.grn := rfl
@[simp] theorem State.onFlow_ltr (p : Nat) (f : PortFlow → PortFlow) (s : State) : (s.onFlow p f).ltr = s.ltr := rfl
@[simp] theorem State.onFlow_csk (p : Nat) (f : PortFlow → PortFlow) (s : State) : (s.onFlow p f).csk = s.csk := rfl
@[simp] theorem State.onFlow_fab (p : Nat) (f : PortFlow → PortFlow) (s : State) : (s.onFlow p f).fab = { s.fab with flows := s.fab.flows.modify {} p f } := rfl
@[simp] theorem State.onFlow_host (p : Nat) (f : PortFlow → PortFlow) (s : State) : (s.onFlow p f).host = s.host := rfl
@[simp] theorem State.onFlow_mst (p : Nat) (f : PortFlow → PortFlow) (s : State) : (s.onFlow p f).mst = s.mst := rfl
@[simp] theorem State.onFlow_sch (p : Nat) (f : PortFlow → PortFlow) (s : State) : (s.onFlow p f).sch = s.sch := rfl
@[simp] theorem State.onFlow_ret (p : Nat) (f : PortFlow → PortFlow) (s : State) : (s.onFlow p f).ret = s.ret := rfl
@[simp] theorem State.onFlow_free (p : Nat) (f : PortFlow → PortFlow) (s : State) : (s.onFlow p f).free = s.free := rfl
@[simp] theorem State.onFlow_pending (p : Nat) (f : PortFlow → PortFlow) (s : State) : (s.onFlow p f).pending = s.pending := rfl

/-! ### onMbx -/

@[simp] theorem State.onMbx_hk (p : Nat) (f : Mailbox → Mailbox) (s : State) : (s.onMbx p f).hk = s.hk := rfl
@[simp] theorem State.onMbx_fuses (p : Nat) (f : Mailbox → Mailbox) (s : State) : (s.onMbx p f).fuses = s.fuses := rfl
@[simp] theorem State.onMbx_flash (p : Nat) (f : Mailbox → Mailbox) (s : State) : (s.onMbx p f).flash = s.flash := rfl
@[simp] theorem State.onMbx_fw (p : Nat) (f : Mailbox → Mailbox) (s : State) : (s.onMbx p f).fw = s.fw := rfl
@[simp] theorem State.onMbx_mem (p : Nat) (f : Mailbox → Mailbox) (s : State) : (s.onMbx p f).mem = s.mem := rfl
@[simp] theorem State.onMbx_plots (p : Nat) (f : Mailbox → Mailbox) (s : State) : (s.onMbx p f).plots = s.plots := rfl
@[simp] theorem State.onMbx_grn (p : Nat) (f : Mailbox → Mailbox) (s : State) : (s.onMbx p f).grn = s.grn := rfl
@[simp] theorem State.onMbx_ltr (p : Nat) (f : Mailbox → Mailbox) (s : State) : (s.onMbx p f).ltr = s.ltr := rfl
@[simp] theorem State.onMbx_csk (p : Nat) (f : Mailbox → Mailbox) (s : State) : (s.onMbx p f).csk = s.csk := rfl
@[simp] theorem State.onMbx_fab (p : Nat) (f : Mailbox → Mailbox) (s : State) : (s.onMbx p f).fab = s.fab := rfl
@[simp] theorem State.onMbx_host (p : Nat) (f : Mailbox → Mailbox) (s : State) : (s.onMbx p f).host = s.host := rfl
@[simp] theorem State.onMbx_mst (p : Nat) (f : Mailbox → Mailbox) (s : State) : (s.onMbx p f).mst = { s.mst with mbx := s.mst.mbx.modify {} p f } := rfl
@[simp] theorem State.onMbx_sch (p : Nat) (f : Mailbox → Mailbox) (s : State) : (s.onMbx p f).sch = s.sch := rfl
@[simp] theorem State.onMbx_ret (p : Nat) (f : Mailbox → Mailbox) (s : State) : (s.onMbx p f).ret = s.ret := rfl
@[simp] theorem State.onMbx_free (p : Nat) (f : Mailbox → Mailbox) (s : State) : (s.onMbx p f).free = s.free := rfl
@[simp] theorem State.onMbx_pending (p : Nat) (f : Mailbox → Mailbox) (s : State) : (s.onMbx p f).pending = s.pending := rfl

/-! ### countHost, countPort and takeFree -/

@[simp] theorem State.countHost_hk (i n : Nat) (s : State) : (s.countHost i n).hk = s.hk := rfl
@[simp] theorem State.countHost_fuses (i n : Nat) (s : State) : (s.countHost i n).fuses = s.fuses := rfl
@[simp] theorem State.countHost_flash (i n : Nat) (s : State) : (s.countHost i n).flash = s.flash := rfl
@[simp] theorem State.countHost_fw (i n : Nat) (s : State) : (s.countHost i n).fw = s.fw := rfl
@[simp] theorem State.countHost_mem (i n : Nat) (s : State) : (s.countHost i n).mem = s.mem := rfl
@[simp] theorem State.countHost_plots (i n : Nat) (s : State) : (s.countHost i n).plots = s.plots := rfl
@[simp] theorem State.countHost_grn (i n : Nat) (s : State) : (s.countHost i n).grn = s.grn := rfl
@[simp] theorem State.countHost_ltr (i n : Nat) (s : State) : (s.countHost i n).ltr = s.ltr := rfl
@[simp] theorem State.countHost_csk (i n : Nat) (s : State) : (s.countHost i n).csk = s.csk := rfl
@[simp] theorem State.countHost_fab (i n : Nat) (s : State) : (s.countHost i n).fab = s.fab := rfl
@[simp] theorem State.countHost_host (i n : Nat) (s : State) : (s.countHost i n).host = { s.host with counts := s.host.counts.modify 0 i (fun c => sat48 (c + n)) } := rfl
@[simp] theorem State.countHost_mst (i n : Nat) (s : State) : (s.countHost i n).mst = s.mst := rfl
@[simp] theorem State.countHost_sch (i n : Nat) (s : State) : (s.countHost i n).sch = s.sch := rfl
@[simp] theorem State.countHost_ret (i n : Nat) (s : State) : (s.countHost i n).ret = s.ret := rfl
@[simp] theorem State.countHost_free (i n : Nat) (s : State) : (s.countHost i n).free = s.free := rfl
@[simp] theorem State.countHost_pending (i n : Nat) (s : State) : (s.countHost i n).pending = s.pending := rfl
@[simp] theorem State.countPort_hk (p i n : Nat) (s : State) : (s.countPort p i n).hk = s.hk := rfl
@[simp] theorem State.countPort_fuses (p i n : Nat) (s : State) : (s.countPort p i n).fuses = s.fuses := rfl
@[simp] theorem State.countPort_flash (p i n : Nat) (s : State) : (s.countPort p i n).flash = s.flash := rfl
@[simp] theorem State.countPort_fw (p i n : Nat) (s : State) : (s.countPort p i n).fw = s.fw := rfl
@[simp] theorem State.countPort_mem (p i n : Nat) (s : State) : (s.countPort p i n).mem = s.mem := rfl
@[simp] theorem State.countPort_plots (p i n : Nat) (s : State) : (s.countPort p i n).plots = s.plots := rfl
@[simp] theorem State.countPort_grn (p i n : Nat) (s : State) : (s.countPort p i n).grn = s.grn := rfl
@[simp] theorem State.countPort_ltr (p i n : Nat) (s : State) : (s.countPort p i n).ltr = s.ltr := rfl
@[simp] theorem State.countPort_csk (p i n : Nat) (s : State) : (s.countPort p i n).csk = s.csk := rfl
@[simp] theorem State.countPort_host (p i n : Nat) (s : State) : (s.countPort p i n).host = s.host := rfl
@[simp] theorem State.countPort_mst (p i n : Nat) (s : State) : (s.countPort p i n).mst = s.mst := rfl
@[simp] theorem State.countPort_sch (p i n : Nat) (s : State) : (s.countPort p i n).sch = s.sch := rfl
@[simp] theorem State.countPort_ret (p i n : Nat) (s : State) : (s.countPort p i n).ret = s.ret := rfl
@[simp] theorem State.countPort_free (p i n : Nat) (s : State) : (s.countPort p i n).free = s.free := rfl
@[simp] theorem State.countPort_pending (p i n : Nat) (s : State) : (s.countPort p i n).pending = s.pending := rfl
@[simp] theorem State.takeFree_hk (s : State) (w : Nat) : (s.takeFree w).2.hk = s.hk := rfl
@[simp] theorem State.takeFree_fuses (s : State) (w : Nat) : (s.takeFree w).2.fuses = s.fuses := rfl
@[simp] theorem State.takeFree_flash (s : State) (w : Nat) : (s.takeFree w).2.flash = s.flash := rfl
@[simp] theorem State.takeFree_fw (s : State) (w : Nat) : (s.takeFree w).2.fw = s.fw := rfl
@[simp] theorem State.takeFree_mem (s : State) (w : Nat) : (s.takeFree w).2.mem = s.mem := rfl
@[simp] theorem State.takeFree_plots (s : State) (w : Nat) : (s.takeFree w).2.plots = s.plots := rfl
@[simp] theorem State.takeFree_grn (s : State) (w : Nat) : (s.takeFree w).2.grn = s.grn := rfl
@[simp] theorem State.takeFree_ltr (s : State) (w : Nat) : (s.takeFree w).2.ltr = s.ltr := rfl
@[simp] theorem State.takeFree_csk (s : State) (w : Nat) : (s.takeFree w).2.csk = s.csk := rfl
@[simp] theorem State.takeFree_fab (s : State) (w : Nat) : (s.takeFree w).2.fab = s.fab := rfl
@[simp] theorem State.takeFree_host (s : State) (w : Nat) : (s.takeFree w).2.host = s.host := rfl
@[simp] theorem State.takeFree_mst (s : State) (w : Nat) : (s.takeFree w).2.mst = s.mst := rfl
@[simp] theorem State.takeFree_sch (s : State) (w : Nat) : (s.takeFree w).2.sch = s.sch := rfl
@[simp] theorem State.takeFree_ret (s : State) (w : Nat) : (s.takeFree w).2.ret = s.ret := rfl
@[simp] theorem State.takeFree_free (s : State) (w : Nat) : (s.takeFree w).2.free = s.free + 1 := rfl
@[simp] theorem State.takeFree_pending (s : State) (w : Nat) : (s.takeFree w).2.pending = s.pending := rfl

/-! ### Entries of tables -/

/-- A plot changed: it alone. -/
theorem State.plot_onPlot (p q : Nat) (f : Plot → Plot) (s : State) (h : Tab.wf {} s.plots = true) :
    (s.onPlot p f).plot q = if q = p then f (s.plot p) else s.plot q := Tab.get_modify _ _ _ _ _ h

/-- A port changed: it alone. -/
theorem State.port_onPort (p q : Nat) (f : Port → Port) (s : State) (h : Tab.wf {} s.fab.ports = true) :
    (s.onPort p f).port q = if q = p then f (s.port p) else s.port q := Tab.get_modify _ _ _ _ _ h

/-- A port's flit machinery changed: it alone. -/
theorem State.flow_onFlow (p q : Nat) (f : PortFlow → PortFlow) (s : State) (h : Tab.wf {} s.fab.flows = true) :
    (s.onFlow p f).flow q = if q = p then f (s.flow p) else s.flow q := Tab.get_modify _ _ _ _ _ h

/-- A mailbox changed: it alone. -/
theorem State.mbx_onMbx (m n : Nat) (f : Mailbox → Mailbox) (s : State) (h : Tab.wf {} s.mst.mbx = true) :
    (s.onMbx m f).mbx n = if n = m then f (s.mbx m) else s.mbx n := Tab.get_modify _ _ _ _ _ h

@[simp] theorem State.port_onFlow (p q : Nat) (f : PortFlow → PortFlow) (s : State) : (s.onFlow p f).port q = s.port q := rfl
@[simp] theorem State.flow_onPort (p q : Nat) (f : Port → Port) (s : State) : (s.onPort p f).flow q = s.flow q := rfl

/-- A fold of a function that keeps a projection keeps it. -/
theorem State.each_keeps {α β : Type} (π : State → β) (f : α → State → State) (h : ∀ x s, π (f x s) = π s) (xs : List α) (s : State) :
    π (State.each f xs s) = π s := by
  unfold State.each
  induction xs generalizing s with
  | nil => rfl
  | cons x xs ih => rw [List.foldl_cons, ih, h]

/-- A fold of a function that keeps a property keeps it. -/
theorem State.each_inv {α : Type} (P : State → Prop) (f : α → State → State) (h : ∀ x s, P s → P (f x s)) (xs : List α) (s : State)
    (hs : P s) : P (State.each f xs s) := by
  unfold State.each
  induction xs generalizing s with
  | nil => exact hs
  | cons x xs ih => exact ih _ (h x s hs)

end Sys2Proof.Machine
end

