-- ==== Sys2Proof/Laws/Ops.lean ====
section
/-! SUPPORT. What each shared operation can change: interrupts and events, accesses to device memory, fences, and the
mailbox protocol. Statements about commands cite these and unfold none of the operations. -/

namespace Sys2Proof.Machine

/-! ### Interrupts: only the host link's pending bits and sent messages -/

@[simp] theorem raiseIrq_hk (v : Nat) (s : State) : (raiseIrq v s).hk = s.hk := by
  unfold raiseIrq; repeat (first | split | rfl)
@[simp] theorem raiseIrq_fuses (v : Nat) (s : State) : (raiseIrq v s).fuses = s.fuses := by
  unfold raiseIrq; repeat (first | split | rfl)
@[simp] theorem raiseIrq_flash (v : Nat) (s : State) : (raiseIrq v s).flash = s.flash := by
  unfold raiseIrq; repeat (first | split | rfl)
@[simp] theorem raiseIrq_fw (v : Nat) (s : State) : (raiseIrq v s).fw = s.fw := by
  unfold raiseIrq; repeat (first | split | rfl)
@[simp] theorem raiseIrq_mem (v : Nat) (s : State) : (raiseIrq v s).mem = s.mem := by
  unfold raiseIrq; repeat (first | split | rfl)
@[simp] theorem raiseIrq_plots (v : Nat) (s : State) : (raiseIrq v s).plots = s.plots := by
  unfold raiseIrq; repeat (first | split | rfl)
@[simp] theorem raiseIrq_grn (v : Nat) (s : State) : (raiseIrq v s).grn = s.grn := by
  unfold raiseIrq; repeat (first | split | rfl)
@[simp] theorem raiseIrq_ltr (v : Nat) (s : State) : (raiseIrq v s).ltr = s.ltr := by
  unfold raiseIrq; repeat (first | split | rfl)
@[simp] theorem raiseIrq_csk (v : Nat) (s : State) : (raiseIrq v s).csk = s.csk := by
  unfold raiseIrq; repeat (first | split | rfl)
@[simp] theorem raiseIrq_fab (v : Nat) (s : State) : (raiseIrq v s).fab = s.fab := by
  unfold raiseIrq; repeat (first | split | rfl)
@[simp] theorem raiseIrq_mst (v : Nat) (s : State) : (raiseIrq v s).mst = s.mst := by
  unfold raiseIrq; repeat (first | split | rfl)
@[simp] theorem raiseIrq_sch (v : Nat) (s : State) : (raiseIrq v s).sch = s.sch := by
  unfold raiseIrq; repeat (first | split | rfl)
@[simp] theorem raiseIrq_ret (v : Nat) (s : State) : (raiseIrq v s).ret = s.ret := by
  unfold raiseIrq; repeat (first | split | rfl)
@[simp] theorem raiseIrq_free (v : Nat) (s : State) : (raiseIrq v s).free = s.free := by
  unfold raiseIrq; repeat (first | split | rfl)
@[simp] theorem raiseIrq_pending (v : Nat) (s : State) : (raiseIrq v s).pending = s.pending := by
  unfold raiseIrq; repeat (first | split | rfl)

/-- A raised vector touches only the pending bits and the sent messages of the host link. -/
theorem raiseIrq_host_eq (v : Nat) (s : State) :
    (raiseIrq v s).host = { s.host with pba := (raiseIrq v s).host.pba, irqs := (raiseIrq v s).host.irqs } := by
  unfold raiseIrq; repeat (first | split | rfl)

/-- An unmasked vector of an attached module is sent. -/
theorem raiseIrq_sent (v : Nat) (s : State) (hd : s.host.detached = false) (hm : natBit 0 (msixByte s (16 * v + 12)) = false) :
    (raiseIrq v s).host.irqs = s.host.irqs ++ [v] := by
  unfold raiseIrq; simp [hd, hm]

@[simp] theorem eventIrq_hk (s : State) : (eventIrq s).hk = s.hk := by
  unfold eventIrq; split <;> simp
@[simp] theorem eventIrq_fuses (s : State) : (eventIrq s).fuses = s.fuses := by
  unfold eventIrq; split <;> simp
@[simp] theorem eventIrq_flash (s : State) : (eventIrq s).flash = s.flash := by
  unfold eventIrq; split <;> simp
@[simp] theorem eventIrq_fw (s : State) : (eventIrq s).fw = s.fw := by
  unfold eventIrq; split <;> simp
@[simp] theorem eventIrq_mem (s : State) : (eventIrq s).mem = s.mem := by
  unfold eventIrq; split <;> simp
@[simp] theorem eventIrq_plots (s : State) : (eventIrq s).plots = s.plots := by
  unfold eventIrq; split <;> simp
@[simp] theorem eventIrq_grn (s : State) : (eventIrq s).grn = s.grn := by
  unfold eventIrq; split <;> simp
@[simp] theorem eventIrq_ltr (s : State) : (eventIrq s).ltr = s.ltr := by
  unfold eventIrq; split <;> simp
@[simp] theorem eventIrq_csk (s : State) : (eventIrq s).csk = s.csk := by
  unfold eventIrq; split <;> simp
@[simp] theorem eventIrq_fab (s : State) : (eventIrq s).fab = s.fab := by
  unfold eventIrq; split <;> simp
@[simp] theorem eventIrq_mst (s : State) : (eventIrq s).mst = s.mst := by
  unfold eventIrq; split <;> simp
@[simp] theorem eventIrq_sch (s : State) : (eventIrq s).sch = s.sch := by
  unfold eventIrq; split <;> simp
@[simp] theorem eventIrq_ret (s : State) : (eventIrq s).ret = s.ret := by
  unfold eventIrq; split <;> simp
@[simp] theorem eventIrq_free (s : State) : (eventIrq s).free = s.free := by
  unfold eventIrq; split <;> simp
@[simp] theorem eventIrq_pending (s : State) : (eventIrq s).pending = s.pending := by
  unfold eventIrq; split <;> simp

/-! ### Events: the sticky record and the log, and the interrupt of a group newly set -/

@[simp] theorem setSticky_fuses (g b : Nat) (s : State) : (setSticky g b s).fuses = s.fuses := by
  unfold setSticky; dsimp only; split
  · rfl
  · split <;> simp
@[simp] theorem setSticky_flash (g b : Nat) (s : State) : (setSticky g b s).flash = s.flash := by
  unfold setSticky; dsimp only; split
  · rfl
  · split <;> simp
@[simp] theorem setSticky_fw (g b : Nat) (s : State) : (setSticky g b s).fw = s.fw := by
  unfold setSticky; dsimp only; split
  · rfl
  · split <;> simp
@[simp] theorem setSticky_mem (g b : Nat) (s : State) : (setSticky g b s).mem = s.mem := by
  unfold setSticky; dsimp only; split
  · rfl
  · split <;> simp
@[simp] theorem setSticky_plots (g b : Nat) (s : State) : (setSticky g b s).plots = s.plots := by
  unfold setSticky; dsimp only; split
  · rfl
  · split <;> simp
@[simp] theorem setSticky_grn (g b : Nat) (s : State) : (setSticky g b s).grn = s.grn := by
  unfold setSticky; dsimp only; split
  · rfl
  · split <;> simp
@[simp] theorem setSticky_ltr (g b : Nat) (s : State) : (setSticky g b s).ltr = s.ltr := by
  unfold setSticky; dsimp only; split
  · rfl
  · split <;> simp
@[simp] theorem setSticky_csk (g b : Nat) (s : State) : (setSticky g b s).csk = s.csk := by
  unfold setSticky; dsimp only; split
  · rfl
  · split <;> simp
@[simp] theorem setSticky_fab (g b : Nat) (s : State) : (setSticky g b s).fab = s.fab := by
  unfold setSticky; dsimp only; split
  · rfl
  · split <;> simp
@[simp] theorem setSticky_mst (g b : Nat) (s : State) : (setSticky g b s).mst = s.mst := by
  unfold setSticky; dsimp only; split
  · rfl
  · split <;> simp
@[simp] theorem setSticky_sch (g b : Nat) (s : State) : (setSticky g b s).sch = s.sch := by
  unfold setSticky; dsimp only; split
  · rfl
  · split <;> simp
@[simp] theorem setSticky_ret (g b : Nat) (s : State) : (setSticky g b s).ret = s.ret := by
  unfold setSticky; dsimp only; split
  · rfl
  · split <;> simp
@[simp] theorem setSticky_free (g b : Nat) (s : State) : (setSticky g b s).free = s.free := by
  unfold setSticky; dsimp only; split
  · rfl
  · split <;> simp
@[simp] theorem setSticky_pending (g b : Nat) (s : State) : (setSticky g b s).pending = s.pending := by
  unfold setSticky; dsimp only; split
  · rfl
  · split <;> simp

@[simp] theorem putLog_fuses (g b src : Nat) (data : List Byte) (s : State) : (putLog g b src data s).fuses = s.fuses := by
  rfl
@[simp] theorem putLog_flash (g b src : Nat) (data : List Byte) (s : State) : (putLog g b src data s).flash = s.flash := by
  rfl
@[simp] theorem putLog_fw (g b src : Nat) (data : List Byte) (s : State) : (putLog g b src data s).fw = s.fw := by
  rfl
@[simp] theorem putLog_mem (g b src : Nat) (data : List Byte) (s : State) : (putLog g b src data s).mem = s.mem := by
  rfl
@[simp] theorem putLog_plots (g b src : Nat) (data : List Byte) (s : State) : (putLog g b src data s).plots = s.plots := by
  rfl
@[simp] theorem putLog_grn (g b src : Nat) (data : List Byte) (s : State) : (putLog g b src data s).grn = s.grn := by
  rfl
@[simp] theorem putLog_ltr (g b src : Nat) (data : List Byte) (s : State) : (putLog g b src data s).ltr = s.ltr := by
  rfl
@[simp] theorem putLog_csk (g b src : Nat) (data : List Byte) (s : State) : (putLog g b src data s).csk = s.csk := by
  rfl
@[simp] theorem putLog_fab (g b src : Nat) (data : List Byte) (s : State) : (putLog g b src data s).fab = s.fab := by
  rfl
@[simp] theorem putLog_host (g b src : Nat) (data : List Byte) (s : State) : (putLog g b src data s).host = s.host := by
  rfl
@[simp] theorem putLog_mst (g b src : Nat) (data : List Byte) (s : State) : (putLog g b src data s).mst = s.mst := by
  rfl
@[simp] theorem putLog_sch (g b src : Nat) (data : List Byte) (s : State) : (putLog g b src data s).sch = s.sch := by
  rfl
@[simp] theorem putLog_ret (g b src : Nat) (data : List Byte) (s : State) : (putLog g b src data s).ret = s.ret := by
  rfl
@[simp] theorem putLog_free (g b src : Nat) (data : List Byte) (s : State) : (putLog g b src data s).free = s.free := by
  rfl
@[simp] theorem putLog_pending (g b src : Nat) (data : List Byte) (s : State) : (putLog g b src data s).pending = s.pending := by
  rfl

@[simp] theorem markFresh_fuses (g b : Nat) (s : State) : (markFresh g b s).fuses = s.fuses := by
  rfl
@[simp] theorem markFresh_flash (g b : Nat) (s : State) : (markFresh g b s).flash = s.flash := by
  rfl
@[simp] theorem markFresh_fw (g b : Nat) (s : State) : (markFresh g b s).fw = s.fw := by
  rfl
@[simp] theorem markFresh_mem (g b : Nat) (s : State) : (markFresh g b s).mem = s.mem := by
  rfl
@[simp] theorem markFresh_plots (g b : Nat) (s : State) : (markFresh g b s).plots = s.plots := by
  rfl
@[simp] theorem markFresh_grn (g b : Nat) (s : State) : (markFresh g b s).grn = s.grn := by
  rfl
@[simp] theorem markFresh_ltr (g b : Nat) (s : State) : (markFresh g b s).ltr = s.ltr := by
  rfl
@[simp] theorem markFresh_csk (g b : Nat) (s : State) : (markFresh g b s).csk = s.csk := by
  rfl
@[simp] theorem markFresh_fab (g b : Nat) (s : State) : (markFresh g b s).fab = s.fab := by
  rfl
@[simp] theorem markFresh_host (g b : Nat) (s : State) : (markFresh g b s).host = s.host := by
  rfl
@[simp] theorem markFresh_mst (g b : Nat) (s : State) : (markFresh g b s).mst = s.mst := by
  rfl
@[simp] theorem markFresh_sch (g b : Nat) (s : State) : (markFresh g b s).sch = s.sch := by
  rfl
@[simp] theorem markFresh_ret (g b : Nat) (s : State) : (markFresh g b s).ret = s.ret := by
  rfl
@[simp] theorem markFresh_free (g b : Nat) (s : State) : (markFresh g b s).free = s.free := by
  rfl
@[simp] theorem markFresh_pending (g b : Nat) (s : State) : (markFresh g b s).pending = s.pending := by
  rfl

@[simp] theorem wrapLog_fuses (s : State) : (wrapLog s).fuses = s.fuses := by
  unfold wrapLog; dsimp only; split <;> simp
@[simp] theorem wrapLog_flash (s : State) : (wrapLog s).flash = s.flash := by
  unfold wrapLog; dsimp only; split <;> simp
@[simp] theorem wrapLog_fw (s : State) : (wrapLog s).fw = s.fw := by
  unfold wrapLog; dsimp only; split <;> simp
@[simp] theorem wrapLog_mem (s : State) : (wrapLog s).mem = s.mem := by
  unfold wrapLog; dsimp only; split <;> simp
@[simp] theorem wrapLog_plots (s : State) : (wrapLog s).plots = s.plots := by
  unfold wrapLog; dsimp only; split <;> simp
@[simp] theorem wrapLog_grn (s : State) : (wrapLog s).grn = s.grn := by
  unfold wrapLog; dsimp only; split <;> simp
@[simp] theorem wrapLog_ltr (s : State) : (wrapLog s).ltr = s.ltr := by
  unfold wrapLog; dsimp only; split <;> simp
@[simp] theorem wrapLog_csk (s : State) : (wrapLog s).csk = s.csk := by
  unfold wrapLog; dsimp only; split <;> simp
@[simp] theorem wrapLog_fab (s : State) : (wrapLog s).fab = s.fab := by
  unfold wrapLog; dsimp only; split <;> simp
@[simp] theorem wrapLog_mst (s : State) : (wrapLog s).mst = s.mst := by
  unfold wrapLog; dsimp only; split <;> simp
@[simp] theorem wrapLog_sch (s : State) : (wrapLog s).sch = s.sch := by
  unfold wrapLog; dsimp only; split <;> simp
@[simp] theorem wrapLog_ret (s : State) : (wrapLog s).ret = s.ret := by
  unfold wrapLog; dsimp only; split <;> simp
@[simp] theorem wrapLog_free (s : State) : (wrapLog s).free = s.free := by
  unfold wrapLog; dsimp only; split <;> simp
@[simp] theorem wrapLog_pending (s : State) : (wrapLog s).pending = s.pending := by
  unfold wrapLog; dsimp only; split <;> simp

@[simp] theorem event_fuses (g b src : Nat) (data : List Nat) (s : State) : (event g b src data s).fuses = s.fuses := by
  unfold event; dsimp only; split <;> simp
@[simp] theorem event_flash (g b src : Nat) (data : List Nat) (s : State) : (event g b src data s).flash = s.flash := by
  unfold event; dsimp only; split <;> simp
@[simp] theorem event_fw (g b src : Nat) (data : List Nat) (s : State) : (event g b src data s).fw = s.fw := by
  unfold event; dsimp only; split <;> simp
@[simp] theorem event_mem (g b src : Nat) (data : List Nat) (s : State) : (event g b src data s).mem = s.mem := by
  unfold event; dsimp only; split <;> simp
@[simp] theorem event_plots (g b src : Nat) (data : List Nat) (s : State) : (event g b src data s).plots = s.plots := by
  unfold event; dsimp only; split <;> simp
@[simp] theorem event_grn (g b src : Nat) (data : List Nat) (s : State) : (event g b src data s).grn = s.grn := by
  unfold event; dsimp only; split <;> simp
@[simp] theorem event_ltr (g b src : Nat) (data : List Nat) (s : State) : (event g b src data s).ltr = s.ltr := by
  unfold event; dsimp only; split <;> simp
@[simp] theorem event_csk (g b src : Nat) (data : List Nat) (s : State) : (event g b src data s).csk = s.csk := by
  unfold event; dsimp only; split <;> simp
@[simp] theorem event_fab (g b src : Nat) (data : List Nat) (s : State) : (event g b src data s).fab = s.fab := by
  unfold event; dsimp only; split <;> simp
@[simp] theorem event_mst (g b src : Nat) (data : List Nat) (s : State) : (event g b src data s).mst = s.mst := by
  unfold event; dsimp only; split <;> simp
@[simp] theorem event_sch (g b src : Nat) (data : List Nat) (s : State) : (event g b src data s).sch = s.sch := by
  unfold event; dsimp only; split <;> simp
@[simp] theorem event_ret (g b src : Nat) (data : List Nat) (s : State) : (event g b src data s).ret = s.ret := by
  unfold event; dsimp only; split <;> simp
@[simp] theorem event_free (g b src : Nat) (data : List Nat) (s : State) : (event g b src data s).free = s.free := by
  unfold event; dsimp only; split <;> simp
@[simp] theorem event_pending (g b src : Nat) (data : List Nat) (s : State) : (event g b src data s).pending = s.pending := by
  unfold event; dsimp only; split <;> simp

@[simp] theorem eventNote_fuses (b src : Nat) (data : List Nat) (s : State) : (eventNote b src data s).fuses = s.fuses := by
  unfold eventNote; dsimp only; split <;> simp
@[simp] theorem eventNote_flash (b src : Nat) (data : List Nat) (s : State) : (eventNote b src data s).flash = s.flash := by
  unfold eventNote; dsimp only; split <;> simp
@[simp] theorem eventNote_fw (b src : Nat) (data : List Nat) (s : State) : (eventNote b src data s).fw = s.fw := by
  unfold eventNote; dsimp only; split <;> simp
@[simp] theorem eventNote_mem (b src : Nat) (data : List Nat) (s : State) : (eventNote b src data s).mem = s.mem := by
  unfold eventNote; dsimp only; split <;> simp
@[simp] theorem eventNote_plots (b src : Nat) (data : List Nat) (s : State) : (eventNote b src data s).plots = s.plots := by
  unfold eventNote; dsimp only; split <;> simp
@[simp] theorem eventNote_grn (b src : Nat) (data : List Nat) (s : State) : (eventNote b src data s).grn = s.grn := by
  unfold eventNote; dsimp only; split <;> simp
@[simp] theorem eventNote_ltr (b src : Nat) (data : List Nat) (s : State) : (eventNote b src data s).ltr = s.ltr := by
  unfold eventNote; dsimp only; split <;> simp
@[simp] theorem eventNote_csk (b src : Nat) (data : List Nat) (s : State) : (eventNote b src data s).csk = s.csk := by
  unfold eventNote; dsimp only; split <;> simp
@[simp] theorem eventNote_fab (b src : Nat) (data : List Nat) (s : State) : (eventNote b src data s).fab = s.fab := by
  unfold eventNote; dsimp only; split <;> simp
@[simp] theorem eventNote_mst (b src : Nat) (data : List Nat) (s : State) : (eventNote b src data s).mst = s.mst := by
  unfold eventNote; dsimp only; split <;> simp
@[simp] theorem eventNote_sch (b src : Nat) (data : List Nat) (s : State) : (eventNote b src data s).sch = s.sch := by
  unfold eventNote; dsimp only; split <;> simp
@[simp] theorem eventNote_ret (b src : Nat) (data : List Nat) (s : State) : (eventNote b src data s).ret = s.ret := by
  unfold eventNote; dsimp only; split <;> simp
@[simp] theorem eventNote_free (b src : Nat) (data : List Nat) (s : State) : (eventNote b src data s).free = s.free := by
  unfold eventNote; dsimp only; split <;> simp
@[simp] theorem eventNote_pending (b src : Nat) (data : List Nat) (s : State) : (eventNote b src data s).pending = s.pending := by
  unfold eventNote; dsimp only; split <;> simp

@[simp] theorem addrFault_fuses (req a : Nat) (s : State) : (addrFault req a s).fuses = s.fuses := by
  simp [addrFault]
@[simp] theorem addrFault_flash (req a : Nat) (s : State) : (addrFault req a s).flash = s.flash := by
  simp [addrFault]
@[simp] theorem addrFault_fw (req a : Nat) (s : State) : (addrFault req a s).fw = s.fw := by
  simp [addrFault]
@[simp] theorem addrFault_mem (req a : Nat) (s : State) : (addrFault req a s).mem = s.mem := by
  simp [addrFault]
@[simp] theorem addrFault_plots (req a : Nat) (s : State) : (addrFault req a s).plots = s.plots := by
  simp [addrFault]
@[simp] theorem addrFault_grn (req a : Nat) (s : State) : (addrFault req a s).grn = s.grn := by
  simp [addrFault]
@[simp] theorem addrFault_ltr (req a : Nat) (s : State) : (addrFault req a s).ltr = s.ltr := by
  simp [addrFault]
@[simp] theorem addrFault_csk (req a : Nat) (s : State) : (addrFault req a s).csk = s.csk := by
  simp [addrFault]
@[simp] theorem addrFault_fab (req a : Nat) (s : State) : (addrFault req a s).fab = s.fab := by
  simp [addrFault]
@[simp] theorem addrFault_mst (req a : Nat) (s : State) : (addrFault req a s).mst = s.mst := by
  simp [addrFault]
@[simp] theorem addrFault_sch (req a : Nat) (s : State) : (addrFault req a s).sch = s.sch := by
  simp [addrFault]
@[simp] theorem addrFault_ret (req a : Nat) (s : State) : (addrFault req a s).ret = s.ret := by
  simp [addrFault]
@[simp] theorem addrFault_free (req a : Nat) (s : State) : (addrFault req a s).free = s.free := by
  simp [addrFault]
@[simp] theorem addrFault_pending (req a : Nat) (s : State) : (addrFault req a s).pending = s.pending := by
  simp [addrFault]

@[simp] theorem poisonRead_fuses (req a : Nat) (s : State) : (poisonRead req a s).fuses = s.fuses := by
  simp [poisonRead]
@[simp] theorem poisonRead_flash (req a : Nat) (s : State) : (poisonRead req a s).flash = s.flash := by
  simp [poisonRead]
@[simp] theorem poisonRead_fw (req a : Nat) (s : State) : (poisonRead req a s).fw = s.fw := by
  simp [poisonRead]
@[simp] theorem poisonRead_mem (req a : Nat) (s : State) : (poisonRead req a s).mem = s.mem := by
  simp [poisonRead]
@[simp] theorem poisonRead_plots (req a : Nat) (s : State) : (poisonRead req a s).plots = s.plots := by
  simp [poisonRead]
@[simp] theorem poisonRead_grn (req a : Nat) (s : State) : (poisonRead req a s).grn = s.grn := by
  simp [poisonRead]
@[simp] theorem poisonRead_ltr (req a : Nat) (s : State) : (poisonRead req a s).ltr = s.ltr := by
  simp [poisonRead]
@[simp] theorem poisonRead_csk (req a : Nat) (s : State) : (poisonRead req a s).csk = s.csk := by
  simp [poisonRead]
@[simp] theorem poisonRead_fab (req a : Nat) (s : State) : (poisonRead req a s).fab = s.fab := by
  simp [poisonRead]
@[simp] theorem poisonRead_mst (req a : Nat) (s : State) : (poisonRead req a s).mst = s.mst := by
  simp [poisonRead]
@[simp] theorem poisonRead_sch (req a : Nat) (s : State) : (poisonRead req a s).sch = s.sch := by
  simp [poisonRead]
@[simp] theorem poisonRead_ret (req a : Nat) (s : State) : (poisonRead req a s).ret = s.ret := by
  simp [poisonRead]
@[simp] theorem poisonRead_free (req a : Nat) (s : State) : (poisonRead req a s).free = s.free := by
  simp [poisonRead]
@[simp] theorem poisonRead_pending (req a : Nat) (s : State) : (poisonRead req a s).pending = s.pending := by
  simp [poisonRead]

@[simp] theorem poisonLine_fuses (req a : Nat) (s : State) : (poisonLine req a s).fuses = s.fuses := by
  simp [poisonLine]
@[simp] theorem poisonLine_flash (req a : Nat) (s : State) : (poisonLine req a s).flash = s.flash := by
  simp [poisonLine]
@[simp] theorem poisonLine_fw (req a : Nat) (s : State) : (poisonLine req a s).fw = s.fw := by
  simp [poisonLine]
@[simp] theorem poisonLine_plots (req a : Nat) (s : State) : (poisonLine req a s).plots = s.plots := by
  simp [poisonLine]
@[simp] theorem poisonLine_grn (req a : Nat) (s : State) : (poisonLine req a s).grn = s.grn := by
  simp [poisonLine]
@[simp] theorem poisonLine_ltr (req a : Nat) (s : State) : (poisonLine req a s).ltr = s.ltr := by
  simp [poisonLine]
@[simp] theorem poisonLine_csk (req a : Nat) (s : State) : (poisonLine req a s).csk = s.csk := by
  simp [poisonLine]
@[simp] theorem poisonLine_fab (req a : Nat) (s : State) : (poisonLine req a s).fab = s.fab := by
  simp [poisonLine]
@[simp] theorem poisonLine_mst (req a : Nat) (s : State) : (poisonLine req a s).mst = s.mst := by
  simp [poisonLine]
@[simp] theorem poisonLine_sch (req a : Nat) (s : State) : (poisonLine req a s).sch = s.sch := by
  simp [poisonLine]
@[simp] theorem poisonLine_ret (req a : Nat) (s : State) : (poisonLine req a s).ret = s.ret := by
  simp [poisonLine]
@[simp] theorem poisonLine_free (req a : Nat) (s : State) : (poisonLine req a s).free = s.free := by
  simp [poisonLine]
@[simp] theorem poisonLine_pending (req a : Nat) (s : State) : (poisonLine req a s).pending = s.pending := by
  simp [poisonLine]

/-! ### Reads of a sticky group after an event -/

theorem setSticky_sticky (g b : Nat) (s : State) :
    (setSticky g b s).hk.sticky = if natBit b (stickyGroup s g) then s.hk.sticky
      else s.hk.sticky.set 0 g (stickyGroup s g ||| 2 ^ b) := by
  unfold setSticky; dsimp only
  split
  · rfl
  · split <;> simp

theorem putLog_sticky (g b src : Nat) (data : List Byte) (s : State) : (putLog g b src data s).hk.sticky = s.hk.sticky := by
  unfold putLog State.onHk; dsimp only
  split
  · split <;> rfl
  · rfl

/-! ### The Malt cache and the Kiln codecs: no byte of memory, no other unit -/

@[simp] theorem kilnRead_hk (blk : Nat) (s : State) : (kilnRead blk s).hk = s.hk := by
  rfl
@[simp] theorem kilnRead_fuses (blk : Nat) (s : State) : (kilnRead blk s).fuses = s.fuses := by
  rfl
@[simp] theorem kilnRead_flash (blk : Nat) (s : State) : (kilnRead blk s).flash = s.flash := by
  rfl
@[simp] theorem kilnRead_fw (blk : Nat) (s : State) : (kilnRead blk s).fw = s.fw := by
  rfl
@[simp] theorem kilnRead_plots (blk : Nat) (s : State) : (kilnRead blk s).plots = s.plots := by
  rfl
@[simp] theorem kilnRead_grn (blk : Nat) (s : State) : (kilnRead blk s).grn = s.grn := by
  rfl
@[simp] theorem kilnRead_ltr (blk : Nat) (s : State) : (kilnRead blk s).ltr = s.ltr := by
  rfl
@[simp] theorem kilnRead_csk (blk : Nat) (s : State) : (kilnRead blk s).csk = s.csk := by
  rfl
@[simp] theorem kilnRead_fab (blk : Nat) (s : State) : (kilnRead blk s).fab = s.fab := by
  rfl
@[simp] theorem kilnRead_host (blk : Nat) (s : State) : (kilnRead blk s).host = s.host := by
  rfl
@[simp] theorem kilnRead_mst (blk : Nat) (s : State) : (kilnRead blk s).mst = s.mst := by
  rfl
@[simp] theorem kilnRead_sch (blk : Nat) (s : State) : (kilnRead blk s).sch = s.sch := by
  rfl
@[simp] theorem kilnRead_ret (blk : Nat) (s : State) : (kilnRead blk s).ret = s.ret := by
  rfl
@[simp] theorem kilnRead_free (blk : Nat) (s : State) : (kilnRead blk s).free = s.free := by
  rfl
@[simp] theorem kilnRead_pending (blk : Nat) (s : State) : (kilnRead blk s).pending = s.pending := by
  rfl

@[simp] theorem kilnRead_cells (blk : Nat) (s : State) : (kilnRead blk s).mem.cells = s.mem.cells := rfl

@[simp] theorem kilnWrite_hk (w : Bool) (blk : Nat) (s : State) : (kilnWrite w blk s).hk = s.hk := by
  unfold kilnWrite; cases w <;> rfl
@[simp] theorem kilnWrite_fuses (w : Bool) (blk : Nat) (s : State) : (kilnWrite w blk s).fuses = s.fuses := by
  unfold kilnWrite; cases w <;> rfl
@[simp] theorem kilnWrite_flash (w : Bool) (blk : Nat) (s : State) : (kilnWrite w blk s).flash = s.flash := by
  unfold kilnWrite; cases w <;> rfl
@[simp] theorem kilnWrite_fw (w : Bool) (blk : Nat) (s : State) : (kilnWrite w blk s).fw = s.fw := by
  unfold kilnWrite; cases w <;> rfl
@[simp] theorem kilnWrite_plots (w : Bool) (blk : Nat) (s : State) : (kilnWrite w blk s).plots = s.plots := by
  unfold kilnWrite; cases w <;> rfl
@[simp] theorem kilnWrite_grn (w : Bool) (blk : Nat) (s : State) : (kilnWrite w blk s).grn = s.grn := by
  unfold kilnWrite; cases w <;> rfl
@[simp] theorem kilnWrite_ltr (w : Bool) (blk : Nat) (s : State) : (kilnWrite w blk s).ltr = s.ltr := by
  unfold kilnWrite; cases w <;> rfl
@[simp] theorem kilnWrite_csk (w : Bool) (blk : Nat) (s : State) : (kilnWrite w blk s).csk = s.csk := by
  unfold kilnWrite; cases w <;> rfl
@[simp] theorem kilnWrite_fab (w : Bool) (blk : Nat) (s : State) : (kilnWrite w blk s).fab = s.fab := by
  unfold kilnWrite; cases w <;> rfl
@[simp] theorem kilnWrite_host (w : Bool) (blk : Nat) (s : State) : (kilnWrite w blk s).host = s.host := by
  unfold kilnWrite; cases w <;> rfl
@[simp] theorem kilnWrite_mst (w : Bool) (blk : Nat) (s : State) : (kilnWrite w blk s).mst = s.mst := by
  unfold kilnWrite; cases w <;> rfl
@[simp] theorem kilnWrite_sch (w : Bool) (blk : Nat) (s : State) : (kilnWrite w blk s).sch = s.sch := by
  unfold kilnWrite; cases w <;> rfl
@[simp] theorem kilnWrite_ret (w : Bool) (blk : Nat) (s : State) : (kilnWrite w blk s).ret = s.ret := by
  unfold kilnWrite; cases w <;> rfl
@[simp] theorem kilnWrite_free (w : Bool) (blk : Nat) (s : State) : (kilnWrite w blk s).free = s.free := by
  unfold kilnWrite; cases w <;> rfl
@[simp] theorem kilnWrite_pending (w : Bool) (blk : Nat) (s : State) : (kilnWrite w blk s).pending = s.pending := by
  unfold kilnWrite; cases w <;> rfl

@[simp] theorem kilnWrite_cells (w : Bool) (blk : Nat) (s : State) : (kilnWrite w blk s).mem.cells = s.mem.cells := by
  unfold kilnWrite; cases w <;> rfl

/-- `t` is `s` with nothing but the memory's books changed: no other part of the state, and no byte. -/
def OnlyBooks (s t : State) : Prop := t = { s with mem := t.mem } ∧ t.mem.cells = s.mem.cells

theorem OnlyBooks.refl (s : State) : OnlyBooks s s := ⟨rfl, rfl⟩

theorem OnlyBooks.trans {s t u : State} (h : OnlyBooks s t) (k : OnlyBooks t u) : OnlyBooks s u :=
  ⟨k.1.trans (by rw [h.1]), k.2.trans h.2⟩

/-- A change of the memory that keeps its bytes. -/
theorem OnlyBooks.onMem {s : State} {f : Memory → Memory} (h : (f s.mem).cells = s.mem.cells) : OnlyBooks s (s.onMem f) := ⟨rfl, h⟩

theorem OnlyBooks.each {α : Type} {f : α → State → State} (h : ∀ x s, OnlyBooks s (f x s)) (xs : List α) (s : State) :
    OnlyBooks s (State.each f xs s) := by
  unfold State.each
  induction xs generalizing s with
  | nil => exact .refl s
  | cons x xs ih => exact (h x s).trans (ih _)

theorem kilnRead_only (blk : Nat) (s : State) : OnlyBooks s (kilnRead blk s) := ⟨rfl, rfl⟩

theorem kilnWrite_only (w : Bool) (blk : Nat) (s : State) : OnlyBooks s (kilnWrite w blk s) := by
  unfold kilnWrite; cases w <;> exact ⟨rfl, rfl⟩

@[simp] theorem cleanLines_cells (sl : Nat) (ls : List Nat) (m : Memory) : (Memory.cleanLines sl ls m).cells = m.cells := rfl

/-- Writing a line back changes the Kiln counts and the lines' marks. -/
theorem writeBack_only (sl : Nat) (v : Option MaltLine) (s : State) : OnlyBooks s (writeBack sl v s) := by
  unfold writeBack
  split
  · split
    · exact (kilnWrite_only ..).trans (.onMem (cleanLines_cells ..))
    · exact .refl s
  · exact .refl s

theorem keepLine_only (sl l : Nat) (s : State) : OnlyBooks s (keepLine sl l s) := by
  unfold keepLine
  split
  · exact .refl s
  · exact (OnlyBooks.onMem (by rfl)).trans (writeBack_only ..)

theorem blockRead_only (h : Hint) (sl a : Nat) (s : State) : OnlyBooks s (blockRead h sl a s) := by
  unfold blockRead
  dsimp only
  split
  · exact kilnRead_only ..
  · exact (kilnRead_only ..).trans (.each (fun l s => keepLine_only sl l s) ..)

/-- An access through the cache changes the caches and the counts, and no byte of memory. -/
theorem maltTouch_only (h : Hint) (w full : Bool) (a : Nat) (s : State) : OnlyBooks s (maltTouch h w full a s) := by
  unfold maltTouch
  dsimp only
  refine OnlyBooks.trans ?_ (OnlyBooks.trans (OnlyBooks.onMem (by rfl)) (writeBack_only ..))
  split
  · exact blockRead_only ..
  · exact .refl s

@[simp] theorem writeBack_hk (sl : Nat) (v : Option MaltLine) (s : State) : (writeBack sl v s).hk = s.hk :=
  (congrArg State.hk (writeBack_only sl v s).1).trans rfl
@[simp] theorem writeBack_fuses (sl : Nat) (v : Option MaltLine) (s : State) : (writeBack sl v s).fuses = s.fuses :=
  (congrArg State.fuses (writeBack_only sl v s).1).trans rfl
@[simp] theorem writeBack_flash (sl : Nat) (v : Option MaltLine) (s : State) : (writeBack sl v s).flash = s.flash :=
  (congrArg State.flash (writeBack_only sl v s).1).trans rfl
@[simp] theorem writeBack_fw (sl : Nat) (v : Option MaltLine) (s : State) : (writeBack sl v s).fw = s.fw :=
  (congrArg State.fw (writeBack_only sl v s).1).trans rfl
@[simp] theorem writeBack_plots (sl : Nat) (v : Option MaltLine) (s : State) : (writeBack sl v s).plots = s.plots :=
  (congrArg State.plots (writeBack_only sl v s).1).trans rfl
@[simp] theorem writeBack_grn (sl : Nat) (v : Option MaltLine) (s : State) : (writeBack sl v s).grn = s.grn :=
  (congrArg State.grn (writeBack_only sl v s).1).trans rfl
@[simp] theorem writeBack_ltr (sl : Nat) (v : Option MaltLine) (s : State) : (writeBack sl v s).ltr = s.ltr :=
  (congrArg State.ltr (writeBack_only sl v s).1).trans rfl
@[simp] theorem writeBack_csk (sl : Nat) (v : Option MaltLine) (s : State) : (writeBack sl v s).csk = s.csk :=
  (congrArg State.csk (writeBack_only sl v s).1).trans rfl
@[simp] theorem writeBack_fab (sl : Nat) (v : Option MaltLine) (s : State) : (writeBack sl v s).fab = s.fab :=
  (congrArg State.fab (writeBack_only sl v s).1).trans rfl
@[simp] theorem writeBack_host (sl : Nat) (v : Option MaltLine) (s : State) : (writeBack sl v s).host = s.host :=
  (congrArg State.host (writeBack_only sl v s).1).trans rfl
@[simp] theorem writeBack_mst (sl : Nat) (v : Option MaltLine) (s : State) : (writeBack sl v s).mst = s.mst :=
  (congrArg State.mst (writeBack_only sl v s).1).trans rfl
@[simp] theorem writeBack_sch (sl : Nat) (v : Option MaltLine) (s : State) : (writeBack sl v s).sch = s.sch :=
  (congrArg State.sch (writeBack_only sl v s).1).trans rfl
@[simp] theorem writeBack_ret (sl : Nat) (v : Option MaltLine) (s : State) : (writeBack sl v s).ret = s.ret :=
  (congrArg State.ret (writeBack_only sl v s).1).trans rfl
@[simp] theorem writeBack_free (sl : Nat) (v : Option MaltLine) (s : State) : (writeBack sl v s).free = s.free :=
  (congrArg State.free (writeBack_only sl v s).1).trans rfl
@[simp] theorem writeBack_pending (sl : Nat) (v : Option MaltLine) (s : State) : (writeBack sl v s).pending = s.pending :=
  (congrArg State.pending (writeBack_only sl v s).1).trans rfl
@[simp] theorem writeBack_cells (sl : Nat) (v : Option MaltLine) (s : State) : (writeBack sl v s).mem.cells = s.mem.cells :=
  (writeBack_only sl v s).2

@[simp] theorem maltTouch_hk (h : Hint) (w full : Bool) (a : Nat) (s : State) : (maltTouch h w full a s).hk = s.hk :=
  (congrArg State.hk (maltTouch_only h w full a s).1).trans rfl
@[simp] theorem maltTouch_fuses (h : Hint) (w full : Bool) (a : Nat) (s : State) : (maltTouch h w full a s).fuses = s.fuses :=
  (congrArg State.fuses (maltTouch_only h w full a s).1).trans rfl
@[simp] theorem maltTouch_flash (h : Hint) (w full : Bool) (a : Nat) (s : State) : (maltTouch h w full a s).flash = s.flash :=
  (congrArg State.flash (maltTouch_only h w full a s).1).trans rfl
@[simp] theorem maltTouch_fw (h : Hint) (w full : Bool) (a : Nat) (s : State) : (maltTouch h w full a s).fw = s.fw :=
  (congrArg State.fw (maltTouch_only h w full a s).1).trans rfl
@[simp] theorem maltTouch_plots (h : Hint) (w full : Bool) (a : Nat) (s : State) : (maltTouch h w full a s).plots = s.plots :=
  (congrArg State.plots (maltTouch_only h w full a s).1).trans rfl
@[simp] theorem maltTouch_grn (h : Hint) (w full : Bool) (a : Nat) (s : State) : (maltTouch h w full a s).grn = s.grn :=
  (congrArg State.grn (maltTouch_only h w full a s).1).trans rfl
@[simp] theorem maltTouch_ltr (h : Hint) (w full : Bool) (a : Nat) (s : State) : (maltTouch h w full a s).ltr = s.ltr :=
  (congrArg State.ltr (maltTouch_only h w full a s).1).trans rfl
@[simp] theorem maltTouch_csk (h : Hint) (w full : Bool) (a : Nat) (s : State) : (maltTouch h w full a s).csk = s.csk :=
  (congrArg State.csk (maltTouch_only h w full a s).1).trans rfl
@[simp] theorem maltTouch_fab (h : Hint) (w full : Bool) (a : Nat) (s : State) : (maltTouch h w full a s).fab = s.fab :=
  (congrArg State.fab (maltTouch_only h w full a s).1).trans rfl
@[simp] theorem maltTouch_host (h : Hint) (w full : Bool) (a : Nat) (s : State) : (maltTouch h w full a s).host = s.host :=
  (congrArg State.host (maltTouch_only h w full a s).1).trans rfl
@[simp] theorem maltTouch_mst (h : Hint) (w full : Bool) (a : Nat) (s : State) : (maltTouch h w full a s).mst = s.mst :=
  (congrArg State.mst (maltTouch_only h w full a s).1).trans rfl
@[simp] theorem maltTouch_sch (h : Hint) (w full : Bool) (a : Nat) (s : State) : (maltTouch h w full a s).sch = s.sch :=
  (congrArg State.sch (maltTouch_only h w full a s).1).trans rfl
@[simp] theorem maltTouch_ret (h : Hint) (w full : Bool) (a : Nat) (s : State) : (maltTouch h w full a s).ret = s.ret :=
  (congrArg State.ret (maltTouch_only h w full a s).1).trans rfl
@[simp] theorem maltTouch_free (h : Hint) (w full : Bool) (a : Nat) (s : State) : (maltTouch h w full a s).free = s.free :=
  (congrArg State.free (maltTouch_only h w full a s).1).trans rfl
@[simp] theorem maltTouch_pending (h : Hint) (w full : Bool) (a : Nat) (s : State) : (maltTouch h w full a s).pending = s.pending :=
  (congrArg State.pending (maltTouch_only h w full a s).1).trans rfl
@[simp] theorem maltTouch_cells (h : Hint) (w full : Bool) (a : Nat) (s : State) : (maltTouch h w full a s).mem.cells = s.mem.cells :=
  (maltTouch_only h w full a s).2

/-! ### Reads of device memory: no byte of memory changes -/

theorem lineRead_cells (req : Nat) (h : Hint) (a n : Nat) (s : State) : (lineRead req h a n s).1.mem.cells = s.mem.cells := by
  unfold lineRead; dsimp only; split <;> simp

theorem linesRead_cells (req : Nat) (h : Hint) (ls : List (Nat × Nat)) (s : State) :
    (linesRead req h ls s).1.mem.cells = s.mem.cells := by
  induction ls generalizing s with
  | nil => rfl
  | cons x ls ih => simp only [linesRead]; rw [ih, lineRead_cells]

theorem hostReadNow_cells (req a n : Nat) (s : State) : (hostReadNow req a n s).1.mem.cells = s.mem.cells := by
  unfold hostReadNow; split
  · rfl
  · split <;> simp

theorem requestRead_cells (req : Nat) (h : Hint) (a n : Nat) (s : State) : (requestRead req h a n s).1.mem.cells = s.mem.cells := by
  unfold requestRead
  split
  · simp
  · split
    · exact linesRead_cells ..
    · exact linesRead_cells ..
    · exact hostReadNow_cells ..
    · rfl

theorem requestsRead_cells (req : Nat) (h : Hint) (ls : List (Nat × Nat)) (s : State) :
    (requestsRead req h ls s).1.mem.cells = s.mem.cells := by
  induction ls generalizing s with
  | nil => rfl
  | cons x ls ih => simp only [requestsRead]; rw [ih, requestRead_cells]

/-- A read of device memory changes no byte of it. -/
@[simp] theorem devRead_cells (req : Nat) (h : Hint) (a n : Nat) (s : State) : (devRead req h a n s).1.mem.cells = s.mem.cells :=
  requestsRead_cells ..

theorem linesRead_fuses (req : Nat) (h : Hint) (ls : List (Nat × Nat)) (s : State) : (linesRead req h ls s).1.fuses = s.fuses := by
  induction ls generalizing s with
  | nil => rfl
  | cons x ls ih =>
    simp only [linesRead]; rw [ih]; unfold lineRead; dsimp only; split <;> simp

theorem requestRead_fuses (req : Nat) (h : Hint) (a n : Nat) (s : State) : (requestRead req h a n s).1.fuses = s.fuses := by
  unfold requestRead hostReadNow
  repeat (first | split | simp [linesRead_fuses])

@[simp] theorem devRead_fuses (req : Nat) (h : Hint) (a n : Nat) (s : State) : (devRead req h a n s).1.fuses = s.fuses := by
  unfold devRead
  induction requests a n generalizing s with
  | nil => rfl
  | cons x ls ih => simp only [requestsRead]; rw [ih, requestRead_fuses]

theorem linesRead_flash (req : Nat) (h : Hint) (ls : List (Nat × Nat)) (s : State) : (linesRead req h ls s).1.flash = s.flash := by
  induction ls generalizing s with
  | nil => rfl
  | cons x ls ih =>
    simp only [linesRead]; rw [ih]; unfold lineRead; dsimp only; split <;> simp

theorem requestRead_flash (req : Nat) (h : Hint) (a n : Nat) (s : State) : (requestRead req h a n s).1.flash = s.flash := by
  unfold requestRead hostReadNow
  repeat (first | split | simp [linesRead_flash])

@[simp] theorem devRead_flash (req : Nat) (h : Hint) (a n : Nat) (s : State) : (devRead req h a n s).1.flash = s.flash := by
  unfold devRead
  induction requests a n generalizing s with
  | nil => rfl
  | cons x ls ih => simp only [requestsRead]; rw [ih, requestRead_flash]

theorem linesRead_fw (req : Nat) (h : Hint) (ls : List (Nat × Nat)) (s : State) : (linesRead req h ls s).1.fw = s.fw := by
  induction ls generalizing s with
  | nil => rfl
  | cons x ls ih =>
    simp only [linesRead]; rw [ih]; unfold lineRead; dsimp only; split <;> simp

theorem requestRead_fw (req : Nat) (h : Hint) (a n : Nat) (s : State) : (requestRead req h a n s).1.fw = s.fw := by
  unfold requestRead hostReadNow
  repeat (first | split | simp [linesRead_fw])

@[simp] theorem devRead_fw (req : Nat) (h : Hint) (a n : Nat) (s : State) : (devRead req h a n s).1.fw = s.fw := by
  unfold devRead
  induction requests a n generalizing s with
  | nil => rfl
  | cons x ls ih => simp only [requestsRead]; rw [ih, requestRead_fw]

theorem linesRead_plots (req : Nat) (h : Hint) (ls : List (Nat × Nat)) (s : State) : (linesRead req h ls s).1.plots = s.plots := by
  induction ls generalizing s with
  | nil => rfl
  | cons x ls ih =>
    simp only [linesRead]; rw [ih]; unfold lineRead; dsimp only; split <;> simp

theorem requestRead_plots (req : Nat) (h : Hint) (a n : Nat) (s : State) : (requestRead req h a n s).1.plots = s.plots := by
  unfold requestRead hostReadNow
  repeat (first | split | simp [linesRead_plots])

@[simp] theorem devRead_plots (req : Nat) (h : Hint) (a n : Nat) (s : State) : (devRead req h a n s).1.plots = s.plots := by
  unfold devRead
  induction requests a n generalizing s with
  | nil => rfl
  | cons x ls ih => simp only [requestsRead]; rw [ih, requestRead_plots]

theorem linesRead_grn (req : Nat) (h : Hint) (ls : List (Nat × Nat)) (s : State) : (linesRead req h ls s).1.grn = s.grn := by
  induction ls generalizing s with
  | nil => rfl
  | cons x ls ih =>
    simp only [linesRead]; rw [ih]; unfold lineRead; dsimp only; split <;> simp

theorem requestRead_grn (req : Nat) (h : Hint) (a n : Nat) (s : State) : (requestRead req h a n s).1.grn = s.grn := by
  unfold requestRead hostReadNow
  repeat (first | split | simp [linesRead_grn])

@[simp] theorem devRead_grn (req : Nat) (h : Hint) (a n : Nat) (s : State) : (devRead req h a n s).1.grn = s.grn := by
  unfold devRead
  induction requests a n generalizing s with
  | nil => rfl
  | cons x ls ih => simp only [requestsRead]; rw [ih, requestRead_grn]

theorem linesRead_ltr (req : Nat) (h : Hint) (ls : List (Nat × Nat)) (s : State) : (linesRead req h ls s).1.ltr = s.ltr := by
  induction ls generalizing s with
  | nil => rfl
  | cons x ls ih =>
    simp only [linesRead]; rw [ih]; unfold lineRead; dsimp only; split <;> simp

theorem requestRead_ltr (req : Nat) (h : Hint) (a n : Nat) (s : State) : (requestRead req h a n s).1.ltr = s.ltr := by
  unfold requestRead hostReadNow
  repeat (first | split | simp [linesRead_ltr])

@[simp] theorem devRead_ltr (req : Nat) (h : Hint) (a n : Nat) (s : State) : (devRead req h a n s).1.ltr = s.ltr := by
  unfold devRead
  induction requests a n generalizing s with
  | nil => rfl
  | cons x ls ih => simp only [requestsRead]; rw [ih, requestRead_ltr]

theorem linesRead_csk (req : Nat) (h : Hint) (ls : List (Nat × Nat)) (s : State) : (linesRead req h ls s).1.csk = s.csk := by
  induction ls generalizing s with
  | nil => rfl
  | cons x ls ih =>
    simp only [linesRead]; rw [ih]; unfold lineRead; dsimp only; split <;> simp

theorem requestRead_csk (req : Nat) (h : Hint) (a n : Nat) (s : State) : (requestRead req h a n s).1.csk = s.csk := by
  unfold requestRead hostReadNow
  repeat (first | split | simp [linesRead_csk])

@[simp] theorem devRead_csk (req : Nat) (h : Hint) (a n : Nat) (s : State) : (devRead req h a n s).1.csk = s.csk := by
  unfold devRead
  induction requests a n generalizing s with
  | nil => rfl
  | cons x ls ih => simp only [requestsRead]; rw [ih, requestRead_csk]

theorem linesRead_fab (req : Nat) (h : Hint) (ls : List (Nat × Nat)) (s : State) : (linesRead req h ls s).1.fab = s.fab := by
  induction ls generalizing s with
  | nil => rfl
  | cons x ls ih =>
    simp only [linesRead]; rw [ih]; unfold lineRead; dsimp only; split <;> simp

theorem requestRead_fab (req : Nat) (h : Hint) (a n : Nat) (s : State) : (requestRead req h a n s).1.fab = s.fab := by
  unfold requestRead hostReadNow
  repeat (first | split | simp [linesRead_fab])

@[simp] theorem devRead_fab (req : Nat) (h : Hint) (a n : Nat) (s : State) : (devRead req h a n s).1.fab = s.fab := by
  unfold devRead
  induction requests a n generalizing s with
  | nil => rfl
  | cons x ls ih => simp only [requestsRead]; rw [ih, requestRead_fab]

theorem linesRead_mst (req : Nat) (h : Hint) (ls : List (Nat × Nat)) (s : State) : (linesRead req h ls s).1.mst = s.mst := by
  induction ls generalizing s with
  | nil => rfl
  | cons x ls ih =>
    simp only [linesRead]; rw [ih]; unfold lineRead; dsimp only; split <;> simp

theorem requestRead_mst (req : Nat) (h : Hint) (a n : Nat) (s : State) : (requestRead req h a n s).1.mst = s.mst := by
  unfold requestRead hostReadNow
  repeat (first | split | simp [linesRead_mst])

@[simp] theorem devRead_mst (req : Nat) (h : Hint) (a n : Nat) (s : State) : (devRead req h a n s).1.mst = s.mst := by
  unfold devRead
  induction requests a n generalizing s with
  | nil => rfl
  | cons x ls ih => simp only [requestsRead]; rw [ih, requestRead_mst]

theorem linesRead_sch (req : Nat) (h : Hint) (ls : List (Nat × Nat)) (s : State) : (linesRead req h ls s).1.sch = s.sch := by
  induction ls generalizing s with
  | nil => rfl
  | cons x ls ih =>
    simp only [linesRead]; rw [ih]; unfold lineRead; dsimp only; split <;> simp

theorem requestRead_sch (req : Nat) (h : Hint) (a n : Nat) (s : State) : (requestRead req h a n s).1.sch = s.sch := by
  unfold requestRead hostReadNow
  repeat (first | split | simp [linesRead_sch])

@[simp] theorem devRead_sch (req : Nat) (h : Hint) (a n : Nat) (s : State) : (devRead req h a n s).1.sch = s.sch := by
  unfold devRead
  induction requests a n generalizing s with
  | nil => rfl
  | cons x ls ih => simp only [requestsRead]; rw [ih, requestRead_sch]

theorem linesRead_ret (req : Nat) (h : Hint) (ls : List (Nat × Nat)) (s : State) : (linesRead req h ls s).1.ret = s.ret := by
  induction ls generalizing s with
  | nil => rfl
  | cons x ls ih =>
    simp only [linesRead]; rw [ih]; unfold lineRead; dsimp only; split <;> simp

theorem requestRead_ret (req : Nat) (h : Hint) (a n : Nat) (s : State) : (requestRead req h a n s).1.ret = s.ret := by
  unfold requestRead hostReadNow
  repeat (first | split | simp [linesRead_ret])

@[simp] theorem devRead_ret (req : Nat) (h : Hint) (a n : Nat) (s : State) : (devRead req h a n s).1.ret = s.ret := by
  unfold devRead
  induction requests a n generalizing s with
  | nil => rfl
  | cons x ls ih => simp only [requestsRead]; rw [ih, requestRead_ret]

theorem linesRead_free (req : Nat) (h : Hint) (ls : List (Nat × Nat)) (s : State) : (linesRead req h ls s).1.free = s.free := by
  induction ls generalizing s with
  | nil => rfl
  | cons x ls ih =>
    simp only [linesRead]; rw [ih]; unfold lineRead; dsimp only; split <;> simp

theorem requestRead_free (req : Nat) (h : Hint) (a n : Nat) (s : State) : (requestRead req h a n s).1.free = s.free := by
  unfold requestRead hostReadNow
  repeat (first | split | simp [linesRead_free])

@[simp] theorem devRead_free (req : Nat) (h : Hint) (a n : Nat) (s : State) : (devRead req h a n s).1.free = s.free := by
  unfold devRead
  induction requests a n generalizing s with
  | nil => rfl
  | cons x ls ih => simp only [requestsRead]; rw [ih, requestRead_free]

theorem linesRead_pending (req : Nat) (h : Hint) (ls : List (Nat × Nat)) (s : State) : (linesRead req h ls s).1.pending = s.pending := by
  induction ls generalizing s with
  | nil => rfl
  | cons x ls ih =>
    simp only [linesRead]; rw [ih]; unfold lineRead; dsimp only; split <;> simp

theorem requestRead_pending (req : Nat) (h : Hint) (a n : Nat) (s : State) : (requestRead req h a n s).1.pending = s.pending := by
  unfold requestRead hostReadNow
  repeat (first | split | simp [linesRead_pending])

@[simp] theorem devRead_pending (req : Nat) (h : Hint) (a n : Nat) (s : State) : (devRead req h a n s).1.pending = s.pending := by
  unfold devRead
  induction requests a n generalizing s with
  | nil => rfl
  | cons x ls ih => simp only [requestsRead]; rw [ih, requestRead_pending]

/-! ### Writes of device memory -/

theorem Memory.wf_putByte (m : Memory) (a : Nat) (b : Byte) (h : m.wf = true) : (m.putByte a b).wf = true :=
  Tab.wf_set _ _ _ _ h

/-- Writing bytes keeps the canonical form. -/
theorem Memory.wf_putBytes (m : Memory) (a : Nat) (bs : List Byte) (h : m.wf = true) : (m.putBytes a bs).wf = true := by
  induction bs generalizing m a with
  | nil => exact h
  | cons b bs ih => exact ih _ _ (Memory.wf_putByte m a b h)

/-- What the bytes of memory read as after a write. -/
theorem Memory.get_putBytes (m : Memory) (a : Nat) (bs : List Byte) (i : Nat) (h : m.wf = true) :
    Tab.get 0 (m.putBytes a bs).cells i = if a ≤ i ∧ i < a + bs.length then bs.getD (i - a) 0 else Tab.get 0 m.cells i := by
  have e : ∀ (bs : List Byte) (m : Memory) (a : Nat), (m.putBytes a bs).cells = Tab.setMany 0 m.cells a bs := by
    intro bs
    induction bs with
    | nil => intros; rfl
    | cons b bs ih => intro m a; simp only [Memory.putBytes, Tab.setMany]; rw [ih]; rfl
  rw [e]
  exact Tab.get_setMany 0 m.cells a bs i h

@[simp] theorem Memory.setPoison_cells (m : Memory) (a : Nat) (v : Bool) : (m.setPoison a v).cells = m.cells := by
  unfold Memory.setPoison; split <;> rfl

/-- Zeroing a set of addresses keeps the canonical form. -/
theorem Memory.wf_zeroWhere (p : Nat → Bool) (m : Memory) (h : m.wf = true) : (zeroWhere p m).wf = true :=
  Tab.wf_filter _ _ _ h

/-- Reset memory lists nothing. -/
theorem Memory.wf_reset : State.reset.mem.wf = true := rfl

/-- Equal canonical memories that read alike list the same bytes. -/
theorem Memory.cells_ext (m n : Memory) (hm : m.wf = true) (hn : n.wf = true)
    (h : ∀ a, Tab.get 0 m.cells a = Tab.get 0 n.cells a) : m.cells = n.cells := Tab.ext_of_wfFrom 0 _ _ 0 hm hn h

/-- A property of the listed bytes alone. -/
theorem Memory.wf_of_cells (m n : Memory) (h : n.cells = m.cells) (hm : m.wf = true) : n.wf = true := by
  unfold Memory.wf at *; rw [h]; exact hm

theorem lineWrite_wf (h : Hint) (w : Bool) (a : Nat) (bs : List Byte) (s : State) (hs : s.mem.wf = true) :
    (lineWrite h w a bs s).mem.wf = true := by
  have key : ((maltTouch h true (bs.length == 128) a s).mem.putBytes a bs).wf = true :=
    Memory.wf_putBytes _ _ _ (Memory.wf_of_cells s.mem _ (maltTouch_cells ..) hs)
  unfold lineWrite
  split
  · exact hs
  · dsimp only
    split
    · exact Memory.wf_of_cells _ _ (Memory.setPoison_cells ..) key
    · exact key

theorem linesWrite_wf (h : Hint) (lo hi : Nat) (ls : List (Nat × Nat)) (bs : List Byte) (s : State) (hs : s.mem.wf = true) :
    (linesWrite h lo hi ls bs s).mem.wf = true := by
  induction ls generalizing bs s with
  | nil => exact hs
  | cons x ls ih => simp only [linesWrite]; exact ih _ _ (lineWrite_wf _ _ _ _ _ hs)

theorem dirWrite_mem (ps : List (Nat × Nat)) (bs : List Byte) (s : State) : (dirWrite ps bs s).mem = s.mem := by
  induction ps generalizing bs s with
  | nil => rfl
  | cons x ps ih => simp only [dirWrite]; rw [ih]; rfl

theorem hostWrite_mem (req a : Nat) (bs : List Byte) (ep : Bool) (s : State) : (hostWrite req a bs ep s).mem = s.mem := by
  unfold hostWrite; split
  · rfl
  · split <;> simp

theorem requestWrite_wf (req : Nat) (h : Hint) (a : Nat) (bs : List Byte) (s : State) (hs : s.mem.wf = true) :
    (requestWrite req h a bs s).mem.wf = true := by
  unfold requestWrite
  split
  · simpa using hs
  · split
    · exact linesWrite_wf _ _ _ _ _ _ hs
    · exact linesWrite_wf _ _ _ _ _ _ hs
    · rw [hostWrite_mem]; exact hs
    · rw [dirWrite_mem]; exact hs
    · exact Memory.wf_putBytes _ _ _ hs

/-- A write of device memory keeps its canonical form. -/
theorem devWrite_wf (req : Nat) (h : Hint) (a : Nat) (bs : List Byte) (s : State) (hs : s.mem.wf = true) :
    (devWrite req h a bs s).mem.wf = true := by
  unfold devWrite
  generalize requests a bs.length = rs
  induction rs generalizing bs s with
  | nil => exact hs
  | cons x ls ih => simp only [requestsWrite]; exact ih _ _ (requestWrite_wf _ _ _ _ _ hs)

/-! ### What a write of device memory leaves alone -/

theorem linesWrite_fuses (h : Hint) (lo hi : Nat) (ls : List (Nat × Nat)) (bs : List Byte) (s : State) :
    (linesWrite h lo hi ls bs s).fuses = s.fuses := by
  induction ls generalizing bs s with
  | nil => rfl
  | cons x ls ih =>
    simp only [linesWrite]; rw [ih]; unfold lineWrite
    split
    · rfl
    · dsimp only; split <;> simp

theorem requestWrite_fuses (req : Nat) (h : Hint) (a : Nat) (bs : List Byte) (s : State) :
    (requestWrite req h a bs s).fuses = s.fuses := by
  have e : ∀ (ps : List (Nat × Nat)) (bs : List Byte) (s : State), (dirWrite ps bs s).fuses = s.fuses := by
    intro ps
    induction ps with
    | nil => intros; rfl
    | cons x ps ih => intro bs s; simp only [dirWrite]; rw [ih]; rfl
  unfold requestWrite hostWrite
  repeat (first | split | simp [linesWrite_fuses, e])

@[simp] theorem devWrite_fuses (req : Nat) (h : Hint) (a : Nat) (bs : List Byte) (s : State) :
    (devWrite req h a bs s).fuses = s.fuses := by
  unfold devWrite
  generalize requests a bs.length = rs
  induction rs generalizing bs s with
  | nil => rfl
  | cons x ls ih => simp only [requestsWrite]; rw [ih, requestWrite_fuses]

theorem linesWrite_flash (h : Hint) (lo hi : Nat) (ls : List (Nat × Nat)) (bs : List Byte) (s : State) :
    (linesWrite h lo hi ls bs s).flash = s.flash := by
  induction ls generalizing bs s with
  | nil => rfl
  | cons x ls ih =>
    simp only [linesWrite]; rw [ih]; unfold lineWrite
    split
    · rfl
    · dsimp only; split <;> simp

theorem requestWrite_flash (req : Nat) (h : Hint) (a : Nat) (bs : List Byte) (s : State) :
    (requestWrite req h a bs s).flash = s.flash := by
  have e : ∀ (ps : List (Nat × Nat)) (bs : List Byte) (s : State), (dirWrite ps bs s).flash = s.flash := by
    intro ps
    induction ps with
    | nil => intros; rfl
    | cons x ps ih => intro bs s; simp only [dirWrite]; rw [ih]; rfl
  unfold requestWrite hostWrite
  repeat (first | split | simp [linesWrite_flash, e])

@[simp] theorem devWrite_flash (req : Nat) (h : Hint) (a : Nat) (bs : List Byte) (s : State) :
    (devWrite req h a bs s).flash = s.flash := by
  unfold devWrite
  generalize requests a bs.length = rs
  induction rs generalizing bs s with
  | nil => rfl
  | cons x ls ih => simp only [requestsWrite]; rw [ih, requestWrite_flash]

theorem linesWrite_fw (h : Hint) (lo hi : Nat) (ls : List (Nat × Nat)) (bs : List Byte) (s : State) :
    (linesWrite h lo hi ls bs s).fw = s.fw := by
  induction ls generalizing bs s with
  | nil => rfl
  | cons x ls ih =>
    simp only [linesWrite]; rw [ih]; unfold lineWrite
    split
    · rfl
    · dsimp only; split <;> simp

theorem requestWrite_fw (req : Nat) (h : Hint) (a : Nat) (bs : List Byte) (s : State) :
    (requestWrite req h a bs s).fw = s.fw := by
  have e : ∀ (ps : List (Nat × Nat)) (bs : List Byte) (s : State), (dirWrite ps bs s).fw = s.fw := by
    intro ps
    induction ps with
    | nil => intros; rfl
    | cons x ps ih => intro bs s; simp only [dirWrite]; rw [ih]; rfl
  unfold requestWrite hostWrite
  repeat (first | split | simp [linesWrite_fw, e])

@[simp] theorem devWrite_fw (req : Nat) (h : Hint) (a : Nat) (bs : List Byte) (s : State) :
    (devWrite req h a bs s).fw = s.fw := by
  unfold devWrite
  generalize requests a bs.length = rs
  induction rs generalizing bs s with
  | nil => rfl
  | cons x ls ih => simp only [requestsWrite]; rw [ih, requestWrite_fw]

theorem linesWrite_plots (h : Hint) (lo hi : Nat) (ls : List (Nat × Nat)) (bs : List Byte) (s : State) :
    (linesWrite h lo hi ls bs s).plots = s.plots := by
  induction ls generalizing bs s with
  | nil => rfl
  | cons x ls ih =>
    simp only [linesWrite]; rw [ih]; unfold lineWrite
    split
    · rfl
    · dsimp only; split <;> simp

theorem requestWrite_plots (req : Nat) (h : Hint) (a : Nat) (bs : List Byte) (s : State) :
    (requestWrite req h a bs s).plots = s.plots := by
  have e : ∀ (ps : List (Nat × Nat)) (bs : List Byte) (s : State), (dirWrite ps bs s).plots = s.plots := by
    intro ps
    induction ps with
    | nil => intros; rfl
    | cons x ps ih => intro bs s; simp only [dirWrite]; rw [ih]; rfl
  unfold requestWrite hostWrite
  repeat (first | split | simp [linesWrite_plots, e])

@[simp] theorem devWrite_plots (req : Nat) (h : Hint) (a : Nat) (bs : List Byte) (s : State) :
    (devWrite req h a bs s).plots = s.plots := by
  unfold devWrite
  generalize requests a bs.length = rs
  induction rs generalizing bs s with
  | nil => rfl
  | cons x ls ih => simp only [requestsWrite]; rw [ih, requestWrite_plots]

theorem linesWrite_ltr (h : Hint) (lo hi : Nat) (ls : List (Nat × Nat)) (bs : List Byte) (s : State) :
    (linesWrite h lo hi ls bs s).ltr = s.ltr := by
  induction ls generalizing bs s with
  | nil => rfl
  | cons x ls ih =>
    simp only [linesWrite]; rw [ih]; unfold lineWrite
    split
    · rfl
    · dsimp only; split <;> simp

theorem requestWrite_ltr (req : Nat) (h : Hint) (a : Nat) (bs : List Byte) (s : State) :
    (requestWrite req h a bs s).ltr = s.ltr := by
  have e : ∀ (ps : List (Nat × Nat)) (bs : List Byte) (s : State), (dirWrite ps bs s).ltr = s.ltr := by
    intro ps
    induction ps with
    | nil => intros; rfl
    | cons x ps ih => intro bs s; simp only [dirWrite]; rw [ih]; rfl
  unfold requestWrite hostWrite
  repeat (first | split | simp [linesWrite_ltr, e])

@[simp] theorem devWrite_ltr (req : Nat) (h : Hint) (a : Nat) (bs : List Byte) (s : State) :
    (devWrite req h a bs s).ltr = s.ltr := by
  unfold devWrite
  generalize requests a bs.length = rs
  induction rs generalizing bs s with
  | nil => rfl
  | cons x ls ih => simp only [requestsWrite]; rw [ih, requestWrite_ltr]

theorem linesWrite_csk (h : Hint) (lo hi : Nat) (ls : List (Nat × Nat)) (bs : List Byte) (s : State) :
    (linesWrite h lo hi ls bs s).csk = s.csk := by
  induction ls generalizing bs s with
  | nil => rfl
  | cons x ls ih =>
    simp only [linesWrite]; rw [ih]; unfold lineWrite
    split
    · rfl
    · dsimp only; split <;> simp

theorem requestWrite_csk (req : Nat) (h : Hint) (a : Nat) (bs : List Byte) (s : State) :
    (requestWrite req h a bs s).csk = s.csk := by
  have e : ∀ (ps : List (Nat × Nat)) (bs : List Byte) (s : State), (dirWrite ps bs s).csk = s.csk := by
    intro ps
    induction ps with
    | nil => intros; rfl
    | cons x ps ih => intro bs s; simp only [dirWrite]; rw [ih]; rfl
  unfold requestWrite hostWrite
  repeat (first | split | simp [linesWrite_csk, e])

@[simp] theorem devWrite_csk (req : Nat) (h : Hint) (a : Nat) (bs : List Byte) (s : State) :
    (devWrite req h a bs s).csk = s.csk := by
  unfold devWrite
  generalize requests a bs.length = rs
  induction rs generalizing bs s with
  | nil => rfl
  | cons x ls ih => simp only [requestsWrite]; rw [ih, requestWrite_csk]

theorem linesWrite_fab (h : Hint) (lo hi : Nat) (ls : List (Nat × Nat)) (bs : List Byte) (s : State) :
    (linesWrite h lo hi ls bs s).fab = s.fab := by
  induction ls generalizing bs s with
  | nil => rfl
  | cons x ls ih =>
    simp only [linesWrite]; rw [ih]; unfold lineWrite
    split
    · rfl
    · dsimp only; split <;> simp

theorem requestWrite_fab (req : Nat) (h : Hint) (a : Nat) (bs : List Byte) (s : State) :
    (requestWrite req h a bs s).fab = s.fab := by
  have e : ∀ (ps : List (Nat × Nat)) (bs : List Byte) (s : State), (dirWrite ps bs s).fab = s.fab := by
    intro ps
    induction ps with
    | nil => intros; rfl
    | cons x ps ih => intro bs s; simp only [dirWrite]; rw [ih]; rfl
  unfold requestWrite hostWrite
  repeat (first | split | simp [linesWrite_fab, e])

@[simp] theorem devWrite_fab (req : Nat) (h : Hint) (a : Nat) (bs : List Byte) (s : State) :
    (devWrite req h a bs s).fab = s.fab := by
  unfold devWrite
  generalize requests a bs.length = rs
  induction rs generalizing bs s with
  | nil => rfl
  | cons x ls ih => simp only [requestsWrite]; rw [ih, requestWrite_fab]

theorem linesWrite_mst (h : Hint) (lo hi : Nat) (ls : List (Nat × Nat)) (bs : List Byte) (s : State) :
    (linesWrite h lo hi ls bs s).mst = s.mst := by
  induction ls generalizing bs s with
  | nil => rfl
  | cons x ls ih =>
    simp only [linesWrite]; rw [ih]; unfold lineWrite
    split
    · rfl
    · dsimp only; split <;> simp

theorem requestWrite_mst (req : Nat) (h : Hint) (a : Nat) (bs : List Byte) (s : State) :
    (requestWrite req h a bs s).mst = s.mst := by
  have e : ∀ (ps : List (Nat × Nat)) (bs : List Byte) (s : State), (dirWrite ps bs s).mst = s.mst := by
    intro ps
    induction ps with
    | nil => intros; rfl
    | cons x ps ih => intro bs s; simp only [dirWrite]; rw [ih]; rfl
  unfold requestWrite hostWrite
  repeat (first | split | simp [linesWrite_mst, e])

@[simp] theorem devWrite_mst (req : Nat) (h : Hint) (a : Nat) (bs : List Byte) (s : State) :
    (devWrite req h a bs s).mst = s.mst := by
  unfold devWrite
  generalize requests a bs.length = rs
  induction rs generalizing bs s with
  | nil => rfl
  | cons x ls ih => simp only [requestsWrite]; rw [ih, requestWrite_mst]

theorem linesWrite_sch (h : Hint) (lo hi : Nat) (ls : List (Nat × Nat)) (bs : List Byte) (s : State) :
    (linesWrite h lo hi ls bs s).sch = s.sch := by
  induction ls generalizing bs s with
  | nil => rfl
  | cons x ls ih =>
    simp only [linesWrite]; rw [ih]; unfold lineWrite
    split
    · rfl
    · dsimp only; split <;> simp

theorem requestWrite_sch (req : Nat) (h : Hint) (a : Nat) (bs : List Byte) (s : State) :
    (requestWrite req h a bs s).sch = s.sch := by
  have e : ∀ (ps : List (Nat × Nat)) (bs : List Byte) (s : State), (dirWrite ps bs s).sch = s.sch := by
    intro ps
    induction ps with
    | nil => intros; rfl
    | cons x ps ih => intro bs s; simp only [dirWrite]; rw [ih]; rfl
  unfold requestWrite hostWrite
  repeat (first | split | simp [linesWrite_sch, e])

@[simp] theorem devWrite_sch (req : Nat) (h : Hint) (a : Nat) (bs : List Byte) (s : State) :
    (devWrite req h a bs s).sch = s.sch := by
  unfold devWrite
  generalize requests a bs.length = rs
  induction rs generalizing bs s with
  | nil => rfl
  | cons x ls ih => simp only [requestsWrite]; rw [ih, requestWrite_sch]

theorem linesWrite_ret (h : Hint) (lo hi : Nat) (ls : List (Nat × Nat)) (bs : List Byte) (s : State) :
    (linesWrite h lo hi ls bs s).ret = s.ret := by
  induction ls generalizing bs s with
  | nil => rfl
  | cons x ls ih =>
    simp only [linesWrite]; rw [ih]; unfold lineWrite
    split
    · rfl
    · dsimp only; split <;> simp

theorem requestWrite_ret (req : Nat) (h : Hint) (a : Nat) (bs : List Byte) (s : State) :
    (requestWrite req h a bs s).ret = s.ret := by
  have e : ∀ (ps : List (Nat × Nat)) (bs : List Byte) (s : State), (dirWrite ps bs s).ret = s.ret := by
    intro ps
    induction ps with
    | nil => intros; rfl
    | cons x ps ih => intro bs s; simp only [dirWrite]; rw [ih]; rfl
  unfold requestWrite hostWrite
  repeat (first | split | simp [linesWrite_ret, e])

@[simp] theorem devWrite_ret (req : Nat) (h : Hint) (a : Nat) (bs : List Byte) (s : State) :
    (devWrite req h a bs s).ret = s.ret := by
  unfold devWrite
  generalize requests a bs.length = rs
  induction rs generalizing bs s with
  | nil => rfl
  | cons x ls ih => simp only [requestsWrite]; rw [ih, requestWrite_ret]

theorem linesWrite_free (h : Hint) (lo hi : Nat) (ls : List (Nat × Nat)) (bs : List Byte) (s : State) :
    (linesWrite h lo hi ls bs s).free = s.free := by
  induction ls generalizing bs s with
  | nil => rfl
  | cons x ls ih =>
    simp only [linesWrite]; rw [ih]; unfold lineWrite
    split
    · rfl
    · dsimp only; split <;> simp

theorem requestWrite_free (req : Nat) (h : Hint) (a : Nat) (bs : List Byte) (s : State) :
    (requestWrite req h a bs s).free = s.free := by
  have e : ∀ (ps : List (Nat × Nat)) (bs : List Byte) (s : State), (dirWrite ps bs s).free = s.free := by
    intro ps
    induction ps with
    | nil => intros; rfl
    | cons x ps ih => intro bs s; simp only [dirWrite]; rw [ih]; rfl
  unfold requestWrite hostWrite
  repeat (first | split | simp [linesWrite_free, e])

@[simp] theorem devWrite_free (req : Nat) (h : Hint) (a : Nat) (bs : List Byte) (s : State) :
    (devWrite req h a bs s).free = s.free := by
  unfold devWrite
  generalize requests a bs.length = rs
  induction rs generalizing bs s with
  | nil => rfl
  | cons x ls ih => simp only [requestsWrite]; rw [ih, requestWrite_free]

theorem linesWrite_pending (h : Hint) (lo hi : Nat) (ls : List (Nat × Nat)) (bs : List Byte) (s : State) :
    (linesWrite h lo hi ls bs s).pending = s.pending := by
  induction ls generalizing bs s with
  | nil => rfl
  | cons x ls ih =>
    simp only [linesWrite]; rw [ih]; unfold lineWrite
    split
    · rfl
    · dsimp only; split <;> simp

theorem requestWrite_pending (req : Nat) (h : Hint) (a : Nat) (bs : List Byte) (s : State) :
    (requestWrite req h a bs s).pending = s.pending := by
  have e : ∀ (ps : List (Nat × Nat)) (bs : List Byte) (s : State), (dirWrite ps bs s).pending = s.pending := by
    intro ps
    induction ps with
    | nil => intros; rfl
    | cons x ps ih => intro bs s; simp only [dirWrite]; rw [ih]; rfl
  unfold requestWrite hostWrite
  repeat (first | split | simp [linesWrite_pending, e])

@[simp] theorem devWrite_pending (req : Nat) (h : Hint) (a : Nat) (bs : List Byte) (s : State) :
    (devWrite req h a bs s).pending = s.pending := by
  unfold devWrite
  generalize requests a bs.length = rs
  induction rs generalizing bs s with
  | nil => rfl
  | cons x ls ih => simp only [requestsWrite]; rw [ih, requestWrite_pending]

/-! ### Fences -/

@[simp] theorem takeFence_hk (e : Nat) (s : State) : (takeFence e s).hk = s.hk := by
  simp [takeFence]
@[simp] theorem takeFence_fuses (e : Nat) (s : State) : (takeFence e s).fuses = s.fuses := by
  simp [takeFence]
@[simp] theorem takeFence_flash (e : Nat) (s : State) : (takeFence e s).flash = s.flash := by
  simp [takeFence]
@[simp] theorem takeFence_fw (e : Nat) (s : State) : (takeFence e s).fw = s.fw := by
  simp [takeFence]
@[simp] theorem takeFence_plots (e : Nat) (s : State) : (takeFence e s).plots = s.plots := by
  simp [takeFence]
@[simp] theorem takeFence_grn (e : Nat) (s : State) : (takeFence e s).grn = s.grn := by
  simp [takeFence]
@[simp] theorem takeFence_ltr (e : Nat) (s : State) : (takeFence e s).ltr = s.ltr := by
  simp [takeFence]
@[simp] theorem takeFence_csk (e : Nat) (s : State) : (takeFence e s).csk = s.csk := by
  simp [takeFence]
@[simp] theorem takeFence_fab (e : Nat) (s : State) : (takeFence e s).fab = s.fab := by
  simp [takeFence]
@[simp] theorem takeFence_mst (e : Nat) (s : State) : (takeFence e s).mst = s.mst := by
  simp [takeFence]
@[simp] theorem takeFence_sch (e : Nat) (s : State) : (takeFence e s).sch = s.sch := by
  simp [takeFence]
@[simp] theorem takeFence_ret (e : Nat) (s : State) : (takeFence e s).ret = s.ret := by
  simp [takeFence]
@[simp] theorem takeFence_free (e : Nat) (s : State) : (takeFence e s).free = s.free := by
  simp [takeFence]
@[simp] theorem takeFence_pending (e : Nat) (s : State) : (takeFence e s).pending = s.pending := by
  simp [takeFence]

@[simp] theorem takeFence_cells (e : Nat) (s : State) : (takeFence e s).mem.cells = s.mem.cells := by simp [takeFence]

end Sys2Proof.Machine
end

