-- ==== Sys2Proof/Laws/Mailbox.lean ====
section
/-! SUPPORT. What the mailbox protocol can change: taking a command touches its mailbox alone, a refusal changes nothing, and a
response writes its buffer, its slot, its counters, the shadow word and an interrupt. -/

namespace Sys2Proof.Machine

@[simp] theorem takeCmd_hk (m : Nat) (s : State) : (takeCmd m s).hk = s.hk := by
  rfl
@[simp] theorem takeCmd_fuses (m : Nat) (s : State) : (takeCmd m s).fuses = s.fuses := by
  rfl
@[simp] theorem takeCmd_flash (m : Nat) (s : State) : (takeCmd m s).flash = s.flash := by
  rfl
@[simp] theorem takeCmd_fw (m : Nat) (s : State) : (takeCmd m s).fw = s.fw := by
  rfl
@[simp] theorem takeCmd_mem (m : Nat) (s : State) : (takeCmd m s).mem = s.mem := by
  rfl
@[simp] theorem takeCmd_plots (m : Nat) (s : State) : (takeCmd m s).plots = s.plots := by
  rfl
@[simp] theorem takeCmd_grn (m : Nat) (s : State) : (takeCmd m s).grn = s.grn := by
  rfl
@[simp] theorem takeCmd_ltr (m : Nat) (s : State) : (takeCmd m s).ltr = s.ltr := by
  rfl
@[simp] theorem takeCmd_csk (m : Nat) (s : State) : (takeCmd m s).csk = s.csk := by
  rfl
@[simp] theorem takeCmd_fab (m : Nat) (s : State) : (takeCmd m s).fab = s.fab := by
  rfl
@[simp] theorem takeCmd_host (m : Nat) (s : State) : (takeCmd m s).host = s.host := by
  rfl
@[simp] theorem takeCmd_sch (m : Nat) (s : State) : (takeCmd m s).sch = s.sch := by
  rfl
@[simp] theorem takeCmd_ret (m : Nat) (s : State) : (takeCmd m s).ret = s.ret := by
  rfl
@[simp] theorem takeCmd_free (m : Nat) (s : State) : (takeCmd m s).free = s.free := by
  rfl
@[simp] theorem takeCmd_pending (m : Nat) (s : State) : (takeCmd m s).pending = s.pending := by
  rfl

@[simp] theorem putRing_hk (off : Nat) (bs : List Byte) (s : State) : (putRing off bs s).hk = s.hk := by
  rfl
@[simp] theorem putRing_fuses (off : Nat) (bs : List Byte) (s : State) : (putRing off bs s).fuses = s.fuses := by
  rfl
@[simp] theorem putRing_flash (off : Nat) (bs : List Byte) (s : State) : (putRing off bs s).flash = s.flash := by
  rfl
@[simp] theorem putRing_fw (off : Nat) (bs : List Byte) (s : State) : (putRing off bs s).fw = s.fw := by
  rfl
@[simp] theorem putRing_mem (off : Nat) (bs : List Byte) (s : State) : (putRing off bs s).mem = s.mem := by
  rfl
@[simp] theorem putRing_plots (off : Nat) (bs : List Byte) (s : State) : (putRing off bs s).plots = s.plots := by
  rfl
@[simp] theorem putRing_grn (off : Nat) (bs : List Byte) (s : State) : (putRing off bs s).grn = s.grn := by
  rfl
@[simp] theorem putRing_ltr (off : Nat) (bs : List Byte) (s : State) : (putRing off bs s).ltr = s.ltr := by
  rfl
@[simp] theorem putRing_csk (off : Nat) (bs : List Byte) (s : State) : (putRing off bs s).csk = s.csk := by
  rfl
@[simp] theorem putRing_fab (off : Nat) (bs : List Byte) (s : State) : (putRing off bs s).fab = s.fab := by
  rfl
@[simp] theorem putRing_host (off : Nat) (bs : List Byte) (s : State) : (putRing off bs s).host = s.host := by
  rfl
@[simp] theorem putRing_sch (off : Nat) (bs : List Byte) (s : State) : (putRing off bs s).sch = s.sch := by
  rfl
@[simp] theorem putRing_ret (off : Nat) (bs : List Byte) (s : State) : (putRing off bs s).ret = s.ret := by
  rfl
@[simp] theorem putRing_free (off : Nat) (bs : List Byte) (s : State) : (putRing off bs s).free = s.free := by
  rfl
@[simp] theorem putRing_pending (off : Nat) (bs : List Byte) (s : State) : (putRing off bs s).pending = s.pending := by
  rfl

@[simp] theorem latch_hk (l : Bool) (w : LatchWhat) (s : State) : (latch l w s).hk = s.hk := by
  rfl
@[simp] theorem latch_fuses (l : Bool) (w : LatchWhat) (s : State) : (latch l w s).fuses = s.fuses := by
  rfl
@[simp] theorem latch_flash (l : Bool) (w : LatchWhat) (s : State) : (latch l w s).flash = s.flash := by
  rfl
@[simp] theorem latch_fw (l : Bool) (w : LatchWhat) (s : State) : (latch l w s).fw = s.fw := by
  rfl
@[simp] theorem latch_mem (l : Bool) (w : LatchWhat) (s : State) : (latch l w s).mem = s.mem := by
  rfl
@[simp] theorem latch_plots (l : Bool) (w : LatchWhat) (s : State) : (latch l w s).plots = s.plots := by
  rfl
@[simp] theorem latch_grn (l : Bool) (w : LatchWhat) (s : State) : (latch l w s).grn = s.grn := by
  rfl
@[simp] theorem latch_ltr (l : Bool) (w : LatchWhat) (s : State) : (latch l w s).ltr = s.ltr := by
  rfl
@[simp] theorem latch_csk (l : Bool) (w : LatchWhat) (s : State) : (latch l w s).csk = s.csk := by
  rfl
@[simp] theorem latch_fab (l : Bool) (w : LatchWhat) (s : State) : (latch l w s).fab = s.fab := by
  rfl
@[simp] theorem latch_host (l : Bool) (w : LatchWhat) (s : State) : (latch l w s).host = s.host := by
  rfl
@[simp] theorem latch_mst (l : Bool) (w : LatchWhat) (s : State) : (latch l w s).mst = s.mst := by
  rfl
@[simp] theorem latch_ret (l : Bool) (w : LatchWhat) (s : State) : (latch l w s).ret = s.ret := by
  rfl
@[simp] theorem latch_free (l : Bool) (w : LatchWhat) (s : State) : (latch l w s).free = s.free := by
  rfl
@[simp] theorem latch_pending (l : Bool) (w : LatchWhat) (s : State) : (latch l w s).pending = s.pending := by
  rfl

/-- Taking a command counts it, and the mailbox executes until the response. -/
theorem takeCmd_mbx (m n : Nat) (s : State) (h : Tab.wf {} s.mst.mbx = true) :
    (takeCmd m s).mbx n = if n = m then { s.mbx m with cmdCons := ((s.mbx m).cmdCons + 1) % 65536, seq := ((s.mbx m).seq + 1) % 2 ^ 32, active := true }
      else s.mbx n := State.mbx_onMbx m n _ s h

/-- A refusal answers a response and the state unchanged. -/
@[simp] theorem refuse_eq (st : Status) (s : State) (d : Nat) (i : List Byte) :
    refuse st s d i = .reply { status := st, detail := d, inline := i } s := rfl

@[simp] theorem finish_reply (c : Cmd) (r : Reply) (s : State) : finish c (.reply r s) = respond c r s := rfl
@[simp] theorem finish_pend (c : Cmd) (s : State) : finish c (.pend s) = s := rfl

/-! ### Buffers, shadow word, interrupt -/

@[simp] theorem bufferWrite_fuses (m : Nat) (l : Bool) (a : Nat) (bs : List Byte) (s : State) : (bufferWrite m l a bs s).fuses = s.fuses := by
  unfold bufferWrite; split <;> simp
@[simp] theorem bufferWrite_flash (m : Nat) (l : Bool) (a : Nat) (bs : List Byte) (s : State) : (bufferWrite m l a bs s).flash = s.flash := by
  unfold bufferWrite; split <;> simp
@[simp] theorem bufferWrite_fw (m : Nat) (l : Bool) (a : Nat) (bs : List Byte) (s : State) : (bufferWrite m l a bs s).fw = s.fw := by
  unfold bufferWrite; split <;> simp
@[simp] theorem bufferWrite_plots (m : Nat) (l : Bool) (a : Nat) (bs : List Byte) (s : State) : (bufferWrite m l a bs s).plots = s.plots := by
  unfold bufferWrite; split <;> simp
@[simp] theorem bufferWrite_ltr (m : Nat) (l : Bool) (a : Nat) (bs : List Byte) (s : State) : (bufferWrite m l a bs s).ltr = s.ltr := by
  unfold bufferWrite; split <;> simp
@[simp] theorem bufferWrite_csk (m : Nat) (l : Bool) (a : Nat) (bs : List Byte) (s : State) : (bufferWrite m l a bs s).csk = s.csk := by
  unfold bufferWrite; split <;> simp
@[simp] theorem bufferWrite_fab (m : Nat) (l : Bool) (a : Nat) (bs : List Byte) (s : State) : (bufferWrite m l a bs s).fab = s.fab := by
  unfold bufferWrite; split <;> simp
@[simp] theorem bufferWrite_sch (m : Nat) (l : Bool) (a : Nat) (bs : List Byte) (s : State) : (bufferWrite m l a bs s).sch = s.sch := by
  unfold bufferWrite; split <;> simp
@[simp] theorem bufferWrite_ret (m : Nat) (l : Bool) (a : Nat) (bs : List Byte) (s : State) : (bufferWrite m l a bs s).ret = s.ret := by
  unfold bufferWrite; split <;> simp
@[simp] theorem bufferWrite_free (m : Nat) (l : Bool) (a : Nat) (bs : List Byte) (s : State) : (bufferWrite m l a bs s).free = s.free := by
  unfold bufferWrite; split <;> simp
@[simp] theorem bufferWrite_pending (m : Nat) (l : Bool) (a : Nat) (bs : List Byte) (s : State) : (bufferWrite m l a bs s).pending = s.pending := by
  unfold bufferWrite; split <;> simp

@[simp] theorem bufferRead_fuses (m : Nat) (l : Bool) (a n : Nat) (s : State) : (bufferRead m l a n s).1.fuses = s.fuses := by
  unfold bufferRead; split <;> simp
@[simp] theorem bufferRead_flash (m : Nat) (l : Bool) (a n : Nat) (s : State) : (bufferRead m l a n s).1.flash = s.flash := by
  unfold bufferRead; split <;> simp
@[simp] theorem bufferRead_fw (m : Nat) (l : Bool) (a n : Nat) (s : State) : (bufferRead m l a n s).1.fw = s.fw := by
  unfold bufferRead; split <;> simp
@[simp] theorem bufferRead_plots (m : Nat) (l : Bool) (a n : Nat) (s : State) : (bufferRead m l a n s).1.plots = s.plots := by
  unfold bufferRead; split <;> simp
@[simp] theorem bufferRead_grn (m : Nat) (l : Bool) (a n : Nat) (s : State) : (bufferRead m l a n s).1.grn = s.grn := by
  unfold bufferRead; split <;> simp
@[simp] theorem bufferRead_ltr (m : Nat) (l : Bool) (a n : Nat) (s : State) : (bufferRead m l a n s).1.ltr = s.ltr := by
  unfold bufferRead; split <;> simp
@[simp] theorem bufferRead_csk (m : Nat) (l : Bool) (a n : Nat) (s : State) : (bufferRead m l a n s).1.csk = s.csk := by
  unfold bufferRead; split <;> simp
@[simp] theorem bufferRead_fab (m : Nat) (l : Bool) (a n : Nat) (s : State) : (bufferRead m l a n s).1.fab = s.fab := by
  unfold bufferRead; split <;> simp
@[simp] theorem bufferRead_mst (m : Nat) (l : Bool) (a n : Nat) (s : State) : (bufferRead m l a n s).1.mst = s.mst := by
  unfold bufferRead; split <;> simp
@[simp] theorem bufferRead_sch (m : Nat) (l : Bool) (a n : Nat) (s : State) : (bufferRead m l a n s).1.sch = s.sch := by
  unfold bufferRead; split <;> simp
@[simp] theorem bufferRead_ret (m : Nat) (l : Bool) (a n : Nat) (s : State) : (bufferRead m l a n s).1.ret = s.ret := by
  unfold bufferRead; split <;> simp
@[simp] theorem bufferRead_free (m : Nat) (l : Bool) (a n : Nat) (s : State) : (bufferRead m l a n s).1.free = s.free := by
  unfold bufferRead; split <;> simp
@[simp] theorem bufferRead_pending (m : Nat) (l : Bool) (a n : Nat) (s : State) : (bufferRead m l a n s).1.pending = s.pending := by
  unfold bufferRead; split <;> simp
@[simp] theorem bufferRead_cells (m : Nat) (l : Bool) (a n : Nat) (s : State) : (bufferRead m l a n s).1.mem.cells = s.mem.cells := by
  unfold bufferRead; split <;> simp

theorem bufferWrite_wf (m : Nat) (l : Bool) (a : Nat) (bs : List Byte) (s : State) (hs : s.mem.wf = true) :
    (bufferWrite m l a bs s).mem.wf = true := by
  unfold bufferWrite; split
  · exact hs
  · exact devWrite_wf _ _ _ _ _ hs

@[simp] theorem respIrq_hk (m : Nat) (now : Bool) (s : State) : (respIrq m now s).hk = s.hk := by
  unfold respIrq; dsimp only; split <;> simp
@[simp] theorem respIrq_fuses (m : Nat) (now : Bool) (s : State) : (respIrq m now s).fuses = s.fuses := by
  unfold respIrq; dsimp only; split <;> simp
@[simp] theorem respIrq_flash (m : Nat) (now : Bool) (s : State) : (respIrq m now s).flash = s.flash := by
  unfold respIrq; dsimp only; split <;> simp
@[simp] theorem respIrq_fw (m : Nat) (now : Bool) (s : State) : (respIrq m now s).fw = s.fw := by
  unfold respIrq; dsimp only; split <;> simp
@[simp] theorem respIrq_mem (m : Nat) (now : Bool) (s : State) : (respIrq m now s).mem = s.mem := by
  unfold respIrq; dsimp only; split <;> simp
@[simp] theorem respIrq_plots (m : Nat) (now : Bool) (s : State) : (respIrq m now s).plots = s.plots := by
  unfold respIrq; dsimp only; split <;> simp
@[simp] theorem respIrq_grn (m : Nat) (now : Bool) (s : State) : (respIrq m now s).grn = s.grn := by
  unfold respIrq; dsimp only; split <;> simp
@[simp] theorem respIrq_ltr (m : Nat) (now : Bool) (s : State) : (respIrq m now s).ltr = s.ltr := by
  unfold respIrq; dsimp only; split <;> simp
@[simp] theorem respIrq_csk (m : Nat) (now : Bool) (s : State) : (respIrq m now s).csk = s.csk := by
  unfold respIrq; dsimp only; split <;> simp
@[simp] theorem respIrq_fab (m : Nat) (now : Bool) (s : State) : (respIrq m now s).fab = s.fab := by
  unfold respIrq; dsimp only; split <;> simp
@[simp] theorem respIrq_sch (m : Nat) (now : Bool) (s : State) : (respIrq m now s).sch = s.sch := by
  unfold respIrq; dsimp only; split <;> simp
@[simp] theorem respIrq_ret (m : Nat) (now : Bool) (s : State) : (respIrq m now s).ret = s.ret := by
  unfold respIrq; dsimp only; split <;> simp
@[simp] theorem respIrq_free (m : Nat) (now : Bool) (s : State) : (respIrq m now s).free = s.free := by
  unfold respIrq; dsimp only; split <;> simp
@[simp] theorem respIrq_pending (m : Nat) (now : Bool) (s : State) : (respIrq m now s).pending = s.pending := by
  unfold respIrq; dsimp only; split <;> simp

@[simp] theorem shadowWord_fuses (m : Nat) (s : State) : (shadowWord m s).fuses = s.fuses := by
  unfold shadowWord; dsimp only; split
  · split <;> simp
  · rfl
@[simp] theorem shadowWord_flash (m : Nat) (s : State) : (shadowWord m s).flash = s.flash := by
  unfold shadowWord; dsimp only; split
  · split <;> simp
  · rfl
@[simp] theorem shadowWord_fw (m : Nat) (s : State) : (shadowWord m s).fw = s.fw := by
  unfold shadowWord; dsimp only; split
  · split <;> simp
  · rfl
@[simp] theorem shadowWord_plots (m : Nat) (s : State) : (shadowWord m s).plots = s.plots := by
  unfold shadowWord; dsimp only; split
  · split <;> simp
  · rfl
@[simp] theorem shadowWord_ltr (m : Nat) (s : State) : (shadowWord m s).ltr = s.ltr := by
  unfold shadowWord; dsimp only; split
  · split <;> simp
  · rfl
@[simp] theorem shadowWord_csk (m : Nat) (s : State) : (shadowWord m s).csk = s.csk := by
  unfold shadowWord; dsimp only; split
  · split <;> simp
  · rfl
@[simp] theorem shadowWord_fab (m : Nat) (s : State) : (shadowWord m s).fab = s.fab := by
  unfold shadowWord; dsimp only; split
  · split <;> simp
  · rfl
@[simp] theorem shadowWord_sch (m : Nat) (s : State) : (shadowWord m s).sch = s.sch := by
  unfold shadowWord; dsimp only; split
  · split <;> simp
  · rfl
@[simp] theorem shadowWord_ret (m : Nat) (s : State) : (shadowWord m s).ret = s.ret := by
  unfold shadowWord; dsimp only; split
  · split <;> simp
  · rfl
@[simp] theorem shadowWord_free (m : Nat) (s : State) : (shadowWord m s).free = s.free := by
  unfold shadowWord; dsimp only; split
  · split <;> simp
  · rfl
@[simp] theorem shadowWord_pending (m : Nat) (s : State) : (shadowWord m s).pending = s.pending := by
  unfold shadowWord; dsimp only; split
  · split <;> simp
  · rfl

theorem shadowWord_wf (m : Nat) (s : State) (hs : s.mem.wf = true) : (shadowWord m s).mem.wf = true := by
  unfold shadowWord; dsimp only; split
  · split
    · exact hs
    · exact devWrite_wf _ _ _ _ _ hs
  · exact hs

/-! ### A response -/

@[simp] theorem respond_fuses (c : Cmd) (r : Reply) (s : State) : (respond c r s).fuses = s.fuses := by
  unfold respond; rw [respIrq_fuses, shadowWord_fuses, State.onMbx_fuses, putRing_fuses, takeFence_fuses]; split <;> simp
@[simp] theorem respond_flash (c : Cmd) (r : Reply) (s : State) : (respond c r s).flash = s.flash := by
  unfold respond; rw [respIrq_flash, shadowWord_flash, State.onMbx_flash, putRing_flash, takeFence_flash]; split <;> simp
@[simp] theorem respond_fw (c : Cmd) (r : Reply) (s : State) : (respond c r s).fw = s.fw := by
  unfold respond; rw [respIrq_fw, shadowWord_fw, State.onMbx_fw, putRing_fw, takeFence_fw]; split <;> simp
@[simp] theorem respond_plots (c : Cmd) (r : Reply) (s : State) : (respond c r s).plots = s.plots := by
  unfold respond; rw [respIrq_plots, shadowWord_plots, State.onMbx_plots, putRing_plots, takeFence_plots]; split <;> simp
@[simp] theorem respond_ltr (c : Cmd) (r : Reply) (s : State) : (respond c r s).ltr = s.ltr := by
  unfold respond; rw [respIrq_ltr, shadowWord_ltr, State.onMbx_ltr, putRing_ltr, takeFence_ltr]; split <;> simp
@[simp] theorem respond_csk (c : Cmd) (r : Reply) (s : State) : (respond c r s).csk = s.csk := by
  unfold respond; rw [respIrq_csk, shadowWord_csk, State.onMbx_csk, putRing_csk, takeFence_csk]; split <;> simp
@[simp] theorem respond_fab (c : Cmd) (r : Reply) (s : State) : (respond c r s).fab = s.fab := by
  unfold respond; rw [respIrq_fab, shadowWord_fab, State.onMbx_fab, putRing_fab, takeFence_fab]; split <;> simp
@[simp] theorem respond_sch (c : Cmd) (r : Reply) (s : State) : (respond c r s).sch = s.sch := by
  unfold respond; rw [respIrq_sch, shadowWord_sch, State.onMbx_sch, putRing_sch, takeFence_sch]; split <;> simp
@[simp] theorem respond_ret (c : Cmd) (r : Reply) (s : State) : (respond c r s).ret = s.ret := by
  unfold respond; rw [respIrq_ret, shadowWord_ret, State.onMbx_ret, putRing_ret, takeFence_ret]; split <;> simp
@[simp] theorem respond_free (c : Cmd) (r : Reply) (s : State) : (respond c r s).free = s.free := by
  unfold respond; rw [respIrq_free, shadowWord_free, State.onMbx_free, putRing_free, takeFence_free]; split <;> simp
@[simp] theorem respond_pending (c : Cmd) (r : Reply) (s : State) : (respond c r s).pending = s.pending := by
  unfold respond; rw [respIrq_pending, shadowWord_pending, State.onMbx_pending, putRing_pending, takeFence_pending]; split <;> simp

/-- A response keeps memory canonical. -/
theorem respond_wf (c : Cmd) (r : Reply) (s : State) (hs : s.mem.wf = true) : (respond c r s).mem.wf = true := by
  have h1 : (takeFence reqMaltster (if r.res.isEmpty then s else bufferWrite c.m c.resLocal c.resAddr r.res s)).mem.wf = true := by
    refine Memory.wf_of_cells _ _ (takeFence_cells ..) ?_
    split
    · exact hs
    · exact bufferWrite_wf _ _ _ _ _ hs
  unfold respond
  rw [respIrq_mem]
  refine shadowWord_wf _ _ ?_
  rw [State.onMbx_mem, putRing_mem]
  exact h1

@[simp] theorem announce_hk (s t : State) : (announce s t).hk = t.hk := by
  unfold announce; split <;> simp
@[simp] theorem announce_fuses (s t : State) : (announce s t).fuses = t.fuses := by
  unfold announce; split <;> simp
@[simp] theorem announce_flash (s t : State) : (announce s t).flash = t.flash := by
  unfold announce; split <;> simp
@[simp] theorem announce_fw (s t : State) : (announce s t).fw = t.fw := by
  unfold announce; split <;> simp
@[simp] theorem announce_mem (s t : State) : (announce s t).mem = t.mem := by
  unfold announce; split <;> simp
@[simp] theorem announce_plots (s t : State) : (announce s t).plots = t.plots := by
  unfold announce; split <;> simp
@[simp] theorem announce_grn (s t : State) : (announce s t).grn = t.grn := by
  unfold announce; split <;> simp
@[simp] theorem announce_ltr (s t : State) : (announce s t).ltr = t.ltr := by
  unfold announce; split <;> simp
@[simp] theorem announce_csk (s t : State) : (announce s t).csk = t.csk := by
  unfold announce; split <;> simp
@[simp] theorem announce_fab (s t : State) : (announce s t).fab = t.fab := by
  unfold announce; split <;> simp
@[simp] theorem announce_mst (s t : State) : (announce s t).mst = t.mst := by
  unfold announce; split <;> simp
@[simp] theorem announce_sch (s t : State) : (announce s t).sch = t.sch := by
  unfold announce; split <;> simp
@[simp] theorem announce_ret (s t : State) : (announce s t).ret = t.ret := by
  unfold announce; split <;> simp
@[simp] theorem announce_free (s t : State) : (announce s t).free = t.free := by
  unfold announce; split <;> simp
@[simp] theorem announce_pending (s t : State) : (announce s t).pending = t.pending := by
  unfold announce; split <;> simp

/-- A mailbox that waits with no command: its row does not apply. -/
theorem serve_none (m : Nat) (is : Cmd → Bool) (sh : Cmd → Shape) (body : Cmd → State → CmdOut) (s : State) (h : waiting s m = none) :
    serve m is sh body s = s := by
  unfold serve; rw [h]

/-- A command of another row: nothing happens. -/
theorem serve_other (m : Nat) (is : Cmd → Bool) (sh : Cmd → Shape) (body : Cmd → State → CmdOut) (s : State) (c : Cmd)
    (h : waiting s m = some c) (hi : is c = false) : serve m is sh body s = s := by
  unfold serve; rw [h]; simp [hi]

/-- A command that fails a common check is answered, and nothing else is done. -/
theorem serve_refused (m : Nat) (is : Cmd → Bool) (sh : Cmd → Shape) (body : Cmd → State → CmdOut) (s : State) (c : Cmd) (r : Reply)
    (h : waiting s m = some c) (hi : is c = true) (hp : precheck c (sh c) (takeCmd m s) = some r) :
    serve m is sh body s = announce s (respond c r (takeCmd m s)) := by
  unfold serve; rw [h]; simp [hi, hp]

/-- A field that no response, no interrupt and no buffer read changes is what the command's body leaves. -/
theorem serve_keeps {β : Type} (π : State → β) (m : Nat) (is : Cmd → Bool) (sh : Cmd → Shape) (body : Cmd → State → CmdOut) (s : State)
    (hann : ∀ t u, π (announce t u) = π u) (hres : ∀ c r t, π (respond c r t) = π t) (htake : ∀ t, π (takeCmd m t) = π t)
    (hread : ∀ (c : Cmd) t, π (bufferRead m c.argLocal c.argAddr c.argLen t).1 = π t)
    (hbody : ∀ c t, π (match body c t with | .reply _ u => u | .pend u => u) = π t) :
    π (serve m is sh body s) = π s := by
  unfold serve
  split
  · rfl
  · split
    · dsimp only
      split
      · rw [hann, hres, htake]
      · rename_i c _ _ _
        rw [hann]
        have hb : ∀ c t, π (finish c (body c t)) = π t := by
          intro c t
          have := hbody c t
          cases e : body c t with
          | reply r u => rw [e] at this; simp only [finish]; rw [hres, this]
          | pend u => rw [e] at this; simpa [finish] using this
        rw [hb]
        split
        · exact htake s
        · rw [hread, htake]
    · rfl

/-- A command served keeps memory canonical when its body does. -/
theorem serve_wf (m : Nat) (is : Cmd → Bool) (sh : Cmd → Shape) (body : Cmd → State → CmdOut) (s : State) (hs : s.mem.wf = true)
    (hbody : ∀ c t, t.mem.wf = true → (match body c t with | .reply _ u => u | .pend u => u).mem.wf = true) :
    (serve m is sh body s).mem.wf = true := by
  unfold serve
  split
  · exact hs
  · split
    · dsimp only
      split
      · rw [announce_mem]; exact respond_wf _ _ _ hs
      · rename_i c _ _ _
        rw [announce_mem]
        have hb : ∀ c t, t.mem.wf = true → (finish c (body c t)).mem.wf = true := by
          intro c t ht
          have := hbody c t ht
          cases e : body c t with
          | reply r u => rw [e] at this; exact respond_wf _ _ _ this
          | pend u => rw [e] at this; exact this
        apply hb
        split
        · exact hs
        · exact Memory.wf_of_cells _ _ (bufferRead_cells ..) hs
    · exact hs

end Sys2Proof.Machine
end

