-- ==== Sys2Proof/WellFormed.lean ====
section
/-! DEFINITION. Which terms of Instr are commands of the block: the bounds and shapes the spec gives operands that their
types do not hold. exec is total on ill-formed terms too; no rule is stated about them. -/

namespace Sys2Proof

/-- A requester of Table 12.8, or BAR2. -/
def reqWf (req : Nat) : Bool := decide (req ≤ 69)

/-- An access of 1 to 128 bytes within one line (R126). -/
def lineWf (addr len : Nat) : Bool := decide (1 ≤ len) && decide (addr % 128 + len ≤ 128)

/-- A host access of 1 to 4,096 bytes within 4 KiB: one PCI Express request (R296, R297, R300). -/
def hostLenWf (off len : Nat) : Bool := decide (1 ≤ len) && decide (off % 4096 + len ≤ 4096)

/-- A set of 64 exchanges (T4 - T1, T3 - T2), each turned round before its answer (R239). -/
def exchWf (exch : List (Nat × Nat)) : Bool := exch.length == 64 && exch.all (fun x => decide (x.2 ≤ x.1))

/-- A whole line, aligned (R129). -/
def wholeLineWf (l : BitVec 44 × List Byte) : Bool := l.1.toNat % 128 == 0 && l.2.length == 128

/-- A commit group: 1 to 8 lines of one frame (R129). -/
def groupWf (ls : List (BitVec 44 × List Byte)) : Bool :=
  decide (1 ≤ ls.length) && decide (ls.length ≤ 8) && ls.all wholeLineWf &&
    ls.all (fun l => l.1.toNat / 0x10000 == ((ls.map (fun x => x.1.toNat / 0x10000)).headD 0))

/-- The bodies of an Espalier frame (R256): COUNT of them, 248 bytes for DATA and 8 for WITHY, none for ACK. -/
def frameWf (h : FrameHdr) (bodies : List (List Byte)) : Bool :=
  match h.kind.toNat with
  | 0 => decide (h.count.toNat ≤ 32) && bodies.length == h.count.toNat && bodies.all (fun b => b.length == 248)
  | 1 => bodies.length == h.count.toNat && bodies.all (fun b => b.length == 8)
  | 2 => bodies.isEmpty
  | _ => false

/-- What makes a service command fail names a channel of R146. -/
def failWf : Option ServiceFail → Bool
  | none => true
  | some (.training c) => decide (c < 384)
  | some (.coppice c) => decide (c < 384)
  | some (.check c) => decide (c < 384)

/-- A Hopper's result (Table 06.14). -/
def hopperWf (r : HopperRep) : Bool := decide (r.firstMask < 2 ^ 512)

/-- A Coppice result's code (Table 15.5). -/
def coppiceWf (r : CoppiceRec) : Bool := decide (r.result ≤ 3) && decide (r.block < 2 ^ 16)

/-- Bytes of a row's MB8 gradient: whole blocks of 33 bytes (R167, R283). -/
def blocksWf (bs : List Byte) : Bool := bs.length % 33 == 0

/-- The command or event is well formed. -/
def Instr.wf : Instr → Bool
  | .getInfo _ => true
  | .getStatus _ => true
  | .setProfile _ => true
  | .park _ => true
  | .unpark _ => true
  | .shutdown _ => true
  | .getAttestation _ => true
  | .setPartition _ => true
  | .allocObject _ => true
  | .freeObject _ => true
  | .moveObject _ => true
  | .setTunWindow _ => true
  | .hopperRun _ => true
  | .tableCreate _ => true
  | .tableLoad _ => true
  | .tableStageVersion _ => true
  | .tableCommitVersion _ => true
  | .tableExport _ => true
  | .replicateRows _ => true
  | .unreplicateRows _ => true
  | .granaryStats _ => true
  | .portConfig _ => true
  | .portMeasure _ exch _ => exchWf exch
  | .portRetrain _ => true
  | .portStatus _ => true
  | .partnerTable _ => true
  | .setMac _ => true
  | .bundleLoad _ _ => true
  | .bundleActivate _ => true
  | .stepArm _ => true
  | .stepStatus _ => true
  | .reshard _ => true
  | .reshardCancel _ => true
  | .setStragglerPolicy _ => true
  | .ruleSet _ => true
  | .setStepSize _ => true
  | .precondConfig _ => true
  | .stateExport _ => true
  | .stateImport _ => true
  | .noiseStats _ => true
  | .fwStage _ => true
  | .fwActivate _ => true
  | .channelOut _ => true
  | .channelIn _ bad => failWf bad
  | .cellarOut _ => true
  | .cellarIn _ bad => failWf bad
  | .recalibrate _ failed => failed.all (fun c => decide (c < 388))
  | .sensorsRead _ => true
  | .countersRead _ => true
  | .errlogRead _ => true
  | .stickyClear _ => true
  | .coppiceResults _ => true
  | .idleByCause _ => true
  | .reservedOpcode _ => true
  | .coordFail _ => true
  | .bundleCoordFail _ => true
  | .mbxCmdProd _ _ => true
  | .mbxRspCons _ _ => true
  | .mbxCtrlReset _ _ => true
  | .stmStickyW1c _ _ => true
  | .stmSupplyWrite => true
  | .fncBar2BaseWrite _ => true
  | .fncHostLatWrite _ => true
  | .fncFenceReq low wide _ => low || !wide
  | .segmentEnable _ w0 => w0.toNat % 2 == 1
  | .segmentDisable _ w0 => w0.toNat % 2 == 0
  | .registerWrite off wide _ => off.toNat % (if wide then 8 else 4) == 0
  | .fenceComplete => true
  | .bar0Access write off len data => hostLenWf off.toNat (if write then data.length else len)
  | .bar2Read off len => hostLenWf off len
  | .bar2Write off data _ => hostLenWf off data.length
  | .atomicopRequest _ => true
  | .configRequest _ reg _ => reg.toNat % 4 == 0
  | .readCompletion tag _ _ _ => decide (tag < 768)
  | .cplTimeout tag => decide (tag < 768)
  | .pcieRecovery _ => true
  | .linkSlow speed width => speed != 0 && width != 0
  | .hostDetach _ => true
  | .coalesceTimeout _ => true
  | .takeover _ => true
  | .maltsterRestart _ => true
  | .maltsterLoss => true
  | .hop _ _ => true
  | .rowGroupStart _ _ => true
  | .hedgeDrain _ _ => true
  | .hopComplete _ => true
  | .wload _ _ => true
  | .wloadComplete _ => true
  | .mash _ _ => true
  | .move _ _ => true
  | .moveComplete _ => true
  | .swait _ _ => true
  | .spost _ _ => true
  | .ewait _ _ => true
  | .fclr _ _ => true
  | .regionCheck _ => true
  | .scopeDecision _ => true
  | .loopDescriptor _ => true
  | .rootDescriptor _ => true
  | .nop _ => true
  | .fadd _ => true
  | .fsub _ => true
  | .fmul _ => true
  | .ffma _ => true
  | .fmin _ => true
  | .fmax _ => true
  | .fabs _ => true
  | .fneg _ => true
  | .fdiv _ => true
  | .fsqrt _ => true
  | .fexp2 _ => true
  | .flog2 _ => true
  | .fcmpeq _ => true
  | .fcmplt _ => true
  | .fcmple _ => true
  | .fcmpun _ => true
  | .iadd _ => true
  | .isub _ => true
  | .imul _ => true
  | .and _ => true
  | .or _ => true
  | .xor _ => true
  | .shl _ => true
  | .shra _ => true
  | .shrl _ => true
  | .imin _ => true
  | .imax _ => true
  | .icmpeq _ => true
  | .icmplt _ => true
  | .vmov _ => true
  | .fsel _ => true
  | .vbcs _ => true
  | .vscal _ => true
  | .cvtF2b _ => true
  | .cvtF2h _ => true
  | .cvtB2f _ => true
  | .cvtH2f _ => true
  | .cvtF2i _ => true
  | .cvtI2f _ => true
  | .iota _ => true
  | .rsum _ => true
  | .rsuma _ => true
  | .rmax _ => true
  | .rmin _ => true
  | .ramax _ => true
  | .irsuma _ => true
  | .mand _ => true
  | .mor _ => true
  | .mnot _ => true
  | .mset _ => true
  | .mclr _ => true
  | .mfclr _ => true
  | .maltAccess req addr _ write len data _ => reqWf req && lineWf addr.toNat (if write then data.length else len)
  | .commitGroup req ls => reqWf req && groupWf ls
  | .fence req => reqWf req
  | .tadd req _ fmt _ => reqWf req && decide (fmt.toNat ≤ 6)
  | .tread req _ => reqWf req
  | .treadclr req _ => reqWf req
  | .tclr req _ => reqWf req
  | .tunIadd req _ _ => reqWf req
  | .ireadclr req _ => reqWf req
  | .linkRetransmit _ => true
  | .cellarDieLost _ => true
  | .scrub _ found => found.all (fun x => x.2 != .clean)
  | .hotRefresh _ _ => true
  | .driftTracking _ => true
  | .hopperDone _ rep => hopperWf rep
  | .resolutionRequest _ _ _ _ _ => true
  | .sectorFill _ _ _ => true
  | .agingSweep => true
  | .pool _ _ _ => true
  | .gradientRecord _ _ blocks _ => blocksWf blocks
  | .embeddingRowUpdate _ _ => true
  | .contribArrival _ _ payload lost => lost.all (fun i => decide (i ≤ payload.length / 248))
  | .denseGroupUpdate _ _ => true
  | .reducedBlock _ _ _ _ => true
  | .distArrival _ _ _ _ _ => true
  | .normReduction _ _ _ => true
  | .reshardRecord _ _ _ _ _ => true
  | .reshardComplete _ => true
  | .reshardFail _ => true
  | .tokenAppend _ _ key value => key.length == value.length
  | .spill _ => true
  | .prefetch _ => true
  | .partDelivery _ _ _ _ => true
  | .saveImage _ => true
  | .loadImage _ => true
  | .splitPartial _ _ _ _ => true
  | .release _ _ _ _ _ _ _ => true
  | .releaseAct _ => true
  | .arriveAt => true
  | .gradTallyArrival _ => true
  | .amaxArrival _ => true
  | .rootIssue _ => true
  | .tallyArrive _ _ _ _ _ _ => true
  | .tallyCombined _ _ _ _ => true
  | .localTally _ => true
  | .tallyTimeout _ => true
  | .semPost _ _ _ _ => true
  | .absent _ _ _ _ => true
  | .replayNotice _ _ => true
  | .measReq _ _ _ => true
  | .measResp _ _ t41 turnaround => decide (turnaround.toNat ≤ t41)
  | .cap _ _ => true
  | .portNotice _ _ _ => true
  | .withyFlit _ raw => raw.length == 256
  | .dataFlit _ raw => raw.length == 256
  | .flitTime _ => true
  | .runCheck _ _ => true
  | .trainingStage _ _ => true
  | .linkDown _ _ => true
  | .autoRetrain _ => true
  | .delayMeasurement _ => true
  | .linkDegraded _ => true
  | .cmisPoll _ flags => decide (flags.lane < 8)
  | .syntHoldover => true
  | .syntLost => true
  | .syntLock _ _ => true
  | .switchedFrame _ hdr bodies => frameWf hdr bodies
  | .switchedResend _ _ => true
  | .pauseRx _ => true
  | .hold _ => true
  | .holdEnd _ _ => true
  | .supplyPark => true
  | .supplyReset _ _ => true
  | .overvolt _ _ => true
  | .supplyHigh _ _ => true
  | .powerThrottle clocks => decide (clocks ≤ 15000)
  | .thermalThrottle _ degrees clocks => decide (1 ≤ degrees) && decide (clocks ≤ 15000)
  | .thermalAlert _ => true
  | .thermtrip _ => true
  | .sensorSample _ _ => true
  | .shutdownReqN => true
  | .start _ _ _ => true
  | .startStage stage _ _ => decide (1 ≤ stage.val)
  | .startFailed _ => true
  | .coppiceTest _ results _ => results.all coppiceWf
  | .liveTakeUp _ => true
  | .bypass => true
  | .idcode => true
  | .samplePreload _ => true
  | .extest => true
  | .pcieLinkUp speed width _ => speed != 0 && width != 0
  | .standbyReady => true
  | .railFault _ => true

end Sys2Proof
end

