-- ==== Sys2Proof/Tests/Slice0.lean ====
section
/-! SUPPORT. The model's own tests: small concrete states that meet the hypotheses of every statement, and single steps whose
expected results come from the spec's tables and rules. -/

namespace Sys2Proof.Tests

open Sys2Proof.Machine Sys2Proof.Obl

set_option Elab.async false

/-! ### Concrete commands -/

/-- A command slot: local buffers, argument at offset 0 and result at offset 0x1000 of the data area. -/
def cmdSlot (op argLen resLen : Nat) (args : List Byte) : List Byte :=
  leBytes 2 op ++ [3, 0] ++ leBytes 4 0xABCD ++ leBytes 8 0 ++ leBytes 4 argLen ++ leBytes 4 resLen ++ leBytes 8 0x1000 ++ padTo 96 args

/-- Bytes listed from a key on, zeros left out. -/
def listed : Nat → List Byte → Tab Byte
  | _, [] => []
  | a, b :: bs => if b = 0 then listed (a + 1) bs else (a, b) :: listed (a + 1) bs

/-- A state in which mailbox 5 waits with a command. -/
def withCmd (op resLen : Nat) (args arg : List Byte) (b : State) : State :=
  { b with mst := { b.mst with
      ready := true, mbx := [(5, { en := true, cmdProd := 1 })]
      ring := listed (areaOf 5) (cmdSlot op arg.length resLen args) ++ listed (areaOf 5 + 0x10000) arg } }

/-- A module in a mode, its rails up. -/
def inMode (k : Mode) : State := { State.reset with mst := { State.reset.mst with mode := k }, hk := { State.reset.hk with rails := true } }

/-- A command of mailbox 5 is taken and meets a condition. -/
def meets (sh : Shape) (op : Nat) (s : State) (p : Cmd → State → Bool) : Bool :=
  match taken sh op 5 s with
  | some (c, t) => p c t
  | none => false

/-- What `meets` checks: the command is taken, with the condition. -/
theorem meets_spec (sh : Shape) (op : Nat) (s : State) (p : Cmd → State → Bool) (h : meets sh op s p = true) :
    ∃ c t, taken sh op 5 s = some (c, t) ∧ p c t = true := by
  unfold meets at h
  split at h
  · exact ⟨_, _, ‹_›, h⟩
  · cases h

/-! ### The queue and the mailboxes -/

theorem wit_idle : State.reset.pending = [] ∧ State.reset.mst.mode ≠ .shuttingDown ∧ State.reset.hk.rails = false ∧ (inMode .ready).hk.rails = true := by
  decide
theorem wit_everyStep : Tab.wf 0 State.reset.mem.cells = true ∧ ∃ t, step { State.reset with pending := [.idcode] } = .next t :=
  ⟨by decide, _, rfl⟩

/-- A module with one mailbox. -/
def boxed (b : Mailbox) : State := { inMode .ready with mst := { (inMode .ready).mst with ready := true, mbx := [(5, b)] } }

theorem wit_doorbell : ((boxed { en := true, cmdProd := 65535, rspProd := 65534, rspCons := 65530 }).mbx 5).cmdProd = 65535 ∧
    (waiting (withCmd 0x0101 0 [] [] (inMode .ready)) 5).isSome = true := by decide +kernel
theorem wit_coalesce : (let s : State := { boxed { irqEn := true, coal := 1 } with host := { msix := [(16 * 5 + 12, 1)] } }
    (s.mbx 5).irqEn && decide (0 < (s.mbx 5).coal) && !s.host.detached && !natBit 0 (msixByte s (16 * (s.mbx 5).vector.getD 5 + 12))) = true := by
  decide +kernel
theorem wit_response : (State.reset.mbx 5).shadowEn = false ∧ ({ status := .ok } : Reply).res = [] := ⟨rfl, rfl⟩
theorem wit_refused : ((waiting (withCmd 0x0108 0 [] [] (inMode .ready)) 5).any (fun c => !knownOp c.op) &&
    (waiting { withCmd 0x0101 0 [] [] (inMode .ready) with mst := { (withCmd 0x0101 0 [] [] (inMode .ready)).mst with
      ring := Tab.set 0 (withCmd 0x0101 0 [] [] (inMode .ready)).mst.ring (areaOf 5 + 3) 1 } } 5).any
      (fun c => c.op == 0x0101 && decide (c.flags < 8) && leAt c.slot 3 1 != 0)) = true := by decide +kernel

/-- R319: a doorbell that would leave more than 256 commands and responses outstanding is rejected. -/
theorem test_doorbell_257 : (match exec (.mbxCmdProd 5 257) (boxed { en := true }) with
    | .next t => (t.mbx 5).dbReject && (t.mbx 5).cmdProd == 0 | _ => false) = true := by decide +kernel

/-! ### Device and telemetry commands -/

theorem wit_getInfo : meets {} 0x0101 (withCmd 0x0101 0 [] [] (inMode .ready)) (fun _ _ => true) = true := by decide +kernel
theorem wit_getStatus : meets {} 0x0102 (withCmd 0x0102 0 [] [] (inMode .ready))
    (fun _ t => !(t.hk.sensors.get {} 148).failed) = true := by decide +kernel
theorem wit_setProfile : meets { fields := [(0, 1)] } 0x0103 (withCmd 0x0103 0 [2] [] (inMode .ready))
    (fun c t => decide (c.at_ 0 1 ≤ 2) && !t.hasBundle) = true := by decide +kernel
theorem wit_setProfile_bad : meets { fields := [(0, 1)] } 0x0103 (withCmd 0x0103 0 [3] [] (inMode .ready))
    (fun c _ => decide (2 < c.at_ 0 1)) = true := by decide +kernel
theorem wit_park_running : meets {} 0x0104 (withCmd 0x0104 0 [] [] (inMode .running)) (fun _ t => t.mst.mode == .running) = true := by
  decide +kernel
theorem wit_park_ready : meets {} 0x0104 (withCmd 0x0104 0 [] [] (inMode .ready)) (fun _ t => t.mst.mode == .ready) = true := by
  decide +kernel
theorem wit_sensorsRead : meets { hasRes := true } 0x0801 (withCmd 0x0801 2496 [] [] (inMode .ready))
    (fun c _ => decide (16 * 156 ≤ c.resLen)) = true := by decide +kernel

theorem wit_countersRead : meets { fields := [(0, 4), (4, 4)], hasRes := true } 0x0802 (withCmd 0x0802 512 (leBytes 4 4 ++ leBytes 4 63) [] (inMode .ready))
    (fun c t => match counterBlock t (c.at_ 0 4) (c.at_ 4 4) with
      | .ok vs => decide (8 * vs.length ≤ c.resLen) | .error _ => false) = true := by decide +kernel
theorem wit_idleByCause : meets { fields := [(0, 8)], hasRes := true } 0x0806 (withCmd 0x0806 4608 (leBytes 8 (2 ^ 63)) [] (inMode .ready))
    (fun c _ => decide (72 * 64 ≤ c.resLen)) = true := by decide +kernel
theorem wit_coppiceResults_ready : meets { hasRes := true } 0x0805 (withCmd 0x0805 20000 [] [] (inMode .ready))
    (fun c _ => decide (64 + 32 * coppiceBlocks.length ≤ c.resLen)) = true := by decide +kernel
theorem wit_errlogRead : meets { fields := [(0, 4), (4, 4)], hasRes := true } 0x0803 (withCmd 0x0803 480 (leBytes 4 0 ++ leBytes 4 1024) [] (inMode .ready))
    (fun c _ => decide (1 ≤ c.at_ 4 4) && decide (c.at_ 4 4 ≤ 1024)) = true := by decide +kernel
theorem wit_stickyClear : meets { fields := [(0, 64)] } 0x0804 (withCmd 0x0804 0 [0xFF] [] (inMode .ready)) (fun _ _ => true) = true := by
  decide +kernel

/-! ### A small bundle -/

/-- The two words of a run's entry (Table 10.7). -/
def runWords (r : Run) : Nat × Nat :=
  (r.start + 2 ^ 20 * r.len + 2 ^ 40 * (match r.kind with | .txLocal => 0 | .txForward => 1 | .rxLocal => 2 | .rxForward => 3 | .rxBoth => 4)
    + 2 ^ 43 * r.peer + 2 ^ 48 * r.stream, r.streamOff + 2 ^ 32 * r.marker)

/-- A template of so many flits with these runs, the list of port p at 0x100000 + 0x1000 p (Table 10.6). -/
def template (num flits : Nat) (runs : List Run) : Template :=
  { words := [flits + 2 ^ 20 * num, 0] ++ (List.range 16).map (fun p => 0x100000 + 0x1000 * p + 2 ^ 44 * (runs.filter (fun r => r.port == p)).length)
    lists := (List.range 16).map (fun p => (runs.filter (fun r => r.port == p)).map runWords) }

/-- A dense tensor of two groups, both owned, in BF16 under FIXED slot 1 of plot 0. -/
def demoTensor : TensorDef :=
  { tensor := 7, ruleSet := 3, groups := 2, elems := 64, ownFirst := 0, ownCount := 2, bank0 := 0x20000000000, bank1 := 0x20000100000, wcFmt := 1
    wcGroup := 9, wcSlot := (0, 1), wc0 := 0x1000000, wc1 := 0x1100000, owners := [0], deferBase := 0 }

/-- A bundle of rank 0 with that tensor. -/
def demoBundle : Bundle :=
  { hdr := { rank := 0, profile := 1 }
    body := { tensors := [demoTensor], slots := [⟨0, 1, 0, 0, 0, 1, 0, 9⟩], groups := [⟨9, -100, 100, 0, none, (0, 0)⟩], micro := 1 } }

/-- A module with the bundle active. -/
def running : State := { inMode .running with sch := { active := some demoBundle, step := 4 } }

/-- A parked module with the bundle active and rule set 3 defined as PRECOND. -/
def atPark : State :=
  { inMode .parked with sch := { active := some demoBundle, step := 4 }, ltr := { sets := [(3, some { rule := 4 })] }, mem := { parts := [256, 48, 32, 96, 64, 16], cellarGib := 192 } }

/-- The arguments of a RULE_SET of set 2: SGDM on arrival, SUM, MULT 1, BETA1 0, BETA2 1/2, EPS 1, no targets. -/
def ruleArgs (targets : Nat) : List Byte :=
  [2, 0, 0, 0] ++ leBytes 4 0x3F800000 ++ leBytes 4 0 ++ leBytes 4 0x3F000000 ++ leBytes 4 0x3F800000 ++ zeros 12 ++ [0, 0, 0] ++ leBytes 1 targets

theorem wit_ruleSet : meets { fields := [(0, 36)], argOk := fun _ => true } 0x0601 (withCmd 0x0601 0 (ruleArgs 1) [5, 0] (inMode .ready))
    (fun c t => !t.hasBundle && ruleBad t c == none && c.argLen == 2 * c.at_ 35 1 && Tab.wf none t.ltr.sets && t.ltr.sets == []) = true := by
  decide +kernel
theorem wit_ruleSet_bad : meets { fields := [(0, 36)], argOk := fun _ => true } 0x0601 (withCmd 0x0601 0 ([64] ++ (ruleArgs 0).drop 1) [] (inMode .ready))
    (fun c t => !t.hasBundle && ruleBad t c == some 0) = true := by decide +kernel
theorem wit_ruleSet_running : meets { fields := [(0, 36)], argOk := fun _ => true } 0x0601 (withCmd 0x0601 0 (ruleArgs 0) [] running)
    (fun _ t => t.hasBundle && !parked t) = true := by decide +kernel
theorem wit_setStepSize : meets { fields := [(0, 4)] } 0x0602 (withCmd 0x0602 0 (leBytes 4 0x00000000) [] (inMode .ready))
    (fun c _ => fNonNeg (BitVec.ofNat 32 (c.at_ 0 4))) = true := by decide +kernel
theorem wit_setStepSize_bad : meets { fields := [(0, 4)] } 0x0602 (withCmd 0x0602 0 (leBytes 4 0x7F800000) [] (inMode .ready))
    (fun c _ => !fNonNeg (BitVec.ofNat 32 (c.at_ 0 4))) = true := by decide +kernel
theorem wit_precondConfig : meets { fields := [(0, 5), (8, 2), (16, 8)] } 0x0603
    (withCmd 0x0603 0 (leBytes 2 7 ++ leBytes 2 64 ++ leBytes 4 2 ++ leBytes 8 1 ++ leBytes 8 0x20000000000) [] atPark)
    (fun c t => match namedTensor t (c.at_ 0 2) with
      | some d => parked t && ((ruleSetOf t d.ruleSet).map RuleSet.rule) == some 4 && precondBad t c d == none
      | none => false) = true := by decide +kernel
theorem wit_stateExport : meets { fields := [(0, 3), (4, 8)], hasRes := true } 0x0604 (withCmd 0x0604 1024 ([7, 0, 0, 0] ++ leBytes 4 0 ++ leBytes 4 2) [] running)
    (fun c t => match tensorDef t (c.at_ 0 2) with
      | some d => c.at_ 2 1 == 0 && decide (c.at_ 4 4 + c.at_ 8 4 ≤ d.groups) && decide (512 * c.at_ 8 4 ≤ c.resLen)
      | none => false) = true := by decide +kernel
theorem wit_stateImport : meets { fields := [(0, 2), (4, 8)], argOk := fun _ => true } 0x0605
    (withCmd 0x0605 0 ([7, 0, 0, 0] ++ leBytes 4 1 ++ leBytes 4 1) (leBytes 4 3 ++ zeros 4 ++ leBytes 4 1 ++ leBytes 2 7 ++ zeros 498) atPark)
    (fun c t => match namedTensor t (c.at_ 0 2) with
      | some d => parked t && decide (c.at_ 4 4 + c.at_ 8 4 ≤ d.groups) && c.argLen == 512 * c.at_ 8 4 && importBad t c == none
      | none => false) = true := by decide +kernel
theorem wit_noiseStats : meets { hasRes := true } 0x0606 (withCmd 0x0606 64 [] [] (inMode .ready)) (fun _ _ => true) = true := by decide +kernel
theorem wit_setStragglerPolicy : meets { fields := [(0, 4)], argOk := fun _ => true } 0x0506
    (withCmd 0x0506 0 [1] (leBytes 4 0x10004) { running with sch := { running.sch with active := some { demoBundle with body := { demoBundle.body with
      reductions := [⟨4, false, [0, 1], 1, 1, [], [], 7, 0, 0, 0, 0⟩] } } } })
    (fun c t => c.argLen == 4 * c.at_ 0 4 && (List.range (c.at_ 0 4)).all (fun i => decide (leAt c.arg (4 * i) 4 < 2 ^ 17)
      && (outgoing t).contains (leAt c.arg (4 * i) 4 % 65536))) = true := by decide +kernel

/-- Table 08.1: BETA2 = 1 only for ROWWISE. -/
theorem test_ruleSet_beta2_one : ruleBad State.reset ⟨0, zeros 32 ++ padTo 96 ([2, 0, 0, 0] ++ leBytes 4 0x3F800000 ++ leBytes 4 0 ++ leBytes 4 0x3F800000), []⟩ = some 12 := by
  decide +kernel

/-! ### Memory commands -/

/-- Partitions of Table 06.9, a PLAIN object at the start of the hot rows, and an enabled region. -/
def parted : State :=
  { inMode .ready with mem := { parts := [256, 48, 32, 96, 64, 16], cellarGib := 192, lastObj := 1
                                objs := [(1, some ⟨0x7FFFFF0000, 0x10000, none, none⟩)]
                                tun := [(200, { en := true })] }, fab := { synt := 0 } }

theorem wit_setPartition : meets { fields := [(0, 28)] } 0x0201
    (withCmd 0x0201 0 (([256, 48, 32, 96, 64, 16, 2032].map (leBytes 4)).flatten) [] (inMode .ready))
    (fun c t => t.sch.active == none && t.sch.staged == none && objList t == [] && decide (((List.range 6).map (fun i => c.at_ (4 * i) 4)).sum = 512)
      && [4, 8, 16, 32, 64, 128, 256].contains (c.at_ 0 4) && decide (c.at_ 24 4 ≤ 2032)) = true := by decide +kernel
theorem wit_allocObject : meets { fields := [(0, 11)] } 0x0202 (withCmd 0x0202 0 (leBytes 8 0x10001 ++ [1, 5, 0xFF]) [] parted)
    (fun c t => c.at_ 0 8 != 0 && decide (c.at_ 8 1 = 1) && [1, 5, 7].contains (c.at_ 9 1) && decide ((objList t).length < 4096)
      && lowestFit t (c.at_ 9 1) (wholeFrames (c.at_ 0 8)) == some 0x7C00000000 && freeRegion t == some 128) = true := by decide +kernel
theorem wit_allocObject_zero : meets { fields := [(0, 11)] } 0x0202 (withCmd 0x0202 0 [] [] parted) (fun c _ => c.at_ 0 8 == 0) = true := by
  decide +kernel
theorem wit_freeObject : meets { fields := [(0, 4)] } 0x0203 (withCmd 0x0203 0 [1] [] parted)
    (fun c t => match t.mem.objs.get none (c.at_ 0 4) with
      | some o => Tab.wf none t.mem.objs && Tab.wf {} t.mem.tun && o.table == none && !bundleRefers t o
      | none => false) = true := by decide +kernel
theorem wit_moveObject : meets { fields := [(0, 5), (8, 48)] } 0x0204
    (withCmd 0x0204 0 ([1, 0, 0, 0, 0, 0, 0, 0] ++ zeros 15 ++ [0x10]) [] parted)
    (fun c t => match t.mem.objs.get none (c.at_ 0 4) with
      | some o =>
        let cel := decide (cellarBase ≤ o.base)
        let fs := (objFrames o).filter (fun f => excluded (c.at_ 4 1) (c.at_ 8 48) (frameChannel t cel f))
        let ts := framesDown (fun f => freeFrame t cel f && !excluded (c.at_ 4 1) (c.at_ 8 48) (frameChannel t cel f)
          && !channelDown t (frameChannel t cel f)) (tierFrames cel) fs.length
        decide (c.at_ 4 1 ≤ 1) && c.at_ 8 48 != 0 && ts.length == fs.length && fs != []
          && decide (replacements { t with mem := putMap cel ((List.zip fs ts).foldl (fun x y => swapPos x y.1 y.2) (mapOf t.mem cel)) t.mem } cel ≤ replacementLimit)
      | none => false) = true := by decide +kernel
theorem wit_setTunWindow : meets { fields := [(0, 2)] } 0x0205 (withCmd 0x0205 0 [200, 0x80] [] parted)
    (fun c t => (t.mem.tun.get {} (c.at_ 0 1)).en) = true := by decide +kernel
theorem wit_hopperRun : meets { fields := [(0, 51), (52, 28)], hasRes := true } 0x0206
    (withCmd 0x0206 384 (zeros 47 ++ [0x80] ++ [3, 4, 100, 0] ++ leBytes 4 1 ++ leBytes 8 0x1FFFFFFC0 ++ leBytes 8 64 ++ leBytes 8 0) [] (inMode .ready))
    (fun c t => hopperBad c == none && decide (384 * (hoppersOf (c.at_ 0 48)).length ≤ c.resLen) && hoppersOf (c.at_ 0 48) == [383] && t.mem.hop == none
      && (hoppersOf (c.at_ 0 48)).all (hopperMayRun t)) = true := by decide +kernel

/-- Hoppers 0 and 383 run for mailbox 5; 383 has reported. -/
def hopping : State :=
  { inMode .ready with
    mem := { hop := some ⟨5, 1 + 2 ^ 383, [0, 0, 0, 0, 0, 64, 0, 0], [(383, some default)]⟩ }
    mst := { mode := .ready, mbx := [(5, { active := true, coord := some ⟨64, cmdSlot 0x0206 0 768 [], []⟩ })] } }

theorem wit_hopperDone_last : ((hopping.mem.hop.map (fun r => natBit 0 r.mask && Tab.wf none r.done
    && (hoppersOf r.mask).all (fun x => x == 0 || (r.done.get none x).isSome))) == some true && (heldCmd hopping 5).isSome
    && Tab.wf 0 hopping.mem.cells && (hopping.mem.hop.map (fun r =>
      let hs := (hoppersOf r.mask).filter (fun x => !channelDown hopping x)
      hs.length == (hoppersOf r.mask).length && hopZeroed hopping hs (r.params.getD 4 0) (r.params.getD 5 0) 63 &&
        !hopZeroed hopping hs (r.params.getD 4 0) (r.params.getD 5 0) 64)) == some true) = true := by decide +kernel
theorem wit_hopperDone_first : (natBit 383 (1 + 2 ^ 383) && (hoppersOf (1 + 2 ^ 383)).contains 0) = true := by decide +kernel

/-- The tests of R137: an object of 65,537 bytes takes two frames. -/
theorem test_wholeFrames : wholeFrames 65537 = 131072 := by decide

/-! ### Tables -/

/-- Table 5: DIM 32 in BF16, 1,024 rows in one shard that this module owns, with its objects. -/
def demoTable : Table :=
  { dim := 32, wfmt := 1, shift := 10, rows := 1024, self := 0, accRows := 16, homeSlots := 1, homes := [(0, 10)], metaObj := 11, accObj := 12
    repObj := 13, region := 128, reps := [9] }

/-- A module at rest with that table. -/
def tabled : State :=
  { parted with
    grn := { tables := [(5, some demoTable)] }
    mem := { parted.mem with lastObj := 13, objs := [(10, some ⟨0x3F000000000, 0x20000, none, some 5⟩), (11, some ⟨0x7C00000000, 0x10000, none, some 5⟩),
      (12, some ⟨0x7C10000000, 0x2010000, some 128, some 5⟩), (13, some ⟨0x4000000000, 0x890000, none, some 5⟩)] } }

/-- The same with the other version slot staged. -/
def stagedTable : State := { tabled with grn := { tables := [(5, some { demoTable with staged := true })] } }

/-- TABLE_CREATE of table 6 like table 5. -/
def createArgs : List Byte :=
  leBytes 2 6 ++ leBytes 2 32 ++ [1, 0, 10, 0] ++ leBytes 6 1024 ++ leBytes 2 0 ++ [2, 5] ++ leBytes 2 0 ++ leBytes 4 7 ++ leBytes 4 16 ++ leBytes 2 1

theorem wit_tableCreate : meets { fields := [(0, 30)], argOk := fun _ => true } 0x0301 (withCmd 0x0301 0 createArgs (zeros 8) parted)
    (fun c t => (t.table (c.at_ 0 2)).isNone && createBad c == none && c.argLen == 8 && mapBad 0 [0] [] 0 == none
      && (placeTable (c.at_ 0 2) (c.at_ 17 1) (createTable c [leAt c.arg 0 8]) t).isSome && Tab.wf 0 t.grn.counts) = true := by decide +kernel
theorem wit_tableCreate_noRoom : meets { fields := [(0, 30)], argOk := fun _ => true } 0x0301 (withCmd 0x0301 0 createArgs (zeros 8) (inMode .ready))
    (fun c t => (t.table (c.at_ 0 2)).isNone && createBad c == none
      && (placeTable (c.at_ 0 2) (c.at_ 17 1) (createTable c [leAt c.arg 0 8]) t).isNone) = true := by decide +kernel
theorem wit_tableCreate_exists : meets { fields := [(0, 30)], argOk := fun _ => true } 0x0301 (withCmd 0x0301 0 ([5, 0] ++ createArgs.drop 2) (zeros 8) tabled)
    (fun c t => (t.table (c.at_ 0 2)).isSome) = true := by decide +kernel
theorem wit_tableLoad : meets { fields := [(0, 4), (8, 6), (16, 8)], argOk := fun _ => true } 0x0302
    (withCmd 0x0302 0 ([5, 0, 0, 0] ++ zeros 4 ++ leBytes 8 1023 ++ leBytes 8 1) (zeros 128) tabled)
    (fun c t => match t.table (c.at_ 0 2) with
      | some tb => rangeBad tb c == none && c.argLen == c.at_ 16 8 * tb.sr && !t.hasBundle && c.at_ 3 1 == 0 && c.at_ 16 8 == 1
          && decide (c.at_ 8 6 < tb.rows) && tb.owns (c.at_ 8 6) && t.mem.kilnPoison == []
          && findWay t (c.at_ 0 2) (c.at_ 2 1) (tb.localOf (c.at_ 8 6) / tb.per) == none
      | none => false) = true := by decide +kernel
theorem wit_tableExport : meets { fields := [(0, 4), (8, 6), (16, 8)], hasRes := true } 0x0305
    (withCmd 0x0305 192 ([5, 0, 0, 1] ++ zeros 4 ++ leBytes 8 1023 ++ leBytes 8 1) [] tabled)
    (fun c t => match t.table (c.at_ 0 2) with
      | some tb => rangeBad tb c == none && c.at_ 3 1 == 1 && decide (64 + c.at_ 16 8 * tb.sr ≤ c.resLen)
      | none => false) = true := by decide +kernel
theorem wit_tableStageVersion : meets { fields := [(0, 3)] } 0x0303 (withCmd 0x0303 0 [5, 0, 1] [] tabled)
    (fun c t => match t.table (c.at_ 0 2) with
      | some tb => decide (c.at_ 2 1 ≤ 2) && !tb.staged && !tb.committing && (placeObj 7 (homeBytes tb) false 0 (some (c.at_ 0 2)) t).isSome
          && Tab.wf 0 t.mem.cells
      | none => false) = true := by decide +kernel
theorem wit_granaryStats : meets { fields := [(0, 4)], hasRes := true } 0x0308 (withCmd 0x0308 136 [5, 0, 1, 0] [] { tabled with mem := { tabled.mem with objs := [] } })
    (fun c t => (t.table (c.at_ 0 2)).isSome && decide (136 ≤ c.resLen)) = true := by decide +kernel
theorem wit_tableCommitVersion : meets { fields := [(0, 2), (4, 4)] } 0x0304 (withCmd 0x0304 0 ([5, 0, 0, 0] ++ leBytes 4 1) [] stagedTable)
    (fun c t => match t.table (c.at_ 0 2) with
      | some tb => !tableBusy t c.m (c.at_ 0 2) && c.at_ 4 4 == (tb.gen + 1) % 2 ^ 32 && tb.staged && !tb.committing
      | none => false) = true := by decide +kernel
theorem wit_replicateRows : meets { fields := [(0, 2), (4, 8)], argOk := fun _ => true } 0x0306
    (withCmd 0x0306 0 ([5, 0, 0, 0] ++ leBytes 4 1 ++ leBytes 4 2) (leBytes 8 3 ++ leBytes 8 1023) tabled)
    (fun c t => match t.table (c.at_ 0 2) with
      | some tb => !tableBusy t c.m (c.at_ 0 2) && c.at_ 4 4 == (tb.gen + 1) % 2 ^ 32 && decide (1 ≤ c.at_ 8 4) && c.argLen == 8 * c.at_ 8 4
          && argRows c == [3, 1023] && (argRows c).all (fun r => decide (r < tb.rows) && !(latestTable t (c.at_ 0 2) tb).reps.contains r)
      | none => false) = true := by decide +kernel
theorem wit_unreplicateRows : meets { fields := [(0, 2), (4, 8)], argOk := fun _ => true } 0x0307
    (withCmd 0x0307 0 ([5, 0, 0, 0] ++ leBytes 4 1 ++ leBytes 4 1) (leBytes 8 9) tabled)
    (fun c t => match t.table (c.at_ 0 2) with
      | some tb => !tableBusy t c.m (c.at_ 0 2) && c.at_ 4 4 == (tb.gen + 1) % 2 ^ 32 && c.argLen == 8 * c.at_ 8 4
          && argRows c == [9] && (latestTable t (c.at_ 0 2) tb).reps.contains 9
      | none => false) = true := by decide +kernel

/-- Mailbox 5 waits for the commit of table 5. -/
def committing : State :=
  { stagedTable with mst := { mode := .ready, mbx := [(5, { active := true, coord := some ⟨2, cmdSlot 0x0304 0 0 [5], []⟩ })] } }

theorem wit_coordFail : ((committing.mbx 5).coord.isSome && ((heldCmd committing 5).map Cmd.op) == some 0x0304) = true := by decide +kernel
theorem wit_agingSweep : (agePeriod { inMode .ready with sch := { step := 64 } } == 1 && agePeriod (inMode .ready) == 0) = true := by decide +kernel

/-- R153: records of DIM 32 in BF16 are 112 bytes at a stride of 128, 512 to a granule. -/
theorem test_record_layout : (demoTable.recLen, demoTable.sr, demoTable.per) = (112, 128, 512) := by decide +kernel

/-! ### Resharding and service -/

/-- Table 5 with shard 1 of two at rank 3, moving here into slot 1. -/
def movingTable : Table :=
  { demoTable with rows := 2048, homeSlots := 3, map := [(1, 3 + 2 ^ 15 + 2 ^ 48)] }

/-- A module that takes that shard. -/
def taking : State := { tabled with grn := { tables := [(5, some movingTable)] } }

theorem wit_reshard : meets { fields := [(0, 3), (4, 8)], argOk := fun _ => true } 0x0505
    (withCmd 0x0505 0 ([5, 0, 0, 0] ++ leBytes 4 1 ++ leBytes 4 1) (leBytes 2 0 ++ leBytes 2 4 ++ leBytes 4 2) taking)
    (fun c t => match t.table (c.at_ 0 2) with
      | some tb =>
        let lt := latestTable t (c.at_ 0 2) tb
        !tableBusy t c.m (c.at_ 0 2) && c.at_ 4 4 == (tb.gen + 1) % 2 ^ 32 && c.at_ 8 4 == 1 && c.argLen == 8 && c.at_ 2 1 == 0 && reshardBad lt c == none
          && (reshardEntries c).all (fun e => !lt.moving e.1) && !lt.staged && !lt.committing && slotsAsked lt (reshardEntries c) == []
      | none => false) = true := by decide +kernel
theorem wit_reshardCancel : meets { fields := [(0, 3), (4, 8)], argOk := fun _ => true } 0x0505
    (withCmd 0x0505 0 ([5, 0, 1, 0] ++ leBytes 4 1 ++ leBytes 4 1) (leBytes 2 1 ++ zeros 6) taking)
    (fun c t => match t.table (c.at_ 0 2) with
      | some tb => !tableBusy t c.m (c.at_ 0 2) && c.at_ 4 4 == (tb.gen + 1) % 2 ^ 32 && c.argLen == 8 && c.at_ 2 1 == 1
          && (reshardEntries c).all (fun e => decide (e.1 < tb.shards))
      | none => false) = true := by decide +kernel
theorem wit_reshardRecord : (match taking.table 5 with
    | some tb => tb.moving 1 && tb.newOwner 1 == tb.self && decide (1023 < 2 ^ tb.shift) && decide (taking.grn.moved.get 0 (65536 * 5 + 1) ≤ 1023)
        && !paused taking && !tb.moving 0 && !tb.movingShards.isEmpty
    | none => false) = true := by decide +kernel

theorem wit_channelOut_absent : meets { fields := [(0, 2)] } 0x0703 (withCmd 0x0703 0 (leBytes 2 384) [] (inMode .ready))
    (fun c t => !serviceBusy t && t.mst.mode == .ready && decide (384 ≤ c.at_ 0 2)) = true := by decide +kernel
theorem wit_cellarOut_absent : meets { fields := [(0, 1)] } 0x0705 (withCmd 0x0705 0 [4] [] (inMode .ready))
    (fun c t => !serviceBusy t && decide (4 ≤ c.at_ 0 1)) = true := by decide +kernel

/-- A module whose channel 5 and Cellar die 3 are out, with a withdrawn frame on each. -/
def outOfService : State :=
  { inMode .ready with mem := { chOut := [(5, true)], dieOut := [(3, true)], withdrawn := [(5, true), (0x2000000 + 0x1FFFF, true)] } }

theorem wit_channelOut_out : meets { fields := [(0, 2)] } 0x0703 (withCmd 0x0703 0 (leBytes 2 5) [] outOfService)
    (fun c t => !serviceBusy t && decide (c.at_ 0 2 < 384) && channelDown t (c.at_ 0 2)) = true := by decide +kernel
theorem wit_cellarOut_out : meets { fields := [(0, 1)] } 0x0705 (withCmd 0x0705 0 [3] [] outOfService)
    (fun c t => !serviceBusy t && t.mem.dieOut.get false (c.at_ 0 1)) = true := by decide +kernel
theorem wit_channelIn : meets { fields := [(0, 2)] } 0x0704 (withCmd 0x0704 0 (leBytes 2 5) [] outOfService)
    (fun c t => !serviceBusy t && decide (c.at_ 0 2 < 384) && t.mem.chOut.get false (c.at_ 0 2) && Tab.wf false t.mem.chOut
      && Tab.wf false t.mem.withdrawn && Tab.wf 0 t.mem.cells) = true := by decide +kernel
theorem wit_cellarIn : meets { fields := [(0, 1)] } 0x0706 (withCmd 0x0706 0 [3] [] outOfService)
    (fun c t => !serviceBusy t && decide (c.at_ 0 1 < 4) && t.mem.dieOut.get false (c.at_ 0 1) && Tab.wf false t.mem.dieOut) = true := by decide +kernel
theorem wit_recalibrate : meets { fields := [(0, 49)] } 0x0707 (withCmd 0x0707 0 (zeros 47 ++ [0x80, 0x0F]) [] (inMode .ready))
    (fun c t => !serviceBusy t && decide (c.at_ 48 1 < 16) && !t.hasBundle && Tab.wf 0 t.flash.calib) = true := by decide +kernel

/-- Table 5 with its shard 1 of two here in slot 1, moving to rank 3. -/
def giving : State := { tabled with grn := { tables := [(5, some { demoTable with rows := 2048, homeSlots := 3, map := [(1, 2 ^ 15 + 2 ^ 16 + 3 * 2 ^ 32)] })] } }

theorem wit_reshardGiving : ∀ n ∈ [1023, 1024], (let s : State := { giving with grn := { giving.grn with moved := [(65536 * 5 + 1, n)] } }
    match s.table 5 with
    | some tb => tb.movingShards == [1] && tb.owner 1 == tb.self && s.grn.moved.get 0 (65536 * 5 + 1) == n && decide (2 ^ tb.shift ≤ n) == (n == 1024) && s.grn.mirrors == []
    | none => false) = true := by decide +kernel

/-- R386: a CANCEL entry whose bytes 6 and 7 are not zero is refused, with the argument-buffer offset of the entry as DETAIL. -/
theorem test_cancel_reserved : (match exec (.reshardCancel 5) (withCmd 0x0505 0 ([5, 0, 1, 0] ++ leBytes 4 1 ++ leBytes 4 1) (leBytes 2 1 ++ zeros 4 ++ [1, 0]) taking) with
    | .next t => leNat (ringBytes t (areaOf 5 + 0x8000 + 2) 2) | _ => 0) = Status.badArgument.code := by decide +kernel

/-- Channel 128 of Cellar die 0 is out, and so is the die. -/
def dieAndChannelOut : State := { inMode .ready with mem := { chOut := [(128, true)], dieOut := [(0, true)] } }

theorem wit_channelIn_dieOut : meets { fields := [(0, 2)] } 0x0704 (withCmd 0x0704 0 (leBytes 2 128) [] dieAndChannelOut)
    (fun c t => !serviceBusy t && t.mst.mode != .shuttingDown && c.at_ 0 2 == 128 && t.mem.chOut.get false 128 && t.mem.dieOut.get false 0) = true := by decide +kernel

/-- A module at rest without partitions has no used frame of HBM and no granary way. -/
theorem no_used_frame (t : State) (hp : t.mem.parts = []) (ho : t.mem.objs = []) (f : Nat) :
    usedFrame t false f = false ∧ wayFrame t f = false := by
  simp [usedFrame, wayFrame, allocatedAt, objList, inPart, partRange, hp, ho]

/-- CHANNEL_OUT of channel 0 of a module without partitions: no frame is used, so none must move. -/
theorem wit_channelOut (t : State) (hp : t.mem.parts = []) (ho : t.mem.objs = []) :
    (framesOn t false [0]).filter (usedFrame t false) = [] := by
  rw [List.filter_eq_nil_iff]
  intro f _
  simp [(no_used_frame t hp ho f).1]
theorem wit_channelOut_taken : meets { fields := [(0, 2)] } 0x0703 (withCmd 0x0703 0 (leBytes 2 0) [] (inMode .ready))
    (fun c t => !serviceBusy t && !channelDown t (c.at_ 0 2) && t.mem.parts == [] && t.mem.objs == [] && t.mem.hbmMap == []
      && (migrationRate t 1 0).1 != 0 && t.grn.ways == []) = true := by decide +kernel

/-! ### Firmware and the Maltster -/

/-- The encoding of the neutral point: as a public key, and with a scalar of 0 as a signature, it verifies any message. -/
def neutralKey : List Byte := 1 :: zeros 31

/-- A firmware bundle of four empty images, SVN 64, for stepping 0, tested with versions 0. -/
def fwBytes : List Byte :=
  leBytes 4 0x57465156 ++ [0, 1, 0, 0] ++ leBytes 4 64 ++ zeros 4 ++ leBytes 8 532 ++ [1, 0, 0, 0] ++ leBytes 4 1 ++ zeros 32
    ++ ((List.range 4).map (fun i => leBytes 4 i ++ zeros 12 ++ sha512 [])).flatten ++ zeros 64 ++ zeros 20 ++ neutralKey ++ zeros 32

/-- A module whose fused keys are that point; with it slot A runs. -/
def keyed : State := { inMode .ready with fuses := { keys := [neutralKey] } }

theorem wit_getAttestation : meets { fields := [(0, 32)], hasRes := true } 0x0107 (withCmd 0x0107 512 (leBytes 32 5) [] (inMode .ready))
    (fun c _ => decide (512 ≤ c.resLen)) = true := by decide +kernel
theorem wit_fwStage_taken : meets { argOk := fun n => decide (0 < n) } 0x0701 (withCmd 0x0701 0 [] [1] keyed) (fun c t => c.arg == [1] && t.fuses.keys == [neutralKey]) = true := by
  decide +kernel
theorem wit_fwStage_layout : (fwLayoutBad fwBytes == none && leAt fwBytes 5 1 == 1) = true := by decide +kernel
theorem wit_fwStage_good : (slotBad keyed (fwParse keyed.fuses.keys fwBytes) == none && manifestOk keyed (fwParse keyed.fuses.keys fwBytes)) = true := by
  decide +kernel
theorem wit_fwStage_rollback : slotBad { keyed with fuses := { keyed.fuses with svn := 65 } } (fwParse keyed.fuses.keys fwBytes) = some .rollback := by
  decide +kernel
theorem wit_fwStage_signature : slotBad { keyed with fuses := { keyed.fuses with revoke := 1 } } (fwParse [] fwBytes) = some .signature := by
  decide +kernel

/-- A module with a staged slot. -/
def fwStaged : State := { keyed with flash := { stagedFw := true, slotB := { present := true, ifvers := [0, 0, 0, 0] } } }

theorem wit_fwActivate : meets { fields := [(0, 1)] } 0x0702 (withCmd 0x0702 0 [0] [] fwStaged) (fun c t => t.flash.stagedFw && c.at_ 0 1 == 0) = true := by
  decide +kernel
theorem wit_fwActivate_live : meets { fields := [(0, 1)] } 0x0702 (withCmd 0x0702 0 [1] [] fwStaged)
    (fun c t => t.flash.stagedFw && c.at_ 0 1 == 1 && t.mst.mode != .fallow && (fwSlot t (!t.fw.slotB)).ifvers == t.fw.ifvers) = true := by decide +kernel

/-- Both cores run, and mailbox 5 waits with a live FW_ACTIVATE. -/
def bothCores : State :=
  { fwStaged with mst := { mode := .ready, ready := true, standby := true, takeovers := 0xFFFF
                           mbx := [(5, { active := true, coord := some ⟨65, cmdSlot 0x0702 0 0 [1], []⟩ })] } }

theorem wit_takeover : (bothCores.mst.standby && bothCores.mst.ready && (liveWaiting bothCores).isSome) = true := by decide +kernel
theorem wit_standbyReady : (keyed.mst.mode == .ready && { keyed with mst := { keyed.mst with ready := true } }.mst.ready) = true := by decide
theorem wit_maltsterLoss : ((inMode .ready).mst.ready == false && (inMode .running).mst.mode == .running) = true := by decide
/-- Every port waits for the new link image. -/
def allWait : Tab Bool := (List.range 16).map (fun p => (p, true))

theorem wit_liveTakeUp : (Tab.set false allWait 3 false != [] && Tab.set false [(3, true)] 3 false == []) = true := by decide

theorem wit_liveTakeUp_next : ({ keyed with fw := { next := some [1, 2, 3, 4], portsWait := allWait } } : State).fw.next = some [1, 2, 3, 4] := by decide

/-- FIPS 180-4's digest of the empty message begins CF 83 E1 35. -/
theorem test_sha512_empty : (sha512 []).take 4 = [0xCF, 0x83, 0xE1, 0x35] := by decide +kernel

/-! ### Supply, start, shutdown -/

/-- A module held from RUNNING with the input low. -/
def held : State := { running with mst := { mode := .hold, heldFrom := .running }, hk := { belowWarn := true, rails := true } }

theorem wit_hold : (running.mst.mode == .running && (inMode .ready).mst.mode == .ready && (inMode .parked).mst.mode == .parked) = true := by decide
theorem wit_holdEnd : (held.hk.belowWarn && held.mst.mode == .hold && held.mst.heldFrom == .running && held.hasBundle) = true := by decide
theorem wit_holdEnd_ready : ({ held with mst := { mode := .hold, heldFrom := .ready } }.mst.heldFrom == .ready) = true := by decide
theorem wit_supplyReset : (∃ t, exec (.supplyReset 38999 1) held = .next t) ∧ (∃ t, exec (.overvolt 60000 1) held = .next t) ∧
    (∃ t, exec (.thermtrip 32) held = .next t) ∧ held.mst.mode ≠ .starting := ⟨⟨_, rfl⟩, ⟨_, rfl⟩, ⟨_, rfl⟩, by decide⟩
theorem wit_sensor : (hasSensor 0 && hasSensor 165 && !hasSensor 22 && !hasSensor 31 && hasSensor 32) = true := by decide
theorem wit_thermal : (Tab.wf {} running.plots && Tab.wf 0 (running.plot 3).ic) = true := by decide

/-- Table 14.6: a plot alerts at 95 degrees; the coolant at 42. -/
theorem test_alertLevel : alertLevel 32 = some 95 ∧ alertLevel 148 = some 42 ∧ throttleLevel 148 = none := by decide

theorem wit_start : ∀ x ∈ [(false, 0), (true, 3)], (let s : State := { State.reset with hk := { State.reset.hk with failedStarts := x.2, thermtrip := x.1 } }
    s.mst.mode == .starting && s.fw.stage == 0 && !s.hk.rails && s.hk.thermtrip == x.1 &&
      sensorList.all (fun i => sensorKind i != 2 || decide ((s.hk.sensors.get ({} : Sensor) i).value < 60000))) = true := by decide +kernel

/-- A start in progress at a stage, its slot A good. -/
def starting (k : Nat) : State :=
  { State.reset with
    fw := { stage := k }
    flash := { slotA := { present := true, verifies := true, steppings := 1, ifvers := [0, 0, 0, 0], tested := [(0, [0, 0, 0, 0])] } } }

theorem wit_startStage : (slotRuns (starting 2) (fwSlot (starting 2) (starting 2).flash.bootB) && (starting 2).mst.mode == .starting && (starting 8).fw.stage == 8) = true := by
  decide +kernel
theorem wit_startFailed : ((starting 4).mst.mode == .starting && (starting 5).fw.stage != 0) = true := by decide

theorem wit_shutdown : meets { fields := [(0, 1)] } 0x0106 (withCmd 0x0106 0 [1] [] running)
    (fun c t => decide (c.at_ 0 1 ≤ 1) && t.mst.mode != .shuttingDown) = true := by decide +kernel
theorem wit_shutdownReqN : (held.hk.rails && held.mst.mode == .hold) = true := by decide

/-- A shutdown with the Coppice test that has parked. -/
def parkedDown : State := { State.reset with mst := { mode := .shuttingDown, shutdown := some true }, hk := { rails := true } }

theorem wit_coppiceTest : (parkedDown.mst.mode == .shuttingDown && parkedDown.mst.shutdown == some true && !parkedDown.mst.parkPending
    && !parkedDown.hk.belowWarn && dataPath parkedDown && coppiceBlocks.contains 0x2FF && parkedDown.fuses.copEntry) = true := by decide +kernel

/-- R336: SHUTDOWN_REQ_N on a module that is starting changes nothing. -/
theorem test_shutdownReqN_starting : (match exec .shutdownReqN (starting 3) with
    | .next t => decide (t = starting 3) | _ => false) = true := by decide +kernel

/-- R334: START needs the input between 44.0 V and 58.0 V. -/
theorem test_start_voltage : ∀ x ∈ [(44000, 1), (58000, 1), (43999, 0), (58001, 0)],
    (match exec (.start (BitVec.ofNat 16 x.1) true true) State.reset with | .next t => t.fw.stage | _ => 9) = x.2 := by decide +kernel
/-- A blade that does not carry power keeps START from beginning. -/
theorem test_start_blade : (match exec (.start 48000 true false) State.reset with | .next t => t.fw.stage | _ => 9) = 0 := by decide +kernel

theorem wit_startStages : (∀ k ∈ [1, 2, 3, 4, 5, 6, 7, 8], (starting k).mst.mode = .starting ∧ (starting k).fw.stage = k ∧ (starting k).fw.quick = false ∧
      (starting k).fw.fallowStart = false ∧ Tab.wf 0 (starting k).flash.calib = true) ∧
    (let s : State := { starting 2 with flash := {} }; slotRuns s s.flash.slotA = false ∧ slotRuns s s.flash.slotB = false) ∧
    calStale (starting 5) 383 = true ∧ (starting 3).flash.trial = false := by decide +kernel
theorem wit_stageCauses : StartCause.signature ∈ stageCauses 2 ∧ StartCause.manifest ∈ stageCauses 3 ∧ StartCause.rails ∈ stageCauses 1 ∧
    StartCause.hbmTrain ∈ stageCauses 5 ∧ StartCause.rails ∉ stageCauses 6 := by decide
theorem wit_shutdown_plain : (let s : State := { parkedDown with mst := { mode := .shuttingDown, shutdown := some false } }
    s.pending == [] && s.mst.mode == .shuttingDown && s.mst.shutdown == some false && !s.mst.parkPending && !s.hk.belowWarn) = true := by decide +kernel
theorem wit_coppiceStart : (starting 7).mst.mode = .starting ∧ (starting 7).fw.stage = 7 ∧ (starting 7).fw.quick = false ∧
    allPassed (starting 7) (coppiceBlocks.map (fun b => ⟨b, 0, 0, 0, 0, 0⟩)) = true ∧ allPassed (starting 7) [] = false ∧ dataPath State.reset = false := by decide +kernel

/-- R11: a bit set in this housekeeping cycle outlasts a clear in it, and not the next. -/
theorem test_sticky_fresh : (match exec (.stmStickyW1c 5 0xFFFFFFFF) (event 5 3 0 [] { inMode .ready with hk := { (inMode .ready).hk with fresh := [] } }) with
    | .next t => stickyBit t 5 3 && (match step t with
        | .next u => (match exec (.stmStickyW1c 5 0xFFFFFFFF) u with | .next v => !stickyBit v 5 3 | _ => false)
        | _ => false)
    | _ => false) = true := by decide +kernel

/-! ### Host coupling -/

/-- A state with memory space enabled and BAR2 of 1 GiB over HBM's bottom. -/
def mapped : State := { inMode .ready with host := { memEn := true, bar2Gib := 1 } }

theorem wit_event : Tab.wf 0 State.reset.hk.sticky = true ∧ State.reset.hk.log.length < 1024 ∧ ¬ (5 = 14 ∧ 0 = 8) := by decide
theorem wit_registers : ((0x200004 : BitVec 26).toNat < 0x1000000 ∧ (0x200004 : BitVec 26).toNat % 8 ≠ 0) ∧ Tab.wf 0 State.reset.hk.sticky = true := by decide
theorem wit_ring : mapped.host.memEn = true ∧ 0x1000000 ≤ (0x3FFFFFF : BitVec 26).toNat ∧ (0x3FFFFFF : BitVec 26).toNat + 1 ≤ 0x4000000 ∧
    (0x3FFFFFF : BitVec 26).toNat / 4096 = ((0x3FFFFFF : BitVec 26).toNat + 1 - 1) / 4096 ∧ 1 ≤ 128 * 2 ^ mapped.host.mps ∧
    Tab.wf 0 mapped.mst.ring = true ∧ State.reset.host.memEn = false := by decide

/-- Segment 0 waiting with the last line of the aperture, segment 1 enabled on its first. -/
def seg2 : State := { mapped with host := { memEn := true, segs := [(0, { limit := 2 ^ 28 - 1, host := 1 }), (1, { en := true, base := 2 ^ 27, limit := 2 ^ 27 })] } }

theorem wit_segment : Tab.wf {} seg2.host.segs = true ∧ (seg2.host.segs.get {} 0).en = false ∧ (seg2.host.segs.get {} 1).en = true ∧
    2 ^ 27 ≤ (BitVec.ofNat 64 ((2 ^ 28 - 1) * 2 ^ 16)).toNat / 2 ^ 16 % 2 ^ 28 ∧ (BitVec.ofNat 64 ((2 ^ 28 - 1) * 2 ^ 16)).toNat / 2 ^ 16 % 2 ^ 28 ≤ 2 ^ 28 - 1 ∧
    (seg2.host.segs.get {} 1).limit < 2 ^ 28 - 1 := by decide
theorem wit_segment_order : ∀ j, (seg2.host.segs.get {} j).en = true → (seg2.host.segs.get {} j).base ≤ (seg2.host.segs.get {} j).limit := by
  intro j; simp only [seg2, Tab.get]; split <;> [simp; (split <;> [simp; (split <;> [simp; (split <;> simp)])])]
theorem wit_segment_bad : (BitVec.ofNat 64 (2 ^ 27 * 2 ^ 16 - 2 ^ 16)).toNat / 2 ^ 16 % 2 ^ 28 < 2 ^ 27 := by decide

/-- A module with one fence in its queue that wants its flag and an interrupt of vector 2, unmasked. -/
def fenced : State := { inMode .ready with host := { fences := [⟨127, true, true, 2, 77⟩], msix := [(16 * 2 + 12, 1)] } }

theorem wit_fence : State.reset.host.fences.length < 16 ∧ (68 : BitVec 64).toNat % 128 ≤ 68 ∧ (127 : BitVec 64).toNat % 128 = 127 ∧
    69 ≤ (69 : BitVec 64).toNat % 128 ∧ (126 : BitVec 64).toNat % 128 ≤ 126 ∧ 16 ≤ (List.replicate 16 (⟨0, false, false, 0, 0⟩ : FenceReq)).length ∧
    fenced.host.fences = [⟨127, true, true, 2, 77⟩] ∧ fenced.host.detached = false ∧ natBit 0 (msixByte fenced (16 * 2 + 12)) = false := by decide +kernel
theorem wit_bar2 : (bar2Claims mapped 0x3FFFFF80 128 && !bar2Refused mapped (bar2Base mapped + 0x3FFFFF80) 128 false &&
    !bar2Refused mapped (bar2Base mapped + 0x3FFFFF80) 128 true && Tab.wf 0 mapped.mem.cells && decide (bar2Base mapped + 0x3FFFFF80 + 128 ≤ 0x8000000000)) = true := by
  decide +kernel
theorem wit_bar2_refused : (let s : State := { mapped with host := { memEn := true, bar2Gib := 1, bar2Base := 0x80000000000 } }
    bar2Claims s 0 1 && bar2Refused s (bar2Base s) 1 true) = true := by decide +kernel
theorem wit_config : State.reset.mst.mode = .starting ∧ State.reset.fw.stage ≤ 2 ∧ mapped.mst.mode ≠ .starting := by decide

/-- A module with a host read of 64 bytes into the end of plot 63's store in flight under tag 767. -/
def reading : State := { inMode .ready with host := { reads := [(767, some ⟨0, storeBase 63 + 0x2FFFC0, 64, 0x80000000000, .none, 0⟩)] } }

theorem wit_reads : (reading.host.reads.get none 767).isSome = true ∧ reading.host.reads.get none 766 = none ∧ Tab.wf none reading.host.reads = true ∧
    0x2FFFC0 + 64 ≤ 0x300000 ∧ 0x2FFFC0 / 65536 = (0x2FFFC0 + 64 - 1) / 65536 := by decide +kernel
theorem wit_reads_none : ∀ k, 1024 ≤ k → reading.host.reads.get none k = none := by
  intro k h; have h1 : ¬ 767 = k := by omega
  have h2 : ¬ k < 767 := by omega
  simp [reading, Tab.get, h1]
theorem wit_detach : reading.host.detached = false ∧ { reading.host with detached := true }.detached = true ∧ Tab.wf {} reading.mst.mbx = true ∧
    Tab.wf {} reading.host.segs = true := by decide

/-- Table 12.2: the charged rates of 64 GT/s x16 and 32 GT/s x16. -/
theorem test_link_rate : laneRate 6 * 16 = 99840 ∧ linkRate { State.reset with host := { speed := 5, width := 16 } } = 49120 := by decide

/-! ### Plots -/

/-- Cells with bytes written at addresses. -/
def cellsOf (xs : List (Nat × List Byte)) : Tab Byte := xs.foldl (fun t x => Tab.setMany 0 t x.1 x.2) []

/-- Plot 3 of a running module whose bundle gives it this primary program, with these memory cells. -/
def atPlot (prog : List SeqInstr) (q : Plot) (cells : List (Nat × List Byte)) : State :=
  { inMode .running with
    sch := { active := some { hdr := { rank := 0 }, body := { programs := [⟨3, prog, []⟩], links := [⟨2, 9, 0, 0, 0, 0, [(9, none)]⟩] } }, step := 4 }
    plots := [(3, q)], mem := { cells := cellsOf cells }, fab := { ports := [(2, { state := 5, enable := true })] } }

/-- Semaphore 47 assigned with a value. -/
def sem47 (v : Nat) : Plot := { sems := [(47, { value := v, assigned := true })] }

/-- A stream that may issue its last instruction issues it. -/
theorem issues_last {s : State} {p : Nat} {st : Stream} {i : SeqInstr} (h1 : Tab.wf {} s.plots = true ∧ mayIssue s p st = true ∧ instrAt s p st = some i)
    (h2 : (progOf s p st)[(s.plot p).pc st + 1]? = none) : Issues s p st i := by
  refine ⟨h1.1, h1.2.1, h1.2.2, fun j h => ?_⟩
  rw [h2] at h; cases h

theorem wit_issues : ∀ i ∈ ([.hop 0, .wload 64, .mash (.reg 0), .swait 47 1, .spost 47 1, .spostRemote 9 0 0 1, .ewait 0, .fclr, .move 0x100] : List SeqInstr),
    Issues (atPlot [i] (sem47 65534) []) 3 .primary i := by
  intro i hi
  fin_cases hi <;> exact issues_last (by decide +kernel) (by decide +kernel)
theorem wit_spost : ((((atPlot [.spost 47 1] (sem47 65534) []).plot 3).sems.get {} 47).value : Int) + 1 = 0xFFFF ∧
    (((atPlot [.spost 46 1] (sem47 65534) []).plot 3).sems.get {} 46).assigned = false ∧
    routeTo (atPlot [] {} []) 9 = some 2 ∧ mayIssue (atPlot [.fclr] { pcP := 0, stopped := true } []) 3 .primary = false := by decide +kernel

/-- A HOP without MMA: INT16 by INT16 into INT32 on hedge 0, one row of one column and K = 4, A at 0x1000, C at 0x2000. -/
def hopDesc : List Byte := ([8 * 16 + 8 * 256 + 7 * 4096 + 2 ^ 18, 1 + 2 ^ 16 + 4 * 2 ^ 32, 0, 0x1000 + 64 * 2 ^ 22, 0x2000 + 64 * 2 ^ 22, 0, 0, 0].map (leBytes 8)).flatten

/-- That operation in flight with every operand 32,767. -/
def hopping3 (started drained : Nat) (accs : List Acc) : State :=
  atPlot [] { flight := [⟨0, 0, hopDesc, true, if started = 0 then [] else [(0, started)], if drained = 0 then [] else [(0, drained)], false, 0⟩]
              accs := if accs = [] then [] else [(0, accs)]
              bank := [(0, { fmt := some 8, kw := 4, nw := 1, data := ((List.range 4).map (fun _ => leBytes 2 0x7FFF)).flatten })] }
    [(storeBase 3 + 0x1000, ((List.range 4).map (fun _ => leBytes 2 0x7FFF)).flatten)]

theorem wit_rowGroup : (let s := hopping3 0 0 []
    let d := hopOf hopDesc
    nextStart (s.plot 3) 0 == some 0 && !halfLoading (s.plot 3) 0 d.half && !d.waitEn && (groupRows d (groupAt d 0 0)).contains 0 && decide (0 < d.n) &&
      (hopElement s 3 d 0 0).2.sat && (hopElement s 3 d 0 0).1 == 0x7FFFFFFF && d.fmtA == .int16) = true := by decide +kernel
theorem wit_drain : (let s := hopping3 1 0 [⟨hopDesc, 0, [5]⟩]
    let d := hopOf hopDesc
    nextDrain (s.plot 3) 0 == some 0 && Tab.wf 0 s.mem.cells && Tab.wf [] (s.plot 3).accs && rawOut d && d.seg == 1 && decide (0 < d.m) && d.n == 1 &&
      decide (storeBase 3 + d.cOff + 0 * d.cStride + 4 * d.n ≤ 0xC010000000)) = true := by decide +kernel
theorem wit_hopComplete : ((hopping3 1 1 []).plot 3).flight.findIdx? (fun f => f.kind == 0 && drainedAll f) = some 0 := by decide +kernel
theorem wit_wload : (atPlot [] { flight := [⟨1, 0, zeros 32, true, [], [], false, 0⟩] } []).plot 3 = { flight := [⟨1, 0, zeros 32, true, [], [], false, 0⟩] } ∧
    nextStart ((atPlot [] {} []).plot 3) 0 = none := by decide +kernel

/-- A FP32 vector of 32 elements at an address. -/
def vec32 (a : Nat) : List Byte := leBytes 8 (a + 0 * 2 ^ 48 + 1 * 2 ^ 52) ++ leBytes 8 32 ++ zeros 48

/-- A MOVE of 128 bytes of the store's last line to an HBM line. -/
def moving3 : State := atPlot [.move 0x100] { hflags := 1 }
  [(storeBase 3 + 0x100, leBytes 8 (0x140 + 0x180 * 2 ^ 22) ++ zeros 24), (storeBase 3 + 0x140, vec32 (storeBase 3 + 0x2FFF80)),
   (storeBase 3 + 0x180, vec32 0x7FFFFFFF80)]

theorem wit_move : (let s := moving3
    let d := moveOf (rawBytes s (storeBase 3 + 0x100) 32)
    let src := tensorOf (rawBytes s (storeBase 3 + d.src) 64)
    let dst := tensorOf (rawBytes s (storeBase 3 + d.dst) 64)
    d.mode == 0 && !d.waitEn && tensorRows src == [src.base] && tensorRows dst == [dst.base] && src.fmt.bytesFor src.e0 == 128 &&
      src.base == storeBase 3 + 0x2FFF80 && dst.base == 0x7FFFFFFF80 && Tab.wf 0 s.mem.cells && s.mem.withdrawn == []) = true := by decide +kernel
theorem wit_move_issues : Issues moving3 3 .primary (.move 0x100) := issues_last (by decide +kernel) (by decide +kernel)
theorem wit_moveComplete : (let s := atPlot [] { flight := [⟨2, 0x100, zeros 32, true, [], [], false, 0⟩] } []
    (s.plot 3).flight.findIdx? (fun f => f.kind == 2) == some 0 && moveReads s 3 0x100 == 0 && Tab.wf {} s.plots && Tab.wf 0 s.mem.fences) = true := by
  decide +kernel

/-- A region of plot 3 with TAG 9 checked at 1, its flags F. -/
def checked (F : Nat) (busy : Bool) (c : Option Check) : State :=
  let s := atPlot [.fclr, .fclr, .fclr, .fclr, .fclr, .fclr]
    { pcP := 1, regFlags := if F = 0 then [] else [(9, F)], check := c
      flight := if busy then [⟨0, 0, zeros 48 ++ leBytes 8 (9 * 2 ^ 16) ++ zeros 8, true, [], [], false, 0⟩] else [] } []
  { s with sch := { s.sch with active := s.sch.active.map (fun b => { b with body := { b.body with
      regions := [⟨3, 9, 0, 0, 0, false, 1, 2, 3, 4, 3, 5⟩] } }) } }

theorem wit_region : ∀ F ∈ [0, 2, 4, 1, 8], (checkAt (checked F false none) 3).isSome = true ∧ issues (checked F false none) = true ∧
    regionBusy (checked F false none) 3 9 = false ∧ regionBusy (checked F true none) 3 9 = true ∧
    ((checkAt (checked F false none) 3).all (fun x => !outcomeNoted (checked F false none) x.1 ⟨9, 0, 0, false⟩)) = true := by decide +kernel
theorem wit_region_next : ∀ j ∈ [(progOf (checked 0 false none) 3 .primary)[1 + 1]?, (progOf (checked 0 false none) 3 .primary)[2]?],
    j ≠ some .tallyPoint ∧ ∀ n, j ≠ some (.arrive n) := by
  have e : (progOf (checked 0 false none) 3 .primary)[1 + 1]? = some .fclr := by decide +kernel
  simp [e]
theorem wit_scope : ((checked 2 false (some ⟨9, 2, 0, true⟩)).plot 3).check = some ⟨9, 2, 0, true⟩ ∧
    (regionOf (checked 2 false none) 3 9).isSome = true ∧ checkAt (atPlot [] {} []) 3 = none := by decide +kernel

theorem wit_spost_noRoute : routeTo (atPlot [] {} []) 8 = none ∧ ((atPlot [] {} []).flow 2).stalled = [] := by decide +kernel

/-- A bundle in which region 9 of plot 3, and of plot 4 when two, reports to LOCAL tally 255; its scope's state, and what plot 3 replays. -/
def inScope (two : Bool) (x : Scope) (c : Option Check) (q : Plot → Plot) : State :=
  let s := checked 2 false c
  let g : RegionDef := ⟨3, 9, 0, 0, 255, true, 1, 2, 3, 4, 3, 5⟩
  { s with
    plots := [(3, q (s.plot 3))]
    sch := { s.sch with
      scopes := if x = {} then [] else [(65536 * 255 + 9, x)]
      active := s.sch.active.map (fun b => { b with body := { b.body with
        regions := if two then [g, { g with plot := 4 }] else [g]
        tallies := [⟨255, .localT, 0, 0, if two then 2 else 1, [], [], []⟩] } }) } }

theorem wit_scope_report : ∀ two ∈ [false, true], (let s := inScope two {} none id
    match checkAt s 3 with
    | some (g, _) => issues s && !(s.plot 3).stopped && !regionBusy s 3 9 && g.scopeEn && s.scope g == {} && allMates s g [3] == !two &&
        (tallyDef s g.scopeTally).any (fun d => d.kind == .localT && d.posts == []) && Tab.wf {} s.plots
    | none => false) = true := by decide +kernel
theorem wit_scope_decides : ∀ two ∈ [false, true], (let s := inScope two { flagged := [3, 4], flags := 2, doneF := true } (some ⟨9, 0, 0, true⟩) id
    (s.plot 3).check == some ⟨9, 0, 0, true⟩ && (match regionOf s 3 9 with
      | some g => (s.scope g).doneF && !(s.scope g).acted.contains 3 && !outcomeNoted s g ⟨9, 0, 0, true⟩ && (s.scope g).events == 0 && allMates s g [3] == !two
      | none => false)) = true := by decide +kernel
theorem wit_scope_pass : (let s := inScope true { passed := [3, 4], amax := 65540, doneA := true } none (fun q => { q with replay := some ⟨5, 9, 1, 0, 0⟩, passOne := true })
    (s.plot 3).check == none && (s.plot 3).passOne && (match replayRegion s 3 with
      | some g => (s.scope g).doneA && !(s.scope g).acted.contains 3 | none => false)) = true := by decide +kernel

/-- R106: a plot whose own flags are clear replays with its scope when another member overflowed. -/
theorem test_scope_shared : (match exec (.scopeDecision 3) (inScope true { flagged := [3, 4], flags := 2, doneF := true } (some ⟨9, 0, 0, true⟩)
      (fun q => { q with regFlags := [] })) with
    | .next t => (t.plot 3).pcP == 3 && (t.plot 3).replay == some ⟨3, 9, 1, 0, 0⟩ | _ => false) = true := by decide +kernel

/-- R34: a chunk of two INT16 products saturates only once it is added; 2 * 32767^2 fits and 4 * 32767^2 does not. -/
theorem test_int16_saturates : (match exec (.rowGroupStart 3 0) (hopping3 0 0 []) with
    | .next t => ((t.plot 3).accs.get [] 0).map Acc.vals == [[0x7FFFFFFF]] && natBit 2 (t.plot 3).hflags | _ => false) = true := by decide +kernel

/-! ### Mash engines -/

/-- Plot 3 with one Mash instruction at the head of its queue. -/
def mashing (w : Nat) (q : Plot) : State := atPlot [] { q with mashQ := [.reg w] } []

/-- A Mash instruction with VD 3, VA 1, VB 2, VC 0. -/
def mashWord (op msk : Nat) : Nat := op + 3 * 2 ^ 8 + 1 * 2 ^ 13 + 2 * 2 ^ 18 + msk * 2 ^ 28

/-- V1 and V2 with one value in every 32-bit lane each. -/
def lanes12 (a b : Nat) : Plot := { v := [(1, List.replicate 128 (BitVec.ofNat 32 a)), (2, List.replicate 128 (BitVec.ofNat 32 b))] }

theorem wit_mash : ∀ op ∈ [0x00, 0x10, 0x3F, 0x18, 0x40, 0x51, 0x5C, 0x60, 0x65, 0x70, 0x74, 0x80],
    ((mashing (mashWord op 0) {}).plot 3).mashQ = [.reg (mashWord op 0)] ∧ mOp (mashWord op 0) = op ∧ Tab.wf {} (mashing (mashWord op 0) {}).plots = true := by
  decide +kernel
theorem wit_mash_empty : ((atPlot [] {} []).plot 3).mashQ = [] := by decide +kernel

/-- The value lane 0 and lane 127 of V3 take from an instruction, and PLT_MFLAGS. -/
def after3 (o : Host.Outcome State Fault Refusal) : Nat × Nat × Nat :=
  match o with
  | .next t => (el false (t.plot 3) 3 0, el false (t.plot 3) 3 127, (t.plot 3).mflags)
  | _ => (0, 0, 0)

/-- R59: 1 + 2 = 3 in FP32, in every lane; the largest finite value doubled is an infinity and no NaN. -/
theorem test_fadd : after3 (exec (.fadd 3) (mashing (mashWord 0x10 0) (lanes12 0x3F800000 0x40000000))) = (0x40400000, 0x40400000, 0) := by decide +kernel
/-- R88: 0 divided by 0 is the canonical NaN with NAN and INV. -/
theorem test_fdiv : (after3 (exec (.fdiv 3) (mashing (mashWord 0x18 0) (lanes12 0 0)))).1 = 0x7FC00000 := by decide +kernel
/-- Table 03.3: IADD saturates and raises SAT. -/
theorem test_iadd : after3 (exec (.iadd 3) (mashing (mashWord 0x40 0) (lanes12 0x7FFFFFFF 1))) = (0x7FFFFFFF, 0x7FFFFFFF, 16) := by decide +kernel
/-- Table 03.3: SHRA shifts by the low five bits of VB. -/
theorem test_shra : (after3 (exec (.shra 3) (mashing (mashWord 0x47 0) (lanes12 0x80000000 33)))).1 = 0xC0000000 := by decide +kernel
/-- R60: RSUM adds 128 lanes exactly and leaves the other lanes. -/
theorem test_rsum : after3 (exec (.rsum 3) (mashing (mashWord 0x60 0) (lanes12 0x3F800000 0))) = (0x43000000, 0, 0) := by decide +kernel

/-- A tensor of two FP32 elements at a plot-store offset of plot 3. -/
def pair3 (off : Nat) : List Byte := leBytes 8 (storeBase 3 + off + 1 * 2 ^ 52) ++ leBytes 8 2 ++ zeros 48

/-- A loop of plot 3 that adds the pairs at 0x1000 and 0x1100 into the store's last 8 bytes: descriptor at 0x100, tensors at 0x200,
0x240, 0x280. -/
def looping : State := atPlot [] { mashQ := [.loop 0x100] }
  [(storeBase 3 + 0x100, leBytes 8 (0x200 + 0x240 * 2 ^ 22) ++ leBytes 8 (0x280 * 2 ^ 22 + 2 * 2 ^ 44 + 2 ^ 46 + 1 * 2 ^ 51) ++ zeros 48
     ++ leBytes 4 (0x10 + 3 * 2 ^ 8 + 0 * 2 ^ 13 + 1 * 2 ^ 18) ++ zeros 60),
   (storeBase 3 + 0x200, pair3 0x1000), (storeBase 3 + 0x240, pair3 0x1100), (storeBase 3 + 0x280, pair3 0x2FFFF8),
   (storeBase 3 + 0x1000, leBytes 4 0x3F800000 ++ leBytes 4 0x40000000), (storeBase 3 + 0x1100, leBytes 4 0x3F800000 ++ leBytes 4 0x3F800000)]

theorem wit_loop : (let d := loopAt looping 3 0x100
    d.outEn && d.outMode == 0 && d.regt == 0 && !d.waitEn && !d.postEn && d.ins.length == 2 && (d.ins ++ [d.out]).all (fun x => x.fmt == .fp32 && x.scale == 0 &&
      x.e0 == 2 && x.e1 == 1 && x.e2 == 1 && x.e3 == 1 && x.e4 == 1) && d.body.map mOp == [0x10] && d.body.map mVd == [3] && d.body.map mVa == [0] &&
      d.body.map mVb == [1] && d.body.map mMsk == [0] && d.out.base + 8 == storeBase 3 + 0x300000 && Tab.wf 0 looping.mem.cells && Tab.wf {} looping.plots) = true := by
  decide +kernel
theorem wit_loop_out : (let s := atPlot [] { mashQ := [.loop 0x100] } []
    !(loopAt s 3 0x100).outEn && !(loopAt s 3 0x100).waitEn && Tab.wf {} s.plots) = true := by decide +kernel

/-- A root descriptor of plot 3 at 0x100 with STAT_OFF 0x2000, STAGE_FIRST f, STAGE_LAST 1, N 1 and ITER 1; LAST_STAGE is l. -/
def rooting (f l : Nat) : State := atPlot [] { mashQ := [.root 0x100] }
  [(storeBase 3 + 0x100, leBytes 8 (2 ^ 44 + 2 ^ 54) ++ zeros 16 ++ leBytes 8 (0x2000 * 2 ^ 32) ++ leBytes 8 (f + 2 ^ 10) ++ zeros 24), (storeBase 3 + 0x2000, leBytes 4 l)]

theorem wit_root : (let d := rootAt (rooting 0 0) 3 0x100
    !d.waitEn && d.first == 0 && d.last == 1 && d.iter == 1 && d.p == 2 && d.stat == 0x2000 && min d.last (1 + d.iter * (d.p + 2)) == 1 &&
    (rootAt (rooting 2 0) 3 0x100).first != rawNat (rooting 2 0) (storeBase 3 + 0x2000) 4 % 1024 + 1 &&
    (rootAt (rooting 2 1) 3 0x100).first == rawNat (rooting 2 1) (storeBase 3 + 0x2000) 4 % 1024 + 1 && Tab.wf 0 (rooting 2 1).mem.cells) = true := by
  decide +kernel

/-- The loop with its output under slot 5, PRESENT. -/
def loopingPresent (wait : Bool) : State :=
  let c := Tab.setMany 0 looping.mem.cells (storeBase 3 + 0x280) (leBytes 8 (storeBase 3 + 0x2FFFF8 + 2 ^ 52 + 5 * 2 ^ 58))
  { looping with
    plots := [(3, { mashQ := [.loop 0x100], slots := [(5, { mode := 2 })], sems := [(47, { assigned := true })] })]
    mem := { cells := if wait then Tab.setMany 0 c (storeBase 3 + 0x110) (leBytes 8 (47 + 2 ^ 12)) else c } }

theorem wit_loop_present : (let s := loopingPresent false
    let d := loopAt s 3 0x100
    !d.waitEn && d.outEn && d.out.scale == 5 && ((s.plot 3).slot 5).mode == 2 && ((looping.plot 3).slot (loopAt looping 3 0x100).out.scale).mode != 2) = true := by
  decide +kernel
theorem wit_loop_waits : (let s := loopingPresent true
    let x := (s.plot 3).sems.get {} (loopAt s 3 0x100).semWait
    (loopAt s 3 0x100).waitEn && x.assigned && x.value == 0 && (s.plot 3).replay == none && !(s.plot 3).passOne) = true := by decide +kernel

/-- A root entry that waits for semaphore 47. -/
def rootWaiting : State := atPlot [] { mashQ := [.root 0x100], sems := [(47, { assigned := true })] } [(storeBase 3 + 0x100 + 32, leBytes 8 (2 ^ 10 + 47 * 2 ^ 20 + 2 ^ 32))]

theorem wit_root_waits : (let d := rootAt rootWaiting 3 0x100
    !rootMismatch rootWaiting 3 d && d.waitEn && d.semWait == 47 && ((rootWaiting.plot 3).sems.get {} 47).assigned) = true := by decide +kernel

/-- R74: an entry out of sequence sets ROOT_FAIL and leaves the queue. -/
theorem test_root_fail : (match exec (.rootDescriptor 3) (rooting 2 0) with
    | .next t => (t.plot 3).mflags == 32 && (t.plot 3).mashQ == [] | _ => false) = true := by decide +kernel

/-! ### Memory accesses and tun adders -/

/-- A window region and an INT32 region, each of one line. -/
def tunned : State :=
  { inMode .running with mem := { tun := [(0, { base := 0x1000, fin := 0x1080, en := true }), (255, { base := 0x7FFFFFFF80, fin := 0x8000000000, en := true, int32 := true })] } }

theorem wit_access : refuses State.reset 0 0x7FFFFFFFFF false = false ∧ (locate 0x7FFFFFFFFF != .aperture) = true ∧ refuses State.reset 0 0x1FFFFFFFFFF true = true ∧
    refuses State.reset 0 0x7FFFFFFF80 true = false ∧ 0x7FFFFFFF80 % 128 + 128 ≤ 128 ∧ Tab.wf 0 State.reset.mem.cells = true := by decide +kernel
theorem wit_access_dir : ∀ o, locate 0x7FFFFFFF80 ≠ .dir o := by
  have h : locate 0x7FFFFFFF80 = .hbm := by decide +kernel
  intro o; rw [h]; intro h'; cases h'

/-- The eight last lines of the last HBM frame. -/
def lastLines : List (BitVec 44 × List Byte) := (List.range 8).map (fun i => (BitVec.ofNat 44 (0x7FFFFFFC00 + 128 * i), zeros 128))

theorem wit_commit : (lastLines.all (fun l => decide (l.1.toNat / 0x10000 = 0x7FFFFF) && decide (l.1.toNat % 128 = 0) && decide (l.2.length = 128)) &&
    decide ((lastLines.map (fun l => l.1)).Nodup) && !State.reset.mem.withdrawn.get false 0x7FFFFF && decide (0x7FFFFF < 0x800000) && lastLines.length == 8 &&
    Tab.wf 0 State.reset.mem.fences) = true := by decide +kernel
theorem wit_tunAt : TunAt tunned 64 0x1070 0 false { base := 0x1000, fin := 0x1080, en := true } ∧
    TunAt tunned 64 0x7FFFFFFFFC 255 true { base := 0x7FFFFFFF80, fin := 0x8000000000, en := true, int32 := true } := by
  unfold TunAt; decide +kernel
theorem wit_tunValue : tunValue 0 0x3F800000 = some (.fin false (2 ^ 23) (-23)) ∧ tunRegionOf tunned 0x1080 = none ∧ refuses tunned 64 0x1080 true = false := by
  decide +kernel
theorem wit_tunOrder : ((tunStep 0 0 (.fin false 1 0)).2.1 || (tunStep 0 0 (.fin true 3 0)).2.1 || (tunStep 0 (tunStep 0 0 (.fin false 1 0)).1 (.fin true 3 0)).2.1 ||
    (tunStep 0 (tunStep 0 0 (.fin true 3 0)).1 (.fin false 1 0)).2.1) = false := by decide +kernel

/-- R132: 1.0 added to a window with X = 0 is 2^95. -/
theorem test_tadd : (match exec (.tadd 64 0x1070 0 0x3F800000) tunned with
    | .next t => windowAt t 0x1070 | _ => 0) = 2 ^ 95 := by decide +kernel
/-- Table 06.7: an INT32 counter saturates. -/
theorem test_iadd_tun : (match exec (.tunIadd 64 0x7FFFFFFFFC 1) { tunned with mem := { tunned.mem with cells := cellsOf [(0x7FFFFFFFFC, leBytes 4 0x7FFFFFFF)] } } with
    | .next t => rawNat t 0x7FFFFFFFFC 4 | _ => 0) = 0x7FFFFFFF := by decide +kernel

theorem wit_scrub : (let s : State := { State.reset with mem := { hbmPoison := [(0, true)] } }
    channelOf s 0 == 0 && State.reset.mem.hbmPoison == []) = true := by decide +kernel

/-! ### Look-up and gradients -/

/-- A running module with table 5, its step entries for steps 4 and 5, one feature, and the window region of its accumulators. -/
def looking (e4 e5 : TableStep) : State :=
  { inMode .running with
    sch := { active := some { hdr := { rank := 0 }, body := { features := [⟨5, 4, false, 0, 63, 0x2FFF80, 0, 0x6000000000, 128, 1⟩], micro := 1 } }, step := 4 }
    grn := { tables := [(5, some demoTable)], steps := [(10, e4), (11, e5)] }
    mem := { tabled.mem with
      tun := [(128, { base := 0x7C10000000, fin := 0x7C12010000, en := true })]
      cells := cellsOf [(0x7C00000000 + 6, [1])] } }

theorem wit_resolve : ∀ x ∈ [(0, 0), (16, 0), (1, 1)],
    (let s := looking { step := 4, used := 1 } { step := 5, used := x.1, slotOf := if x.2 = 0 then [] else [(1023, x.2)] }
     grnIssues s && (nextTable s 5 demoTable).owns 1023 && !(nextTable s 5 demoTable).owns 1024 && (stepEntry s 5 5).step == 5 &&
       (stepEntry s 5 5).used == x.1 && (stepEntry s 5 5).slotOf.get 0 1023 == x.2 && demoTable.accRows == 16) = true := by decide +kernel
theorem wit_resolve_served : ({ (looking {} {}).grn with served := [(5, 7, 0, 1023)] }.served.any (fun x => x.1 == 5 && x.2.1 == 7 && x.2.2.2 == 1023)) = true := by decide

/-- Row 1024 was asked of another owner and stands in a bag of the step in look-ahead. -/
def asked : State :=
  (looking {} { step := 5 }).onGrn (fun g => { g with asks := [(5, 1, 0, 1024)], bagsNext := [(0, [.row 1024, .row 5])] })

theorem wit_over : (grnIssues asked && !(nextTable asked 5 demoTable).owns 1024 && asked.rank == 0 &&
    asked.grn.asks.any (fun a => a.1 == 5 && a.2.2.2 == 1024) && Tab.wf 0 asked.grn.counts && (stepEntry asked 5 5).step == 5 &&
    (asked.body.features[0]?).map FeatureDef.table == some 5) = true := by decide +kernel
theorem test_over : (match exec (.resolutionRequest 5 0 0 1024 none) asked with
    | .next t => t.grn.bagsNext == [(0, [.dflt, .row 5])] && t.grn.counts.get 0 171 == 1 && stickyBit t 10 5
    | _ => false) = true := by decide +kernel

/-- The last way of the array fills for table 5; sector 0 is there. -/
def filling : State := { looking { step := 4 } { step := 5 } with grn := { tables := [(5, some demoTable)], dir := [(0x3FFFFF, { table := 5, state := 1, valid := 1 })] } }

theorem wit_fill : ((dirEntry filling 0x3FFFFF).state != 0 && (filling.table 5).isSome && natBit 0 (dirEntry filling 0x3FFFFF).valid &&
    !natBit 31 (dirEntry filling 0x3FFFFF).valid && filling.mem.hbmPoison == [] && filling.mem.kilnPoison == [] && filling.mem.dieLost == [] &&
    decide (wayAddr 0x3FFFFF + 0x10000 ≤ 0x8000000000) && Tab.wf {} filling.grn.dir && Tab.wf 0 filling.mem.cells) = true := by decide +kernel
theorem wit_pool : (let s := looking { step := 4 } { step := 5 }
    issues s && s.body.features[0]? == some ⟨5, 4, false, 0, 63, 0x2FFF80, 0, 0x6000000000, 128, 1⟩ && s.grn.bags.get [] (0 * s.body.features.length + 0) == [] &&
      decide (0x2FFF80 + 0 % max 1 s.body.micro * 0 + 4 * demoTable.dim ≤ 0x300000)) = true := by decide +kernel
theorem wit_gradient : (let s := looking { step := 4, used := 1 } { step := 5 }
    issues s && (stepEntry s 5 4).step == 4 && (stepEntry s 5 4).used == 1 && !natBit 49 (rawNat s (slotEntry s demoTable 4 0) 16) &&
      natBit 48 (rawNat s (slotEntry s demoTable 4 0) 16) && accWindow s demoTable 4 0 0 % 16 == 0 && decide (accWindow s demoTable 4 0 32 ≤ 0x8000000000) &&
      s.mem.withdrawn == [] && (List.range 32).all (fun j => (tunRegionOf s (accWindow s demoTable 4 0 j)).map (·.1) == some 128) && Tab.wf 0 s.mem.cells) = true := by
  decide +kernel
theorem wit_gradient_region : ∀ m, m ≠ 128 → ((looking {} {}).mem.tun.get {} m).en = false := by
  intro m h; have h' : ¬ 128 = m := fun e => h e.symm
  simp only [looking, Tab.get, if_neg h']; split <;> rfl
theorem wit_gradient_none : (stepEntry (looking { step := 4, used := 1 } {}) 5 4).used ≤ 1 ∧ issues (inMode .parked) = false := by decide +kernel

theorem wit_handle : (grnIssues asked && (nextTable asked 5 demoTable).owns 1024 == false && asked.rank == 0 &&
    asked.grn.asks.any (fun a => a.1 == 5 && a.2.2.2 == 1024) && (stepEntry asked 5 (asked.sch.step + 1)).step == 5) = true := by decide +kernel

/-- Row 1024 of another owner in the bag of sample 0. -/
def pooling : State := (looking { step := 4 } { step := 5 }).onGrn (fun g => { g with bags := [(0, [.row 1024])] })

theorem wit_pool_row : (issues pooling && pooling.grn.bags.get [] (0 * pooling.body.features.length + 0) == [.row 1024] && !demoTable.owns 1024 &&
    (pooling.body.features[0]?).any (fun d => d.outFmt == 0 && !d.mean && decide (d.off + 0 % max 1 pooling.body.micro * d.stride + 4 * demoTable.dim ≤ 0x300000))) = true := by
  decide +kernel

/-- R165: the pooled vector of a bag of one row is that row. -/
theorem test_pool_row : (match exec (.pool 0 0 [.data (leBytes 2 0x3F80 ++ zeros 60 ++ leBytes 2 0xC000)]) pooling with
    | .next t => rawNat t (storeBase 63 + 0x2FFF80) 4 == 0x3F800000 && rawNat t (storeBase 63 + 0x2FFFFC) 4 == 0xC0000000 | _ => false) = true := by decide +kernel

/-! ### The Lauter engine and the reductions -/

/-- Tensor 7 with both banks and halves in HBM, and a second owner, rank 1. -/
def hbmTensor : TensorDef := { demoTensor with bank0 := 0x100000, bank1 := 0x110000, owners := [0, 1] }

/-- Rule set 3: SGDM that keeps everything finite. -/
def sgdm (deferred : Bool) : RuleSet := { rule := 0, deferred := deferred, mult := 0x3F800000, beta2 := 0x3F000000, eps := 0x3F800000, c1 := 0x3F800000, c2 := 0x3F000000 }

/-- Group 2 is a replica group of table 5, group 3 a dense one of tensor 7. -/
def exchangeBody : BundleBody :=
  { tensors := [hbmTensor], groups := [⟨9, -100, 100, 0, none, (0, 0)⟩], slots := [⟨0, 1, 0, 0, 0, 1, 0, 9⟩]
    reductions := [⟨2, true, [0, 1], 1, 1, [1], [(0, 1)], 5, 0, 0, 0, 0⟩, ⟨3, false, [0, 1], 0, 1, [1], [(0, 1)], 7, 0, 0, 0, 0⟩] }

/-- The update exchange of step 4 of a running module. -/
def exchanging (d : Bool) (x : Tensor) : State :=
  { inMode .running with
    sch := { active := some ⟨{ rank := 0 }, exchangeBody⟩, step := 4, updating := true }
    grn := { tables := [(5, some demoTable)], steps := [(10, { step := 4, used := 2, present := some 1, done := [(1, true)] })] }
    mem := tabled.mem
    ltr := { sets := [(3, some (sgdm d))], tensors := [(7, x)] } }

/-- A block of one member whose sums are zero. -/
def zeroBlock : GradBlock := { p := 1, g := 2, sums := List.replicate 32 0, nans := List.replicate 32 false }

/-- Group 1's block has arrived. -/
def oneBlock : Tensor := { step := 4, blocks := [(1, some zeroBlock)] }

theorem wit_denseUpdate : (let s := exchanging false oneBlock
    let x := s.tensor 7
    let d := hbmTensor
    let old := rawBytes s (denseAddr d x.bank 1) 512
    tensorDef s 7 == some d && ruleSetOf s d.ruleSet == some (sgdm false) && d.owns 1 && lauterRuns s x.late && !x.done.get false 1 && !x.frozen && !x.late &&
      !x.deferred.get false 1 && x.blocks.get none 1 == some zeroBlock && (match blockGrad (sgdm false) d 1 zeroBlock with
        | .ok raw => (ruleStep (sgdm false) (fMul s.ltr.eta (sgdm false).mult) 32 (clipUnit (sgdm false) raw).1 (clipUnit (sgdm false) raw).1 (unitVals [(1, old)])).finite
        | _ => false) &&
      decide (recStep old < x.step) && s.mem.hbmPoison == [] && s.mem.withdrawn == [] && distStreams s 7 == [] && denseAddr d 0 1 % 128 == 0 &&
      decide (denseAddr d 0 1 + 512 ≤ denseAddr d 1 1) && decide (denseAddr d 1 1 + 512 ≤ 0x8000000000) &&
      [0, 1].all (fun k => decide (denseAddr d k 1 + 512 ≤ d.wc (1 - x.half) + 1 * d.wcBytes)) && Tab.wf 0 s.mem.cells) = true := by decide +kernel
theorem wit_denseUpdate_done : (let s := exchanging false { oneBlock with done := [(1, true)] }
    lauterRuns s (s.tensor 7).late && (s.tensor 7).done.get false 1 && hbmTensor.owns 1) = true := by decide +kernel
theorem wit_rowUpdate : (let s := exchanging false {}
    let e := stepEntry s 5 4
    e.step == 4 && (stepEntry s 5 5).step + 1 != 4 && lauterRuns s false && !e.closed && e.used == 2 && e.present == some 1 && e.done.get false 1 &&
      !e.done.get false 0 && !natBit 48 (rawNat s (slotEntry s demoTable e.step 0) 16)) = true := by decide +kernel
theorem wit_dist : (let s := exchanging false oneBlock
    hbmTensor.owners.contains 1 && s.rank == 0 && !s.sch.skip && decide (hbmTensor.wc (1 - (s.tensor 7).half) + 0 * hbmTensor.wcBytes + 64 ≤ 0x8000000000)) = true := by
  decide +kernel
theorem wit_reduced : (let s := exchanging false {}
    (reductionDef s 2).any (fun r => r.replica && r.members.contains s.rank && decide (0 < r.blocks) && (s.table r.target).isSome) && !s.sch.skip && !parked s &&
      !lauterRuns { s with sch := { s.sch with updating := false } } false) = true := by decide +kernel

/-- A contribution of rank 1 to group 3: one segment of one block, its block zero. -/
def contrib1 : List Byte := [1] ++ leBytes 2 1 ++ leBytes 4 1 ++ [0] ++ zeros 4 ++ leBytes 4 1 ++ zeros 33

theorem wit_contrib : (let s := exchanging false {}
    (reductionDef s 3).any (fun r => r.owner == s.rank && r.members.contains 1 && contribOk r 1 contrib1 && r.blocks == 1 && r.group == 3 && decide (1 < r.members.length)) &&
      !s.ltr.taken.get false (65536 * 3 + 1) && !paused s && s.ltr.reduce.get {} (2 ^ 32 * 3) == {} &&
      ({ s.ltr with taken := [(65536 * 3 + 1, true)] }).taken.get false (65536 * 3 + 1)) = true := by decide +kernel
theorem wit_norm : (let s := exchanging true {}
    (ruleSetOf s 3).any (fun rs => rs.deferred) && tensorsOf s 3 == [hbmTensor] && !(s.tensor 7).late && lauterRuns s false && (s.tensor 7).deferred == []) = true := by
  decide +kernel
theorem wit_reduceAdd : (List.replicate 32 (XVal.inf false)).length = 32 ∧ ({} : Reduce).sums = [] ∧ ({} : Reduce).nans = [] := by decide

/-- Rule set 3 has table 5 as its target; slot 0 of table 5 is touched and holds row 1023, whose record stands at 0x6000000000. No tun
region is enabled, so that what the windows answer does not hang on the Malt cache's set function, which is free. -/
def touching (used : Nat) : State :=
  let s := exchanging false {}
  { s with
    ltr := { s.ltr with sets := [(3, some { sgdm false with targets := [5] })] }
    grn := { tables := [(5, some demoTable)], steps := [(10, { step := 4, used := used, present := some 1 })] }
    mem := { s.mem with
      cells := cellsOf [(0x7C00000000, leBytes 16 (1023 + 2 ^ 48 + 0x6000000000 * 2 ^ 64))] } }

theorem wit_rowTouched : (let s := touching 1
    let e := stepEntry s 5 4
    let w := rawNat s (slotEntry s demoTable 4 0) 16
    let a := natBits 107 64 w
    let r := takeWindows true (accWindow s demoTable 4 0 0) 32 s
    natBit 48 w && !natBit 49 w && (match setOfTable s 5 with
      | some (_, rs) =>
        let raw := r.2.1.map (fun x => toF32 ((f32 x).div (XVal.ofInt false (avgDiv rs 1 s.bhdr.members) 0)))
        let old := rawBytes r.1 a demoTable.recLen
        decide (recStep old < e.step) && (match rowUpdate 5 (w % 2 ^ 48) e.step demoTable rs (fMul s.ltr.eta rs.mult) (clipUnit rs raw).1 old with
          | some bs => bs.length == 112 && decide (a + bs.length ≤ 0x8000000000) | none => false)
      | none => false) && !r.2.2.1 && !r.2.2.2 && e.step == 4 && !e.closed && e.present == some 1 && e.used == 1 && lauterRuns s false &&
      s.mem.hbmPoison == [] && s.mem.withdrawn == [] && Tab.wf 0 s.mem.cells) = true := by decide +kernel
theorem wit_rowAscending : (let e := stepEntry (touching 2) 5 4
    e.used == 2 && !e.done.get false 1 && !e.done.get false 0) = true := by decide +kernel
theorem wit_replicaUpdate : (let s := touching 1
    let bs := leBytes 2 1 ++ zeros 134
    match reductionDef s 2, setOfTable s 5 with
    | some r, some (_, rs) =>
      let a := repAddr s demoTable r.first
      let old := rawBytes s a demoTable.recLen
      r.replica && lauterRuns s false && !paused s && s.ltr.reduced == [] && demoTable.dim == 32 && !s.ltr.repDone.get false (2 ^ 17 * r.target + r.first) &&
        bs.length == 136 && leAt bs 0 2 != 0 && !natBit 0 (leAt bs 4 1) && decide (recStep old < s.sch.step) && decide (a + demoTable.recLen ≤ 0x8000000000) &&
        (rowUpdate 5 (replicaRow demoTable r.first) s.sch.step demoTable rs (etaOf s rs s.sch.step) (clipUnit rs (wordsAt bs 8 32)).1 old).any
          (fun x => x.length == 112)
    | _, _ => false) = true := by decide +kernel
theorem wit_distSlice : min (([] ++ zeros 128 : List Byte).length / hbmTensor.wcBytes) (hbmTensor.groups - 1) = 1 := by decide +kernel
theorem wit_contrib_bad : (reductionDef (exchanging false {}) 3).any (fun r => !contribOk r 1 [] && !contribGone r [] 0) = true := by decide +kernel
theorem wit_contrib_last : (let s : State := (exchanging false {}).onLtr (fun l => { l with reduce := [(2 ^ 32 * 3, reduceAdd none {})] })
    let x := s.ltr.reduce.get {} (2 ^ 32 * 3)
    (reductionDef s 3).any (fun r => x.present + x.absent + 1 == r.members.length && contribOk r 1 contrib1 && !r.replica && !(s.tensor r.target).late &&
      !(s.tensor r.target).frozen && !(s.tensor r.target).done.get false r.first) && !s.ltr.taken.get false (65536 * 3 + 1)) = true := by decide +kernel
theorem wit_contrib_own : (let s := exchanging false {}
    (reductionDef s 3).any (fun r => r.owner == s.rank && r.members.contains s.rank && !s.sch.unarmed && decide (r.srcBase + contribHead r + 33 ≤ 0x8000000000)) &&
      !s.ltr.taken.get false (65536 * 3 + 0) && !parked s) = true := by decide +kernel

/-! ### The Cask store -/

/-- One layer, W 64 in BF16: 128 bytes a token, 4,096 bytes a cask. Slot 7 is split between ranks 0 and 1. -/
def demoCask : CaskDef :=
  { layers := 1, w := 64, kvfmt := 1, maxCasks := 4, res := 2, partCasks := 2, window := 32, spillHost := false, spillBase := cellarBase, metaBase := 0x10000000
    split := [(7, [0, 1], 4)], leanLayers := 0, parts := [⟨0, 0, 0, 0, 0, 63, 0x2FEFC0, 47⟩], spills := [⟨0, 2047, 0⟩], fetches := [⟨0, 0, 0, 0, 31⟩] }

/-- A running module with that cask region, its slots' books, and memory cells. -/
def casked (c : Cask) (cells : List (Nat × List Byte)) : State :=
  { inMode .running with
    sch := { active := some ⟨{ rank := 0 }, { casks := some demoCask }⟩, step := 4 }, csk := c
    mem := { parts := [256, 48, 32, 96, 64, 16], cellarGib := 192, cells := cellsOf cells } }

/-- A sequence table entry of slot 2047 in a state with so many tokens. -/
def seq2047 (tokens st : Nat) : Nat × List Byte := (seqAt demoCask 2047, zeros 8 ++ leBytes 4 tokens ++ leBytes 1 st)

theorem wit_append : (let s := casked { use := [(2047, { new := 1 })] } [seq2047 30 1]
    let u := useOf s 2047
    let a := steepAt demoCask 2047 0 (seqSteep s demoCask 2047 0)
    caskDef s == some demoCask && !u.faulty && decide (u.written.get 0 0 < u.new) && seqState s demoCask 2047 == 1 && issues s &&
      seqTokens s demoCask 2047 % 16 + u.written.get 0 0 == 14 && demoCask.row == 128 && decide (a % 65536 + 32 * demoCask.row ≤ 65536) &&
      decide (a + 32 * demoCask.row ≤ 0x8000000000) && Tab.wf 0 s.mem.cells && decide ((useOf s 2046).new ≤ (useOf s 2046).written.get 0 0)) = true := by
  decide +kernel

/-- Slot 2047, the next step's sample 0, whose one cask 2,097,151 is closed in frame 0 (or spilled) and marked. -/
def spilling (loc : Nat) : State :=
  casked { toSpill := [(2097151, true)], seqsNext := [2047] } [seq2047 16 1, (seqAt demoCask 2047 + 16, leBytes 6 (2097151 + 2 ^ 21 * 2097151)),
    (pageAt demoCask 2097151, leBytes 16 (Page.word { slot := 2047, state := 2, loc := loc, last := true }))]

theorem wit_spill : (let s := spilling 0
    let pg := page s demoCask 2097151
    (chainAt s demoCask 0 2047 0).find? (fun c => s.csk.toSpill.get false c && (page s demoCask c).loc == 0) == some 2097151 && demoCask.spills[0]? == some ⟨0, 2047, 0⟩ &&
      demoCask.spills[1]? == none && (chainAt (spilling 1) demoCask 0 2047 0).find? (fun c => s.csk.toSpill.get false c && (page (spilling 1) demoCask c).loc == 0) == none &&
      !demoCask.spillHost && pg.state == 2 && pg.loc == 0 && issues s && s.mem.dieLost == [] && s.mem.withdrawn == [] && Tab.wf false s.csk.toSpill &&
      decide (pageAt demoCask 2097151 + 16 ≤ 0x8000000000) && pageAt demoCask 2097151 % 16 == 0 && decide (frameAt s demoCask pg.frame + demoCask.bytes ≤ 0x8000000000) &&
      decide (cellarBase ≤ spillAt demoCask 2097151) && decide (spillAt demoCask 2097151 + demoCask.bytes ≤ 0x3FC00000000)) = true := by decide +kernel
theorem wit_prefetch : ∀ loc ∈ [0, 1], (let s := spilling loc
    let f := caskFrames s demoCask - demoCask.window + 31
    demoCask.fetches[0]? == some ⟨0, 0, 0, 0, 31⟩ && sampleSlot s.csk.seqsNext 0 == some 2047 && (chain s demoCask 2047 0)[0]? == some 2097151 &&
      (page s demoCask 2097151).loc == loc && decide (31 < demoCask.window) && decide (frameAt s demoCask f + demoCask.bytes ≤ 0x8000000000) && s.mem.kilnPoison == [] &&
      issues s) = true := by decide +kernel

/-- Sample 0 of the step is the given slot, whose history is as given. -/
def delivering (seqs : List Nat) (cells : List (Nat × List Byte)) : State :=
  { casked { seqs := seqs } cells with plots := [(63, { sems := [(47, { value := 65534, assigned := true })] })] }

theorem wit_part : ∀ x ∈ [(delivering [0xFFFF] [], true), (delivering [2047] [seq2047 3 1, (seqAt demoCask 2047 + 16, leBytes 6 (2 ^ 42))], false)],
    partEntry x.1 demoCask x.1.rank 0 0 0 = some ⟨0, 0, 0, 0, 0, 63, 0x2FEFC0, 47⟩ ∧ partEntry x.1 demoCask x.1.rank 0 0 1 = none ∧ issues x.1 = true ∧
    (sampleSlot x.1.csk.seqs 0).isNone = x.2 ∧ ((ownPart demoCask 0 0 0 x.1).2.any (fun bs => !x.2 || bs.length == 64 + demoCask.bytes)) = true ∧
    (x.1.plot 63).sems.get {} 47 = { value := 65534, assigned := true } ∧ 0x2FEFC0 + 64 + demoCask.bytes ≤ 0x300000 := by decide +kernel
theorem wit_part_guest : (guestPart demoCask 1 9 0 0 (casked {} [])).2 = none ∧ (partEntry (casked {} []) demoCask 1 0 0 0) = none := by decide +kernel

/-- Slot 7 with 47 tokens: its cask 2 is kept by rank 1. -/
theorem wit_appendHeld : (let s := casked { use := [(7, { new := 1 })] } [(seqAt demoCask 7, zeros 8 ++ leBytes 4 47 ++ leBytes 1 1)]
    seqState s demoCask 7 == 1 && seqTokens s demoCask 7 % 16 + (useOf s 7).written.get 0 0 == 15 && caskHolder s demoCask 7 (seqTokens s demoCask 7 / 16) == some 1 &&
      decide (steepAt demoCask 7 0 (seqSteep s demoCask 7 0) % 65536 + 32 * demoCask.row ≤ 65536)) = true := by decide +kernel

/-- The record of a LOAD in the look-ahead, its image's header at 0x20000000. -/
def loading (h : List Byte) : State := casked { next := [(9, leBytes 4 (2 * 2 ^ 11) ++ zeros 12 ++ leBytes 8 0x20000000 ++ zeros 8)] } [(0x20000000, h)]

theorem wit_load : ∀ x ∈ [([] , false), (zeros 12 ++ [1, 1] ++ leBytes 2 64, true)],
    (let s := loading x.1
     let bs := s.csk.next.get [] 9
     bs.length == 32 && recAction bs == 2 && leAt bs 16 8 % 2 ^ 44 == 0x20000000 && 0x20000000 % 128 == 0 && imageOk demoCask (rawBytes s 0x20000000 64) == x.2 &&
       recAction (s.csk.next.get [] 8) != 2) = true := by decide +kernel
theorem wit_save : (let s := casked { saving := [(2047, 1)] } [seq2047 16 2]
    s.csk.saving.get 0 2047 == 0 + 1 && s.csk.saving.get 0 5 == 0 && !s.csk.saved.get false 2047 && seqState s demoCask 2047 == 2 && issues s && s.mem.withdrawn == [] &&
      !(splitOf demoCask s.rank 7).isNone && (splitOf demoCask s.rank 8).isNone && sampleSlot [7, 8] 0 == some 7 && sampleSlot [7, 8] 1 == some 8) = true := by decide +kernel

/-! ### Tallies and releases -/

/-- Tally counters: 255 is LOCAL with TARGET 2; 0, 1, 2 and 3 are fabric tallies 0 (BARRIER), 1 (EPOCH), 2 (COMBINE, the gradient tally of table 5) and
3 (BARRIER), of which this module is the root with one child, or a leaf with no child. -/
def talliesOf (root : Bool) : List TallyDef :=
  let nd : TreeNode := { rank := 0, parent := if root then none else some (9, 2), alt := none, children := if root then [(9, 2, 1)] else [], size := if root then 2 else 1, dGroup := 1000000 }
  let tree := if root then [nd, { rank := 9, parent := some (0, 2), alt := none, children := [], size := 1, dGroup := 1000000 }] else [nd, nd, nd]
  [⟨255, .localT, 0, 0, 2, [], [], []⟩, ⟨0, .barrier, 0, 0, 0, [], tree, []⟩, ⟨1, .epoch, 1, 0, 0, [], tree, []⟩, ⟨2, .combine, 2, 0, 0, [.sum], tree, []⟩,
    ⟨3, .barrier, 3, 0, 0, [], tree, []⟩]

/-- Its bundle, with the link to rank 9 on port 2. -/
def tallyBody (root : Bool) : BundleBody :=
  { tallies := talliesOf root, tablesF := [⟨5, 32, 1, [], 2⟩], links := [⟨2, 9, 5, 100, 0x1234, 0x4321, [(9, none)]⟩], plan := [⟨0, 100, false, false, false⟩, ⟨1, 100, true, true, false⟩] }

/-- A running module with port 2 ACTIVE and tally counters. -/
def tallied (root : Bool) (ts : Tab Tally) : State :=
  { inMode .running with sch := { active := some ⟨{ rank := 0 }, tallyBody root⟩, step := 4 }, fab := { ports := [(2, { state := 5, enable := true })], tallies := ts } }

theorem wit_local : (tallyDef (tallied true []) 255).any (fun d => d.kind == .localT && d.target == 2 && d.posts == []) = true ∧
    ((tallied true [(255, { count := 1 })]).tally 255).count + 1 = 2 ∧ Tab.wf {} (tallied true [(255, { count := 1 })]).fab.tallies = true := by decide +kernel
theorem wit_arrive : (let s := tallied true [(3, { gen := 255 })]
    (fabricTally s 3).any (fun x => x.1.n == 3 && tallyTarget x.1 x.2 == 2 && laneCount x.1 == 1) && (s.tally 3).gen == 255 && !(s.tally 3).sent && senderOf s 2 == 9 &&
      (s.tally 3).from_ == [] && decide ((s.tally 3).count + 1 < 2) && Tab.wf {} s.fab.tallies &&
      (let w : State := { s with sch := { s.sch with active := some ⟨{ rank := 0 }, { tallyBody true with tallies := (talliesOf true).map (fun d => { d with lanes := [.sum, .max] }) }⟩ } }
       (fabricTally w 3).any (fun x => decide ((0 : BitVec 12).toNat + 1 < laneCount x.1)) && (fabricTally w 2).any (fun x => decide ((0 : BitVec 12).toNat + 1 < laneCount x.1)))) = true := by decide +kernel
theorem wit_own : (let s : State := tallied true []
    let u : State := tallied true [(2, { count := 1, own := true, sent := true, gen := 255 })]
    s.hasBundle && !s.sch.arrived && Tab.wf {} u.fab.tallies && (s.body.tablesF.find? (fun f => f.table == 5)).any (fun f => f.gradTally == 2) &&
      (fabricTally s 1).any (fun x => x.2.children.all (fun c => carriesWithy (s.port c.2.1)) && decide ((s.tally x.1.n).count + 1 < tallyTarget x.1 x.2) && !(s.tally x.1.n).own && x.1.kind == .epoch) &&
      (fabricTally s 2).any (fun x => decide ((s.tally x.1.n).count + 1 < tallyTarget x.1 x.2) && !(s.tally x.1.n).own && !(s.tally x.1.n).sent) &&
      (fabricTally u 2).any (fun x => x.1.kind == .combine && (u.tally x.1.n).sent && x.2.children.all (fun c => carriesWithy (u.port c.2.1)) && decide (1 < tallyTarget x.1 x.2))) = true := by decide +kernel
theorem wit_ownLeaf : (let s : State := tallied false []
    (fabricTally s 1).any (fun x => (s.tally x.1.n).count + 1 == tallyTarget x.1 x.2 && !(s.tally x.1.n).sent && parentPort s x.2 == some 2 && x.1.lanes == [] && x.2.children == [] && x.1.kind == .epoch)) = true := by
  decide +kernel
theorem wit_combined : (fabricTally (tallied true []) 2).any (fun x => x.1.kind == .combine && x.2.children == [(9, 2, 1)] && decide (laneCount x.1 ≤ (0 : BitVec 12).toNat + 1)) = true ∧
    (fabricTally (tallied true []) 3).any (fun x => x.1.kind == .barrier) = true := by decide +kernel
theorem wit_tallyRoot : (let s := tallied true [(0, { count := 2, sent := true })]
    (fabricTally s 1).any (fun x => x.2.parent == none && !(s.tally x.1.n).sent && x.1.kind == .epoch) &&
      (fabricTally s 0).any (fun x => x.2.parent == none && (s.tally x.1.n).sent && x.1.kind == .barrier && x.2.children == [(9, 2, 1)]) &&
      (fabricTally (tallied false []) 3).any (fun x => x.2.parent.isSome) && s.fab.rel.get none 0 == none) = true := by decide +kernel
theorem wit_release : (let s := tallied false []
    (fabricTally s 3).any (fun x => x.1.kind != .combine && x.2.dGroup == 25 * 40000) && s.fab.rel.get none 3 == none && !(s.port 2).switched) = true := by decide +kernel
theorem wit_semPost : (let s : State := { tallied true [] with plots := [(63, { sems := [(47, { value := 65534, assigned := true })] })] }
    s.rank == 0 && ((s.plot 63).sems.get {} 47).assigned && decide ((((s.plot 63).sems.get {} 47).value : Int) + (1 : BitVec 16).toInt = 0xFFFF) &&
      decide ((((s.plot 63).sems.get {} 47).value : Int) + (0xFFFF : BitVec 16).toInt = 65533) && routeTo s 9 == some 2) = true := by decide +kernel

theorem wit_room : Room (tallied true []) 2 2 ∧ Room (tallied false []) 2 1 ∧ carriesWithy ((tallied true []).port 2) = true ∧ routeTo (tallied true []) 8 = none ∧
    (tallied true []).rank = 0 := by
  unfold Room; decide +kernel

/-- R272: the arrival that reaches TARGET clears COUNT and advances GEN. -/
theorem test_localTally : (match exec (.localTally 255) (tallied true [(255, { count := 1, gen := 255 })]) with
    | .next t => t.tally 255 | _ => { count := 9 }) = {} := by decide +kernel

/-- R274: with two lanes, the second word of a sender counts it; the second combined word closes the tally. -/
theorem test_lanes : (let s : State := tallied true [(2, { count := 1, from_ := [0], own := true })]
    let w : State := { s with sch := { s.sch with active := some ⟨{ rank := 0 }, { tallyBody true with tallies := (talliesOf true).map (fun d => { d with lanes := [.sum, .max] }) }⟩ } }
    ((tallyArrive 2 2 0 1 0 3 w).tally 2).count == 1 && ((tallyArrive 2 2 0 1 1 4 (tallyArrive 2 2 0 1 0 3 w)).tally 2).gen == 1) = true := by decide +kernel
/-! ### Espalier ports -/

/-- A partner's record: rank 9, port 5, domain 0. -/
def rank9 : CapRec := { proto := 0x0100, port := 5, modes := 3, domain := 0, rank := 9, synt := 0, opticPs := 2100, carrierPs := 350, serial := 1, stepping := 0, linkFw := 0 }

/-- A running module with port 15 as given, linked to rank 9 port 5 with a DELAY_MAX of 100. -/
def ported (q : Port) (f : PortFlow) (runs : List Run) : State :=
  { inMode .running with
    sch := { active := some ⟨{ rank := 0 }, { links := [⟨15, 9, 5, 100, 0x1234, 0x4321, [(9, none)]⟩], templates := [template 0 64 runs],
                                               streams := [⟨3, .plot, false, 63, 47, 1, 0, 0x100000, 8, 0⟩] }⟩, step := 4 }
    fab := { ports := if q = {} then [] else [(15, q)], flows := if f = {} then [] else [(15, f)] }
    plots := [(63, { sems := [(47, { value := 8, assigned := true })] })] }

theorem wit_training : ∀ k ∈ [0, 1, 2, 3, 4, 5], ((ported { state := 2, stage := k, partner := some rank9 } {} []).port 15).stage = k := by decide +kernel
theorem wit_training_end : (let s := ported { state := 3, stage := 5, partner := some rank9 } {} []
    (s.port 15).partner == some rank9 && rank9.domain.toNat == s.fab.domain && (linkIn s.sch.active 15).any (fun l => rank9.rank.toNat == l.partnerRank &&
      rank9.port.toNat == l.partnerPort && l.delayMax == 100 && l.linkSig == 0x1234) && !{ s with sch := {} }.hasBundle &&
      ({ rank9 with domain := 1 } : CapRec).domain.toNat != s.fab.domain && rank9.proto.toNat / 256 == 1 && ({ rank9 with proto := 0x0200 } : CapRec).proto.toNat / 256 != 1) = true := by
  decide +kernel
theorem wit_ports : ∀ k ∈ [3, 4, 5, 6], 3 ≤ ((ported { state := k, cause := 0x0B } {} []).port 15).state ∧ ((ported { state := k, cause := 0x0B } {} []).port 15).state ≤ 6 ∧
    (k ≠ 6 → sendsWithy ((ported { state := k, cause := 0x0B } {} []).port 15) = true) ∧ Wired (ported { state := k, cause := 0x0B } {} []) := by
  unfold Wired; decide +kernel
theorem wit_fault : ((ported { state := 7, autoRetrain := true, enable := true } {} []).port 15).state = 7 ∧ sendsWithy ((ported { state := 7 } {} []).port 15) = false := by
  decide +kernel
theorem wit_samples : (((ported { state := 5 } { samples := List.replicate 63 2000 } []).flow 15).samples ++ [2000]).length = 64 ∧
    (((ported { state := 5 } { samples := List.replicate 62 2000 } []).flow 15).samples ++ [2000]).length < 64 := by decide +kernel

/-- A TX run of data positions 0 and 1, stream 3 from its flit 6. -/
def txRun : Run := ⟨15, 0, 2, .txLocal, 0, 3, 6, 0x77⟩

theorem wit_flit : ∀ x ∈ [(0, 0), (0, 7), (0, 8), (1, 0), (2, 0), (3, 0)],
    (let s := ported { state := 5 } { t := x.1, unacked := (List.range x.2).map (fun i => (i, [])), checked := [(0, true)], ready := [(0, true)] } [txRun]
     let f := s.flow 15
     let k := f.t - 1 - f.t / 32
     s.hasBundle && sendsWithy (s.port 15) && (s.port 15).state != 6 && f.resend == 0 && decide (f.unacked.length ≤ 8) &&
       (if f.t = 1 ∨ f.t = 2 then (runsOf s s.sch.template 15).findIdx? (fun r => r.tx && r.covers k) == some 0 && (streamOf s txRun.stream).isSome &&
          f.checked.get false 0 && f.ready.get false 0
        else f.t == 0 || (runsOf s s.sch.template 15).all (fun r => !(r.tx && r.covers k)))) = true := by decide +kernel
theorem wit_check : (let s := ported { state := 5 } {} [txRun]
    let t := ported { state := 5, rejoin := true } {} [txRun]
    (runsOf s s.sch.template 15)[0]? == some txRun && txRun.tx && !(s.flow 15).checked.get false 0 && txGoes s 15 txRun == false &&
      txGoes { s with fab := { s.fab with synt := 1 } } 15 txRun && !txGoes t 15 txRun && Tab.wf 0 (s.port 15).counts) = true := by decide +kernel
theorem wit_withy : (let s := ported { state := 5 } { rxSeq := 255, notices := 14, unacked := [(7, [])] } []
    let f := s.flow 15
    sendsWithy (s.port 15) && f.held == [] && f.rxSeq == 255 && f.rxTemplate == none && decide (f.notices < 15) && f.unacked.findIdx? (fun u => u.1 == 7) == some 0 &&
      decide (15 ≤ ({ f with notices := 15 }).notices)) = true ∧ Wired (ported { state := 5 } { rxSeq := 255, notices := 14, unacked := [(7, [])] } []) := by
  unfold Wired; decide +kernel

/-- A switched port's exchange with rank 9. -/
def exchange9 : SwPeer := { rxNext := 3, unacked := [⟨8, 0, 0, [zeros 248]⟩], credits := 511 }

theorem wit_switched : ∀ n ∈ [15, 16], (let s := ported { state := 6, switched := true } { peers := [(9, { exchange9 with resends := n })] } []
    let x := peerCredit 2 (peerAck 8 (swPeer s 15 9))
    (s.port 15).state == 6 && Tab.wf {} s.fab.ports && Tab.wf {} s.fab.flows && Tab.wf {} (s.flow 15).peers && x.rxNext == 3 && (swPeer s 15 9).unacked.length == 1 &&
      (swPeer s 15 8).unacked == [] && (swPeer s 15 9).resends == n && creditsOk (s.flow 15)) = true := by decide +kernel

theorem wit_training_first : ∀ x ∈ [(10, 0, 3), (20, 0, 3), (10, 0, 0), (10, 0, 2)],
    (let q : Port := { state := 1, stage := 1, maxPower := 15 }
     decide (q.maxPower < x.1) == (x.1 == 20) && natBit (b2n q.switched) x.2.2 == (x.2.2 == 3) && q.stage == 1) = true := by decide
theorem wit_training_sig : ∀ g ∈ [none, some 0x1234, some 0x4321], (let s := ported { state := 3, stage := 5, partner := some rank9, delay := 100 } { sig := g } []
    (s.flow 15).asks == none && (s.flow 15).sig == g && (s.port 15).delay == 100 && s.fab.tallies == [] && decide ((s.flow 15).stalled = []) &&
      queuedWords (s.flow 15).queue + 9 == 9) = true := by decide +kernel
theorem wit_training_asks : ((ported { state := 3, stage := 5 } { asks := some 63 } []).flow 15).asks = some 63 ∧
    ((ported { state := 3, stage := 5 } {} []).port 15).partner = none ∧ 100 < ((ported { state := 3, stage := 5, delay := 101 } {} []).port 15).delay := by decide +kernel
theorem wit_notice : ∀ x ∈ [(5, 0), (4, 0x0B)], (let s := ported { state := x.1, cause := x.2 } {} []
    sendsWithy (s.port 15) && (s.port 15).state == x.1 && (s.port 15).cause == x.2 && (linkIn s.sch.active 15).any (fun l => l.linkSig == 0x1234) &&
      linkIn s.sch.active 14 == none) = true := by decide +kernel
theorem wit_measResp : ∀ n ∈ [62, 63], (let s := ported { state := 5 } { asks := some 255, samples := List.replicate n 2000 } []
    sendsWithy (s.port 15) && (s.flow 15).asks == some 255 && ((s.flow 15).samples ++ [(4025 - 25 * 1) / 2]).length == n + 1) = true ∧
    Wired (ported { state := 5 } { asks := some 255, samples := List.replicate n 2000 } []) := by unfold Wired; decide +kernel
theorem wit_degraded : ∀ n ∈ [16000, 16001], (let s := ported { state := 5 } { corrWindow := n } []
    decide (degradedLimit < (s.flow 15).corrWindow) == (n == 16001)) = true ∧ Wired (ported { state := 5 } { corrWindow := n } []) := by unfold Wired; decide +kernel

/-! ### Flits and port commands -/

/-- A flit with a byte inverted at each of these places. -/
def damaged (raw : List Byte) (places : List Nat) : List Byte := (List.range 256).map (fun i => if places.contains i then ~~~(raw.getD i 0) else raw.getD i 0)

/-- R228: two wrong bytes of one codeword are corrected, three are not; the other codeword does not count with them. -/
theorem test_fec : (flitDecode (damaged (flitBytes [1, 2, 3]) [0, 2, 255])).map (fun x => (x.1.take 4, x.2)) = some ([1, 2, 3, 0], 3) ∧
    flitDecode (damaged (flitBytes [1, 2, 3]) [0, 2, 254]) = none := by decide +kernel

theorem wit_flitNew : (let s := ported { state := 5 } { queue := [⟨3, [1], 0⟩], unacked := (List.range 7).map (fun i => (i, [])) } []
    let f := s.flow 15
    f.t % 32 == 0 && sendsWithy (s.port 15) && f.resend == 0 && decide (f.unacked.length < 8) && f.stalled == [] && (s.port 15).state != 6) = true := by decide +kernel
theorem wit_flitAgain : (let s := ported { state := 5 } { queue := [⟨4, [4], 0⟩], unacked := (List.range 8).map (fun i => (i, [])) } []
    decide (8 ≤ (s.flow 15).unacked.length) && (s.flow 15).resend == 0) = true ∧
    (0 < ((ported { state := 5 } { resend := 2, unacked := [(6, []), (7, [])] } []).flow 15).resend) ∧ sendsWithy ((ported { state := 7 } {} []).port 15) = false := by
  decide +kernel
theorem wit_flitRun : ∀ ok ∈ [false, true], (let s := ported { state := 5 } { t := 1, checked := [(0, true)], ready := if ok then [(0, true)] else [] } [txRun]
    carriesRuns (s.port 15) && (runsOf s s.sch.template 15)[0]? == some txRun && (s.flow 15).ready.get false 0 == ok && (s.flow 15).checked.get false 0) = true := by
  decide +kernel
theorem wit_switchedWords : (let s := ported { state := 6, switched := true, partner := some rank9 } { queue := [⟨3, [1], 0⟩] } []
    (s.port 15).state == 6 && byClass (s.flow 15).queue != []) = true := by decide +kernel

/-- A withy flit of the partner: SEQ 255, ACK 7, with an EPOCH_START of template 3 or none. -/
def partnerFlit (start : Bool) : List Byte := flitBytes (leBytes 8 (255 + 7 * 2 ^ 8 + (if start then 2 ^ 16 + 3 * 2 ^ 17 else 0) + 5 * 2 ^ 20))

theorem wit_withyGood : ∀ b ∈ [false, true], (let s := ported { state := 5 } { rxSeq := 255, unacked := [(7, [])] } []
    (flitDecode (partnerFlit b)).any (fun x => (linkOf x.1).seq.toNat == (s.flow 15).rxSeq && (flitMessages x.1).all (fun m => m.headD 0 % 256 == 0) &&
      (linkOf x.1).epochStart == b) && (s.flow 15).held == [] && (s.flow 15).rxTemplate == none) = true := by decide +kernel
theorem wit_withyOther : ∀ n ∈ [0, 250], (let s := ported { state := 5 } { rxSeq := n } []
    (flitDecode (partnerFlit false)).any (fun x => (linkOf x.1).seq.toNat != n && decide ((n + 255 - (linkOf x.1).seq.toNat) % 256 < 8) == (n == 0)) &&
      !(s.flow 15).asked && (s.flow 15).stalled == [] && decide (queuedWords (s.flow 15).queue + 1 ≤ 1024)) = true := by decide +kernel
theorem wit_withyLost : flitDecode (damaged (partnerFlit true) [0, 2, 4]) = none := by decide +kernel
theorem wit_checkFills : (let s := ported { state := 5 } {} [txRun]
    fillRun txRun s == s && txGoes s 15 txRun == false && (s.port 15).state == 5 && txGoes { s with fab := { s.fab with synt := 1 } } 15 txRun) = true ∧
    Wired (ported { state := 5 } {} [txRun]) ∧ Room (ported { state := 5 } {} [txRun]) 15 1 := by unfold Wired Room; decide +kernel

/-- A module whose port 15 is enabled and HELD, at rest. -/
def holding : State := { inMode .ready with fab := { ports := [(15, { state := 4, enable := true, partner := some rank9 })], syntUp := [15] } }

theorem wit_portConfig : meets { fields := [(0, 17), (18, 9), (28, 4)] } 0x0401
    (withCmd 0x0401 0 (leBytes 2 0x8001 ++ [1, 0] ++ zeros 22 ++ [32, 0] ++ leBytes 4 0x1001) [] holding)
    (fun c t => portConfigBad c == none && !(portsOf (c.at_ 0 2)).any (fun p => portConfigMoves t c p && bundleUses t p) && Tab.wf {} t.fab.ports && Tab.wf {} t.fab.flows &&
      natBit 0 (c.at_ 0 2) && !natBit 1 (c.at_ 0 2) && (t.port 0).state == 0) = true := by decide +kernel
theorem wit_portConfig_bad : meets { fields := [(0, 17), (18, 9), (28, 4)] } 0x0401
    (withCmd 0x0401 0 (leBytes 2 1 ++ zeros 24 ++ [33, 0] ++ leBytes 4 0x1000) [] holding) (fun c _ => portConfigBad c == some 26) = true := by decide +kernel
theorem wit_portConfig_used : meets { fields := [(0, 17), (18, 9), (28, 4)] } 0x0401
    (withCmd 0x0401 0 (leBytes 2 0x8000 ++ [1, 0] ++ zeros 24 ++ leBytes 4 1) [] (ported { state := 5 } {} [txRun]))
    (fun c t => portConfigBad c == none && (portsOf (c.at_ 0 2)).any (fun p => portConfigMoves t c p && bundleUses t p)) = true := by decide +kernel
theorem wit_portMeasure : ∀ p ∈ [16, 15, 14], meets { fields := [(0, 1)] } 0x0402 (withCmd 0x0402 0 [BitVec.ofNat 8 p] [] holding)
    (fun c t => c.at_ 0 1 == p && (p == 16 || (t.port p).state == (if p = 15 then 4 else 0))) = true := by decide +kernel
theorem wit_portRetrain : ∀ p ∈ [16, 15, 14], meets { fields := [(0, 1)] } 0x0403 (withCmd 0x0403 0 [BitVec.ofNat 8 p] [] holding)
    (fun c t => c.at_ 0 1 == p && (p == 16 || (t.port p).enable == decide (p = 15))) = true := by decide +kernel
theorem wit_portStatus : ∀ n ∈ [127, 128], meets { fields := [(0, 2)], hasRes := true } 0x0404 (withCmd 0x0404 n (leBytes 2 0x8001) [] holding)
    (fun c _ => portsOf (c.at_ 0 2) == [0, 15] && c.resLen == n) = true := by decide +kernel
theorem wit_partnerTable : ∀ x ∈ [(0, 1023), (0, 1024), (2, 0)], meets { fields := [(0, 1), (4, 4)], hasRes := true } 0x0405
    (withCmd 0x0405 x.2 [BitVec.ofNat 8 x.1] [] holding) (fun c _ => c.at_ 0 1 == x.1 && c.resLen == x.2) = true := by decide +kernel
theorem wit_setMac : meets { fields := [(0, 1), (4, 4)], argOk := fun _ => true } 0x0405
    (withCmd 0x0405 0 ([1, 0, 0, 0] ++ leBytes 4 2) (leBytes 2 0x7FFF ++ zeros 6 ++ leBytes 2 0 ++ [2, 0, 0, 0, 0, 1]) holding)
    (fun c _ => c.at_ 0 1 == 1 && c.at_ 4 4 == 2 && c.argLen == 16 && (List.range 2).all (fun i => decide (leAt c.arg (8 * i) 2 ≤ 0x7FFF)) &&
      decide (((List.range 2).map (fun i => leAt c.arg (8 * i) 2)).Nodup)) = true := by decide +kernel
theorem wit_setMac_many : meets { fields := [(0, 1), (4, 4)], argOk := fun _ => true } 0x0405 (withCmd 0x0405 0 ([1, 0, 0, 0] ++ leBytes 4 1025) [] holding)
    (fun c _ => c.at_ 0 1 == 1 && c.at_ 4 4 == 1025) = true := by decide +kernel
theorem wit_synt : (let s : State := { holding with fab := { holding.fab with ports := [(15, { state := 5, partner := some rank9 })] } }
    !s.fab.syntRoot && s.fab.syntUp.find? (usableSource s) == some 15 && s.fab.synt == 3 && holding.fab.syntUp.find? (usableSource holding) == none &&
      ({ s.fab with synt := 1 }).synt == 1 && ({ s.fab with synt := 2 }).synt == 2) = true := by decide +kernel

theorem wit_measureSwitched : meets { fields := [(0, 1)] } 0x0402 (withCmd 0x0402 0 [15] [] { holding with fab := { holding.fab with ports := [(15, { state := 6, switched := true })] } })
    (fun c t => c.at_ 0 1 == 15 && (t.port 15).state == 6) = true := by decide +kernel
theorem wit_syntRoot : { holding.fab with syntRoot := true }.syntRoot = true ∧ holding.fab.syntRoot = false := by decide

/-- R241's worked example: 2,757 units over single-mode fibre with two optics of 2,100 ps and two carriers of 350 ps are 1,307 cm. -/
theorem test_length : lengthCm { delay := 2757, medium := 2, opticPs := 2100, carrierPs := 350, partner := some rank9 } = 1307 := by decide
/-- R239's worked example: 2,437,850 ps less 2,300,000 ps is a delay of 2,757 units. -/
theorem test_delay : units25 (medianNat (exchDelays [(2437850, 2300000)])) = 2757 := by decide

/-! ### Bundles, batches, park and releases -/

/-- A node of a module that is alone. -/
def lone : TreeNode := { rank := 0, parent := none, alt := none, children := [], size := 1, dGroup := 1000 }

/-- The sections of the least bundle: one module, one template of 16 microseconds, one epoch a step. -/
def leastBody : BundleBody :=
  { parts := [256, 48, 32, 96, 64, 16], cellarGib := 192, tallies := [⟨0, .barrier, 0, 0, 0, [], [lone], []⟩, ⟨1, .epoch, 1, 0, 0, [], [lone], []⟩]
    templates := [template 0 12500 []], plan := [⟨0, 100, true, false, true⟩], batchBase := 0x5000000000, batchBytes := 64 }

/-- Its file with a DIGEST field: a header and one directory entry. -/
def leastFile (digest : List Byte) : List Byte :=
  leBytes 4 0x31425358 ++ leBytes 2 0x0100 ++ leBytes 2 1 ++ leBytes 8 77 ++ leBytes 4 0 ++ leBytes 2 0 ++ leBytes 2 1 ++ [0, 1, 0, 0] ++ zeros 12 ++ leBytes 8 144
    ++ digest ++ zeros 16 ++ leBytes 2 1 ++ zeros 6 ++ leBytes 8 144

/-- The file as Xanfin writes it. -/
def goodFile : List Byte := leastFile (leBytes 64 (fileDigest (leastFile (zeros 64))))

theorem wit_load_ok : meets { argOk := fun _ => true } 0x0501 (withCmd 0x0501 0 [] goodFile parted)
    (fun c t => !activatePending t && (admission t c.arg ⟨headerOf c.arg, leastBody⟩).isNone) = true := by decide +kernel
theorem wit_load_bad : meets { argOk := fun _ => true } 0x0501 (withCmd 0x0501 0 [] (leastFile (zeros 64)) parted)
    (fun c t => !activatePending t && admission t c.arg ⟨headerOf c.arg, leastBody⟩ == some ⟨.badSignature, 1, 0, 0, 0, 0⟩) = true := by decide +kernel
theorem wit_load_magic : meets { argOk := fun _ => true } 0x0501 (withCmd 0x0501 0 [] (zeros 128) parted)
    (fun c t => !activatePending t && leAt c.arg 0 4 != 0x31425358) = true := by decide +kernel
theorem wit_load_busy : meets { argOk := fun _ => true } 0x0501 (withCmd 0x0501 0 [] [] { parted with sch := { latches := [⟨false, true, .activate 3⟩] } })
    (fun _ t => activatePending t) = true := by decide +kernel

/-- The least bundle. -/
def leastBundle : Bundle := ⟨{ scheduleId := 77, members := 1 }, leastBody⟩

/-- A module with the least bundle staged. -/
def stagedLeast : State := { parted with sch := { staged := some leastBundle, restore := 5 } }

theorem wit_activate : ∀ x ∈ [(77, 5), (77, 4), (78, 5)], meets { fields := [(0, 8), (8, 8)] } 0x0502
    (withCmd 0x0502 0 (leBytes 8 x.1 ++ leBytes 8 x.2) [] stagedLeast)
    (fun c t => t.sch.staged == some leastBundle && c.at_ 0 8 == x.1 && c.at_ 8 8 == x.2 && (if x = (77, 5) then decide (t.sch.step ≤ c.at_ 8 8) &&
      decide (t.sch.restore ≤ c.at_ 8 8) && !activatePending t && !caskConflict t leastBundle else true)) = true := by decide +kernel
theorem wit_activate_step : meets { fields := [(0, 8), (8, 8)] } 0x0502
    (withCmd 0x0502 0 (leBytes 8 77 ++ leBytes 8 4) [] { stagedLeast with sch := { stagedLeast.sch with step := 5 } })
    (fun c t => decide (c.at_ 8 8 < t.sch.step)) = true := by decide +kernel
theorem wit_activate_none : meets { fields := [(0, 8), (8, 8)] } 0x0502 (withCmd 0x0502 0 [] [] parted) (fun _ t => t.sch.staged == none) = true := by decide +kernel

/-- A mailbox whose BUNDLE_ACTIVATE for step 5 waits for tally 0. -/
def waitingMbx : Mailbox :=
  { en := true, cmdProd := 1, cmdCons := 1, active := true, coord := some ⟨0, cmdSlot 0x0502 0 0 (leBytes 8 77 ++ leBytes 8 5), []⟩ }

/-- A BUNDLE_ACTIVATE for step 5 waits in mailbox 5. -/
def activating : State :=
  { stagedLeast with mst := { mode := .ready, ready := true, mbx := [(5, waitingMbx)] }, fab := { rel := [(0, some ⟨false, 0, 0, 40⟩)] } }

theorem wit_activating : ((heldCmd activating 5).any (fun c => c.op == 0x0502 && c.at_ 8 8 == 5) && heldCmd activating 4 == none && activating.fab.rel.get none 0 != none &&
    (fabricTally activating 0).any (fun x => x.1.kind == .barrier) && !activating.hasBundle && activating.sch.latches == [] && activating.mst.mode == .ready &&
    Tab.wf {} activating.mst.mbx && (List.range 64).all (fun j => j == 5 || (activating.mbx j).coord == none)) = true := by decide +kernel

/-- A running module with the least bundle at step 4. -/
def running4 (look : Bool) : State := { parted with mst := { mode := .running }, sch := { active := some leastBundle, step := 4, lookDone := look } }

/-- A batch without samples for a step. -/
def emptyBatch (n : Nat) : List Byte := zeros 8 ++ leBytes 8 64 ++ leBytes 8 72 ++ leBytes 8 72 ++ leBytes 8 72 ++ leBytes 8 72 ++ zeros 8 ++ leBytes 8 n ++ zeros 8

theorem wit_arm_bad : meets { fields := [(0, 8)], argOk := fun n => decide (64 ≤ n) } 0x0503 (withCmd 0x0503 0 (leBytes 8 6) (emptyBatch 5) (running4 false))
    (fun c t => t.hasBundle && batchBad t.body (c.at_ 0 8) c.arg == some 56) = true := by decide +kernel

/-- The same bundle with room for the batch. -/
def armable (look : Bool) (armed : Tab Nat) : State :=
  { running4 look with sch := { (running4 look).sch with active := some { leastBundle with body := { leastBody with batchBytes := 72 } }, armed := armed } }

theorem wit_arm : ∀ n ∈ [4, 5, 6, 7], meets { fields := [(0, 8)], argOk := fun n => decide (64 ≤ n) } 0x0503
    (withCmd 0x0503 0 (leBytes 8 n) (emptyBatch n) (armable false []))
    (fun c t => t.hasBundle && batchBad t.body (c.at_ 0 8) c.arg == none && decide (c.arg.length ≤ t.body.batchBytes) && t.sch.step == 4 && c.at_ 0 8 == n &&
      t.sch.armed.get 0 n == 0 && !t.sch.lookDone) = true := by decide +kernel
theorem wit_arm_late : meets { fields := [(0, 8)], argOk := fun n => decide (64 ≤ n) } 0x0503 (withCmd 0x0503 0 (leBytes 8 5) (emptyBatch 5) (armable true [(6, 1)]))
    (fun c t => c.at_ 0 8 == t.sch.step + 1 && t.sch.lookDone && t.sch.armed.get 0 6 != 0) = true := by decide +kernel
theorem wit_arm_none : meets { fields := [(0, 8)], argOk := fun n => decide (64 ≤ n) } 0x0503 (withCmd 0x0503 0 (leBytes 8 5) (emptyBatch 5) parted)
    (fun _ t => !t.hasBundle) = true := by decide +kernel
theorem wit_stepStatus : ∀ x ∈ [(4, 0), (6, 0), (4, 1), (4, 2)], meets { fields := [(0, 8), (8, 1)], hasRes := true } 0x0504
    (withCmd 0x0504 16 (leBytes 8 x.1 ++ [BitVec.ofNat 8 x.2]) [] (running4 false))
    (fun c t => c.at_ 0 8 == x.1 && c.at_ 8 1 == x.2 && decide (x.1 ≤ t.sch.step + 2) && decide (t.sch.step ≤ x.1)) = true := by decide +kernel
theorem wit_unpark : meets {} 0x0105 (withCmd 0x0105 0 [] [] (inMode .ready)) (fun _ t => !parkedOrPending t) = true ∧
    meets {} 0x0105 (withCmd 0x0105 0 [] [] (inMode .parked)) (fun _ t => parkedOrPending t && !t.hk.belowWarn && t.sch.active == none) = true := by decide +kernel
theorem wit_unpark_bundle : ∀ g ∈ [192, 191], meets {} 0x0105 (withCmd 0x0105 0 [] []
    { running4 false with mst := { mode := .parked }, mem := { (running4 false).mem with cellarGib := g } })
    (fun _ t => parked t && match t.sch.active with | some b => (unparkFail t b).isNone == decide (g = 192) | none => false) = true := by decide +kernel

theorem wit_releaseAct : (let s : State := { tallied true [(3, { gen := 255, count := 2, sent := true })] with fab := { tallies := [(3, { gen := 255, count := 2, sent := true })], rel := [(3, some ⟨false, 0, 0, 40⟩)] } }
    s.fab.rel.get none 3 != none && s.fab.rel.get none 2 == none && (fabricTally s 3).any (fun x => x.1.kind == .barrier && x.1.posts == []) && s.mst.mbx == [] &&
      s.grn.tables == [] && Tab.wf none s.fab.rel && Tab.wf {} s.fab.tallies) = true := by decide +kernel
theorem wit_epoch : ∀ i ∈ [0, 1], (let s : State := { tallied true [] with
      fab := { rel := [(1, some ⟨false, 1, 9, 40⟩)] }, sch := { active := some ⟨{ rank := 0 }, { tallyBody true with plan := [⟨0, 100, false, false, false⟩, ⟨1, 100, true, true, false⟩] }⟩, step := 4, planIdx := i } }
    s.fab.rel.get none 1 != none && (fabricTally s 1).any (fun x => x.1.kind == .epoch) && s.hasBundle && (planNow s).opensStep == decide (i = 1) &&
      (planNow s).opensUpdate == decide (i = 1) && !(s.body.plan.getD ((s.sch.planIdx + 1) % max 1 s.body.plan.length) ⟨0, 0, false, false, false⟩).lookahead &&
      Tab.wf {} s.fab.flows) = true := by decide +kernel

/-- R268: the release of tally 0 makes the staged bundle active at FIRST_STEP, and the module runs. -/
theorem test_activate : (match exec (.releaseAct 0) activating with
    | .next t => t.sch.step == 5 && t.sch.active == some leastBundle && t.mst.mode == .running | _ => false) = true := by decide +kernel

/-! ### Number formats -/

theorem wit_formats : Fmt.layout .e4m3 = some ⟨4, 3, 7, false, true, 0x7F, 0x7E⟩ ∧
    (FLayout.decode ⟨4, 3, 7, false, true, 0x7F, 0x7E⟩ 0xFE = .fin true 14 5) ∧ 0xFE < 2 ^ (1 + 4 + 3) := by decide

/-- Table 04.1: the largest finite FP8-E4M3 is 448, the largest E5M2 57,344, the largest FP16 65,504. -/
theorem test_largest : FLayout.decode ⟨4, 3, 7, false, true, 0x7F, 0x7E⟩ 0x7E = .fin false 14 5 ∧ (Fmt.layout .e5m2).map (fun L => L.decode 0x7B) = some (.fin false 7 13) ∧
    (Fmt.layout .fp16).map (fun L => L.decode 0x7BFF) = some (.fin false 2047 5) := by decide


/-- Clause THERMAL_THROTTLE of the temperature statement: the interrupt controllers of a reset machine are canonical. -/
theorem wit_reset_ic (p : Nat) : Tab.wf 0 (State.reset.plot p).ic = true := rfl

/-! ### Well-formed commands -/

/-- An Espalier DATA frame header that announces n bodies. -/
def dataHdr (kind n : Nat) : FrameHdr := ⟨BitVec.ofNat 4 kind, BitVec.ofNat 6 n, 0, 0, 0, 0, 0⟩

/-- Terms that break one check each. -/
theorem test_illformed : [
    Instr.portMeasure 0 [] 0, .portMeasure 0 (List.replicate 63 (10, 4)) 0, .portMeasure 0 (List.replicate 64 (3, 4)) 0,
    .channelIn 0 (some (.training 384)), .cellarIn 0 (some (.coppice 400)), .channelIn 0 (some (.check 384)), .recalibrate 0 [388],
    .fncFenceReq false true 0, .segmentEnable 0 0, .segmentDisable 0 1, .registerWrite 4 true 0, .registerWrite 2 false 0,
    .bar0Access false 0 0 [], .bar0Access true 4095 0 [1, 2], .bar2Read 4090 8, .bar2Write 0 [] false, .configRequest false 2 0,
    .readCompletion 768 .success false [], .cplTimeout 768, .linkSlow 0 16, .linkSlow 6 0,
    .maltAccess 70 0 .none false 4 [] .clean, .maltAccess 0 120 .none false 16 [] .clean, .maltAccess 0 0 .none true 0 [] .clean,
    .commitGroup 0 [], .commitGroup 70 [(0, zeros 128)], .commitGroup 0 [(64, zeros 128)], .commitGroup 0 [(0, zeros 64)],
    .commitGroup 0 [(0, zeros 128), (0x10000, zeros 128)], .commitGroup 0 (List.replicate 9 (0, zeros 128)),
    .fence 70, .tadd 70 0 0 0, .tadd 0 0 7 0, .tread 70 0, .treadclr 70 0, .tclr 70 0, .tunIadd 70 0 0, .ireadclr 70 0,
    .scrub 0 [(0, .clean)], .hopperDone 0 { (default : HopperRep) with firstMask := 2 ^ 512 }, .gradientRecord 0 0 (zeros 32) [],
    .contribArrival 0 0 (zeros 248) [2], .tokenAppend 0 0 [0] [], .measResp 0 0 3 4, .withyFlit 0 (zeros 255),
    .dataFlit 0 (zeros 257), .cmisPoll 0 ⟨true, 0, 8, false⟩,
    .switchedFrame 0 (dataHdr 0 1) [], .switchedFrame 0 (dataHdr 0 1) [zeros 8], .switchedFrame 0 (dataHdr 0 33) (List.replicate 33 (zeros 248)),
    .switchedFrame 0 (dataHdr 1 1) [zeros 248], .switchedFrame 0 (dataHdr 2 0) [zeros 8], .switchedFrame 0 (dataHdr 3 0) [],
    .powerThrottle 15001, .thermalThrottle 0 0 16, .thermalThrottle 0 1 15001, .startStage 0 none [],
    .coppiceTest .start [⟨0, 4, 0, 0, 0, 0⟩] 1, .pcieLinkUp 0 16 false, .pcieLinkUp 6 0 false].any Instr.wf = false := by decide +kernel

/-- Terms that keep the checks. -/
theorem test_wellformed : [
    Instr.portMeasure 0 (List.replicate 64 (10, 4)) 0, .channelIn 0 (some (.training 383)), .recalibrate 0 [387], .fncFenceReq true true 0,
    .segmentEnable 0 1, .segmentDisable 0 0, .registerWrite 8 true 0, .bar0Access false 0 4096 [], .bar2Write 4095 [1] false,
    .configRequest true 4 0, .readCompletion 767 .success false [], .scopeDecision 0, .maltAccess 69 112 .none false 16 [] .clean,
    .commitGroup 0 [(0, zeros 128), (0xFF80, zeros 128)], .tadd 0 0 6 0, .tokenAppend 0 0 [1] [2], .dataFlit 0 (zeros 256), .withyFlit 0 (zeros 256),
    .switchedFrame 0 (dataHdr 0 1) [zeros 248], .switchedFrame 0 (dataHdr 1 1) [zeros 8], .startStage 8 none []].all Instr.wf = true := by decide +kernel
end Sys2Proof.Tests
end

section
/-! SUPPORT. Bit masks and little-endian numbers: the bit of a number as the library reads it, the bits that a difference of
masks keeps, and the number that a written operand's bytes hold. -/

namespace Sys2Proof

theorem natBit_eq_testBit (i v : Nat) : natBit i v = v.testBit i := by
  rw [natBit, Nat.testBit_eq_decide_div_mod_eq, Nat.shiftRight_eq_div_pow]; rfl

/-- Subtracting the bits that two numbers share leaves the bits of the first that the second lacks. -/
theorem testBit_sub_and (x y i : Nat) : (x - (x &&& y)).testBit i = (x.testBit i && !y.testBit i) := by
  have hle : (x &&& y) ≤ x := Nat.and_le_left
  have hlow : (x &&& y) % 2 = 1 ↔ x % 2 = 1 ∧ y % 2 = 1 := Nat.and_mod_two_eq_one
  induction i generalizing x y with
  | zero =>
    rw [Bool.eq_iff_iff]
    simp only [Nat.testBit_zero, decide_eq_true_eq, Bool.and_eq_true, Bool.not_eq_true', decide_eq_false_iff_not]
    omega
  | succ i ih =>
    have hhalf : (x - (x &&& y)) / 2 = x / 2 - (x / 2 &&& y / 2) := by
      rw [← Nat.and_div_two]
      omega
    simp only [Nat.testBit_succ, hhalf]
    exact ih _ _ Nat.and_le_left Nat.and_mod_two_eq_one

@[simp] theorem leBytes_length (n v : Nat) : (leBytes n v).length = n := by
  induction n generalizing v with
  | zero => rfl
  | succ n ih => simp [leBytes, ih]

/-- Writing a number little-endian and reading it back keeps its low bytes (R9). -/
theorem leNat_leBytes (n v : Nat) : leNat (leBytes n v) = v % 256 ^ n := by
  induction n generalizing v with
  | zero => simp [leBytes, leNat, Nat.mod_one]
  | succ n ih => rw [leBytes, leNat, ih, Nat.pow_succ', Nat.mod_mul]; simp

end Sys2Proof
end

section
/-! SUPPORT. The sticky record and the event log: what each operation of an event does to a group, to a bit and to the log. -/

namespace Sys2Proof.Machine

/-! ### The sticky record -/

@[simp] theorem stickyGroup_markFresh (g b g' : Nat) (s : State) : stickyGroup (markFresh g b s) g' = stickyGroup s g' := rfl

@[simp] theorem stickyGroup_putLog (g b src g' : Nat) (data : List Byte) (s : State) :
    stickyGroup (putLog g b src data s) g' = stickyGroup s g' := by
  rw [stickyGroup, putLog_sticky, stickyGroup]

@[simp] theorem stickyBit_markFresh (g b g' b' : Nat) (s : State) : stickyBit (markFresh g b s) g' b' = stickyBit s g' b' := rfl

@[simp] theorem stickyBit_putLog (g b src g' b' : Nat) (data : List Byte) (s : State) :
    stickyBit (putLog g b src data s) g' b' = stickyBit s g' b' := by
  rw [stickyBit, stickyGroup_putLog, stickyBit]

/-- A bit set in a group: the group's value has it besides the bits it had, canonical record or not. -/
theorem stickyGroup_setSticky (g b g' : Nat) (s : State) :
    stickyGroup (setSticky g b s) g' = if g' = g then stickyGroup s g ||| 2 ^ b else stickyGroup s g' := by
  rw [stickyGroup, setSticky_sticky]
  split
  · next hset =>
    have hor : stickyGroup s g ||| 2 ^ b = stickyGroup s g := by
      apply Nat.eq_of_testBit_eq
      intro i
      rw [natBit_eq_testBit] at hset
      rw [Nat.testBit_or, Nat.testBit_two_pow]
      by_cases hi : b = i
      · subst hi; simp [hset]
      · simp [hi]
    split
    · next hg => rw [hor, hg, stickyGroup]
    · rfl
  · have hne : stickyGroup s g ||| 2 ^ b ≠ 0 := by simp
    rw [Tab.set, if_neg hne]
    split
    · next hg => rw [hg, Tab.get_insert_self]
    · next hg => rw [Tab.get_insert_other _ _ _ _ _ hg, stickyGroup]

theorem stickyBit_setSticky (g b g' b' : Nat) (s : State) :
    stickyBit (setSticky g b s) g' b' = (stickyBit s g' b' || decide (g' = g ∧ b' = b)) := by
  rw [stickyBit, stickyGroup_setSticky, stickyBit, natBit_eq_testBit, natBit_eq_testBit]
  split
  · next hg => subst hg; simp [Nat.testBit_two_pow, eq_comm]
  · next hg => simp [hg]

theorem stickyBit_wrapLog (g b : Nat) (s : State) :
    stickyBit (wrapLog s) g b = (stickyBit s g b || decide (g = 14 ∧ b = 8)) := by
  unfold wrapLog
  dsimp only
  split
  · next hset =>
    rw [stickyBit_markFresh] at hset ⊢
    by_cases hgb : g = 14 ∧ b = 8
    · simp [hgb.1, hgb.2, hset]
    · simp [hgb]
  · rw [stickyBit_putLog, stickyBit_setSticky, stickyBit_markFresh]

/-- The sticky bits after an event (R11): those set before it, its own, and LOG_WRAP when it overwrites an unread entry. -/
theorem stickyBit_event (g b src g' b' : Nat) (data : List Nat) (s : State) :
    stickyBit (event g b src data s) g' b' =
      (stickyBit s g' b' || decide (g' = g ∧ b' = b) || (logWraps g b src s && decide (g' = 14 ∧ b' = 8))) := by
  unfold event
  dsimp only
  split
  · next hw => rw [stickyBit_wrapLog, stickyBit_putLog, stickyBit_setSticky, stickyBit_markFresh, hw, Bool.true_and]
  · next hw => rw [stickyBit_putLog, stickyBit_setSticky, stickyBit_markFresh, Bool.eq_false_iff.mpr hw, Bool.false_and, Bool.or_false]

theorem stickyGroup_clearSticky (g mask g' : Nat) (s : State) (hw : Tab.wf 0 s.hk.sticky = true) :
    stickyGroup (clearSticky g mask s) g' = if g' = g then stickyGroup s g - clearable s g mask else stickyGroup s g' :=
  Tab.get_set 0 s.hk.sticky g g' _ hw

/-- The bits a clear may take from a group (R11). -/
theorem testBit_clearable (s : State) (g mask b : Nat) :
    (clearable s g mask).testBit b = (stickyBit s g b && natBit b mask && !natBit b (s.hk.fresh.get 0 g)) := by
  simp only [clearable, stickyBit, natBit_eq_testBit, testBit_sub_and, Nat.testBit_and]

theorem stickyGroup_and_clearable (s : State) (g mask : Nat) : stickyGroup s g &&& clearable s g mask = clearable s g mask := by
  apply Nat.eq_of_testBit_eq
  intro i
  rw [Nat.testBit_and, testBit_clearable, stickyBit, natBit_eq_testBit, Bool.and_assoc, ← Bool.and_assoc, Bool.and_self]

/-- A clear takes the bits named that no event set in this housekeeping cycle, and no other (R10, R11). -/
theorem stickyBit_clearSticky (g mask b : Nat) (s : State) (hw : Tab.wf 0 s.hk.sticky = true) :
    stickyBit (clearSticky g mask s) g b = (stickyBit s g b && !(natBit b mask && !natBit b (s.hk.fresh.get 0 g))) := by
  rw [stickyBit, stickyGroup_clearSticky _ _ _ _ hw, if_pos rfl, natBit_eq_testBit, ← stickyGroup_and_clearable, testBit_sub_and,
    testBit_clearable, ← natBit_eq_testBit, ← stickyBit]
  cases stickyBit s g b <;> simp

theorem stickyBit_clearSticky_other (g mask g' b : Nat) (s : State) (hw : Tab.wf 0 s.hk.sticky = true) (hg : g' ≠ g) :
    stickyBit (clearSticky g mask s) g' b = stickyBit s g' b := by
  rw [stickyBit, stickyGroup_clearSticky _ _ _ _ hw, if_neg hg, stickyBit]

/-! ### The event log -/

/-- Setting a bit changes nothing in housekeeping but the sticky record. -/
theorem setSticky_hk (g b : Nat) (s : State) : (setSticky g b s).hk = { s.hk with sticky := (setSticky g b s).hk.sticky } := by
  unfold setSticky
  dsimp only
  split
  · rfl
  · split <;> simp

@[simp] theorem setSticky_log (g b : Nat) (s : State) : (setSticky g b s).hk.log = s.hk.log := by rw [setSticky_hk]
@[simp] theorem setSticky_logSeq (g b : Nat) (s : State) : (setSticky g b s).hk.logSeq = s.hk.logSeq := by rw [setSticky_hk]
@[simp] theorem setSticky_now (g b : Nat) (s : State) : (setSticky g b s).hk.now = s.hk.now := by rw [setSticky_hk]

@[simp] theorem markFresh_log (g b : Nat) (s : State) : (markFresh g b s).hk.log = s.hk.log := rfl
@[simp] theorem markFresh_logSeq (g b : Nat) (s : State) : (markFresh g b s).hk.logSeq = s.hk.logSeq := rfl
@[simp] theorem markFresh_now (g b : Nat) (s : State) : (markFresh g b s).hk.now = s.hk.now := rfl

/-- An entry put into the log is merged into the newest, of the same kind and at most 1 ms old, or is a new one (R379). -/
theorem putLog_cases (g b src : Nat) (data : List Byte) (s : State) :
    (∃ o, s.hk.log.getLast? = some o ∧ o.group = g ∧ o.bit = b ∧ o.source = src ∧ s.hk.now ≤ o.time + 25000 ∧
      (putLog g b src data s).hk = { s.hk with log := s.hk.log.dropLast ++ [{ o with rep := min 0xFFFF (o.rep + 1) }] }) ∨
    (putLog g b src data s).hk =
      { s.hk with
        log := trimLog s.hk.log ++ [⟨s.hk.logSeq, 0, g, b, src, s.sch.step, s.hk.now, data, false⟩]
        logSeq := (s.hk.logSeq + 1) % 2 ^ 32 } := by
  unfold putLog
  rw [State.onHk_hk]
  dsimp only
  split
  · next o hlast =>
    split
    · next hsame =>
      simp only [Bool.and_eq_true, decide_eq_true_eq] at hsame
      obtain ⟨⟨⟨hg, hb⟩, hsrc⟩, htime⟩ := hsame
      exact .inl ⟨o, hlast, hg, hb, hsrc, htime, rfl⟩
    · exact .inr rfl
  · exact .inr rfl

theorem trimLog_of_room (es : List LogEntry) (h : es.length < 1024) : trimLog es = es := if_pos h

/-- A log with room loses no entry to an event. -/
theorem event_of_room (g b src : Nat) (data : List Nat) (s : State) (h : s.hk.log.length < 1024) :
    event g b src data s = putLog g b src (logData data) (setSticky g b (markFresh g b s)) := by
  have hw : logWraps g b src s = false := by simp [logWraps, Nat.not_le.mpr h]
  simp [event, hw]

/-- The newest entry after an event that finds room in the log (R378, R379). -/
theorem event_newest_of_room (g b src : Nat) (data : List Nat) (s : State) (h : s.hk.log.length < 1024) :
    ∃ e, (event g b src data s).hk.log.getLast? = some e ∧ e.group = g ∧ e.bit = b ∧ e.source = src ∧
      (((event g b src data s).hk.log = s.hk.log ++ [e] ∧ e.seq = s.hk.logSeq ∧ e.rep = 0 ∧ e.step = s.sch.step ∧
          e.time = s.hk.now ∧ (event g b src data s).hk.logSeq = (s.hk.logSeq + 1) % 2 ^ 32) ∨
       (∃ o, s.hk.log.getLast? = some o ∧ o.group = g ∧ o.bit = b ∧ o.source = src ∧ s.hk.now ≤ o.time + 25000 ∧
          (event g b src data s).hk.log = s.hk.log.dropLast ++ [e] ∧ e = { o with rep := min 0xFFFF (o.rep + 1) })) := by
  rw [event_of_room g b src data s h]
  rcases putLog_cases g b src (logData data) (setSticky g b (markFresh g b s)) with
    ⟨o, hlast, hg, hb, hsrc, htime, hput⟩ | hput
  · simp only [setSticky_log, setSticky_now, markFresh_log, markFresh_now] at hlast htime hput
    rw [hput]
    exact ⟨_, List.getLast?_concat, hg, hb, hsrc, .inr ⟨o, hlast, hg, hb, hsrc, htime, rfl, rfl⟩⟩
  · simp only [setSticky_log, setSticky_logSeq, setSticky_now, markFresh_log, markFresh_logSeq, markFresh_now, setSticky_sch,
      markFresh_sch, trimLog_of_room _ h] at hput
    rw [hput]
    exact ⟨_, List.getLast?_concat, rfl, rfl, rfl, .inl ⟨rfl, rfl, rfl, rfl, rfl, rfl⟩⟩

end Sys2Proof.Machine
end

section
/-! PROOFS. Events (00_scope.md R11, 15_service_test_errors.md R376 to R379). -/

namespace Sys2Proof.Machine

/-- Settles O33: the bits by `stickyBit_event`, the log by the two cases of an entry put into it. -/
theorem eventsSetTheirBitAndTheirLogEntry : Obligations.EventsSetTheirBitAndTheirLogEntry := by
  unfold Obligations.EventsSetTheirBitAndTheirLogEntry
  intro g b src data s _ _
  refine ⟨_, rfl, ?_, ?_, ?_, event_newest_of_room g b src data s, event_mem .., event_plots .., event_fab .., event_mst ..,
    event_pending ..⟩
  · simp [stickyBit_event]
  · intro g' b' hset
    simp [stickyBit_event, hset]
  · intro g' b' hown hwrap
    simp [stickyBit_event, hown, hwrap]

end Sys2Proof.Machine
end

section
/-! SUPPORT. The host's accesses through BAR0 (R296): what an aligned and a refused register write come to, what each register of
the status mirror and of the flush and fence unit takes, and ring memory. -/

namespace Sys2Proof.Machine

/-! ### Register writes -/

theorem bar0Put_of_regShape (off : Nat) (bs : List Byte) (s : State) (hlow : off < 0x1000000)
    (hshape : regShape off bs.length = true) : bar0Put off bs s = bar0Write off (bs.length == 8) (leNat bs) s := by
  rw [bar0Put, if_neg (Nat.not_le.mpr hlow), if_pos hshape]

theorem bar0Put_of_not_regShape (off : Nat) (bs : List Byte) (s : State) (hlow : off < 0x1000000)
    (hshape : regShape off bs.length = false) : bar0Put off bs s = barFault [off] s := by
  rw [bar0Put, if_neg (Nat.not_le.mpr hlow), hshape, if_neg Bool.false_ne_true]

/-- A naturally aligned write of 8 bytes reaches its register with the whole value. -/
theorem exec_registerWrite_wide (off : BitVec 26) (v : BitVec 64) (s : State) (hlow : off.toNat < 0x1000000)
    (halign : off.toNat % 8 = 0) : exec (.registerWrite off true v) s = .next (bar0Write off.toNat true v.toNat s) := by
  have hv : leNat (leBytes 8 v.toNat) = v.toNat := by rw [leNat_leBytes]; exact Nat.mod_eq_of_lt v.isLt
  have hput := bar0Put_of_regShape off.toNat (leBytes 8 v.toNat) s hlow (by simp [regShape, halign])
  rw [leBytes_length, hv] at hput
  exact congrArg _ hput

/-- A naturally aligned write of 4 bytes reaches its register with the value's low half. -/
theorem exec_registerWrite_narrow (off : BitVec 26) (v : BitVec 64) (s : State) (hlow : off.toNat < 0x1000000)
    (halign : off.toNat % 4 = 0) :
    exec (.registerWrite off false v) s = .next (bar0Write off.toNat false (v.toNat % 2 ^ 32) s) := by
  have hput := bar0Put_of_regShape off.toNat (leBytes 4 v.toNat) s hlow (by simp [regShape, halign])
  rw [leBytes_length, leNat_leBytes] at hput
  exact congrArg _ hput

/-- A write that is not naturally aligned is refused. -/
theorem exec_registerWrite_misaligned (off : BitVec 26) (wide : Bool) (v : BitVec 64) (s : State) (hlow : off.toNat < 0x1000000)
    (halign : off.toNat % (if wide then 8 else 4) ≠ 0) :
    exec (.registerWrite off wide v) s = .next (barFault [off.toNat] s) := by
  have hshape : regShape off.toNat (leBytes (if wide then 8 else 4) v.toNat).length = false := by
    cases wide <;> simpa [regShape] using halign
  exact congrArg _ (bar0Put_of_not_regShape off.toNat _ s hlow hshape)

@[simp] theorem barFault_mem (data : List Nat) (s : State) : (barFault data s).mem = s.mem := by simp [barFault]
@[simp] theorem barFault_plots (data : List Nat) (s : State) : (barFault data s).plots = s.plots := by simp [barFault]
@[simp] theorem barFault_mst (data : List Nat) (s : State) : (barFault data s).mst = s.mst := by simp [barFault]

theorem stickyBit_barFault (data : List Nat) (s : State) : stickyBit (barFault data s) 6 5 = true := by
  change stickyBit (event 6 5 0x75 data s) 6 5 = true
  simp [stickyBit_event]

/-! ### The registers one by one (Table 12.6, R316) -/

theorem bar0Write_sticky (g : Nat) (v : Nat) (s : State) (hg : g < 16) (hv : v < 2 ^ 32) :
    bar0Write (0x200100 + 8 * g) false v s = clearSticky g v s := by
  have ho : (0x200100 + 8 * g) / 8 * 8 = 0x200100 + 8 * g := by omega
  have hlow : (0x200100 + 8 * g) % 8 = 0 := by omega
  have hidx : (0x200100 + 8 * g - 0x200100) / 8 = g := by omega
  unfold bar0Write
  simp (disch := omega) only [ho, hlow, hidx, Nat.mod_eq_of_lt hv, if_neg, if_pos, Bool.false_or, beq_self_eq_true, if_true]

theorem bar0Write_supply (v : Nat) (s : State) : bar0Write 0x200008 true v s = clearMinMv s := by simp [bar0Write]
theorem bar0Write_mode (v : Nat) (s : State) : bar0Write 0x200000 true v s = s := by simp [bar0Write]
theorem bar0Write_step (v : Nat) (s : State) : bar0Write 0x200010 true v s = s := by simp [bar0Write]
theorem bar0Write_summary (v : Nat) (s : State) : bar0Write 0x200018 true v s = s := by simp [bar0Write]
theorem bar0Write_bar2Base (v : Nat) (s : State) : bar0Write 0x100008 true v s = putBar2Base v s := by simp [bar0Write, merged]
theorem bar0Write_hostLat (v : Nat) (s : State) : bar0Write 0x100010 true v s = putHostLat v s := by simp [bar0Write, merged]

/-- A 4-byte write of STM_STICKY_g is the group's W1C write. -/
theorem exec_registerWrite_sticky (g : Fin 16) (v : BitVec 32) (s : State) :
    exec (.registerWrite (BitVec.ofNat 26 (0x200100 + 8 * g)) false (v.zeroExtend 64)) s = exec (.stmStickyW1c g v) s := by
  have hg := g.isLt
  have hoff : (BitVec.ofNat 26 (0x200100 + 8 * g.val)).toNat = 0x200100 + 8 * g.val := by
    rw [BitVec.toNat_ofNat]; omega
  have hv : (v.zeroExtend 64).toNat % 2 ^ 32 = v.toNat := by
    have := v.isLt
    simp only [BitVec.toNat_setWidth]; omega
  rw [exec_registerWrite_narrow _ _ _ (by omega) (by omega), hoff, hv, bar0Write_sticky g v.toNat s hg v.isLt]
  rfl

/-! ### Ring memory -/

theorem ringBytes_eq_getMany (s : State) (off n : Nat) : ringBytes s off n = s.mst.ring.getMany 0 off n := by
  induction n generalizing off with
  | zero => rfl
  | succ n ih => rw [ringBytes, Tab.getMany, ih]

theorem putRing_ring (off : Nat) (bs : List Byte) (s : State) : (putRing off bs s).mst.ring = s.mst.ring.setMany 0 off bs := rfl

/-- A byte of ring memory after a write. -/
theorem get_putRing (off k : Nat) (bs : List Byte) (s : State) (hw : Tab.wf 0 s.mst.ring = true) :
    (putRing off bs s).mst.ring.get 0 k = if off ≤ k ∧ k < off + bs.length then bs.getD (k - off) 0 else s.mst.ring.get 0 k :=
  Tab.get_setMany 0 s.mst.ring off bs k hw

/-- Bytes written to ring memory are read back. -/
theorem ringBytes_putRing_self (off : Nat) (bs : List Byte) (s : State) (hw : Tab.wf 0 s.mst.ring = true) :
    ringBytes (putRing off bs s) off bs.length = bs := by
  rw [ringBytes_eq_getMany, Tab.getMany_eq_map]
  apply List.ext_getElem (by simp)
  intro i _ hi
  rw [List.getElem_map, List.getElem_range, get_putRing off _ bs s hw, if_pos (by omega), Nat.add_sub_cancel_left,
    List.getD_eq_getElem _ _ hi]

/-- The shape BAR0 accepts in ring memory (R296), spelled out. -/
theorem ringShape_iff (s : State) (off n : Nat) : ringShape s off n = true ↔
    0x1000000 ≤ off ∧ off + n ≤ 0x4000000 ∧ n ≤ 128 * 2 ^ s.host.mps ∧ 0 < n ∧ off / 4096 = (off + n - 1) / 4096 := by
  simp only [ringShape, Bool.and_eq_true, decide_eq_true_eq, and_assoc]
  rfl

theorem exec_bar0Access_write_ring (off : BitVec 26) (n : Nat) (bs : List Byte) (s : State) (hmem : s.host.memEn = true)
    (hshape : ringShape s off.toNat bs.length = true) :
    exec (.bar0Access true off n bs) s = .next (putRing (off.toNat - 0x1000000) bs s) := by
  have hring := ((ringShape_iff s off.toNat bs.length).mp hshape).1
  change execBar0Access true off n bs s = _
  simp [execBar0Access, hmem, bar0Put, hring, hshape]

theorem exec_bar0Access_read_ring (off : BitVec 26) (n : Nat) (bs : List Byte) (s : State) (hmem : s.host.memEn = true)
    (hshape : ringShape s off.toNat n = true) :
    exec (.bar0Access false off n bs) s = .next { s with ret := { data := ringBytes s (off.toNat - 0x1000000) n } } := by
  have hring := ((ringShape_iff s off.toNat n).mp hshape).1
  change execBar0Access false off n bs s = _
  simp [execBar0Access, hmem, bar0Read, hring, hshape]

theorem exec_bar0Access_write_disabled (off : BitVec 26) (n : Nat) (bs : List Byte) (s : State) (hmem : s.host.memEn = false) :
    exec (.bar0Access true off n bs) s = .next s := by
  change execBar0Access true off n bs s = _
  simp [execBar0Access, hmem]

end Sys2Proof.Machine
end

section
/-! PROOFS. Registers and ring memory (00_scope.md R10, R11, 12_host_coupling.md R296, 13_maltster_mailboxes.md R316). -/

namespace Sys2Proof.Machine

/-- Settles O34, register by register from what a register write comes to. -/
theorem registerAndRingAccessesComplete : Obligations.RegisterAndRingAccessesComplete := by
  unfold Obligations.RegisterAndRingAccessesComplete
  refine ⟨?sticky, ?supply, ?mirror, ?bar2Base, ?hostLat, ?misaligned, ?ring, exec_bar0Access_write_disabled⟩
  case sticky =>
    intro g v s
    exact ⟨clearSticky g v.toNat s, rfl, rfl,
      fun hw => ⟨fun b => stickyBit_clearSticky g v.toNat b s hw, fun j b hj => stickyBit_clearSticky_other g v.toNat j b s hw hj⟩,
      exec_registerWrite_sticky g v s⟩
  case supply => intro s; rfl
  case mirror =>
    intro v s
    refine ⟨?_, ?_, ?_, ?_⟩ <;> rw [exec_registerWrite_wide _ _ _ (by decide) (by decide)]
    · exact congrArg _ (bar0Write_supply v.toNat s)
    · exact congrArg _ (bar0Write_mode v.toNat s)
    · exact congrArg _ (bar0Write_step v.toNat s)
    · exact congrArg _ (bar0Write_summary v.toNat s)
  case bar2Base =>
    intro v s
    constructor
    · change Host.Outcome.next (putBar2Base v.toNat s) = _
      simp [putBar2Base, State.onHost, natBits, Nat.shiftRight_eq_div_pow]
    · rw [exec_registerWrite_wide _ _ _ (by decide) (by decide)]
      exact congrArg _ (bar0Write_bar2Base v.toNat s)
  case hostLat =>
    intro v s
    constructor
    · rfl
    · rw [exec_registerWrite_wide _ _ _ (by decide) (by decide)]
      exact congrArg _ (bar0Write_hostLat v.toNat s)
  case misaligned =>
    intro off v wide s hlow halign
    exact ⟨_, exec_registerWrite_misaligned off wide v s hlow halign, stickyBit_barFault _ s, barFault_mem _ s, barFault_plots _ s,
      barFault_mst _ s⟩
  case ring =>
    intro off bs s hmem hring hend hlen hmps hpage
    have hshape := (ringShape_iff s off.toNat bs.length).mpr ⟨hring, hend, hmps, hlen, hpage⟩
    refine ⟨_, exec_bar0Access_write_ring off bs.length bs s hmem hshape, rfl, ?_,
      exec_bar0Access_read_ring off bs.length [] s hmem hshape⟩
    intro hw
    refine ⟨ringBytes_putRing_self _ bs s hw, ?_⟩
    intro k hk
    rw [get_putRing _ k bs s hw, if_neg (by omega)]

end Sys2Proof.Machine
end

section
/-! SUPPORT. What every operation of the model keeps, one lemma for each function that carries the state: canonical memory
(01_device_organisation.md R19), the queue, and the fuses but for the SVN and the revoke bits (14_module_power_boot.md R356). A lemma
reads as its function does: `h.takeFence.putRing` follows a state through `takeFence` and then `putRing`. -/

namespace Sys2Proof.Machine

variable {s₀ s t : State}

/-- What stays on the way from s₀ to s: memory is canonical if it was, and the queue and what is fused at manufacture are the same. -/
structure Keeps (s₀ s : State) : Prop where
  mem : s₀.mem.wf = true → s.mem.wf = true
  pending : s.pending = s₀.pending
  fuses : s.fuses = { s₀.fuses with svn := s.fuses.svn, revoke := s.fuses.revoke }

/-- The outcome is a next state that keeps what stood. -/
def Answers (s₀ : State) (o : Host.Outcome State Fault Refusal) : Prop := ∃ t, o = .next t ∧ Keeps s₀ t

/-- The state that a command's body leaves, answered or waiting. -/
def CmdOut.state : CmdOut → State
  | .reply _ s => s
  | .pend s => s

protected theorem Keeps.refl (s : State) : Keeps s s := ⟨id, rfl, rfl⟩

protected theorem Answers.next (h : Keeps s₀ s) : Answers s₀ (.next s) := ⟨s, rfl, h⟩

/-! ### Branches and folds -/

protected theorem Keeps.ite {c : Prop} {_ : Decidable c} (hs : Keeps s₀ s) (ht : Keeps s₀ t) : Keeps s₀ (if c then s else t) := by
  split <;> assumption

protected theorem Answers.ite {c : Prop} {_ : Decidable c} {o p : Host.Outcome State Fault Refusal} (ho : Answers s₀ o)
    (hp : Answers s₀ p) : Answers s₀ (if c then o else p) := by
  split <;> assumption

/-- A branch between things that carry a state. -/
theorem keeps_ite {α : Type} (π : α → State) {c : Prop} {_ : Decidable c} {x y : α} (hx : Keeps s₀ (π x)) (hy : Keeps s₀ (π y)) :
    Keeps s₀ (π (if c then x else y)) := by
  split <;> assumption

protected theorem Keeps.iteFst {α : Type} {c : Prop} {_ : Decidable c} {x y : State × α} (hx : Keeps s₀ x.1) (hy : Keeps s₀ y.1) :
    Keeps s₀ (if c then x else y).1 := keeps_ite Prod.fst hx hy

protected theorem Keeps.iteOut {c : Prop} {_ : Decidable c} {x y : CmdOut} (hx : Keeps s₀ x.state) (hy : Keeps s₀ y.state) :
    Keeps s₀ (if c then x else y).state := keeps_ite CmdOut.state hx hy
protected theorem Keeps.iteLoop {c : Prop} {_ : Decidable c} {x y : LoopRun} (hx : Keeps s₀ x.s) (hy : Keeps s₀ y.s) :
    Keeps s₀ (if c then x else y).s := keeps_ite LoopRun.s hx hy

protected theorem Keeps.iteRoot {c : Prop} {_ : Decidable c} {x y : RootRun} (hx : Keeps s₀ x.s) (hy : Keeps s₀ y.s) :
    Keeps s₀ (if c then x else y).s := keeps_ite RootRun.s hx hy
protected theorem Keeps.iteIngest {c : Prop} {_ : Decidable c} {x y : Ingest} (hx : Keeps s₀ x.s) (hy : Keeps s₀ y.s) :
    Keeps s₀ (if c then x else y).s := keeps_ite Ingest.s hx hy

protected theorem Keeps.fst {α : Type} {b : α} (h : Keeps s₀ s) : Keeps s₀ (s, b).1 := h

/-- A fold of things that carry a state. -/
theorem keeps_foldl {α β : Type} (π : α → State) {f : α → β → α} {xs : List β} {x : α} (hx : Keeps s₀ (π x))
    (hf : ∀ y b, Keeps s₀ (π y) → Keeps s₀ (π (f y b))) : Keeps s₀ (π (xs.foldl f x)) :=
  List.foldlRecOn (motive := fun y => Keeps s₀ (π y)) xs f hx fun y hy b _ => hf y b hy

protected theorem Keeps.foldl {β : Type} {f : State → β → State} {xs : List β} (h : Keeps s₀ s)
    (hf : ∀ y b, Keeps s₀ y → Keeps s₀ (f y b)) : Keeps s₀ (xs.foldl f s) := keeps_foldl id h hf

protected theorem Keeps.foldlLoop {β : Type} {f : LoopRun → β → LoopRun} {xs : List β} {x : LoopRun} (h : Keeps s₀ x.s)
    (hf : ∀ y b, Keeps s₀ y.s → Keeps s₀ (f y b).s) : Keeps s₀ (xs.foldl f x).s := keeps_foldl LoopRun.s h hf
protected theorem Keeps.foldlRoot {β : Type} {f : RootRun → β → RootRun} {xs : List β} {x : RootRun} (h : Keeps s₀ x.s)
    (hf : ∀ y b, Keeps s₀ y.s → Keeps s₀ (f y b).s) : Keeps s₀ (xs.foldl f x).s := keeps_foldl RootRun.s h hf

protected theorem Keeps.foldlIngest {β : Type} {f : Ingest → β → Ingest} {xs : List β} {x : Ingest} (h : Keeps s₀ x.s)
    (hf : ∀ y b, Keeps s₀ y.s → Keeps s₀ (f y b).s) : Keeps s₀ (xs.foldl f x).s := keeps_foldl Ingest.s h hf
protected theorem Keeps.each {α : Type} {f : α → State → State} {xs : List α} (h : Keeps s₀ s)
    (hf : ∀ x t, Keeps s₀ t → Keeps s₀ (f x t)) : Keeps s₀ (State.each f xs s) := State.each_inv (Keeps s₀) f hf xs s h

/-! ### Parts of the state -/

/-- Everything may change but memory, the fuses and the queue. -/
protected theorem Keeps.set {hk flash fw plots grn ltr csk fab host mst sch ret free} (h : Keeps s₀ s) :
    Keeps s₀ { s with hk := hk, flash := flash, fw := fw, plots := plots, grn := grn, ltr := ltr, csk := csk, fab := fab, host := host
                      mst := mst, sch := sch, ret := ret, free := free } := ⟨h.mem, h.pending, h.fuses⟩

protected theorem Keeps.setFuses {svn revoke} (h : Keeps s₀ s) :
    Keeps s₀ { s with fuses := { s.fuses with svn := svn, revoke := revoke } } :=
  ⟨h.mem, h.pending, by rw [h.fuses]⟩

/-- Memory may change to any memory that is canonical when it was. -/
protected theorem Keeps.onMem {m} (h : Keeps s₀ s) (hm : s.mem.wf = true → m.wf = true) : Keeps s₀ { s with mem := m } :=
  ⟨fun hw => hm (h.mem hw), h.pending, h.fuses⟩

/-- Memory may change in everything but its bytes. -/
protected theorem Keeps.onMemRest {m} (h : Keeps s₀ s) (hc : m.cells = s.mem.cells := by rfl) : Keeps s₀ { s with mem := m } :=
  h.onMem (Memory.wf_of_cells _ _ hc)

protected theorem Keeps.onHk {hk} (h : Keeps s₀ s) : Keeps s₀ { s with hk := hk } := h.set
protected theorem Keeps.onGrn {grn} (h : Keeps s₀ s) : Keeps s₀ { s with grn := grn } := h.set
protected theorem Keeps.onLtr {ltr} (h : Keeps s₀ s) : Keeps s₀ { s with ltr := ltr } := h.set
protected theorem Keeps.onCsk {csk} (h : Keeps s₀ s) : Keeps s₀ { s with csk := csk } := h.set
protected theorem Keeps.onFab {fab} (h : Keeps s₀ s) : Keeps s₀ { s with fab := fab } := h.set
protected theorem Keeps.onHost {host} (h : Keeps s₀ s) : Keeps s₀ { s with host := host } := h.set
protected theorem Keeps.onMst {mst} (h : Keeps s₀ s) : Keeps s₀ { s with mst := mst } := h.set
protected theorem Keeps.onSch {sch} (h : Keeps s₀ s) : Keeps s₀ { s with sch := sch } := h.set
protected theorem Keeps.onPlot {plots} (h : Keeps s₀ s) : Keeps s₀ { s with plots := plots } := h.set

/-! ### What memory operations do to the canonical form -/

theorem Memory.wf_setPoison {m : Memory} {a v} (hm : m.wf = true) : (m.setPoison a v).wf = true :=
  Memory.wf_of_cells m _ (Memory.setPoison_cells m a v) hm
theorem Memory.wf_putMap {m : Memory} {cellar t} (hm : m.wf = true) : (putMap cellar t m).wf = true := by
  unfold putMap
  split <;> exact hm
theorem Memory.wf_swapAll {m : Memory} {cellar fs} (hm : m.wf = true) : (swapAll cellar fs m).wf = true := Memory.wf_putMap hm

/-- What a Hopper's patterns leave in a frame. -/
theorem Memory.wf_hopperFrame {m : Memory} {params k f} (hm : m.wf = true) : (hopperFrame params k s f m).wf = true :=
  List.foldlRecOn (motive := fun m : Memory => m.wf = true) _ _ hm fun m hm _ _ => by
    dsimp only
    split
    · exact Memory.wf_setPoison (Memory.wf_putBytes _ _ _ hm)
    · exact hm

/-! ### Shared operations -/

protected theorem Keeps.onPort {p f} (h : Keeps s₀ s) : Keeps s₀ (State.onPort p f s) := h.onFab
protected theorem Keeps.onFlow {p f} (h : Keeps s₀ s) : Keeps s₀ (State.onFlow p f s) := h.onFab
protected theorem Keeps.onMbx {m f} (h : Keeps s₀ s) : Keeps s₀ (State.onMbx m f s) := h.onMst
protected theorem Keeps.countHost {i n} (h : Keeps s₀ s) : Keeps s₀ (State.countHost i n s) := h.onHost
protected theorem Keeps.countPort {p i n} (h : Keeps s₀ s) : Keeps s₀ (State.countPort p i n s) := h.onPort
protected theorem Keeps.takeFree {w} (h : Keeps s₀ s) : Keeps s₀ (State.takeFree s w).2 := h.set
protected theorem Keeps.raiseIrq {v} (h : Keeps s₀ s) : Keeps s₀ (raiseIrq v s) := .ite h (.ite h.onHost h.onHost)
protected theorem Keeps.eventIrq (h : Keeps s₀ s) : Keeps s₀ (eventIrq s) := .ite h.raiseIrq h
protected theorem Keeps.announce {old new} (h : Keeps s₀ new) : Keeps s₀ (announce old new) := .ite h h.eventIrq

protected theorem Keeps.setSticky {g b} (h : Keeps s₀ s) : Keeps s₀ (setSticky g b s) :=
  .ite h <|
  have h1 := h.onHk
  .ite h1.eventIrq h1

protected theorem Keeps.markFresh {g b} (h : Keeps s₀ s) : Keeps s₀ (markFresh g b s) := h.onHk
protected theorem Keeps.putLog {g b src data} (h : Keeps s₀ s) : Keeps s₀ (putLog g b src data s) := h.onHk

protected theorem Keeps.wrapLog (h : Keeps s₀ s) : Keeps s₀ (wrapLog s) :=
  have h1 := h.markFresh
  .ite h1 h1.setSticky.putLog

protected theorem Keeps.event {g b src data} (h : Keeps s₀ s) : Keeps s₀ (event g b src data s) :=
  have h1 := h.markFresh.setSticky.putLog
  .ite h1.wrapLog h1

protected theorem Keeps.eventNote {b src data} (h : Keeps s₀ s) : Keeps s₀ (eventNote b src data s) :=
  have h1 := h.putLog
  .ite h1.wrapLog h1

protected theorem Keeps.clearSticky {g mask} (h : Keeps s₀ s) : Keeps s₀ (clearSticky g mask s) := h.onHk
protected theorem Keeps.addrFault {req a} (h : Keeps s₀ s) : Keeps s₀ (addrFault req a s) := h.event
protected theorem Keeps.kilnRead {block} (h : Keeps s₀ s) : Keeps s₀ (kilnRead block s) := by
  unfold kilnRead
  exact h.onMemRest

protected theorem Keeps.kilnWrite {whole block} (h : Keeps s₀ s) : Keeps s₀ (kilnWrite whole block s) :=
  .onMemRest (.ite h h.kilnRead)

protected theorem Keeps.writeBack {slice v} (h : Keeps s₀ s) : Keeps s₀ (writeBack slice v s) := by
  unfold writeBack
  split
  · exact .ite (.onMemRest h.kilnWrite (cleanLines_cells _ _ _)) h
  · exact h

protected theorem Keeps.keepLine {slice line} (h : Keeps s₀ s) : Keeps s₀ (keepLine slice line s) := .ite h h.onMemRest.writeBack

protected theorem Keeps.blockRead {hint slice a} (h : Keeps s₀ s) : Keeps s₀ (blockRead hint slice a s) :=
  have h1 := h.kilnRead
  .ite h1 (h1.each fun _ _ ht => ht.keepLine)

protected theorem Keeps.maltTouch {hint write full a} (h : Keeps s₀ s) : Keeps s₀ (maltTouch hint write full a s) :=
  .writeBack (.onMemRest (.ite h.blockRead h))

protected theorem Keeps.flushFrames {p} (h : Keeps s₀ s) : Keeps s₀ (flushFrames p s) :=
  h.each fun _ _ ht => (ht.each fun _ _ hu => .ite hu.writeBack hu).onMemRest

protected theorem Keeps.poisonRead {req a} (h : Keeps s₀ s) : Keeps s₀ (poisonRead req a s) := h.event

protected theorem Keeps.poisonLine {req a} (h : Keeps s₀ s) : Keeps s₀ (poisonLine req a s) :=
  (h.onMem fun hm => Memory.wf_setPoison hm).event

protected theorem Keeps.hostWrite {req a bs ep} (h : Keeps s₀ s) : Keeps s₀ (hostWrite req a bs ep s) := by
  refine .ite h.countHost ?_
  split
  · exact h.addrFault
  · exact h.onHost.countHost

protected theorem Keeps.hostReadNow {req a n} (h : Keeps s₀ s) : Keeps s₀ (hostReadNow req a n s).1 := by
  refine .iteFst h ?_
  split
  · exact h.addrFault
  · exact h.countHost

protected theorem Keeps.lineRead {req hint a n} (h : Keeps s₀ s) : Keeps s₀ (lineRead req hint a n s).1 :=
  have h1 := h.maltTouch
  .iteFst h1.poisonRead h1

protected theorem Keeps.linesRead {req hint ls} (h : Keeps s₀ s) : Keeps s₀ (linesRead req hint ls s).1 := by
  induction ls generalizing s with
  | nil => exact h
  | cons _ _ ih => exact ih h.lineRead

protected theorem Keeps.requestRead {req hint a n} (h : Keeps s₀ s) : Keeps s₀ (requestRead req hint a n s).1 := by
  refine .iteFst h.addrFault ?_
  split
  · exact h.linesRead
  · exact h.linesRead
  · exact h.hostReadNow
  · exact h

protected theorem Keeps.requestsRead {req hint rs} (h : Keeps s₀ s) : Keeps s₀ (requestsRead req hint rs s).1 := by
  induction rs generalizing s with
  | nil => exact h
  | cons _ _ ih => exact ih h.requestRead

protected theorem Keeps.devRead {req hint a n} (h : Keeps s₀ s) : Keeps s₀ (devRead req hint a n s).1 := h.requestsRead

protected theorem Keeps.lineWrite {hint whole a bs} (h : Keeps s₀ s) : Keeps s₀ (lineWrite hint whole a bs s) :=
  .ite h.onMemRest <|
  have h1 := h.maltTouch.onMem fun hm => Memory.wf_putBytes _ _ _ hm
  .ite (h1.onMem fun hm => Memory.wf_setPoison hm) h1

protected theorem Keeps.linesWrite {hint lo hi ls bs} (h : Keeps s₀ s) : Keeps s₀ (linesWrite hint lo hi ls bs s) := by
  induction ls generalizing bs s with
  | nil => exact h
  | cons _ _ ih => exact ih h.lineWrite

protected theorem Keeps.dirWrite {ps bs} (h : Keeps s₀ s) : Keeps s₀ (dirWrite ps bs s) := by
  induction ps generalizing bs s with
  | nil => exact h
  | cons _ _ ih => exact ih h.onGrn

protected theorem Keeps.requestWrite {req hint a bs} (h : Keeps s₀ s) : Keeps s₀ (requestWrite req hint a bs s) := by
  refine .ite h.addrFault ?_
  split
  · exact h.linesWrite
  · exact h.linesWrite
  · exact h.hostWrite
  · exact h.dirWrite
  · exact h.onMem fun hm => Memory.wf_putBytes _ _ _ hm

protected theorem Keeps.requestsWrite {req hint rs bs} (h : Keeps s₀ s) : Keeps s₀ (requestsWrite req hint rs bs s) := by
  induction rs generalizing bs s with
  | nil => exact h
  | cons _ _ ih => exact ih h.requestWrite

protected theorem Keeps.devWrite {req hint a bs} (h : Keeps s₀ s) : Keeps s₀ (devWrite req hint a bs s) := h.requestsWrite

protected theorem Keeps.poisonRange {req a n} (h : Keeps s₀ s) : Keeps s₀ (poisonRange req a n s) := by
  refine h.each fun _ _ ht => ?_
  split
  · exact .ite ht ht.poisonLine
  · exact .ite ht ht.poisonLine
  · exact ht

protected theorem Keeps.takeFence {engine} (h : Keeps s₀ s) : Keeps s₀ (takeFence engine s) := h.onMemRest.onHost.countHost

/-! ### Flags -/

protected theorem Keeps.unregInv {p} (h : Keeps s₀ s) : Keeps s₀ (unregInv p s) := h.onPlot

protected theorem Keeps.semPostAt {p n d} (h : Keeps s₀ s) : Keeps s₀ (semPostAt p n d s) :=
  .ite h.event <|
  have h1 := h.onPlot
  .ite h1.event (.ite h1.event h1)

protected theorem Keeps.semWaitAt {p n k} (h : Keeps s₀ s) (e : semWaitAt p n k s = some t) : Keeps s₀ t := by
  unfold semWaitAt at e
  dsimp only at e
  split at e
  · cases e; exact h.event
  · split at e
    · cases e; exact h.onPlot
    · cases e

protected theorem Keeps.descWait {en p n} (h : Keeps s₀ s) (e : descWait en p n s = some t) : Keeps s₀ t := by
  unfold descWait at e
  split at e
  · exact h.semWaitAt e
  · cases e; exact h

protected theorem Keeps.descPost {en p n} (h : Keeps s₀ s) : Keeps s₀ (descPost en p n s) := .ite h.semPostAt h

protected theorem Keeps.setSlotK {p n a ovr tag} (h : Keeps s₀ s) : Keeps s₀ (setSlotK p n a ovr tag s) :=
  .ite h <|
  .ite (.ite h.onPlot h) <|
  have h1 := h.onPlot
  .ite h1.event h1

/-! ### The withy network and its tallies -/

protected theorem Keeps.pushWithy {p cls words} (h : Keeps s₀ s) : Keeps s₀ (pushWithy p cls words s) :=
  .ite h.onFlow h.onFlow.event

protected theorem Keeps.pushNet {p cls words} (h : Keeps s₀ s) : Keeps s₀ (pushNet p cls words s) := .ite h.pushWithy h

protected theorem Keeps.localArrive {n} (h : Keeps s₀ s) : Keeps s₀ (localArrive n s) := by
  unfold localArrive
  split
  · exact .ite (.ite (h.onFab.each fun _ _ ht => ht.semPostAt) h.onFab) h
  · exact h

protected theorem Keeps.onTally {n f} (h : Keeps s₀ s) : Keeps s₀ (State.onTally n f s) := h.onFab
protected theorem Keeps.syncEvent {b x} (h : Keeps s₀ s) : Keeps s₀ (syncEvent b x s) := h.event
protected theorem Keeps.syncCount {b x} (h : Keeps s₀ s) : Keeps s₀ (syncCount b x s) := h.onFab.syncEvent
protected theorem Keeps.closeTally {n} (h : Keeps s₀ s) : Keeps s₀ (closeTally n s) := h.onTally

protected theorem Keeps.toChildren {t cls words} (h : Keeps s₀ s) : Keeps s₀ (toChildren t cls words s) :=
  h.each fun _ _ ht => ht.pushNet

protected theorem Keeps.putHist {g step a} (h : Keeps s₀ s) : Keeps s₀ (putHist g step a s) := h.onSch
protected theorem Keeps.onScope {k f} (h : Keeps s₀ s) : Keeps s₀ (State.onScope k f s) := h.onSch
protected theorem Keeps.scopeWhole {k} (h : Keeps s₀ s) : Keeps s₀ (scopeWhole k s) := h.onScope

protected theorem Keeps.scopeLaneIn {fid lane value} (h : Keeps s₀ s) : Keeps s₀ (scopeLaneIn fid lane value s) := by
  refine h.each fun _ _ ht => ?_
  split
  · exact
      .ite
        (have h1 := ht.onScope
         .ite h1.scopeWhole h1)
        ht
  · exact ht

protected theorem Keeps.applyCombined {fid lane value} (h : Keeps s₀ s) : Keeps s₀ (applyCombined fid lane value s) :=
  (h.scopeLaneIn.each fun _ _ ht => .ite ht.putHist ht).each fun _ _ ht => .ite ht.onGrn ht

protected theorem Keeps.tallyReach {fid d node} (h : Keeps s₀ s) : Keeps s₀ (tallyReach fid d node s) := by
  unfold tallyReach
  dsimp only
  split
  · exact (h.each fun _ _ ht => ht.pushNet).onTally
  · exact h
  · exact .ite ((h.each fun _ _ ht => ht.toChildren).closeTally.each fun _ _ ht => ht.applyCombined) h.onTally

protected theorem Keeps.tallyCheck {fid d node} (h : Keeps s₀ s) : Keeps s₀ (tallyCheck fid d node s) := .ite h.tallyReach h

protected theorem Keeps.tallyAdd {fid d node who count vs} (h : Keeps s₀ s) : Keeps s₀ (tallyAdd fid d node who count vs s) :=
  .ite h.syncEvent h.onTally

protected theorem Keeps.tallyProxies {fid d node} (h : Keeps s₀ s) : Keeps s₀ (tallyProxies fid d node s) :=
  h.each fun _ _ ht => .ite ht.tallyAdd.onTally.syncCount ht

protected theorem Keeps.tallyOwn {fid vs} (h : Keeps s₀ s) : Keeps s₀ (tallyOwn fid vs s) := by
  unfold tallyOwn
  split
  · exact h
  · exact
      have h1 := Keeps.ite h.syncEvent.closeTally h
      .ite h1 h1.tallyAdd.onTally.tallyProxies.tallyCheck

protected theorem Keeps.tallyWithdraw {fid} (h : Keeps s₀ s) : Keeps s₀ (tallyWithdraw fid s) := by
  unfold tallyWithdraw
  split
  · exact h
  · exact .ite h.onTally h

protected theorem Keeps.tallyRecheck (h : Keeps s₀ s) : Keeps s₀ (tallyRecheck s) := by
  refine h.each fun _ _ ht => ?_
  split
  · exact ht
  · exact .ite ht.tallyProxies.tallyCheck ht

protected theorem Keeps.scopeArrive {again g} (h : Keeps s₀ s) : Keeps s₀ (scopeArrive again g s) := by
  unfold scopeArrive
  dsimp only
  split
  · exact h
  · exact
      .ite
        (have h1 := Keeps.ite h h.localArrive
         .ite h1.scopeWhole h1)
        (.ite h.onScope.tallyOwn h)

protected theorem Keeps.tallyArrive {p fid gen count lane value} (h : Keeps s₀ s) :
    Keeps s₀ (tallyArrive p fid gen count lane value s) := by
  unfold tallyArrive
  split
  · exact h
  · exact .ite h.syncCount (.ite h.onTally.tallyCheck (.ite h.onTally h.onTally.tallyAdd.tallyCheck))

protected theorem Keeps.tallyCombined {fid gen lane value} (h : Keeps s₀ s) : Keeps s₀ (tallyCombined fid gen lane value s) := by
  unfold tallyCombined
  split
  · exact h
  · exact
      .ite
        (have h1 := h.toChildren
         .ite h1 <|
         have h2 := h1.applyCombined
         .ite h2 h2.closeTally)
        h

protected theorem Keeps.execTallyTimeout {fid} (h : Keeps s₀ s) : Answers s₀ (execTallyTimeout fid s) := by
  refine .next ?_
  split
  · exact h
  · exact .ite h.tallyReach.syncEvent.syncEvent h

protected theorem Keeps.arriveAt (h : Keeps s₀ s) : Keeps s₀ (arriveAt s) := h.onSch.tallyOwn

protected theorem Keeps.execGradTallyArrival {table} (h : Keeps s₀ s) : Answers s₀ (execGradTallyArrival table s) := by
  refine .next ?_
  split
  · exact h
  · exact h.tallyOwn

protected theorem Keeps.execRootIssue {fid} (h : Keeps s₀ s) : Answers s₀ (execRootIssue fid s) := by
  refine .next ?_
  split
  · exact h
  · exact .ite (.onFab (.toChildren (.ite h.onSch h))) h

protected theorem Keeps.release {p fid skip template epoch acc residence} (h : Keeps s₀ s) :
    Keeps s₀ (release p fid skip template epoch acc residence s) := by
  unfold release
  split
  · exact h
  · exact
      .ite h <|
      have h1 := h.toChildren.onFab
      .ite h1.syncCount h1

protected theorem Keeps.semPost {rank plot sem count} (h : Keeps s₀ s) : Keeps s₀ (semPost rank plot sem count s) := by
  refine .ite h.semPostAt ?_
  split
  · exact h.pushWithy
  · exact h

/-! ### Mash engines -/

protected theorem Keeps.mashReg {p w rest} (h : Keeps s₀ s) : Keeps s₀ (mashReg p w rest s) := h.onPlot

protected theorem Keeps.mashRow {ops p} (h : Keeps s₀ s) : Keeps s₀ (mashRow ops p s) := by
  unfold mashRow
  split
  · exact .ite h.mashReg h
  · exact h

protected theorem Keeps.raise {r p f} (h : Keeps s₀ r.s) : Keeps s₀ (LoopRun.raise r p f).s := h.onPlot

protected theorem Keeps.loadTile {p d i1 i2 i3 i4 at_ n j t r} (h : Keeps s₀ r.s) :
    Keeps s₀ (loadTile p d i1 i2 i3 i4 at_ n j t r).s :=
  .raise h.onPlot

protected theorem Keeps.runBody {p c ws r} (h : Keeps s₀ r.s) : Keeps s₀ (runBody p c ws r).s := by
  induction ws generalizing r with
  | nil => exact h
  | cons _ _ ih => exact ih h.onPlot

protected theorem Keeps.storeOut {p d i1 i2 i3 i4 at_ n dry r} (h : Keeps s₀ r.s) :
    Keeps s₀ (storeOut p d i1 i2 i3 i4 at_ n dry r).s :=
  .iteLoop h (h.onMem fun hm => Memory.wf_putBytes _ _ _ hm).raise

protected theorem Keeps.runTile {p d dry e0 i1 i2 i3 i4 tiles t r} (h : Keeps s₀ r.s) :
    Keeps s₀ (runTile p d dry e0 i1 i2 i3 i4 tiles t r).s :=
  have h1 := (h.foldlLoop fun _ _ ht => ht.loadTile).runBody
  .iteLoop h1.storeOut (.iteLoop h1.storeOut h1)

protected theorem Keeps.runLoop {p d dry} (h : Keeps s₀ s) : Keeps s₀ (runLoop p d dry s).s :=
  have h1 :=
    h.onPlot.foldlLoop fun _ _ ht =>
      ht.foldlLoop fun _ _ hu => hu.foldlLoop fun _ _ hv => hv.foldlLoop fun _ _ hw => hw.foldlLoop fun _ _ hz => hz.runTile
  .iteLoop h1.storeOut h1

protected theorem Keeps.endLoop {p d r} (h : Keeps s₀ r.s) : Keeps s₀ (endLoop p d r) := h.onPlot.descPost
protected theorem Keeps.secondPass {p d} (h : Keeps s₀ s) : Keeps s₀ (secondPass p d s) := h.runLoop.endLoop
protected theorem Keeps.firstPass {p d} (h : Keeps s₀ s) : Keeps s₀ (firstPass p d s).1 := h.runLoop.onPlot
protected theorem Keeps.reportPass {p g a} (h : Keeps s₀ s) : Keeps s₀ (reportPass p g a s) := h.onPlot.onScope.scopeArrive

protected theorem Keeps.loopBody {p d} (h : Keeps s₀ s) : Keeps s₀ (loopBody p d s) := by
  unfold loopBody
  split
  · exact
      have h1 := h.firstPass
      .ite h1.reportPass h1.setSlotK.secondPass
  · exact .ite h.firstPass.setSlotK.secondPass h.secondPass

protected theorem Keeps.loopWaits {p d} (h : Keeps s₀ s) : Keeps s₀ (loopWaits p d s) := by
  unfold loopWaits
  split
  · exact h.onPlot.setSlotK.secondPass
  · split
    · exact .ite h h.scopeArrive
    · exact h.onPlot

protected theorem Keeps.runLoopEntry {p off} (h : Keeps s₀ s) : Keeps s₀ (runLoopEntry p off s) := by
  refine .ite h.loopWaits ?_
  refine .ite h ?_
  split
  · exact (h.descWait ‹_›).loopBody
  · exact h

protected theorem Keeps.putMat {p off m} (h : Keeps s₀ s) : Keeps s₀ (putMat p off m s) :=
  h.onMem fun hm => Memory.wf_putBytes _ _ _ hm

protected theorem Keeps.put {r p off m} (h : Keeps s₀ r.s) : Keeps s₀ (RootRun.put r p off m).s := h.putMat
protected theorem Keeps.rootInit {p d} (h : Keeps s₀ s) : Keeps s₀ (rootInit p d s).s := h.put.put
protected theorem Keeps.rootFactor {p d r} (h : Keeps s₀ r.s) : Keeps s₀ (rootFactor p d r).s := h.put
protected theorem Keeps.rootProduct {p d a b dst r} (h : Keeps s₀ r.s) : Keeps s₀ (rootProduct p d a b dst r).s := h.put.put
protected theorem Keeps.rootPublish {p d r} (h : Keeps s₀ r.s) : Keeps s₀ (rootPublish p d r).s := .iteRoot h h.putMat

protected theorem Keeps.rootStage {p d k r} (h : Keeps s₀ r.s) : Keeps s₀ (rootStage p d k r).s :=
  .iteRoot h.rootInit (.iteRoot h.rootPublish (.iteRoot h.rootFactor (.iteRoot h.rootProduct h.rootProduct)))

protected theorem Keeps.rootFailFlag {p} (h : Keeps s₀ s) : Keeps s₀ (rootFailFlag p s) := h.onPlot

protected theorem Keeps.rootBody {p d} (h : Keeps s₀ s) : Keeps s₀ (rootBody p d s) :=
  have h1 := (h.foldlRoot fun _ _ ht => ht.rootStage).onMem fun hm => Memory.wf_putBytes _ _ _ hm
  .descPost (.ite h1.rootFailFlag.event h1)

protected theorem Keeps.runRootEntry {p off} (h : Keeps s₀ s) : Keeps s₀ (runRootEntry p off s) := by
  unfold runRootEntry
  refine .ite (.onPlot h.rootFailFlag) ?_
  split
  · exact .onPlot (.rootBody (h.descWait ‹_›))
  · exact h

protected theorem Keeps.mashHead {p} (h : Keeps s₀ s) : Keeps s₀ (mashHead p s) := by
  unfold mashHead
  split
  · exact h.mashReg
  · exact h.runLoopEntry
  · exact h.runRootEntry
  · exact h

protected theorem Keeps.execLoopDescriptor {p} (h : Keeps s₀ s) : Answers s₀ (execLoopDescriptor p s) := by
  refine .next ?_
  split
  · exact h.runLoopEntry
  · exact h

protected theorem Keeps.execRootDescriptor {p} (h : Keeps s₀ s) : Answers s₀ (execRootDescriptor p s) := by
  refine .next ?_
  split
  · exact h.runRootEntry
  · exact h

/-! ### The mailbox protocol -/

protected theorem Keeps.putRing {off bs} (h : Keeps s₀ s) : Keeps s₀ (putRing off bs s) := h.onMst
protected theorem Keeps.refuse {st detail inline} (h : Keeps s₀ s) : Keeps s₀ (refuse st s detail inline).state := h
protected theorem Keeps.badField {off} (h : Keeps s₀ s) : Keeps s₀ (badField off s).state := h.refuse
protected theorem Keeps.badArgByte {off} (h : Keeps s₀ s) : Keeps s₀ (badArgByte off s).state := h.refuse
protected theorem Keeps.okWith {inline} (h : Keeps s₀ s) : Keeps s₀ (okWith inline s).state := h

protected theorem Keeps.bufferRead {m isLocal a n} (h : Keeps s₀ s) : Keeps s₀ (bufferRead m isLocal a n s).1 :=
  .iteFst h h.devRead

protected theorem Keeps.bufferWrite {m isLocal a bs} (h : Keeps s₀ s) : Keeps s₀ (bufferWrite m isLocal a bs s) :=
  .ite h.putRing h.devWrite

protected theorem Keeps.respIrq {m now} (h : Keeps s₀ s) : Keeps s₀ (respIrq m now s) := .ite h.onMbx.raiseIrq h
protected theorem Keeps.shadowWord {m} (h : Keeps s₀ s) : Keeps s₀ (shadowWord m s) := .ite (.ite h.onMbx h.devWrite) h

protected theorem Keeps.respond {c r} (h : Keeps s₀ s) : Keeps s₀ (respond c r s) :=
  .respIrq (.shadowWord (.onMbx (.putRing (.takeFence (.ite h h.bufferWrite)))))

protected theorem Keeps.takeCmd {m} (h : Keeps s₀ s) : Keeps s₀ (takeCmd m s) := h.onMbx
protected theorem Keeps.tooSmall (h : Keeps s₀ s) : Keeps s₀ (tooSmall s).state := h.refuse

protected theorem Keeps.finish {c o} (h : Keeps s₀ o.state) : Keeps s₀ (finish c o) := by
  cases o with
  | reply => exact h.respond
  | pend => exact h

/-- A mailbox command keeps what its body keeps: taking it and answering it touch no queue and no fuse, and write memory canonically. -/
protected theorem Keeps.serve {m is sh body} (h : Keeps s₀ s) (hf : ∀ c t, Keeps s₀ t → Keeps s₀ (body c t).state) :
    Keeps s₀ (serve m is sh body s) := by
  have htaken := h.takeCmd (m := m)
  unfold serve
  split
  · exact h
  · refine .ite ?_ h
    dsimp only
    split
    · exact htaken.respond.announce
    · exact (hf _ _ (.iteFst htaken htaken.bufferRead)).finish.announce

protected theorem Keeps.serveOp {op sh m body} (h : Keeps s₀ s) (hf : ∀ c t, Keeps s₀ t → Keeps s₀ (body c t).state) :
    Keeps s₀ (serveOp op sh m body s) := h.serve hf

protected theorem Keeps.holdFor {c fid} (h : Keeps s₀ s) : Keeps s₀ (holdFor c fid s).state := h.onMbx
protected theorem Keeps.latch {look w} (h : Keeps s₀ s) : Keeps s₀ (latch look w s) := h.onSch
protected theorem Keeps.doorbell {m v} (h : Keeps s₀ s) : Keeps s₀ (doorbell m v s) := .ite h.onMbx h.onMbx
protected theorem Keeps.consume {m v} (h : Keeps s₀ s) : Keeps s₀ (consume m v s) := .ite h.onMbx h

protected theorem Keeps.ctrlWrite {m v} (h : Keeps s₀ s) : Keeps s₀ (ctrlWrite m v s) :=
  have h1 := h.onMbx
  .ite h1.onMbx h1

/-! ### Accesses, tun adders and errors -/

protected theorem Keeps.corrected {ch a} (h : Keeps s₀ s) : Keeps s₀ (corrected ch a s) :=
  have h1 := h.onMemRest
  .ite h1.event h1

protected theorem Keeps.meetError {req a err} (h : Keeps s₀ s) : Keeps s₀ (meetError req a err s) := by
  unfold meetError
  split
  · exact h.corrected
  · exact h.poisonLine
  · exact .ite h (h.each fun _ _ ht => ht.poisonLine)
  · exact h

protected theorem Keeps.bookAdd {g i n} (h : Keeps s₀ s) : Keeps s₀ (bookAdd g i n s) := h.onLtr

protected theorem Keeps.lauterLoss {i} (h : Keeps s₀ s) : Keeps s₀ (lauterLoss i s) := by
  unfold lauterLoss
  split
  · exact h.onLtr
  · split
    · exact h
    · refine .onLtr ?_
      split
      · exact h.bookAdd
      · exact h

protected theorem Keeps.hedgerowLoss {p i} (h : Keeps s₀ s) : Keeps s₀ (hedgerowLoss p i s) := h.onFlow
protected theorem Keeps.bufferLoss {a} (h : Keeps s₀ s) : Keeps s₀ (bufferLoss a s) := .ite h.lauterLoss h.hedgerowLoss

protected theorem Keeps.sramError {a err} (h : Keeps s₀ s) : Keeps s₀ (sramError a err s) := by
  unfold sramError
  split
  · exact h.event
  · exact h.event
  · exact h.event
  · exact h.event.unregInv
  · exact h.onGrn.event.event
  · exact h.event.bufferLoss
  · exact h

protected theorem Keeps.tierError {req a len write err} (h : Keeps s₀ s) : Keeps s₀ (tierError req a len write err s) :=
  .ite (.ite h.event h) (.ite h.meetError h)

protected theorem Keeps.beforeAccess {req a len write err} (h : Keeps s₀ s) : Keeps s₀ (beforeAccess req a len write err s) := by
  refine .ite h ?_
  split
  · exact h.tierError
  · exact h.tierError
  · exact h
  · exact h
  · exact h.sramError

protected theorem Keeps.execMaltAccess {req addr hint write len data err} (h : Keeps s₀ s) :
    Answers s₀ (execMaltAccess req addr hint write len data err s) :=
  .ite (.next h.beforeAccess.devWrite) <|
  have h1 := h.beforeAccess.devRead
  .next (.set (.ite h1.unregInv h1))

protected theorem Keeps.groupLine {req as l} (h : Keeps s₀ s) : Keeps s₀ (groupLine req as l s) := by
  unfold groupLine
  dsimp only
  split
  · exact .ite h.addrFault h.lineWrite
  · exact .ite h.addrFault h.lineWrite
  · exact h.requestWrite

protected theorem Keeps.installGroup {req ls} (h : Keeps s₀ s) : Keeps s₀ (installGroup req ls s) :=
  h.each fun _ _ ht => ht.groupLine

protected theorem Keeps.tunFault {req a} (h : Keeps s₀ s) : Keeps s₀ (tunFault req a s) := h.event
protected theorem Keeps.tunCount {n sat low} (h : Keeps s₀ s) : Keeps s₀ (tunCount n sat low s) := h.onMemRest
protected theorem Keeps.tunBook {a} (h : Keeps s₀ s) : Keeps s₀ (tunBook a s) := h.onMemRest
protected theorem Keeps.tunStore {hint a bs} (h : Keeps s₀ s) : Keeps s₀ (tunStore hint a bs s) := h.lineWrite

protected theorem Keeps.tunAdmit {req a int32 f} (h : Keeps s₀ s) (hf : ∀ n r t, Keeps s₀ t → Keeps s₀ (f n r t)) :
    Keeps s₀ (tunAdmit req a int32 s f) := by
  refine .ite h.addrFault ?_
  split
  · exact .ite (hf _ _ _ h.tunBook) h.tunFault
  · exact h.tunFault

protected theorem Keeps.tunAddVal {hint req a v} (h : Keeps s₀ s) : Keeps s₀ (tunAddVal hint req a v s) :=
  h.tunAdmit fun _ _ _ ht =>
    have h1 := ht.tunStore.tunCount
    .ite h1.event h1

protected theorem Keeps.tunAnswer {req a v sat ovf} (h : Keeps s₀ s) : Keeps s₀ (tunAnswer req a v sat ovf s) :=
  .set (.ite h.poisonRead h)

protected theorem Keeps.noAnswer (h : Keeps s₀ s) : Keeps s₀ (noAnswer s) := h.set

protected theorem Keeps.tunReadOp {clr req a} (h : Keeps s₀ s) : Keeps s₀ (tunReadOp clr req a s) :=
  h.noAnswer.tunAdmit fun _ _ _ ht =>
    have h1 := ht.maltTouch.tunAnswer
    .ite h1.tunStore h1

protected theorem Keeps.tunClear {req a} (h : Keeps s₀ s) : Keeps s₀ (tunClear req a s) := h.tunAdmit fun _ _ _ ht => ht.tunStore

protected theorem Keeps.tunAddInt {req a v} (h : Keeps s₀ s) : Keeps s₀ (tunAddInt req a v s) :=
  h.tunAdmit fun _ _ _ ht =>
    have h1 := ht.tunStore.tunCount
    .ite h1.event h1

protected theorem Keeps.tunReadInt {req a} (h : Keeps s₀ s) : Keeps s₀ (tunReadInt req a s) :=
  h.noAnswer.tunAdmit fun _ _ _ ht => ht.maltTouch.tunAnswer.tunStore

protected theorem Keeps.tunUnfit {req a} (h : Keeps s₀ s) : Keeps s₀ (tunUnfit req a s) := .ite h.addrFault h.tunFault

protected theorem Keeps.execTadd {req addr fmt bits} (h : Keeps s₀ s) : Answers s₀ (execTadd req addr fmt bits s) := by
  refine .next ?_
  split
  · exact h.tunAddVal
  · exact h.tunUnfit

protected theorem Keeps.scrubFound {ch x} (h : Keeps s₀ s) : Keeps s₀ (scrubFound ch x s) := .ite h.meetError h
protected theorem Keeps.scrubKiln {ch} (h : Keeps s₀ s) : Keeps s₀ (scrubKiln ch s) := .ite h h.onMemRest

protected theorem Keeps.scrubPoison {ch} (h : Keeps s₀ s) : Keeps s₀ (scrubPoison ch s) :=
  h.each fun _ _ ht => .ite ht.poisonRead ht

protected theorem Keeps.execHotRefresh {stack hot} (h : Keeps s₀ s) : Answers s₀ (execHotRefresh stack hot s) :=
  have h1 := h.onMemRest
  .next (.ite h1.event h1)

/-! ### Memory commands and Hoppers -/

protected theorem Keeps.placeObj {part size tun x table r} (h : Keeps s₀ s) (e : placeObj part size tun x table s = some r) : Keeps s₀ r.1 := by
  unfold placeObj at e
  dsimp only at e
  split at e
  · cases e
  · split at e
    · cases e; exact h.onMemRest
    · cases e

protected theorem Keeps.execAllocObject {m} (h : Keeps s₀ s) : Answers s₀ (execAllocObject m s) := by
  refine .next ?_
  refine h.serveOp fun _ _ ht => ?_
  refine .iteOut ht.badField ?_
  refine .iteOut ht.badField ?_
  refine .iteOut ht.badField ?_
  split
  · exact ht.refuse
  · exact (ht.placeObj ‹_›).okWith

protected theorem Keeps.dropObj {id} (h : Keeps s₀ s) : Keeps s₀ (dropObj id s) := by
  unfold dropObj
  split
  · exact h
  · exact h.onMemRest

protected theorem Keeps.execFreeObject {m} (h : Keeps s₀ s) : Answers s₀ (execFreeObject m s) := by
  refine .next ?_
  refine h.serveOp fun _ _ ht => ?_
  split
  · exact ht.refuse
  · exact .iteOut ht.refuse ht.dropObj.okWith

protected theorem Keeps.execMoveObject {m} (h : Keeps s₀ s) : Answers s₀ (execMoveObject m s) := by
  refine .next ?_
  refine h.serveOp fun _ _ ht => ?_
  refine .iteOut ht.badField ?_
  refine .iteOut ht.badField ?_
  split
  · exact ht.refuse
  · exact
      .iteOut (ht.flushFrames.onMem fun hm => Memory.wf_putMap hm).okWith <|
      .iteOut ht.refuse (ht.flushFrames.onMem fun hm => Memory.wf_swapAll hm).okWith

protected theorem Keeps.execHopperRun {m} (h : Keeps s₀ s) : Answers s₀ (execHopperRun m s) := by
  refine .next ?_
  refine h.serveOp fun _ _ ht => ?_
  dsimp only
  split
  · exact ht.badField
  · exact .iteOut ht.tooSmall (.iteOut ht.refuse (.iteOut ht.okWith ht.onMemRest.holdFor))

protected theorem Keeps.hopperFill {params k} (h : Keeps s₀ s) : Keeps s₀ (hopperFill params s k) :=
  h.onMem fun hm => List.foldlRecOn (motive := fun m : Memory => m.wf = true) _ _ hm fun _ hb _ _ => Memory.wf_hopperFrame hb

protected theorem Keeps.hopperEnd {r} (h : Keeps s₀ s) : Keeps s₀ (hopperEnd r s) := by
  unfold hopperEnd
  dsimp only
  split
  · exact .onMem (.foldl h fun _ _ ht => ht.hopperFill) fun hm => Memory.wf_zeroWhere _ _ hm
  · exact .respond (.onMem (.foldl h fun _ _ ht => ht.hopperFill) fun hm => Memory.wf_zeroWhere _ _ hm)

protected theorem Keeps.execHopperDone {k rep} (h : Keeps s₀ s) : Answers s₀ (execHopperDone k rep s) := by
  refine .next ?_
  split
  · exact h
  · exact
      .ite
        (have h1 := h.onMemRest
         .ite h1.hopperEnd.announce h1)
        h

/-! ### The Cask store -/

protected theorem Keeps.putPage {k c p} (h : Keeps s₀ s) : Keeps s₀ (putPage k c p s) := h.devWrite
protected theorem Keeps.allocPage {k c p} (h : Keeps s₀ s) : Keeps s₀ (allocPage k c p s) := h.putPage.onCsk
protected theorem Keeps.putSeq {k slot off n v} (h : Keeps s₀ s) : Keeps s₀ (putSeq k slot off n v s) := h.devWrite

protected theorem Keeps.putLayer {k slot layer head tail empty} (h : Keeps s₀ s) :
    Keeps s₀ (putLayer k slot layer head tail empty s) :=
  h.putSeq

protected theorem Keeps.onAway {slot layer f} (h : Keeps s₀ s) : Keeps s₀ (onAway slot layer f s) := h.onCsk
protected theorem Keeps.countCsk {i n} (h : Keeps s₀ s) : Keeps s₀ (countCsk i n s) := h.onCsk
protected theorem Keeps.cskEvent {b slot c} (h : Keeps s₀ s) : Keeps s₀ (cskEvent b slot c s) := h.event

protected theorem Keeps.pageBooks (h : Keeps s₀ s) : Keeps s₀ (pageBooks s) := by
  unfold pageBooks
  split
  · exact h
  · exact .ite h h.cskEvent

protected theorem Keeps.startCasks {old} (h : Keeps s₀ s) : Keeps s₀ (startCasks old s) := by
  unfold startCasks
  split
  · exact h
  · exact .ite h h.onCsk

protected theorem Keeps.onUse {slot f} (h : Keeps s₀ s) : Keeps s₀ (onUse slot f s) := h.onCsk
protected theorem Keeps.freeCask {k c} (h : Keeps s₀ s) : Keeps s₀ (freeCask k c s) := h.putPage.onCsk

protected theorem Keeps.freeCasks {k slot p} (h : Keeps s₀ s) : Keeps s₀ (freeCasks k slot p s) :=
  h.each fun _ _ ht => .ite ht.freeCask ht

protected theorem Keeps.poisonCask {k c} (h : Keeps s₀ s) : Keeps s₀ (poisonCask k c s) := .cskEvent (.ite h h.putPage)

protected theorem Keeps.caskRead {k c} (h : Keeps s₀ s) : Keeps s₀ (caskRead k c s).1 :=
  .iteFst h.cskEvent <|
  have h1 := h.devRead
  .iteFst h1.poisonCask h1

protected theorem Keeps.linkCask {k c} (h : Keeps s₀ s) : Keeps s₀ (linkCask k c s) :=
  have h1 := h.putPage
  .ite h1.putLayer h1.putPage.putLayer

protected theorem Keeps.retireHead {k slot layer} (h : Keeps s₀ s) : Keeps s₀ (retireHead k slot layer s) :=
  .ite h (.countCsk (.freeCask (.ite h.putLayer h.putLayer)))

protected theorem Keeps.sendCask {r bs} (h : Keeps s₀ s) : Keeps s₀ (sendCask r bs s) := h.onCsk

protected theorem Keeps.fillCaskStream {k r d} (h : Keeps s₀ s) : Keeps s₀ (fillCaskStream k r d s) :=
  (h.each fun _ _ ht => ht.devWrite).onCsk.onFab

protected theorem Keeps.fillCaskStreams (h : Keeps s₀ s) : Keeps s₀ (fillCaskStreams s) := by
  unfold fillCaskStreams
  split
  · exact h
  · refine h.each fun _ _ ht => ?_
    split
    · exact ht.fillCaskStream
    · exact ht

protected theorem Keeps.linkGuest {k home slot layer a poison bs} (h : Keeps s₀ s) :
    Keeps s₀ (linkGuest k home slot layer a poison bs s) := by
  unfold linkGuest
  split
  · exact h
  · exact have h1 := h.devWrite.allocPage; by
      refine .onCsk ?_
      dsimp only
      split
      · exact h1.putPage
      · exact h1

protected theorem Keeps.dropGuest {k key c} (h : Keeps s₀ s) : Keeps s₀ (dropGuest k key c s) := h.freeCask.onCsk

protected theorem Keeps.takeRecord {k key body} (h : Keeps s₀ s) : Keeps s₀ (takeRecord k key body s) := by
  unfold takeRecord
  dsimp only
  split
  · exact h.linkGuest
  · exact h.each fun _ _ ht => .ite ht.dropGuest.countCsk ht
  · exact h.each fun _ _ ht => ht.each fun _ _ hu => hu.dropGuest
  · exact h

protected theorem Keeps.caskFlit {d i} (h : Keeps s₀ s) : Keeps s₀ (caskFlit d i s) := by
  unfold caskFlit
  split
  · exact h
  · exact .ite h (.ite h h.devRead.takeRecord)

protected theorem Keeps.retireOldest {k slot layer a} (h : Keeps s₀ s) : Keeps s₀ (retireOldest k slot layer a s) := by
  unfold retireOldest
  split
  · exact h.onAway.sendCask.countCsk
  · exact h.retireHead

protected theorem Keeps.freeAway {k slot} (h : Keeps s₀ s) : Keeps s₀ (freeAway k slot s) := by
  unfold freeAway
  split
  · exact h
  · exact h.each fun _ _ ht => .ite ht ht.sendCask

protected theorem Keeps.flushCask {k slot layer buf} (h : Keeps s₀ s) : Keeps s₀ (flushCask k slot layer buf s) := by
  refine .ite h.onUse.countCsk ?_
  split
  · exact h
  · exact
      have h1 := h.devRead.devWrite.allocPage
      .countCsk (.onUse (.ite h1.poisonCask h1))

protected theorem Keeps.tokenAppend {slot layer key value} (h : Keeps s₀ s) : Keeps s₀ (tokenAppend slot layer key value s) := by
  unfold tokenAppend
  split
  · exact h
  · exact
      .ite h <|
      have h1 := h.devWrite.devWrite.onUse
      .ite h1.flushCask h1

protected theorem Keeps.shipCask {k slot layer a r} (h : Keeps s₀ s) : Keeps s₀ (shipCask k slot layer a r s) :=
  h.devRead.sendCask.onAway

protected theorem Keeps.commitLayer {k slot u layer} (h : Keeps s₀ s) : Keeps s₀ (commitLayer k slot u layer s) := by
  unfold commitLayer
  refine .ite h ?_
  extract_lets newest s1 s2 total
  have h1 : Keeps s₀ s1 := by
    unfold s1
    split
    · exact h.shipCask
    · exact h.linkCask
  clear_value s1
  exact .ite h1.putSeq.retireOldest h1.putSeq

protected theorem Keeps.commitSlot {k skip slot u} (h : Keeps s₀ s) : Keeps s₀ (commitSlot k skip slot u s) :=
  .ite h <|
  .ite (h.each fun _ _ ht => ht.commitLayer).putSeq.countCsk <|
  have h1 := h.freeCasks.countCsk
  .ite h1 h1.cskEvent

protected theorem Keeps.markChain {k cs} (h : Keeps s₀ s) : Keeps s₀ (markChain k cs s) := h.each fun _ _ ht => .ite ht.onCsk ht

protected theorem Keeps.markSpills {k} (h : Keeps s₀ s) : Keeps s₀ (markSpills k s) :=
  (h.each fun _ _ ht => ht.each fun _ _ hu => hu.markChain).each fun _ _ ht => ht.markChain

protected theorem Keeps.seqFault {slot} (h : Keeps s₀ s) : Keeps s₀ (seqFault slot s) := h.countCsk.cskEvent
protected theorem Keeps.takeSeqRecord {k bs} (h : Keeps s₀ s) : Keeps s₀ (takeSeqRecord k bs s) := .onCsk (.ite h.seqFault h)

protected theorem Keeps.caskLook {base} (h : Keeps s₀ s) : Keeps s₀ (caskLook base s) := by
  unfold caskLook
  split
  · exact h
  · exact h.onCsk.each fun _ _ ht => ht.takeSeqRecord

protected theorem Keeps.openSlot {k slot user} (h : Keeps s₀ s) : Keeps s₀ (openSlot k slot user s) :=
  (h.freeCasks.freeAway.each fun _ _ ht => ht.putLayer.onAway).putSeq.putSeq.putSeq.putSeq

protected theorem Keeps.loadCask {k slot layer a blk} (h : Keeps s₀ s) : Keeps s₀ (loadCask k slot layer a blk s) := by
  unfold loadCask
  split
  · exact h.sendCask.onAway
  · split
    · exact h
    · exact h.devWrite.allocPage.linkCask

protected theorem Keeps.loadLayer {k slot layer first ncask blks} (h : Keeps s₀ s) :
    Keeps s₀ (loadLayer k slot layer first ncask blks s) :=
  (h.each fun _ _ ht => ht.loadCask).devWrite

protected theorem Keeps.loadHistory {k slot user img} (h : Keeps s₀ s) : Keeps s₀ (loadHistory k slot user img s) :=
  (h.openSlot.each fun _ _ ht => ht.loadLayer).putSeq

protected theorem Keeps.beginSlot {k slot bs} (h : Keeps s₀ s) : Keeps s₀ (beginSlot k slot bs s) :=
  .ite h.onUse <|
  .ite h.seqFault.onUse <|
  have h1 := Keeps.ite h.openSlot (.ite h.loadHistory h)
  .onUse (.ite h1.countCsk.cskEvent h1)

protected theorem Keeps.closeSaved {k slot} (h : Keeps s₀ s) : Keeps s₀ (closeSaved k slot s) :=
  .ite (h.freeCasks.freeAway.putSeq.each fun _ _ ht => ht.onAway).onCsk h

protected theorem Keeps.beginSave {k slot u} (h : Keeps s₀ s) : Keeps s₀ (beginSave k slot u s) := by
  unfold beginSave
  split
  · exact .ite h.cskEvent h.putSeq.onCsk
  · exact h

protected theorem Keeps.caskBoundary {skip} (h : Keeps s₀ s) : Keeps s₀ (caskBoundary skip s) := by
  unfold caskBoundary
  split
  · exact h
  · exact
      have h1 :=
        (((h.each fun _ _ ht => ht.commitSlot).each fun _ _ ht => ht.closeSaved).each fun _ _ ht => ht.beginSave).onCsk.each fun _ _ ht =>
          ht.beginSlot
      .onCsk (.ite h1 h1.markSpills)

protected theorem Keeps.spillCask {k c} (h : Keeps s₀ s) : Keeps s₀ (spillCask k c s) :=
  have h1 := h.devRead.devWrite.takeFence.putPage
  .countCsk (.onCsk (.ite h1.poisonCask h1))

protected theorem Keeps.execSpill {entry} (h : Keeps s₀ s) : Answers s₀ (execSpill entry s) := by
  refine .next ?_
  split
  · exact h
  · split
    · exact h
    · refine .ite h ?_
      split
      · exact h.spillCask
      · exact h

protected theorem Keeps.fetchCask {k c frame} (h : Keeps s₀ s) : Keeps s₀ (fetchCask k c frame s) :=
  have h1 := h.devRead.devWrite
  .countCsk (.onCsk (.ite h1.poisonCask h1))

protected theorem Keeps.execPrefetch {entry} (h : Keeps s₀ s) : Answers s₀ (execPrefetch entry s) := by
  unfold execPrefetch
  obtain ⟨ch, hch⟩ : ∃ f, chain s = f := ⟨_, rfl⟩
  rw [hch]
  refine .next ?_
  split
  · exact h
  · split
    · exact h
    · split
      · exact h
      · split
        · exact h
        · exact .ite h h.fetchCask

protected theorem Keeps.partCasks {k cs} (h : Keeps s₀ s) : Keeps s₀ (partCasks k cs s).1 := by
  induction cs generalizing s with
  | nil => exact h
  | cons _ _ ih =>
    unfold partCasks
    dsimp only
    split <;> exact ih h.caskRead

protected theorem Keeps.linkedPart {k cs part} (h : Keeps s₀ s) : Keeps s₀ (linkedPart k cs part s).1 := h.partCasks
protected theorem Keeps.steepBytes {k slot layer} (h : Keeps s₀ s) : Keeps s₀ (steepBytes k slot layer s).1 := h.devRead

protected theorem Keeps.ownPart {k sample layer pos} (h : Keeps s₀ s) : Keeps s₀ (ownPart k sample layer pos s).1 := by
  unfold ownPart
  obtain ⟨parts, hparts⟩ : ∃ f, partsOf s = f := ⟨_, rfl⟩
  rw [hparts]
  split
  · exact h
  · split
    · exact h
    · dsimp only
      split
      · exact .fst h.linkedPart
      · split
        · exact .fst h.steepBytes
        · exact h

protected theorem Keeps.guestPart {k home slot layer pos} (h : Keeps s₀ s) : Keeps s₀ (guestPart k home slot layer pos s).1 := by
  unfold guestPart
  dsimp only
  split
  · exact h.linkedPart
  · exact h

protected theorem Keeps.execPartDelivery {sample layer pos guest} (h : Keeps s₀ s) :
    Answers s₀ (execPartDelivery sample layer pos guest s) := by
  unfold execPartDelivery
  refine .next ?_
  split
  · exact h
  · split
    · exact h
    · refine .ite h ?_
      extract_lets r
      have hr : Keeps s₀ r.1 := by
        unfold r
        split
        · exact h.guestPart
        · exact h.ownPart
      clear_value r
      split
      · exact hr.devWrite.countCsk.semPostAt
      · exact hr

protected theorem Keeps.readBlocks {req a n m} (h : Keeps s₀ s) : Keeps s₀ (readBlocks req a n m s).1 := by
  induction m generalizing a s with
  | zero => exact h
  | succ _ ih => exact ih h.devRead

protected theorem Keeps.execLoadImage {slot} (h : Keeps s₀ s) : Answers s₀ (execLoadImage slot s) := by
  refine .next ?_
  split
  · exact h
  · exact
      .ite h <|
      have h1 := h.devRead
      .ite h1.seqFault.onCsk h1.readBlocks.onCsk

protected theorem Keeps.imageCasks {k slot a n cs} (h : Keeps s₀ s) : Keeps s₀ (imageCasks k slot a n cs s).1 := by
  induction n generalizing a cs s with
  | zero => exact h
  | succ _ ih =>
    refine .iteFst (ih h.takeFree) ?_
    split
    · exact h
    · exact ih h.caskRead

protected theorem Keeps.imageLayer {k slot layer} (h : Keeps s₀ s) : Keeps s₀ (imageLayer k slot layer s).1 :=
  h.imageCasks.devRead

protected theorem Keeps.imageLayers {k slot ls} (h : Keeps s₀ s) : Keeps s₀ (imageLayers k slot ls s).1 := by
  induction ls generalizing s with
  | nil => exact h
  | cons _ _ ih =>
    unfold imageLayers
    exact ih h.imageLayer

protected theorem Keeps.execSaveImage {slot} (h : Keeps s₀ s) : Answers s₀ (execSaveImage slot s) := by
  refine .next ?_
  split
  · exact h
  · exact .ite h h.imageLayers.devWrite.onCsk

protected theorem Keeps.execSplitPartial {sample layer part partials} (h : Keeps s₀ s) :
    Answers s₀ (execSplitPartial sample layer part partials s) := by
  refine .next ?_
  split
  · exact
      .ite h <|
      have h1 := h.onCsk
      .ite h1 (.cskEvent (.ite h1 h1.onCsk.countCsk))
  · exact h

protected theorem Keeps.stashLoss {k} (h : Keeps s₀ s) : Keeps s₀ (stashLoss k s) :=
  .ite h (h.each fun _ _ ht => .ite ht.onPlot ht)

protected theorem Keeps.caskHostLoss (h : Keeps s₀ s) : Keeps s₀ (caskHostLoss s) := by
  unfold caskHostLoss
  split
  · exact h
  · exact (h.stashLoss.each fun _ _ ht => .ite ht.poisonCask ht).each fun _ _ ht => .ite ht.putSeq.onCsk.cskEvent ht

/-! ### The host link -/

protected theorem Keeps.drainEngine {e} (h : Keeps s₀ s) : Keeps s₀ (drainEngine e s) := h.onMemRest.onHost

protected theorem Keeps.drainNamed {e} (h : Keeps s₀ s) : Keeps s₀ (drainNamed e s) :=
  .ite (h.each fun _ _ ht => ht.drainEngine) h.drainEngine

protected theorem Keeps.fenceRequest {v} (h : Keeps s₀ s) : Keeps s₀ (fenceRequest v s) := .ite h.event h.drainNamed.onHost

protected theorem Keeps.execFenceComplete (h : Keeps s₀ s) : Answers s₀ (execFenceComplete s) := by
  refine .next ?_
  split
  · exact h
  · exact
      have h1 := h.onHost.countHost
      .ite h1.raiseIrq h1

protected theorem Keeps.putSeg {n g} (h : Keeps s₀ s) : Keeps s₀ (putSeg n g s) := h.onHost

protected theorem Keeps.segWord0 {n v} (h : Keeps s₀ s) : Keeps s₀ (segWord0 n v s) :=
  .ite (.ite h (.ite h.putSeg.event h.putSeg)) h.putSeg

protected theorem Keeps.segWord1 {n v} (h : Keeps s₀ s) : Keeps s₀ (segWord1 n v s) := .ite h h.putSeg
protected theorem Keeps.segWord2 {n v} (h : Keeps s₀ s) : Keeps s₀ (segWord2 n v s) := .ite h h.putSeg
protected theorem Keeps.putBar2Base {v} (h : Keeps s₀ s) : Keeps s₀ (putBar2Base v s) := h.onHost
protected theorem Keeps.putHostLat {v} (h : Keeps s₀ s) : Keeps s₀ (putHostLat v s) := .ite h.onHost h
protected theorem Keeps.clearMinMv (h : Keeps s₀ s) : Keeps s₀ (clearMinMv s) := h.onHk

protected theorem Keeps.msixWrite {off bs} (h : Keeps s₀ s) : Keeps s₀ (msixWrite off bs s) :=
  have h1 := h.onHost
  .ite h1.onHost.raiseIrq h1

protected theorem Keeps.bar0Write {off wide v} (h : Keeps s₀ s) : Keeps s₀ (bar0Write off wide v s) :=
  .ite (.ite h.ctrlWrite (.ite (.ite h.doorbell h) (.ite (.ite h.consume h) (.ite h.onMbx h)))) <|
  .ite h.onMst <|
  .ite h.putBar2Base <|
  .ite (.ite h.putHostLat h) <|
  .ite (.ite h.fenceRequest h) <|
  .ite h.onHost <|
  .ite (.ite h.segWord0 (.ite h.segWord1 (.ite h.segWord2 h))) <|
  .ite h.clearMinMv (.ite (.ite h.clearSticky h) (.ite h.msixWrite h))

protected theorem Keeps.barFault {data} (h : Keeps s₀ s) : Keeps s₀ (barFault data s) := h.event.countHost
protected theorem Keeps.unsupported (h : Keeps s₀ s) : Keeps s₀ (unsupported s) := h.set

protected theorem Keeps.bar0Read {off len} (h : Keeps s₀ s) : Keeps s₀ (bar0Read off len s) :=
  .ite (.ite h.set h.barFault.unsupported) (.ite h.set h.barFault.unsupported)

protected theorem Keeps.bar0Put {off bs} (h : Keeps s₀ s) : Keeps s₀ (bar0Put off bs s) :=
  .ite (.ite h.putRing h.barFault) (.ite h.bar0Write h.barFault)

protected theorem Keeps.aerLog {off n write} (h : Keeps s₀ s) : Keeps s₀ (aerLog off n write s) := .ite h h.takeFree.onHost

protected theorem Keeps.bar2Fault {a n write} (h : Keeps s₀ s) : Keeps s₀ (bar2Fault a n write s) := by
  unfold bar2Fault
  dsimp only
  split
  · exact h.barFault.aerLog.addrFault
  · exact h.barFault.aerLog

protected theorem Keeps.updateSlow (h : Keeps s₀ s) : Keeps s₀ (updateSlow s) :=
  have h1 := h.onHost
  .ite h1.event h1

protected theorem Keeps.freeTag {tag} (h : Keeps s₀ s) : Keeps s₀ (freeTag tag s) := h.onHost

protected theorem Keeps.deliver {r bs bad} (h : Keeps s₀ s) : Keeps s₀ (deliver r bs bad s) :=
  have h1 := h.devWrite
  .ite
    (have h2 := h1.poisonRange
     .ite h2.unregInv h2)
    h1

protected theorem Keeps.execReadCompletion {tag status ep data} (h : Keeps s₀ s) :
    Answers s₀ (execReadCompletion tag status ep data s) := by
  refine .next ?_
  refine .ite h ?_
  split
  · exact h
  · exact have h1 := h.freeTag; by
      dsimp only
      split
      · exact .ite h1.event.deliver h1.deliver
      · exact h1.event.countHost.deliver

protected theorem Keeps.execCplTimeout {tag} (h : Keeps s₀ s) : Answers s₀ (execCplTimeout tag s) := by
  refine .next ?_
  refine .ite h ?_
  split
  · exact h
  · exact h.freeTag.event.countHost.deliver

protected theorem Keeps.dropReads (h : Keeps s₀ s) : Keeps s₀ (dropReads s) :=
  h.onHost.each fun _ _ ht =>
    have h1 := ht.devWrite
    .ite h1.onPlot h1

protected theorem Keeps.detachMailboxes (h : Keeps s₀ s) : Keeps s₀ (detachMailboxes s) := h.each fun _ _ ht => ht.onMbx

protected theorem Keeps.interruptHost (h : Keeps s₀ s) : Keeps s₀ (interruptHost s) := by
  unfold interruptHost
  split
  · split
    · exact .ite h.onMemRest.respond h
    · exact h
  · exact h

protected theorem Keeps.dropUnpark (h : Keeps s₀ s) : Keeps s₀ (dropUnpark s) := h.onSch

protected theorem Keeps.parkFor {cause} (h : Keeps s₀ s) : Keeps s₀ (parkFor cause s) := by
  unfold parkFor
  dsimp only
  split
  · exact h.onMst.dropUnpark.onMst
  · exact .ite h.onMst.dropUnpark.onMst h.onMst.dropUnpark.onMst
  · exact h.onMst.dropUnpark.onMst
  · exact h.onMst.dropUnpark

protected theorem Keeps.detach {cause} (h : Keeps s₀ s) : Keeps s₀ (detach cause s) :=
  h.onHost.detachMailboxes.interruptHost.dropReads.caskHostLoss.event.parkFor.announce

protected theorem Keeps.cfgWrite {reg v} (h : Keeps s₀ s) : Keeps s₀ (cfgWrite reg v s) :=
  .ite h.onHost.onHost <|
  .ite h.onHost <|
  .ite h.onHost <|
  .ite h.onHost <|
  .ite
    (have h1 := h.onHost
     .ite h1.detach h1)
    (.ite h.onHost <|
     .ite
       (have h2 := h.onHost
        .ite h2.detach h2)
       (.ite h.onHost (.ite h.onHost (.ite (.ite h.onHost h) h))))

/-! ### The Granary -/

protected theorem Keeps.onTable {t f} (h : Keeps s₀ s) : Keeps s₀ (State.onTable t f s) := h.onGrn
protected theorem Keeps.countGrn {t i n} (h : Keeps s₀ s) : Keeps s₀ (countGrn t i n s) := h.onGrn
protected theorem Keeps.grnEvent {b t x} (h : Keeps s₀ s) : Keeps s₀ (grnEvent b t x s) := h.event
protected theorem Keeps.onDir {e f} (h : Keeps s₀ s) : Keeps s₀ (onDir e f s) := h.onGrn

protected theorem Keeps.copyBytes {req src dst n} (h : Keeps s₀ s) : Keeps s₀ (copyBytes req src dst n s).1 :=
  have h1 := h.devRead.devWrite
  .ite h1.poisonRange h1

protected theorem Keeps.copyBlocks {req src dst n} (h : Keeps s₀ s) : Keeps s₀ (copyBlocks req src dst n s) :=
  h.each fun _ _ ht => ht.copyBytes

protected theorem Keeps.writeBackWay {e} (h : Keeps s₀ s) : Keeps s₀ (writeBackWay e s) := by
  unfold writeBackWay
  dsimp only
  split
  · exact h
  · exact .ite (h.each fun _ _ ht => .ite ht.copyBlocks.countGrn ht) h

protected theorem Keeps.emptyWay {e} (h : Keeps s₀ s) : Keeps s₀ (emptyWay e s) := h.writeBackWay.onGrn
protected theorem Keeps.unpin {b e} (h : Keeps s₀ s) : Keeps s₀ (unpin b e s) := .ite h.onDir.onGrn.countGrn h
protected theorem Keeps.dropWay {e} (h : Keeps s₀ s) : Keeps s₀ (dropWay e s) := h.unpin.unpin.onGrn
protected theorem Keeps.poisonWay {t a} (h : Keeps s₀ s) : Keeps s₀ (poisonWay t a s) := .ite h.onDir h

protected theorem Keeps.placeGranule {t v g} (h : Keeps s₀ s) : Keeps s₀ (placeGranule t v g s).1 := by
  unfold placeGranule
  split
  · exact h
  · exact
      have h1 := h.emptyWay
      .onGrn (.ite h1.countGrn h1)

protected theorem Keeps.piecesRead {req ps} (h : Keeps s₀ s) : Keeps s₀ (piecesRead req ps s).1 := by
  induction ps generalizing s with
  | nil => exact h
  | cons _ _ ih => exact ih h.devRead

protected theorem Keeps.recRead {t tb v l} (h : Keeps s₀ s) : Keeps s₀ (recRead t tb v l s).1 := h.piecesRead

protected theorem Keeps.piecesWrite {req ps bs} (h : Keeps s₀ s) : Keeps s₀ (piecesWrite req ps bs s) := by
  induction ps generalizing bs s with
  | nil => exact h
  | cons _ _ ih => exact ih h.devWrite

protected theorem Keeps.recWrite {t tb v l bs} (h : Keeps s₀ s) : Keeps s₀ (recWrite t tb v l bs s) := by
  unfold recWrite
  dsimp only
  split
  · exact .ite h.piecesWrite.onDir h.piecesWrite
  · exact h.piecesWrite

protected theorem Keeps.commitVersion {t} (h : Keeps s₀ s) : Keeps s₀ (commitVersion t s) := by
  unfold commitVersion
  split
  · exact h
  · exact (h.each fun _ _ ht => .ite ht.dropWay ht).dropObj.onTable

protected theorem Keeps.putReplicas {tb rows recs} (h : Keeps s₀ s) : Keeps s₀ (putReplicas tb rows recs s) :=
  h.each fun _ _ ht =>
    have h1 := ht.devWrite.devWrite
    .ite h1.poisonRange h1

protected theorem Keeps.repRead {tb pos} (h : Keeps s₀ s) : Keeps s₀ (repRead tb pos s).1 := h.devRead

protected theorem Keeps.replicaSource {t tb r} (h : Keeps s₀ s) : Keeps s₀ (replicaSource t tb r s).1 := by
  unfold replicaSource
  split
  · exact h.repRead
  · exact .iteFst h.recRead h

protected theorem Keeps.replicaSources {t tb rs} (h : Keeps s₀ s) : Keeps s₀ (replicaSources t tb rs s).1 := by
  induction rs generalizing s with
  | nil => exact h
  | cons _ _ ih => exact ih h.replicaSource

protected theorem Keeps.addReplicas {t rows} (h : Keeps s₀ s) : Keeps s₀ (addReplicas t rows s) := by
  unfold addReplicas
  split
  · exact h
  · exact h.replicaSources.putReplicas.onTable

protected theorem Keeps.homeReplica {t tb r i} (h : Keeps s₀ s) : Keeps s₀ (homeReplica t tb r i s) :=
  have h1 := h.repRead.recWrite
  .ite (h1.each fun _ _ ht => ht.poisonRange) h1

protected theorem Keeps.dropReplicas {t rows} (h : Keeps s₀ s) : Keeps s₀ (dropReplicas t rows s) := by
  unfold dropReplicas
  split
  · exact h
  · refine .onTable ?_
    refine .putReplicas ?_
    refine h.replicaSources.each fun _ _ ht => ?_
    split
    · exact .ite ht.homeReplica ht
    · exact ht

protected theorem Keeps.placeTable {n part tb r} (h : Keeps s₀ s) (e : placeTable n part tb s = some r) : Keeps s₀ r.1 := by
  obtain ⟨home, hhome, e⟩ := Option.bind_eq_some_iff.mp e
  obtain ⟨books, hbooks, e⟩ := Option.bind_eq_some_iff.mp e
  obtain ⟨acc, hacc, e⟩ := Option.bind_eq_some_iff.mp e
  obtain ⟨rep, hrep, rfl⟩ := Option.map_eq_some_iff.mp e
  exact (((h.placeObj hhome).placeObj hbooks).placeObj hacc).placeObj hrep

protected theorem Keeps.execTableCreate {m} (h : Keeps s₀ s) : Answers s₀ (execTableCreate m s) := by
  refine .next ?_
  refine h.serveOp fun _ _ ht => ?_
  refine .iteOut ht.badField ?_
  split
  · exact ht.badField
  · refine .iteOut ht.refuse ?_
    dsimp only
    split
    · exact ht.badArgByte
    · refine .iteOut ht.badField ?_
      split
      · exact ht.refuse
      · exact (ht.placeTable ‹_›).onGrn.okWith

protected theorem Keeps.clearLoaded {tb v rows} (h : Keeps s₀ s) : Keeps s₀ (clearLoaded tb v rows s) :=
  h.each fun _ _ ht => .ite (.ite ht.devWrite ht) ht

protected theorem Keeps.execTableLoad {m} (h : Keeps s₀ s) : Answers s₀ (execTableLoad m s) := by
  refine .next ?_
  refine h.serveOp fun _ _ ht => ?_
  split
  · exact ht.refuse
  · dsimp only
    split
    · exact ht.refuse
    · refine .iteOut ht.refuse ?_
      refine .iteOut ht.refuse ?_
      split
      · exact ht.badArgByte
      · refine .okWith ?_
        refine .onSch ?_
        refine .clearLoaded ?_
        refine ht.each fun _ _ hu => ?_
        refine .ite hu.devWrite ?_
        exact have h1 := hu.devWrite; by
          split
          · exact h1.dropWay
          · exact h1

protected theorem Keeps.exportRow {t tb v r} (h : Keeps s₀ s) : Keeps s₀ (exportRow t tb v r s).1 := by
  refine .iteFst (.iteFst h.devRead.countGrn.grnEvent h.devRead) ?_
  refine .iteFst ?_ h
  split
  · exact
      have h1 := h.repRead
      .iteFst h1.countGrn.grnEvent h1
  · exact .iteFst h.recRead.countGrn.grnEvent h.recRead

protected theorem Keeps.exportRows {t tb z rs} (h : Keeps s₀ s) : Keeps s₀ (exportRows t tb z rs s).1 := by
  induction rs generalizing s with
  | nil => exact h
  | cons _ _ ih => exact ih h.exportRow

protected theorem Keeps.execTableExport {m} (h : Keeps s₀ s) : Answers s₀ (execTableExport m s) := by
  refine .next ?_
  refine h.serveOp fun _ _ ht => ?_
  split
  · exact ht.refuse
  · split
    · exact ht.refuse
    · exact .iteOut ht.refuse (.iteOut ht.tooSmall ht.exportRows)

protected theorem Keeps.copyRec {t tb r} (h : Keeps s₀ s) : Keeps s₀ (copyRec t tb r s) :=
  have h1 := h.recRead.devWrite
  .ite h1.poisonRange h1

protected theorem Keeps.execTableStageVersion {m} (h : Keeps s₀ s) : Answers s₀ (execTableStageVersion m s) := by
  refine .next ?_
  refine h.serveOp fun _ _ ht => ?_
  split
  · exact ht.refuse
  · refine .iteOut ht.badField ?_
    refine .iteOut ht.refuse ?_
    split
    · exact ht.refuse
    · exact
        have h1 := (ht.placeObj ‹_›).onTable
        .okWith (.ite (h1.each fun _ _ hu => hu.copyRec) (.ite (.onMem h1 fun hm => Memory.wf_zeroWhere _ _ hm) h1))

protected theorem Keeps.coordinate {c fid} (h : Keeps s₀ s) : Keeps s₀ (coordinate c fid s).state := h.tallyOwn.holdFor

protected theorem Keeps.coordCheck {c k} (h : Keeps s₀ s) (hf : ∀ tb, Keeps s₀ (k tb).state) : Keeps s₀ (coordCheck c s k).state := by
  unfold coordCheck
  split
  · exact h.refuse
  · exact .iteOut h.refuse (.iteOut h.badField (hf _))

protected theorem Keeps.replicaCheck {add c} (h : Keeps s₀ s) : Keeps s₀ (replicaCheck add c s).state := by
  refine h.coordCheck fun _ => ?_
  refine .iteOut h.badField ?_
  refine .iteOut h.refuse ?_
  split
  · exact h.badArgByte
  · dsimp only
    split
    · exact h.badArgByte
    · exact .iteOut h.refuse h.coordinate

protected theorem Keeps.execCoordFail {m} (h : Keeps s₀ s) : Answers s₀ (execCoordFail m s) := by
  refine .next ?_
  split
  · exact .ite h.tallyWithdraw.grnEvent.respond.announce h
  · exact h

protected theorem Keeps.putHot {tb i row count} (h : Keeps s₀ s) : Keeps s₀ (putHot tb i row count s) := h.devWrite

protected theorem Keeps.execGranaryStats {m} (h : Keeps s₀ s) : Answers s₀ (execGranaryStats m s) := by
  refine .next ?_
  refine h.serveOp fun _ _ ht => ?_
  split
  · exact ht.refuse
  · exact .iteOut ht.tooSmall ht

protected theorem Keeps.execAgingSweep (h : Keeps s₀ s) : Answers s₀ (execAgingSweep s) := by
  refine .next ?_
  refine .ite h ?_
  refine h.onGrn.onGrn.each fun _ _ ht => ?_
  split
  · exact ht
  · exact ht.each fun _ _ hu => .ite hu hu.putHot

/-! ### Look-up and embedding gradients -/

protected theorem Keeps.onStepEntry {t n f} (h : Keeps s₀ s) : Keeps s₀ (onStepEntry t n f s) := h.onGrn

protected theorem Keeps.clearHalf {tb e} (h : Keeps s₀ s) : Keeps s₀ (clearHalf tb e s) :=
  h.each fun _ _ ht => .ite ht (ht.each fun _ _ hu => hu.tunClear)

protected theorem Keeps.openStep {t n} (h : Keeps s₀ s) : Keeps s₀ (openStep t n s) := by
  unfold openStep
  split
  · exact h
  · exact .ite h h.clearHalf.onGrn

protected theorem Keeps.sampleRow {tb row n} (h : Keeps s₀ s) : Keeps s₀ (sampleRow tb row n s) := by
  refine .ite h ?_
  dsimp only
  split <;> exact h.putHot

protected theorem Keeps.promote {t set e} (h : Keeps s₀ s) : Keeps s₀ (promote t set e s) := by
  refine .ite h ?_
  refine .ite h.onDir.countGrn ?_
  split
  · exact .ite h.onDir.onDir.countGrn h
  · exact h

protected theorem Keeps.pinWay {t e n} (h : Keeps s₀ s) : Keeps s₀ (pinWay t e n s) :=
  have h1 := h.onDir
  .ite h1 h1.onDir.onGrn.countGrn

protected theorem Keeps.resolveGranule {t tb l n} (h : Keeps s₀ s) : Keeps s₀ (resolveGranule t tb l n s).1 := by
  unfold resolveGranule
  dsimp only
  split
  · exact .pinWay (.promote (.onDir (.ite h.countGrn h)))
  · exact have h1 := h.placeGranule; by
      split
      · exact h1.pinWay
      · exact h1

protected theorem Keeps.putSlot {tb n slot row addr} (h : Keeps s₀ s) : Keeps s₀ (putSlot tb n slot row addr s) := h.devWrite

protected theorem Keeps.answerSlot {slot} (h : Keeps s₀ s) : Keeps s₀ (answerSlot slot s) := by
  unfold answerSlot
  split <;> exact h.set

protected theorem Keeps.setFull {t n row} (h : Keeps s₀ s) : Keeps s₀ (setFull t n row s) := h.onStepEntry.countGrn.grnEvent

protected theorem Keeps.resolveRow {t rank mb row} (h : Keeps s₀ s) : Keeps s₀ (resolveRow t rank mb row s) := by
  unfold resolveRow
  dsimp only
  split
  · exact h
  · exact
      .ite h <|
      have h1 := h.openStep.onGrn
      .ite (.ite h1.answerSlot (.ite h1.sampleRow.answerSlot h1.resolveGranule.sampleRow.answerSlot)) <|
      .ite (.answerSlot (.ite h1.countGrn.grnEvent h1)) <|
      have h2 := h1.resolveGranule.countGrn.putSlot.onStepEntry
      .answerSlot (.sampleRow (.ite h2.setFull h2))

protected theorem Keeps.overRow {t row} (h : Keeps s₀ s) : Keeps s₀ (overRow t row s) := h.onGrn.countGrn.grnEvent

protected theorem Keeps.requestRow {t rank mb row answer} (h : Keeps s₀ s) : Keeps s₀ (requestRow t rank mb row answer s) := by
  unfold requestRow
  split
  · exact h
  · refine .ite h.resolveRow ?_
    refine .ite ?_ h
    split
    · exact h.overRow
    · exact h.onGrn

protected theorem Keeps.ingestIndex {rank t mb tb row} {x : Ingest} (h : Keeps s₀ x.s) : Keeps s₀ (ingestIndex rank t mb tb row x).1.s := by
  unfold ingestIndex
  split
  · exact h.countGrn
  split
  · exact h.countGrn
  split
  · exact h
  dsimp only
  split
  · exact h
  split
  · exact h.countGrn
  · exact h

protected theorem Keeps.ingestBag {rank t mb tb rows} {x : Ingest} (h : Keeps s₀ x.s) :
    Keeps s₀ (ingestBag rank t mb tb rows x).1.s := by
  induction rows generalizing x with
  | nil => exact h
  | cons _ _ ih => exact ih h.ingestIndex

protected theorem Keeps.ingestOne {base smp f d x} (h : Keeps s₀ x.s) : Keeps s₀ (ingestOne base smp f d x).s := by
  unfold ingestOne
  split
  · exact h
  · exact (Keeps.ingestBag (.iteIngest h.countGrn h)).onGrn

protected theorem Keeps.streamBytes {req d mb off bs} (h : Keeps s₀ s) : Keeps s₀ (streamBytes req d mb off bs s) :=
  .ite h.devWrite h

protected theorem Keeps.streamReady {d} (h : Keeps s₀ s) : Keeps s₀ (streamReady d s) := h.onFab

protected theorem Keeps.sendAsks (h : Keeps s₀ s) : Keeps s₀ (sendAsks s) := by
  refine h.each fun _ _ ht => ?_
  refine ht.each fun _ _ hu => ?_
  split
  · exact hu
  · exact (hu.each fun _ _ hv => hv.streamBytes).streamReady

protected theorem Keeps.ingest {base} (h : Keeps s₀ s) : Keeps s₀ (ingest base s) :=
  ((h.onGrn.foldlIngest fun _ _ ht => ht.foldlIngest fun _ _ hu => hu.ingestOne).onGrn.each fun _ _ ht => ht.grnEvent).sendAsks.each fun _ _ ht =>
    .ite ht.resolveRow ht

protected theorem Keeps.poisonSlot {t tb n slot row} (h : Keeps s₀ s) : Keeps s₀ (poisonSlot t tb n slot row s) :=
  have h1 := h.poisonWay
  .ite h1 h1.devWrite.countGrn.grnEvent

protected theorem Keeps.fillBlock {e t tb d o} (h : Keeps s₀ s) : Keeps s₀ (fillBlock e t tb d o s) :=
  have h1 := h.copyBytes
  .ite (h1.onDir.each fun _ _ ht => .ite (ht.each fun _ _ hu => hu.poisonSlot) ht) h1

protected theorem Keeps.execSectorFill {entry sector err} (h : Keeps s₀ s) : Answers s₀ (execSectorFill entry sector err s) := by
  refine .next ?_
  refine .ite h ?_
  split
  · exact h
  · exact (h.meetError.each fun _ _ ht => ht.fillBlock).onDir.countGrn

protected theorem Keeps.defaultBytes {tb} (h : Keeps s₀ s) : Keeps s₀ (defaultBytes tb s).1 := .iteFst h.devRead h

protected theorem Keeps.ownRow {t tb row} (h : Keeps s₀ s) : Keeps s₀ (ownRow t tb row s).1 :=
  .iteFst h <|
  .iteFst h <|
  have h1 := h.devRead
  .iteFst h1.poisonSlot h1

protected theorem Keeps.lateRow {t mb row} (h : Keeps s₀ s) : Keeps s₀ (lateRow t mb row s) := .ite h h.onGrn.countGrn.grnEvent
protected theorem Keeps.substRow {key} (h : Keeps s₀ s) : Keeps s₀ (substRow key s) := h.onGrn

protected theorem Keeps.replicaRead {t tb i} (h : Keeps s₀ s) : Keeps s₀ (replicaRead t tb i s).1 :=
  have h1 := h.devRead
  .iteFst h1.countGrn.grnEvent h1

protected theorem Keeps.positionRow {t tb p sent} (h : Keeps s₀ s) : Keeps s₀ (positionRow t tb p sent s).1 := by
  unfold positionRow
  split
  · exact h
  · exact h.replicaRead
  · exact .iteFst h.ownRow h

protected theorem Keeps.poolPos {t mb key tb p sent} (h : Keeps s₀ s) : Keeps s₀ (poolPos t mb key tb p sent s).1 := by
  unfold poolPos
  dsimp only
  split
  · exact h.positionRow
  · refine .defaultBytes ?_
    refine .substRow ?_
    split
    · exact h.positionRow.lateRow
    · exact h.positionRow

protected theorem Keeps.poolRows {t mb key tb ps} (h : Keeps s₀ s) : Keeps s₀ (poolRows t mb key tb ps s).1 := by
  induction ps generalizing key s with
  | nil => exact h
  | cons x _ ih => obtain ⟨_, _⟩ := x; exact ih h.poolPos

protected theorem Keeps.serveRow {t tb d mb i row} (h : Keeps s₀ s) : Keeps s₀ (serveRow t tb d mb i row s) := by
  unfold serveRow
  dsimp only
  split
  · exact h.ownRow.streamBytes
  · exact h.ownRow.defaultBytes.streamBytes
  · exact h.ownRow.countGrn.grnEvent.streamBytes

protected theorem Keeps.serveRows {d off len} (h : Keeps s₀ s) : Keeps s₀ (serveRows d off len s) := by
  unfold serveRows
  split
  · exact h
  · split
    · exact h
    · exact h.each fun _ _ ht => ht.each fun _ _ hu => .ite hu.serveRow hu

protected theorem Keeps.pool {smp f rows} (h : Keeps s₀ s) : Keeps s₀ (pool smp f rows s) := by
  unfold pool
  split
  · exact h
  · split
    · exact h
    · exact h.poolRows.devWrite

protected theorem Keeps.addWindows {addr xs} (h : Keeps s₀ s) : Keeps s₀ (addWindows addr xs s) :=
  h.each fun _ _ ht => ht.tunAddVal

protected theorem Keeps.gradSlot {tb n slot xs} (h : Keeps s₀ s) : Keeps s₀ (gradSlot tb n slot xs s) :=
  .ite h (.addWindows (.ite h h.devWrite))

protected theorem Keeps.gradSlots {tb n used xs handles} (h : Keeps s₀ s) : Keeps s₀ (gradSlots tb n used xs handles s) :=
  h.each fun _ _ ht => .ite ht.gradSlot ht

protected theorem Keeps.gradientRecord {t k blocks handles} (h : Keeps s₀ s) : Keeps s₀ (gradientRecord t k blocks handles s) := by
  unfold gradientRecord
  split
  · exact h
  · exact .ite h.gradSlots h

protected theorem Keeps.releasePins {n hold} (h : Keeps s₀ s) : Keeps s₀ (releasePins n hold s).1 :=
  h.each fun _ _ ht => .ite ht ht.unpin

protected theorem Keeps.asidePins {n} (h : Keeps s₀ s) : Keeps s₀ (asidePins n s) := .ite h h.onGrn

protected theorem Keeps.heldBooks (h : Keeps s₀ s) : Keeps s₀ (heldBooks s) := by
  unfold heldBooks
  split
  · exact h
  · exact
      have h1 := h.onGrn
      .ite h1 h1.grnEvent

protected theorem Keeps.pinBooks {n} (h : Keeps s₀ s) : Keeps s₀ (pinBooks n s) :=
  have h1 := h.onGrn
  .ite h1 h1.grnEvent

/-! ### Resharding -/

protected theorem Keeps.reshardShape {c k} (h : Keeps s₀ s) (hf : ∀ tb, Keeps s₀ (k tb).state) : Keeps s₀ (reshardShape c s k).state :=
  h.coordCheck fun _ => .iteOut h.badField (.iteOut h.badField (.iteOut h.refuse (hf _)))

protected theorem Keeps.execReshard {m} (h : Keeps s₀ s) : Answers s₀ (execReshard m s) := by
  refine .next ?_
  refine h.serve fun _ _ ht => ?_
  refine ht.reshardShape fun _ => ?_
  dsimp only
  split
  · exact ht.badArgByte
  · exact .iteOut ht.refuse (.iteOut ht.refuse ht.coordinate)

protected theorem Keeps.execReshardCancel {m} (h : Keeps s₀ s) : Answers s₀ (execReshardCancel m s) := by
  refine .next ?_
  refine h.serve fun _ _ ht => ?_
  refine ht.reshardShape fun _ => ?_
  split
  · exact ht.badArgByte
  · exact ht.coordinate

protected theorem Keeps.mirrorRow {t tb row bs} (h : Keeps s₀ s) : Keeps s₀ (mirrorRow t tb row bs s) := .ite h.onGrn h

protected theorem Keeps.takeCopy {t tb} (h : Keeps s₀ s) : Keeps s₀ (takeCopy t tb s).1 := by
  unfold takeCopy
  split
  · exact h.onGrn
  · split
    · exact h
    · exact h.recRead.onGrn

protected theorem Keeps.putCopies {t tb a size n} (h : Keeps s₀ s) : Keeps s₀ (putCopies t tb a size n s) := by
  induction n generalizing a s with
  | zero => exact h
  | succ _ ih => exact ih h.takeCopy.devWrite

protected theorem Keeps.fillReshard {d off len} (h : Keeps s₀ s) : Keeps s₀ (fillReshard d off len s) := by
  unfold fillReshard
  split
  · exact h
  · exact h.putCopies.onFab

protected theorem Keeps.execReshardRecord {table shard index record mirrored} (h : Keeps s₀ s) :
    Answers s₀ (execReshardRecord table shard index record mirrored s) := by
  refine .next ?_
  dsimp only
  split
  · exact h
  · exact
      .ite h <|
      .ite h <|
      have h1 := h.recRead
      .ite h1 (.onGrn (.recWrite (.ite h1 h)))

protected theorem Keeps.execReshardComplete {table} (h : Keeps s₀ s) : Answers s₀ (execReshardComplete table s) := by
  refine .next ?_
  split
  · exact h
  · exact .ite h h.tallyOwn

protected theorem Keeps.execReshardFail {table} (h : Keeps s₀ s) : Answers s₀ (execReshardFail table s) := by
  refine .next ?_
  split
  · exact h
  · exact .ite h h.event

protected theorem Keeps.freeSlot {t tb slot} (h : Keeps s₀ s) : Keeps s₀ (freeSlot t tb slot s) :=
  h.each fun _ _ ht => .ite (.ite ht.dropWay ht.emptyWay) ht

protected theorem Keeps.reshardAt {t w} (h : Keeps s₀ s) : Keeps s₀ (reshardAt t w s) := by
  unfold reshardAt
  split
  · exact h
  · refine .onTable ?_
    dsimp only
    split
    · exact h.onGrn
    · exact (h.each fun _ _ ht => .ite ht.freeSlot ht).onGrn
    · exact (h.each fun _ _ ht => .ite ht.freeSlot ht).onGrn
    · exact h

/-! ### The Lauter engine -/

protected theorem Keeps.onTensor {t f} (h : Keeps s₀ s) : Keeps s₀ (State.onTensor t f s) := h.onLtr
protected theorem Keeps.countLtr {k i n} (h : Keeps s₀ s) : Keeps s₀ (countLtr k i n s) := h.onLtr
protected theorem Keeps.ltrEvent {b k x} (h : Keeps s₀ s) : Keeps s₀ (ltrEvent b k x s) := h.event
protected theorem Keeps.onNorms {k f} (h : Keeps s₀ s) : Keeps s₀ (onNorms k f s) := h.onLtr

protected theorem Keeps.bookDense {t j i} (h : Keeps s₀ s) : Keeps s₀ (bookDense t j i s) := by
  unfold bookDense
  split
  · exact h.bookAdd
  · exact h

protected theorem Keeps.noiseReduced {k rs g} (h : Keeps s₀ s) : Keeps s₀ (noiseReduced k rs g s) :=
  have h1 := h.onNorms
  .ite h1.ltrEvent h1

protected theorem Keeps.noiseLocal {k rs vs} (h : Keeps s₀ s) : Keeps s₀ (noiseLocal k rs vs s) :=
  have h1 := h.onNorms
  .ite h1.ltrEvent h1

protected theorem Keeps.signalDist {t d} (h : Keeps s₀ s) : Keeps s₀ (signalDist t d s) := h.each fun _ _ ht => ht.onFab

protected theorem Keeps.formCopyAt {t d half k j w} (h : Keeps s₀ s) : Keeps s₀ (formCopyAt t d half k j w s) :=
  h.devWrite.onPlot.each fun _ _ ht => ht.devWrite

protected theorem Keeps.formCopy {t d j w} (h : Keeps s₀ s) : Keeps s₀ (formCopy t d j w s) := h.formCopyAt.onTensor
protected theorem Keeps.formAll {t d} (h : Keeps s₀ s) : Keeps s₀ (formAll t d s) := h.onTensor.each fun _ _ ht => ht.formCopy

protected theorem Keeps.denseDone {t d j} (h : Keeps s₀ s) : Keeps s₀ (denseDone t d j s) :=
  have h1 := h.onTensor
  .ite (.ite h1.formAll.signalDist h1) h1.signalDist

protected theorem Keeps.freezeTensor {k t js} (h : Keeps s₀ s) : Keeps s₀ (freezeTensor k t js s) :=
  h.onTensor.ltrEvent.each fun _ _ ht => ht.bookDense.onTensor

protected theorem Keeps.putDense {t d j bs} (h : Keeps s₀ s) : Keeps s₀ (putDense t d j bs s) :=
  have h1 := h.devWrite
  .ite h1 h1.formCopy

protected theorem Keeps.writeUnchanged {t d recs} (h : Keeps s₀ s) : Keeps s₀ (writeUnchanged t d recs s) :=
  h.each fun _ _ ht => ht.putDense.bookDense.denseDone

protected theorem Keeps.countLate {k t} (h : Keeps s₀ s) : Keeps s₀ (countLate k t s) := .ite h.countLtr h

protected theorem Keeps.carryUnit {k t d recs} (h : Keeps s₀ s) : Keeps s₀ (carryUnit k t d recs s) :=
  h.countLate.writeUnchanged.countLtr

protected theorem Keeps.readDense {d c ks} (h : Keeps s₀ s) : Keeps s₀ (readDense d c ks s).1 := by
  induction ks generalizing s with
  | nil => exact h
  | cons _ _ ih => exact ih h.devRead

protected theorem Keeps.readSlot {pc b i} (h : Keeps s₀ s) : Keeps s₀ (readSlot pc b i s).1 := h.devRead

protected theorem Keeps.readRoot {k pc b sel} (h : Keeps s₀ s) : Keeps s₀ (readRoot k pc b sel s).1 :=
  .iteFst h.countLtr <|
  have h1 := h.readSlot
  .iteFst h1 <|
  have h2 := h1.ltrEvent
  .iteFst h2.countLtr <|
  have h3 := h2.readSlot
  .iteFst h3.countLtr h3

protected theorem Keeps.unitDirection {k t d rs js g} (h : Keeps s₀ s) : Keeps s₀ (unitDirection k t d rs js g s).1 := by
  refine .iteFst h ?_
  split
  · exact h.countLtr
  · exact have h1 := h.readRoot; by
      dsimp only
      split <;> exact h1

protected theorem Keeps.clipGroups {k rs g} (h : Keeps s₀ s) : Keeps s₀ (clipGroups k rs g s).1 := h.countLtr

protected theorem Keeps.writeUnit {k t d n recs x} (h : Keeps s₀ s) : Keeps s₀ (writeUnit k t d n recs x s) :=
  h.countLate.countLtr.each fun _ _ ht => ht.putDense.bookDense.denseDone

protected theorem Keeps.applyUnit {k t d rs js raw g} (h : Keeps s₀ s) : Keeps s₀ (applyUnit k t d rs js raw g s) :=
  have h1 := h.readDense
  .ite h1.freezeTensor <|
  .ite h1.writeUnchanged.countLtr <|
  have h2 := h1.unitDirection
  .ite h2.noiseReduced.writeUnit h2.countLtr.ltrEvent.carryUnit

protected theorem Keeps.refuseUnit {k t d js bad} (h : Keeps s₀ s) : Keeps s₀ (refuseUnit k t d js bad s) :=
  have h1 := h.readDense
  .ite h1.freezeTensor (.ite h1.writeUnchanged.countLtr (.carryUnit (.ite h1.countLtr.ltrEvent h1)))

protected theorem Keeps.deferUnit {k t d rs js g} (h : Keeps s₀ s) : Keeps s₀ (deferUnit k t d rs js g s) :=
  (h.each fun _ _ ht => ht.devWrite.onTensor).onNorms

protected theorem Keeps.applyDeferred {k t d rs f js} (h : Keeps s₀ s) : Keeps s₀ (applyDeferred k t d rs f js s) := by
  unfold applyDeferred
  split
  · exact h
  · split
    · exact h.applyUnit
    · exact h.refuseUnit
    · exact h.refuseUnit

protected theorem Keeps.sendNorm {k} (h : Keeps s₀ s) : Keeps s₀ (sendNorm k s) := .ite h.onNorms h
protected theorem Keeps.normAfter {k rs} (h : Keeps s₀ s) : Keeps s₀ (normAfter k rs s) := .ite h.sendNorm h

protected theorem Keeps.denseUpdate {t j} (h : Keeps s₀ s) : Keeps s₀ (denseUpdate t j s) := by
  unfold denseUpdate
  split
  · exact h
  · split
    · exact h
    · refine .ite h ?_
      refine .ite h.countLtr ?_
      dsimp only
      split
      · exact h
      · refine .ite (h.each fun _ _ ht => ht.bookDense.denseDone) ?_
        refine .ite h ?_
        split
        · exact h.refuseUnit.normAfter
        · exact h.refuseUnit.normAfter
        · exact have h1 := h.clipGroups; by
            refine .ite ?_ h1.applyUnit
            exact have h2 := h1.deferUnit.sendNorm; by
              split
              · exact h2.applyDeferred
              · exact h2

protected theorem Keeps.normReduction {k q sats} (h : Keeps s₀ s) : Keeps s₀ (normReduction k q sats s) := by
  unfold normReduction
  split
  · exact h
  · exact
      .ite h <|
      .ite (h.ltrEvent.each fun _ _ ht => ht.each fun _ _ hu => hu.refuseUnit) <|
      .each (.ite h h.countLtr) fun _ _ ht => ht.onTensor.each fun _ _ hu => hu.applyDeferred

protected theorem Keeps.distArrival {t owner first payload absent} (h : Keeps s₀ s) :
    Keeps s₀ (distArrival t owner first payload absent s) := by
  unfold distArrival
  split
  · exact h
  · exact .ite h (.ite h.onTensor h.devWrite.onTensor)

protected theorem Keeps.takeWindow {clr a} (h : Keeps s₀ s) : Keeps s₀ (takeWindow clr a s).1 := h.tunReadOp.set

protected theorem Keeps.takeWindows {clr a n} (h : Keeps s₀ s) : Keeps s₀ (takeWindows clr a n s).1 := by
  induction n generalizing a s with
  | zero => exact h
  | succ _ ih => exact ih h.takeWindow

protected theorem Keeps.clearWindows {a dim} (h : Keeps s₀ s) : Keeps s₀ (clearWindows a dim s) :=
  h.each fun _ _ ht => ht.tunClear

protected theorem Keeps.updateRow {k t tb rs n slot row addr raw} (h : Keeps s₀ s) :
    Keeps s₀ (updateRow k t tb rs n slot row addr raw s) :=
  have h1 := Keeps.devRead (.ite h.countLtr h)
  by
    refine .ite h1.poisonSlot ?_
    refine .ite h1.countLtr ?_
    split
    · exact h1.countLtr.ltrEvent
    · exact
        have h2 := h1.devWrite.countLtr.noiseReduced.mirrorRow
        .ite h2.onDir h2

protected theorem Keeps.touchedRow {t tb n slot w p} (h : Keeps s₀ s) : Keeps s₀ (touchedRow t tb n slot w p s) := by
  unfold touchedRow
  dsimp only
  split
  · exact h.clearWindows
  · exact
      .ite h.clearWindows <|
      have h1 := h.takeWindows
      .ite h1 (.ite h1.countLtr.ltrEvent (.ite h1.countLtr.ltrEvent h1.updateRow))

protected theorem Keeps.passPins {n} (h : Keeps s₀ s) : Keeps s₀ (passPins n s) := h.each fun _ _ ht => .ite ht.unpin ht

protected theorem Keeps.lateSlot {t n touched} (h : Keeps s₀ s) : Keeps s₀ (lateSlot t n touched s) := by
  unfold lateSlot
  split
  · exact h.passPins
  · exact
      have h1 := Keeps.ite h.countLtr h
      .passPins (.ite h1.ltrEvent h1)

protected theorem Keeps.embeddingUpdate {t slot} (h : Keeps s₀ s) : Keeps s₀ (embeddingUpdate t slot s) := by
  unfold embeddingUpdate
  split
  · exact h
  · refine .ite h ?_
    split
    · exact h
    · refine .ite ?_ ?_
      · split
        · exact h.countLtr
        · exact h
      · exact
          .ite h <|
          have h1 := Keeps.onStepEntry (.ite h.touchedRow h)
          .ite h1.lateSlot h1

protected theorem Keeps.cutWalk {t n} (h : Keeps s₀ s) : Keeps s₀ (cutWalk t n s) := by
  unfold cutWalk
  split
  · exact h
  · exact
      .ite h <|
      have h1 := h.each fun _ _ ht => ht.clearWindows
      .passPins (.ltrEvent (.onStepEntry (.ite h1.countLtr h1)))

protected theorem Keeps.bookReplica {r i bs} (h : Keeps s₀ s) : Keeps s₀ (bookReplica r i bs s) := .ite h.bookAdd h

protected theorem Keeps.updateReplica {r tb pos bs} (h : Keeps s₀ s) : Keeps s₀ (updateReplica r tb pos bs s) := by
  unfold updateReplica
  dsimp only
  split
  · exact h.bookReplica
  · refine .ite h.countLtr ?_
    exact have h1 := h.onLtr; by
      refine .ite h1.bookReplica ?_
      refine .ite h1.countLtr.ltrEvent.bookReplica ?_
      exact have h2 := Keeps.devRead (.ite h1.countLtr h1); by
        refine .ite h2.countGrn.grnEvent.bookReplica ?_
        refine .ite h2.countLtr.bookReplica ?_
        split
        · exact h2.countLtr.ltrEvent.bookReplica
        · exact
            have h3 := h2.devWrite.countLtr.bookReplica
            .ite h3.noiseReduced h3

protected theorem Keeps.applyReplica {r tb pos} (h : Keeps s₀ s) : Keeps s₀ (applyReplica r tb pos s) := by
  unfold applyReplica
  split
  · exact h
  · exact h.updateReplica.onLtr

protected theorem Keeps.applyReplicas (h : Keeps s₀ s) : Keeps s₀ (applyReplicas s) := by
  refine .ite h ?_
  refine h.each fun _ _ ht => ?_
  split
  · exact ht
  · split
    · exact ht
    · exact ht.applyReplica

protected theorem Keeps.divergedRow {t row} (h : Keeps s₀ s) : Keeps s₀ (divergedRow t row s) := h.event

protected theorem Keeps.reducedBlock {g b payload absent} (h : Keeps s₀ s) : Keeps s₀ (reducedBlock g b payload absent s) := by
  unfold reducedBlock
  split
  · exact h
  · split
    · exact h
    · exact .ite h (.ite h.divergedRow (.ite h.ltrEvent.divergedRow h.onLtr.applyReplicas))

protected theorem Keeps.ownContrib {r base} (h : Keeps s₀ s) : Keeps s₀ (ownContrib r base s).1 := h.devRead

protected theorem Keeps.sendReduced {g b bs} (h : Keeps s₀ s) : Keeps s₀ (sendReduced g b bs s) :=
  h.each fun _ _ ht => ht.devWrite.onFab

protected theorem Keeps.formReduced {r b x} (h : Keeps s₀ s) : Keeps s₀ (formReduced r b x s) := by
  unfold formReduced
  split
  · exact h.bookAdd
  · exact h.sendReduced.reducedBlock

protected theorem Keeps.dropLate {t j} (h : Keeps s₀ s) : Keeps s₀ (dropLate t j s) := by
  unfold dropLate
  split
  · exact h
  · split
    · exact h
    · exact .ite h.countLate h

protected theorem Keeps.reduceDone {r b} (h : Keeps s₀ s) : Keeps s₀ (reduceDone r b s) :=
  .ite h <|
  have h1 := h.bookAdd.bookAdd.bookAdd.onLtr
  have h2 := Keeps.ite h1 h1.event
  .ite h2.formReduced (.ite (.bookAdd (.ite h2.dropLate h2)) h2.onTensor)

protected theorem Keeps.takeBlock {r b vals} (h : Keeps s₀ s) : Keeps s₀ (takeBlock r b vals s) :=
  .reduceDone (.onLtr (.ite h.ltrEvent h))

protected theorem Keeps.takeContrib {r rank bs absent} (h : Keeps s₀ s) : Keeps s₀ (takeContrib r rank bs absent s) :=
  h.onLtr.each fun _ _ ht => ht.takeBlock

protected theorem Keeps.takeOwn {r} (h : Keeps s₀ s) : Keeps s₀ (takeOwn r s) := h.ownContrib.takeContrib

protected theorem Keeps.contribArrival {g rank payload absent} (h : Keeps s₀ s) :
    Keeps s₀ (contribArrival g rank payload absent s) := by
  unfold contribArrival
  split
  · exact h
  · exact .ite h (.ite h.takeOwn (.ite h.takeContrib (.ite h.event.takeContrib h.takeContrib)))

protected theorem Keeps.replicaVals {r tb i} (h : Keeps s₀ s) : Keeps s₀ (replicaVals r tb i s).1 :=
  have h1 := h.takeWindows
  .ite h1.countLtr.ltrEvent h1

protected theorem Keeps.replicaSums {r tb ps} (h : Keeps s₀ s) : Keeps s₀ (replicaSums r tb ps s).1 := by
  induction ps generalizing s with
  | nil => exact h
  | cons _ _ ih => exact ih h.replicaVals

protected theorem Keeps.presentK {p tag vs} (h : Keeps s₀ s) : Keeps s₀ (presentK p tag vs s) := h.setSlotK.onPlot

protected theorem Keeps.replicaContrib {r tb} (h : Keeps s₀ s) : Keeps s₀ (replicaContrib r tb s).1 :=
  h.replicaSums.each fun _ _ ht => ht.presentK

protected theorem Keeps.formReplicaContribs (h : Keeps s₀ s) : Keeps s₀ (formReplicaContribs s) := by
  refine h.each fun _ _ ht => ?_
  split
  · exact ht
  · exact .ite ht (ht.replicaContrib.devWrite.each fun _ _ hu => hu.devWrite.semPostAt)

protected theorem Keeps.putHead {g base} (h : Keeps s₀ s) : Keeps s₀ (putHead g base s) := by
  unfold putHead
  split
  · exact h
  · exact .ite h h.devWrite

protected theorem Keeps.gradMiss {t} (h : Keeps s₀ s) : Keeps s₀ (gradMiss t s) := h.onGrn
protected theorem Keeps.bagGrad {d dim smp n} (h : Keeps s₀ s) : Keeps s₀ (bagGrad d dim smp n s).1 := h.devRead

protected theorem Keeps.gradBag {d tb smp key bag} (h : Keeps s₀ s) : Keeps s₀ (gradBag d tb smp key bag s).1 :=
  have h1 := h.bagGrad
  by
    refine .iteFst h1.gradMiss ?_
    refine .iteFst h1 ?_
    exact have h2 := h1.presentK; by
      refine .each ?_ fun _ _ ht => ?_
      · split
        · exact h2.noiseLocal
        · exact h2
      · split
        · exact ht.addWindows
        · exact ht.gradSlot
        · exact ht.gradMiss
        · exact ht

protected theorem Keeps.gradBags {bs} (h : Keeps s₀ s) : Keeps s₀ (gradBags bs s).1 := by
  induction bs generalizing s with
  | nil => exact h
  | cons _ _ ih =>
    refine ih ?_
    split
    · exact h
    · split
      · exact h
      · exact h.gradBag

protected theorem Keeps.sendGrads {t p outs} (h : Keeps s₀ s) : Keeps s₀ (sendGrads t p outs s) := by
  unfold sendGrads
  dsimp only
  split
  · exact .ite h h.gradMiss
  · exact (h.each fun _ _ ht => .ite ht.gradMiss ht.streamBytes).streamReady

protected theorem Keeps.formGradRecords (h : Keeps s₀ s) : Keeps s₀ (formGradRecords s) :=
  .ite h (h.gradBags.each fun _ _ ht => ht.each fun _ _ hu => hu.sendGrads)

/-! ### Flits and frames -/

protected theorem Keeps.absentAtSource {p r} (h : Keeps s₀ s) : Keeps s₀ (absentAtSource p r s) :=
  have h1 := h.onFab.each fun _ _ ht => .ite ht.gradMiss ht
  .ite h1.syncCount h1

protected theorem Keeps.fillRun {r} (h : Keeps s₀ s) : Keeps s₀ (fillRun r s) := by
  unfold fillRun
  split
  · exact h
  · exact .ite h (.ite h.serveRows.onFab (.ite h.putHead (.ite h.fillReshard h)))

protected theorem Keeps.checkRun {p i} (h : Keeps s₀ s) : Keeps s₀ (checkRun p i s) := by
  unfold checkRun
  split
  · exact h
  · exact
      .ite h <|
      have h1 := h.fillRun.onFlow
      .ite h1 <|
      have h2 := h1.countPort
      have h3 := Keeps.ite h2.absentAtSource h2
      .ite h3.pushWithy h3

protected theorem Keeps.refill {p} (h : Keeps s₀ s) : Keeps s₀ (refill p s) := h.onFlow
protected theorem Keeps.sendNew {p} (h : Keeps s₀ s) : Keeps s₀ (sendNew p s) := h.onFlow.refill
protected theorem Keeps.sendAgain {p} (h : Keeps s₀ s) : Keeps s₀ (sendAgain p s) := h.onFlow

protected theorem Keeps.sendWithy {p} (h : Keeps s₀ s) : Keeps s₀ (sendWithy p s) :=
  .ite h.onFlow.countPort.event (.ite h.sendAgain h.sendNew)

protected theorem Keeps.sendBody {p body} (h : Keeps s₀ s) : Keeps s₀ (sendBody p body s) := h.onFlow

protected theorem Keeps.forwardAbsent {p r k rank} (h : Keeps s₀ s) : Keeps s₀ (forwardAbsent p r k rank s) :=
  h.sendBody.countPort.pushWithy

protected theorem Keeps.sendForward {p r k} (h : Keeps s₀ s) : Keeps s₀ (sendForward p r k s) := by
  unfold sendForward
  split
  · exact h.sendBody
  · dsimp only
    split
    · exact have h1 := h.onFlow; by
        split
        · exact h1.sendBody.countPort
        · exact h1.forwardAbsent
    · exact .ite h.onFlow.forwardAbsent (.ite h.forwardAbsent h.countPort.onFlow.event.forwardAbsent)

protected theorem Keeps.dropForward {p r k} (h : Keeps s₀ s) : Keeps s₀ (dropForward p r k s) := by
  unfold dropForward
  split
  · exact h.onFlow
  · exact h

protected theorem Keeps.sendNothing {p i r k} (h : Keeps s₀ s) : Keeps s₀ (sendNothing p i r k s) :=
  have h1 := Keeps.ite h.countPort h
  .ite h1.dropForward h1

protected theorem Keeps.sendData {p k} (h : Keeps s₀ s) : Keeps s₀ (sendData p k s) := by
  unfold sendData
  split
  · exact h.sendBody
  · exact have h1 := h.checkRun; by
      dsimp only
      split
      · exact h1
      · refine .ite h1.sendNothing ?_
        refine .ite (.ite h1.sendBody.dropForward h1.sendBody) ?_
        refine .ite h1.sendForward ?_
        split
        · exact h1.sendBody
        · exact h1.devRead.sendBody.countPort

protected theorem Keeps.onPeer {p r f} (h : Keeps s₀ s) : Keeps s₀ (onPeer p r f s) := h.onFlow

protected theorem Keeps.sendFrame {p kind pos bodies} (h : Keeps s₀ s) : Keeps s₀ (sendFrame p kind pos bodies s) :=
  h.onFlow.countPort.onPeer

protected theorem Keeps.sendAck {p} (h : Keeps s₀ s) : Keeps s₀ (sendAck p s) := .ite h.sendFrame h

protected theorem Keeps.sendBodies {p r d k} (h : Keeps s₀ s) : Keeps s₀ (sendBodies p r d k s) :=
  .ite h.sendAck h.devRead.sendFrame.onFlow.countPort

protected theorem Keeps.sendSwitchedRun {p i r d} (h : Keeps s₀ s) : Keeps s₀ (sendSwitchedRun p i r d s) :=
  .ite (.ite h.sendBodies h.onFlow) <|
  have h1 := h.fillRun
  .ite h1.sendAck <|
  have h2 := h1.checkRun
  .ite h2.sendBodies h2.onFlow

protected theorem Keeps.sendSwitched {p} (h : Keeps s₀ s) : Keeps s₀ (sendSwitched p s) := by
  refine .ite h.onFlow.sendFrame.refill ?_
  split
  · exact h.sendAck
  · split
    · exact h.sendSwitchedRun
    · exact h

protected theorem Keeps.flitTime {p} (h : Keeps s₀ s) : Keeps s₀ (flitTime p s) :=
  .ite h.sendSwitched.onFlow (.onFlow (.ite (.ite h.sendWithy h) (.ite h.sendData h)))

protected theorem Keeps.streamFlit {d i body last} (h : Keeps s₀ s) : Keeps s₀ (streamFlit d i body last s) :=
  have h1 := h.devWrite.devWrite.onFab
  have h2 := Keeps.ite h1.caskFlit h1
  .ite h2.semPostAt h2

protected theorem Keeps.forwardIn {p k} (h : Keeps s₀ s) : Keeps s₀ (forwardIn p k s) :=
  .ite h.onFlow (.ite h.onFlow.countPort.event h.onFlow)

protected theorem Keeps.deliverPos {p r k} (h : Keeps s₀ s) : Keeps s₀ (deliverPos p r k s) := by
  unfold deliverPos
  extract_lets i m flit last s1 s2 s3
  have h1 : Keeps s₀ s1 := .ite h.countPort h.countPort
  clear_value s1
  have h2 : Keeps s₀ s2 := .ite h1.forwardIn h1
  clear_value s2
  have h3 : Keeps s₀ s3 := by
    refine .ite h2 ?_
    split
    · exact h2
    · exact h2.streamFlit
  clear_value s3
  exact .ite h3.onFlow h3

protected theorem Keeps.deliverFlit {p k} (h : Keeps s₀ s) : Keeps s₀ (deliverFlit p k s) := by
  unfold deliverFlit
  dsimp only
  split
  · exact h.onFlow
  · split
    · exact .ite h.onFlow.deliverPos h.onFlow
    · exact h.onFlow

protected theorem Keeps.deliverAbsent {p r k n} (h : Keeps s₀ s) : Keeps s₀ (deliverAbsent p r k n s) := by
  induction n generalizing k s with
  | zero => exact h
  | succ _ ih => exact ih h.deliverPos

protected theorem Keeps.cutRun {p} (h : Keeps s₀ s) : Keeps s₀ (cutRun p s) := h.countPort.syncEvent

protected theorem Keeps.cutRx {p n} (h : Keeps s₀ s) : Keeps s₀ (cutRx p n s) :=
  .onFlow <|
  h.each fun _ _ ht =>
    .ite
      (have h1 := ht.deliverAbsent
       .ite h1.cutRun h1)
      ht

protected theorem Keeps.partnerEpoch {p template} (h : Keeps s₀ s) : Keeps s₀ (partnerEpoch p template s) := by
  refine .onFlow ?_
  split
  · exact h.cutRx
  · exact h

protected theorem Keeps.deliverOne {p k} (h : Keeps s₀ s) : Keeps s₀ (deliverOne p k s) :=
  .ite h.deliverFlit (.ite h h.partnerEpoch)

protected theorem Keeps.deliverHeld {p} (h : Keeps s₀ s) : Keeps s₀ (deliverHeld p s) := h.onFlow.each fun _ _ ht => ht.deliverOne

protected theorem Keeps.cutTx {p} (h : Keeps s₀ s) : Keeps s₀ (cutTx p s) :=
  h.each fun _ _ ht => .ite (.cutRun (.ite ht ht.countPort)) ht

protected theorem Keeps.noteEpoch {p l} (h : Keeps s₀ s) : Keeps s₀ (noteEpoch p l s) := h.onFlow
protected theorem Keeps.noteAck {p l} (h : Keeps s₀ s) : Keeps s₀ (noteAck p l s) := h.onFlow
protected theorem Keeps.askAgain {p} (h : Keeps s₀ s) : Keeps s₀ (askAgain p s) := h.onFlow.pushWithy

protected theorem Keeps.dataFlit {p raw} (h : Keeps s₀ s) : Keeps s₀ (dataFlit p raw s) := by
  refine .ite h ?_
  dsimp only
  split
  · exact h.onFlow.countPort
  · exact h.onFlow.countPort.event

protected theorem Keeps.absentMsg {p marker flit rank} (h : Keeps s₀ s) : Keeps s₀ (absentMsg p marker flit rank s) := h.onFlow

protected theorem Keeps.execLinkDegraded {port} (h : Keeps s₀ s) : Answers s₀ (execLinkDegraded port s) :=
  .next <|
  have h1 := h.onFlow
  .ite h1.event h1

protected theorem Keeps.deliverBodies {p r at_ bs} (h : Keeps s₀ s) : Keeps s₀ (deliverBodies p r at_ bs s) := by
  induction bs generalizing at_ s with
  | nil => exact h
  | cons _ _ ih => exact ih h.deliverPos

protected theorem Keeps.dataFrame {p k bodies} (h : Keeps s₀ s) : Keeps s₀ (dataFrame p k bodies s) := by
  refine .ite h ?_
  dsimp only
  split
  · exact h
  · exact .ite h h.deliverAbsent.deliverBodies.onFlow

protected theorem Keeps.execSwitchedResend {port rank} (h : Keeps s₀ s) : Answers s₀ (execSwitchedResend port rank s) := by
  refine .next ?_
  dsimp only
  split
  · exact h
  · exact .ite h.onPeer.countPort h.onPeer.countPort.onFlow

/-! ### Bundles and batches -/

protected theorem Keeps.rejected {v} (h : Keeps s₀ s) : Keeps s₀ (rejected v s).state := h.refuse

protected theorem Keeps.execBundleLoad {m body} (h : Keeps s₀ s) : Answers s₀ (execBundleLoad m body s) := by
  refine .next ?_
  refine h.serveOp fun _ _ ht => ?_
  refine .iteOut ht.refuse ?_
  dsimp only
  split
  · exact ht.rejected
  · exact ht.onSch.okWith

protected theorem Keeps.execBundleActivate {m} (h : Keeps s₀ s) : Answers s₀ (execBundleActivate m s) := by
  refine .next ?_
  refine h.serveOp fun _ _ ht => ?_
  split
  · exact ht.refuse
  · exact .iteOut ht.badField (.iteOut ht.badField (.iteOut ht.refuse (.iteOut ht.refuse ht.tallyOwn.holdFor)))

protected theorem Keeps.execBundleCoordFail {m} (h : Keeps s₀ s) : Answers s₀ (execBundleCoordFail m s) := by
  refine .next ?_
  split
  · exact h
  · exact .ite h.tallyWithdraw.syncEvent.respond h

protected theorem Keeps.cancelPark (h : Keeps s₀ s) : Keeps s₀ (cancelPark s) := h.onMst
protected theorem Keeps.leavePark (h : Keeps s₀ s) : Keeps s₀ (leavePark s) := h.onMst

protected theorem Keeps.execUnpark {m} (h : Keeps s₀ s) : Answers s₀ (execUnpark m s) := by
  refine .next ?_
  refine h.serveOp fun _ _ ht => ?_
  refine .iteOut ht.refuse ?_
  split
  · exact ht.onHost.cancelPark.leavePark.okWith
  · split
    · exact ht.rejected
    · exact
        have h1 := ht.onHost
        .iteOut h1.dropUnpark.onMst.latch h1.cancelPark

protected theorem Keeps.execStepArm {m} (h : Keeps s₀ s) : Answers s₀ (execStepArm m s) := by
  refine .next ?_
  refine h.serveOp fun _ _ ht => ?_
  refine .iteOut ht.refuse ?_
  split
  · exact ht.badArgByte
  · exact .iteOut ht.refuse (.iteOut ht.refuse (.iteOut ht.refuse (.iteOut ht.refuse ht.devWrite.onSch.okWith)))

/-! ### Ports -/

protected theorem Keeps.portEvent {b p} (h : Keeps s₀ s) : Keeps s₀ (portEvent b p s) := h.event

protected theorem Keeps.dropLink {p} (h : Keeps s₀ s) : Keeps s₀ (dropLink p s) := by
  refine h.onFlow.each fun _ _ ht => ?_
  split
  · exact .ite ht ht.pushNet
  · exact ht

protected theorem Keeps.unsource {p} (h : Keeps s₀ s) : Keeps s₀ (unsource p s) := h.onPort

protected theorem Keeps.portDown {p cause} (h : Keeps s₀ s) : Keeps s₀ (portDown p cause s) :=
  h.onPort.countPort.dropLink.portEvent.tallyRecheck

protected theorem Keeps.sendNow {p words} (h : Keeps s₀ s) : Keeps s₀ (sendNow p words s) := h.onFlow

protected theorem Keeps.replayNotice {p seq} (h : Keeps s₀ s) : Keeps s₀ (replayNotice p seq s) :=
  .ite h (.ite h.portDown (by split <;> exact h.onFlow))

protected theorem Keeps.takeDelay {p ds} (h : Keeps s₀ s) : Keeps s₀ (takeDelay p ds s) := .ite h h.onPort

protected theorem Keeps.measReq {p id turnaround} (h : Keeps s₀ s) : Keeps s₀ (measReq p id turnaround s) :=
  .ite h.onFlow.pushWithy h

protected theorem Keeps.askDelay {p id} (h : Keeps s₀ s) : Keeps s₀ (askDelay p id s) := h.onFlow.pushWithy
protected theorem Keeps.startSet {p} (h : Keeps s₀ s) : Keeps s₀ (startSet p s) := h.onFlow.askDelay

protected theorem Keeps.measResp {p id t41 turnaround} (h : Keeps s₀ s) : Keeps s₀ (measResp p id t41 turnaround s) :=
  .ite h (.ite h.onFlow.askDelay h.onFlow.takeDelay)

protected theorem Keeps.holdPort {p state cause} (h : Keeps s₀ s) : Keeps s₀ (holdPort p state cause s) := h.onPort

protected theorem Keeps.joinPort {p rejoin} (h : Keeps s₀ s) : Keeps s₀ (joinPort p rejoin s) := by
  unfold joinPort
  dsimp only
  split
  · exact h.holdPort.onPort
  · refine .ite h.holdPort.portEvent ?_
    refine .ite h.holdPort.portEvent ?_
    exact have h1 := h.pushWithy; by
      split
      · exact .ite h1.holdPort.portEvent h1.holdPort.onPort.onFlow
      · exact h1.holdPort.onPort

protected theorem Keeps.enterTrained {p} (h : Keeps s₀ s) : Keeps s₀ (enterTrained p s) := by
  unfold enterTrained
  split
  · exact h.onPort
  · exact .tallyRecheck (.ite h.holdPort.portEvent (.ite h.holdPort h.joinPort))

protected theorem Keeps.detected {p cable cm power apps} (h : Keeps s₀ s) : Keeps s₀ (detected p cable cm power apps s) :=
  have h1 := h.onPort
  .ite h1.onPort (.ite h1.onPort h1.onPort)

protected theorem Keeps.nextStage {p cable cm power apps} (h : Keeps s₀ s) : Keeps s₀ (nextStage p cable cm power apps s) :=
  .ite h.detected <|
  .ite h.onPort (.ite (.ite h.onPort.tallyRecheck h.onPort.pushWithy) (.ite h.onPort.startSet (.ite h h.enterTrained)))

protected theorem Keeps.execTrainingStage {port outcome} (h : Keeps s₀ s) : Answers s₀ (execTrainingStage port outcome s) := by
  refine .next ?_
  refine .ite h ?_
  split
  · exact h.nextStage
  · exact h.onPort

protected theorem Keeps.startTraining {p stage cause} (h : Keeps s₀ s) : Keeps s₀ (startTraining p stage cause s) :=
  h.dropLink.onPort

protected theorem Keeps.capMsg {p rec} (h : Keeps s₀ s) : Keeps s₀ (capMsg p rec s) :=
  .ite h <|
  have h1 := h.onPort
  .ite h1.onPort h1

protected theorem Keeps.linkSig {p sig} (h : Keeps s₀ s) : Keeps s₀ (linkSig p sig s) := by
  unfold linkSig
  dsimp only
  split
  · exact h.onFlow
  · exact .ite h.onFlow.onPort.portEvent (.ite h.onFlow.onFlow (.ite h.onFlow.onPort.onFlow h.onFlow))

protected theorem Keeps.portNotice {p ev sig} (h : Keeps s₀ s) : Keeps s₀ (portNotice p ev sig s) :=
  .ite h (.ite h.linkSig (.ite h.startTraining.countPort.tallyRecheck h))

protected theorem Keeps.withyMessage {p ws} (h : Keeps s₀ s) : Keeps s₀ (withyMessage p ws s) := by
  unfold withyMessage
  dsimp only
  split
  · exact h
  · exact h.semPost
  · exact .ite h.tallyCombined h.tallyArrive
  · exact h.absentMsg
  · exact h.replayNotice
  · exact h.takeFree.measReq
  · exact h.takeFree.measResp
  · exact h.capMsg
  · exact h.portNotice
  · exact h.takeFree.release
  · exact h.countPort

protected theorem Keeps.takeFlit {p l ms} (h : Keeps s₀ s) : Keeps s₀ (takeFlit p l ms s) :=
  (h.onFlow.noteEpoch.each fun _ _ ht => ht.withyMessage).deliverHeld

protected theorem Keeps.skipFlit {p l ms} (h : Keeps s₀ s) : Keeps s₀ (skipFlit p l ms s) :=
  have h1 := h.each fun _ _ ht => .ite ht.withyMessage ht
  .ite h1 (.ite h1.noteEpoch h1.noteEpoch.askAgain)

protected theorem Keeps.withyFlit {p raw} (h : Keeps s₀ s) : Keeps s₀ (withyFlit p raw s) := by
  refine .ite h ?_
  split
  · exact h.onFlow.askAgain
  · exact
      have h1 := h.onFlow.countPort.noteAck
      .ite h1.takeFlit h1.skipFlit

protected theorem Keeps.switchedFrame {p k bodies} (h : Keeps s₀ s) : Keeps s₀ (switchedFrame p k bodies s) :=
  .ite h <|
  have h1 := h.countPort.onPeer
  .ite h1 <|
  .ite h1 <|
  have h2 := h1.onPeer
  .ite h2.dataFrame (h2.each fun _ _ ht => ht.withyMessage)

protected theorem Keeps.execCmisPoll {port flags} (h : Keeps s₀ s) : Answers s₀ (execCmisPoll port flags s) :=
  .next <|
  .ite h <|
  have h1 := Keeps.ite h.event h
  .ite h1.portDown h1

protected theorem Keeps.execSyntLock {port steer} (h : Keeps s₀ s) : Answers s₀ (execSyntLock port steer s) := by
  refine .next ?_
  split
  · exact .ite h.onFab h
  · exact .ite h.unsource.onFab.onPort h

protected theorem Keeps.portApply {c p} (h : Keeps s₀ s) : Keeps s₀ (portApply c p s) :=
  have h1 := h.onPort
  .ite
    (.ite h1 <|
     have h2 := h1.dropLink.onPort
     .tallyRecheck (.ite h2.countPort h2))
    (.ite
       (have h3 := h1.startTraining
        .tallyRecheck (.ite h3.countPort h3))
       h1)

protected theorem Keeps.moduleSet {c} (h : Keeps s₀ s) : Keeps s₀ (moduleSet c s) :=
  have h1 := Keeps.ite h.onFab h
  .ite (.ite h1.unsource.onFab h1.onFab) h1

protected theorem Keeps.execPortConfig {m} (h : Keeps s₀ s) : Answers s₀ (execPortConfig m s) := by
  refine .next ?_
  refine h.serveOp fun _ _ ht => ?_
  split
  · exact ht.badField
  · exact .iteOut ht.refuse (ht.moduleSet.each fun _ _ hu => hu.portApply).okWith

protected theorem Keeps.execPortRetrain {m} (h : Keeps s₀ s) : Answers s₀ (execPortRetrain m s) :=
  .next <|
  h.serveOp fun _ _ ht =>
    .iteOut ht.refuse (.iteOut ht.refuse (.okWith (.tallyRecheck (.countPort (.startTraining (.ite ht.sendNow ht))))))

protected theorem Keeps.execSetMac {m} (h : Keeps s₀ s) : Answers s₀ (execSetMac m s) := by
  refine .next ?_
  refine h.serve fun _ _ ht => ?_
  refine .iteOut ht.badField ?_
  split
  · exact ht.badArgByte
  · exact ht.onFab.okWith

/-! ### Update definitions -/

protected theorem Keeps.execRuleSet {m} (h : Keeps s₀ s) : Answers s₀ (execRuleSet m s) := by
  refine .next ?_
  refine h.serveOp fun _ _ ht => ?_
  refine .iteOut ht.refuse ?_
  split
  · exact ht.badField
  · refine .iteOut ht.refuse ?_
    dsimp only
    split
    · exact ht.badArgByte
    · exact ht.onLtr.okWith

protected theorem Keeps.execPrecondConfig {m} (h : Keeps s₀ s) : Answers s₀ (execPrecondConfig m s) := by
  refine .next ?_
  refine h.serveOp fun _ _ ht => ?_
  refine .iteOut ht.refuse ?_
  split
  · exact ht.refuse
  · refine .iteOut ht.badField ?_
    split
    · exact ht.badField
    · exact ht.onLtr.okWith

protected theorem Keeps.execStateExport {m} (h : Keeps s₀ s) : Answers s₀ (execStateExport m s) := by
  refine .next ?_
  refine h.serveOp fun _ _ ht => ?_
  dsimp only
  split
  · exact ht.refuse
  · exact .iteOut ht.badField (.iteOut ht.badField (.iteOut ht.tooSmall ht.piecesRead))

protected theorem Keeps.importRecord {d k j bs} (h : Keeps s₀ s) : Keeps s₀ (importRecord d k j bs s) :=
  h.devWrite.devWrite.devWrite.devWrite

protected theorem Keeps.execStateImport {m} (h : Keeps s₀ s) : Answers s₀ (execStateImport m s) := by
  refine .next ?_
  refine h.serveOp fun _ _ ht => ?_
  refine .iteOut ht.refuse ?_
  split
  · exact ht.refuse
  · refine .iteOut ht.badField ?_
    refine .iteOut ht.refuse ?_
    split
    · exact ht.badArgByte
    · exact
        have h1 := (ht.each fun _ _ hu => hu.importRecord).onTensor
        .okWith (.ite h1 h1.onSch)

protected theorem Keeps.execSetStragglerPolicy {m} (h : Keeps s₀ s) : Answers s₀ (execSetStragglerPolicy m s) := by
  refine .next ?_
  refine h.serveOp fun _ _ ht => ?_
  refine .iteOut ht.refuse ?_
  dsimp only
  split
  · exact ht.badArgByte
  · exact ht.latch

/-! ### Firmware -/

protected theorem Keeps.securityEvents {src b} (h : Keeps s₀ s) : Keeps s₀ (securityEvents src b s) :=
  h.each fun _ _ ht => ht.event

protected theorem Keeps.execFwStage {m} (h : Keeps s₀ s) : Answers s₀ (execFwStage m s) := by
  refine .next ?_
  refine h.serveOp fun _ _ ht => ?_
  split
  · exact ht.badArgByte
  · refine .iteOut ht.refuse ?_
    exact have h1 := ht.securityEvents; by
      dsimp only
      split
      · exact h1.refuse
      · exact h1.refuse
      · exact .iteOut h1.refuse ht.set.okWith

protected theorem Keeps.activateSlot (h : Keeps s₀ s) : Keeps s₀ (activateSlot s) := h.set

protected theorem Keeps.execFwActivate {m} (h : Keeps s₀ s) : Answers s₀ (execFwActivate m s) :=
  .next <|
  h.serveOp fun _ _ ht =>
    .iteOut ht.badField <|
    .iteOut ht.refuse (.iteOut ht.activateSlot.okWith (.iteOut ht.refuse (.iteOut ht.refuse ht.activateSlot.holdFor)))

protected theorem Keeps.takeDigest {i} (h : Keeps s₀ s) : Keeps s₀ (takeDigest i s) := by
  unfold takeDigest
  split
  · exact h.set
  · exact h

protected theorem Keeps.swapCores {cause} (h : Keeps s₀ s) : Keeps s₀ (swapCores cause s) := h.onMst.eventNote.eventIrq
protected theorem Keeps.beginTakeUp (h : Keeps s₀ s) : Keeps s₀ (beginTakeUp s) := h.set.takeDigest.event

protected theorem Keeps.execTakeover {cause} (h : Keeps s₀ s) : Answers s₀ (execTakeover cause s) := by
  refine .next ?_
  refine .ite h ?_
  split
  · exact h.swapCores.announce
  · exact h.swapCores.announce
  · split
    · exact h
    · exact h.swapCores.beginTakeUp.respond.announce

protected theorem Keeps.takeUp {w} (h : Keeps s₀ s) : Keeps s₀ (takeUp w s) := by
  refine .ite h ?_
  split
  · exact
      have h1 := h.set
      .ite h1.takeDigest h1
  · exact h.takeDigest
  · exact h.takeDigest

/-! ### Plots -/

protected theorem Keeps.reachTally {p} (h : Keeps s₀ s) : Keeps s₀ (reachTally p s) := h.onPlot.onSch

protected theorem Keeps.settle {p st n} (h : Keeps s₀ s) : Keeps s₀ (settle p st n s) := by
  induction n generalizing s with
  | zero => exact h
  | succ _ ih =>
    refine .ite h ?_
    split
    · exact ih h.onPlot.reachTally
    · exact ih h.onPlot.localArrive
    · exact h

protected theorem Keeps.advance {p st} (h : Keeps s₀ s) : Keeps s₀ (advance p st s) := h.onPlot.settle

protected theorem Keeps.seqStep {p st f} (h : Keeps s₀ s) (hf : ∀ i t, f i s = some t → Keeps s₀ t) : Keeps s₀ (seqStep p st f s) := by
  refine .ite ?_ h
  split
  · split
    · exact (hf _ _ ‹_›).advance
    · exact h
  · exact h

protected theorem Keeps.raiseHedge {p k tag f} (h : Keeps s₀ s) : Keeps s₀ (raiseHedge p k tag f s) := h.onPlot
protected theorem Keeps.startGroup {p k i f} (h : Keeps s₀ s) : Keeps s₀ (startGroup p k i f s) := h.onPlot.raiseHedge

protected theorem Keeps.flightWait {p i en sem f} (h : Keeps s₀ s) (e : flightWait p i en sem f s = some t) : Keeps s₀ t := by
  unfold flightWait at e
  split at e
  · cases e; exact h
  · obtain ⟨u, hu, rfl⟩ := Option.map_eq_some_iff.mp e
    exact (h.descWait hu).onPlot

protected theorem Keeps.rowGroupStart {p k} (h : Keeps s₀ s) : Keeps s₀ (rowGroupStart p k s) := by
  unfold rowGroupStart
  dsimp only
  split
  · exact h
  · split
    · exact h
    · refine .ite h ?_
      split
      · exact (h.flightWait ‹_›).startGroup
      · exact h

protected theorem Keeps.drainGroup {p k i a} (h : Keeps s₀ s) : Keeps s₀ (drainGroup p k i a s) :=
  (h.each fun _ _ ht => ht.onMem fun hm => Memory.wf_putBytes _ _ _ hm).onPlot.raiseHedge

protected theorem Keeps.hedgeDrain {p k} (h : Keeps s₀ s) : Keeps s₀ (hedgeDrain p k s) := by
  unfold hedgeDrain
  dsimp only
  split
  · exact h.drainGroup
  · exact h

protected theorem Keeps.hopComplete {p} (h : Keeps s₀ s) : Keeps s₀ (hopComplete p s) := by
  unfold hopComplete
  dsimp only
  split
  · exact h
  · exact h.onPlot.descPost

protected theorem Keeps.wloadComplete {p} (h : Keeps s₀ s) : Keeps s₀ (wloadComplete p s) := by
  unfold wloadComplete
  dsimp only
  split
  · exact h
  · exact h.onPlot

protected theorem Keeps.issueRead {r} (h : Keeps s₀ s) : Keeps s₀ (issueRead r s) := h.onHost

protected theorem Keeps.moveRead {p off hint src dst n} (h : Keeps s₀ s) : Keeps s₀ (moveRead p off hint src dst n s) := by
  refine h.each fun _ _ ht => ?_
  split
  · exact ht.addrFault.devWrite
  · exact ht.each fun _ _ hu => hu.issueRead.countHost

protected theorem Keeps.moveRow {p off hs hd src dst n} (h : Keeps s₀ s) : Keeps s₀ (moveRow p off hs hd src dst n s).1 :=
  .iteFst (.iteFst h.onPlot.devWrite h.moveRead) <|
  have h1 := h.devRead
  .iteFst (h1.each fun _ _ ht => ht.hostWrite) <|
  have h2 := h1.devWrite
  .ite (h2.each fun _ _ ht => ht.poisonRange) h2

protected theorem Keeps.moveRows {p off hs hd n rs} (h : Keeps s₀ s) : Keeps s₀ (moveRows p off hs hd n rs s).1 := by
  induction rs generalizing s with
  | nil => exact h
  | cons _ _ ih => exact ih h.moveRow

protected theorem Keeps.moveTadd {p src dst} (h : Keeps s₀ s) : Keeps s₀ (moveTadd p src dst s) :=
  h.each fun _ _ ht => .ite ht.tunAddVal ht.tunUnfit

protected theorem Keeps.moveRun {p off d} (h : Keeps s₀ s) : Keeps s₀ (moveRun p off d s) :=
  .ite h.moveTadd <|
  have h1 := Keeps.moveRows (.ite h.takeFence h)
  .ite h1.unregInv h1

protected theorem Keeps.moveStart {p i f} (h : Keeps s₀ s) : Keeps s₀ (moveStart p i f s) := by
  unfold moveStart
  dsimp only
  split
  · exact h
  · exact .ite (h.flightWait ‹_›) (h.flightWait ‹_›).moveRun

protected theorem Keeps.execHop {p st} (h : Keeps s₀ s) : Answers s₀ (execHop p st s) := .next <| h.seqStep fun _ _ e => by
  split at e
  · cases e; exact h.onPlot
  · cases e

protected theorem Keeps.execWload {p st} (h : Keeps s₀ s) : Answers s₀ (execWload p st s) := .next <| h.seqStep fun _ _ e => by
  split at e
  · cases e; exact h.onPlot
  · cases e

protected theorem Keeps.execMash {p st} (h : Keeps s₀ s) : Answers s₀ (execMash p st s) := .next <| h.seqStep fun _ _ e => by
  split at e
  · split at e
    · cases e; exact h.onPlot
    · cases e
  · cases e

protected theorem Keeps.execMove {p st} (h : Keeps s₀ s) : Answers s₀ (execMove p st s) := .next <| h.seqStep fun _ _ e => by
  split at e
  · cases e; exact .moveStart (.onPlot h)
  · cases e

protected theorem Keeps.execSwait {p st} (h : Keeps s₀ s) : Answers s₀ (execSwait p st s) := .next <| h.seqStep fun _ _ e => by
  split at e
  · exact h.semWaitAt e
  · cases e

protected theorem Keeps.execSpost {p st} (h : Keeps s₀ s) : Answers s₀ (execSpost p st s) := by
  refine .next ?_
  split
  · refine .ite ?_ h
    split
    · exact .ite h.event h.pushWithy.advance
    · exact h.advance
  · refine h.seqStep fun _ _ e => ?_
    split at e
    · cases e; exact h.semPostAt
    · cases e

protected theorem Keeps.execEwait {p st} (h : Keeps s₀ s) : Answers s₀ (execEwait p st s) := .next <| h.seqStep fun _ _ e => by
  split at e
  · split at e
    · cases e; exact h
    · cases e
  · cases e

protected theorem Keeps.execFclr {p st} (h : Keeps s₀ s) : Answers s₀ (execFclr p st s) := .next <| h.seqStep fun _ _ e => by
  split at e
  · split at e
    · cases e; exact h.onPlot
    · cases e
  · cases e

protected theorem Keeps.moveEnd {p i f} (h : Keeps s₀ s) : Keeps s₀ (moveEnd p i f s) := .ite h.onPlot.takeFence.descPost h

protected theorem Keeps.execMoveComplete {p} (h : Keeps s₀ s) : Answers s₀ (execMoveComplete p s) := by
  refine .next ?_
  split
  · exact h
  · exact h.moveStart.moveEnd

protected theorem Keeps.putReplay {e} (h : Keeps s₀ s) : Keeps s₀ (putReplay e s) :=
  have h1 := h.onSch
  .ite h1.event h1

protected theorem Keeps.resumeAt {p pc tag} (h : Keeps s₀ s) : Keeps s₀ (resumeAt p pc tag s) := h.onPlot.settle

protected theorem Keeps.noteOutcome {p g c to_ F sup} (h : Keeps s₀ s) : Keeps s₀ (noteOutcome p g c to_ F sup s) :=
  .ite h <|
  have h1 := h.putReplay
  .ite h1.onSch.event h1

protected theorem Keeps.endReplay {p g} (h : Keeps s₀ s) : Keeps s₀ (endReplay p g s) := by
  unfold endReplay
  split
  · exact h
  · exact
      have h1 := h.onSch.onPlot
      .ite h1.event h1

protected theorem Keeps.startReplay {p g c to_} (h : Keeps s₀ s) : Keeps s₀ (startReplay p g c to_ s) := h.onPlot

protected theorem Keeps.decideScope {p g c F n} (h : Keeps s₀ s) : Keeps s₀ (decideScope p g c F n s) :=
  have h1 := h.endReplay
  .ite h1.resumeAt (.ite h1.noteOutcome.startReplay (.ite h1.noteOutcome.resumeAt h1.noteOutcome.resumeAt))

protected theorem Keeps.reportFlags {p g} (h : Keeps s₀ s) : Keeps s₀ (reportFlags p g s) := h.onScope.scopeArrive

protected theorem Keeps.execRegionCheck {p} (h : Keeps s₀ s) : Answers s₀ (execRegionCheck p s) := by
  refine .next ?_
  refine .ite h ?_
  split
  · exact h
  · exact
      have h1 := h.onPlot
      .ite h1 (.ite (.ite h1 (.ite h1.scopeArrive h1.onPlot.reportFlags)) h1.decideScope)

protected theorem Keeps.actedOn {p g} (h : Keeps s₀ s) : Keeps s₀ (actedOn p g s) :=
  have h1 := h.onScope
  .ite h1.onScope h1

protected theorem Keeps.execScopeDecision {p} (h : Keeps s₀ s) : Answers s₀ (execScopeDecision p s) := by
  refine .next ?_
  dsimp only
  split
  · split
    · exact .ite h.decideScope.actedOn h
    · exact h
  · split
    · exact .ite h.onPlot.actedOn h
    · exact h

protected theorem Keeps.plotRound {p} (h : Keeps s₀ s) : Keeps s₀ (plotRound p s) := by
  unfold plotRound
  exact (Keeps.each h fun _ _ ht => ht.rowGroupStart.hedgeDrain).wloadComplete.hopComplete.mashHead

protected theorem Keeps.finishPlot {p} (h : Keeps s₀ s) : Keeps s₀ (finishPlot p s) := (h.foldl fun _ _ ht => ht.plotRound).onPlot

/-! ### Service -/

protected theorem Keeps.serviceGate {k} (h : Keeps s₀ s) (h' : Keeps s₀ k.state) : Keeps s₀ (serviceGate s k).state :=
  .iteOut h.refuse (.iteOut h.refuse h')

protected theorem Keeps.withdrawWay {e} (h : Keeps s₀ s) : Keeps s₀ (withdrawWay e s) := h.emptyWay.onMemRest

protected theorem Keeps.withdrawWays {es} (h : Keeps s₀ s) : Keeps s₀ (withdrawWays es s) :=
  h.onGrn.each fun _ _ ht => .ite ht.withdrawWay ht

protected theorem Keeps.withdrawFrames {cellar fs} (h : Keeps s₀ s) : Keeps s₀ (withdrawFrames cellar fs s) := h.onMemRest

protected theorem Keeps.poisonFrame {cellar f} (h : Keeps s₀ s) : Keeps s₀ (poisonFrame cellar f s) :=
  h.each fun _ _ ht => ht.poisonLine

protected theorem Keeps.migrate {cellar used targets ways unused lost} (h : Keeps s₀ s) :
    Keeps s₀ (migrate cellar used targets ways unused lost s) :=
  have h1 := Keeps.ite (h.each fun _ _ ht => ht.poisonFrame) h
  .withdrawFrames <|
  .onMem
    (.flushFrames (.withdrawWays (.withdrawWays (.ite h1 (.ite h1.event (h1.each fun _ _ ht => ht.event))))))
    (fun hm => Memory.wf_swapAll hm)

protected theorem Keeps.serviceDone {c} (h : Keeps s₀ s) : Keeps s₀ (serviceDone c s) :=
  .respond (.set (.ite h.onMemRest.event h.onMemRest.event))

protected theorem Keeps.takeOut {c chs lost} (h : Keeps s₀ s) : Keeps s₀ (takeOut c chs lost s).state :=
  have h1 := h.migrate
  .iteOut h.refuse (.iteOut h.refuse (.iteOut h1.serviceDone h1.onMbx))

protected theorem Keeps.serviceBoundary (h : Keeps s₀ s) : Keeps s₀ (serviceBoundary s) :=
  have h1 := h.each fun _ _ ht => .ite ht.withdrawWay ht
  by
    refine .ite ?_ h1
    refine h1.each fun _ _ ht => ?_
    split
    · exact .ite ht.serviceDone ht
    · exact ht

protected theorem Keeps.bringIn {chs} (h : Keeps s₀ s) : Keeps s₀ (bringIn chs s) :=
  .onGrn (.onMem h fun hm => Memory.wf_zeroWhere _ _ hm)

protected theorem Keeps.train {i} (h : Keeps s₀ s) : Keeps s₀ (train i s) := h.set
protected theorem Keeps.retrain {i} (h : Keeps s₀ s) : Keeps s₀ (retrain i s) := h.train.set
protected theorem Keeps.trainFail {src ch} (h : Keeps s₀ s) : Keeps s₀ (trainFail src ch s) := h.event

protected theorem Keeps.trainBack {chs} (h : Keeps s₀ s) : Keeps s₀ (trainBack chs s) :=
  h.takeUp.each fun _ _ ht => .ite ht ht.train

protected theorem Keeps.inFails {bad} (h : Keeps s₀ s) : Keeps s₀ (inFails bad s).state := by
  unfold inFails
  dsimp only
  split
  · exact h.trainFail.event
  · exact h.event
  · exact h.trainFail.event

protected theorem Keeps.execChannelIn {m bad} (h : Keeps s₀ s) : Answers s₀ (execChannelIn m bad s) := by
  refine .next ?_
  refine h.serveOp fun _ _ ht => ?_
  refine ht.serviceGate ?_
  refine .iteOut ht.refuse ?_
  refine .iteOut ht.refuse ?_
  split
  · exact ht.inFails
  · exact ht.trainBack.onMemRest.bringIn.okWith

protected theorem Keeps.execCellarIn {m bad} (h : Keeps s₀ s) : Answers s₀ (execCellarIn m bad s) := by
  refine .next ?_
  refine h.serveOp fun _ _ ht => ?_
  refine ht.serviceGate ?_
  refine .iteOut ht.refuse ?_
  refine .iteOut ht.refuse ?_
  split
  · exact ht.inFails
  · exact ht.onMemRest.trainBack.bringIn.okWith

protected theorem Keeps.execRecalibrate {m failed} (h : Keeps s₀ s) : Answers s₀ (execRecalibrate m failed s) :=
  .next <|
  h.serveOp fun _ _ ht =>
    ht.serviceGate (.iteOut ht.badField (.iteOut ht.refuse (ht.takeUp.each fun _ _ hu => .ite hu.event hu.retrain).okWith))

/-! ### Telemetry -/

protected theorem Keeps.inletTemp (h : Keeps s₀ s) : Keeps s₀ (inletTemp s).2 := keeps_ite Prod.snd h.takeFree h

protected theorem Keeps.parkAccepted (h : Keeps s₀ s) : Keeps s₀ (parkAccepted s) := by
  unfold parkAccepted
  dsimp only
  split
  · exact h.onMst.dropUnpark.onMst
  · exact h.onMst.dropUnpark.onMst
  · exact .ite h.onMst.dropUnpark.onMst (.ite h.onMst.dropUnpark.onMst h.onMst.dropUnpark)
  · exact h.onMst.dropUnpark

protected theorem Keeps.resetExtremes {i} (h : Keeps s₀ s) : Keeps s₀ (resetExtremes i s) := h.onHk

protected theorem Keeps.execSensorsRead {m} (h : Keeps s₀ s) : Answers s₀ (execSensorsRead m s) := by
  refine .next (h.serveOp fun _ _ ht => .iteOut ht.tooSmall ?_)
  dsimp only [CmdOut.state]
  exact ht.each fun _ _ hu => hu.resetExtremes

protected theorem Keeps.execCountersRead {m} (h : Keeps s₀ s) : Answers s₀ (execCountersRead m s) := by
  refine .next ?_
  refine h.serveOp fun _ _ ht => ?_
  split
  · exact ht.refuse
  · exact .iteOut ht.tooSmall ht

protected theorem Keeps.markRead {k n} (h : Keeps s₀ s) : Keeps s₀ (markRead k n s) := h.onHk

/-! ### Power and start-up -/

/-- A reset of the domains leaves reset memory, which is canonical, and neither fuse nor queue. -/
protected theorem Keeps.resetDomains (h : Keeps s₀ s) : Keeps s₀ (resetDomains s) := ⟨fun _ => rfl, h.pending, h.fuses⟩

protected theorem Keeps.saveRecord (h : Keeps s₀ s) : Keeps s₀ (saveRecord s) := h.set
protected theorem Keeps.losePower (h : Keeps s₀ s) : Keeps s₀ (losePower s) := h.set
protected theorem Keeps.thermalControl (h : Keeps s₀ s) : Keeps s₀ (thermalControl s) := h.onHk

protected theorem Keeps.sampleValue {i v} (h : Keeps s₀ s) : Keeps s₀ (sampleValue i v s) :=
  have h1 := h.onHk.onHk.thermalControl
  .ite h1.onHk h1

protected theorem Keeps.execSensorSample {sensor value} (h : Keeps s₀ s) : Answers s₀ (execSensorSample sensor value s) := by
  refine .next ?_
  refine .ite h ?_
  split
  · exact h.sampleValue
  · exact h.onHk.event

protected theorem Keeps.withhold {index clocks} (h : Keeps s₀ s) : Keeps s₀ (withhold index clocks s) :=
  h.onSch.each fun _ _ ht => ht.onPlot

protected theorem Keeps.earlyBit {g b x} (h : Keeps s₀ s) : Keeps s₀ (earlyBit g b x s) := h.onHk
protected theorem Keeps.flushEarly (h : Keeps s₀ s) : Keeps s₀ (flushEarly s) := h.onHk.each fun _ _ ht => ht.event

protected theorem Keeps.failStart {c} (h : Keeps s₀ s) : Keeps s₀ (failStart c s) :=
  have h1 := h.set
  have h2 := Keeps.earlyBit (.ite h1.earlyBit h1)
  .resetDomains (.ite h2.flushEarly h2)

protected theorem Keeps.enterFallow {code} (h : Keeps s₀ s) : Keeps s₀ (enterFallow code s) := h.set.onMst.earlyBit.flushEarly
protected theorem Keeps.noteLow {mv} (h : Keeps s₀ s) : Keeps s₀ (noteLow mv s) := h.onHk

protected theorem Keeps.hold {mv} (h : Keeps s₀ s) : Keeps s₀ (hold mv s) := by
  unfold hold
  dsimp only
  split
  · exact h.onHk.noteLow.onMst
  · exact h.onHk.noteLow.onMst
  · exact h.onHk.noteLow.onMst
  · exact h.onHk.noteLow.onMst
  · exact .ite h.onHk.noteLow h.onHk.noteLow.set.resetDomains
  · exact h.onHk.noteLow

protected theorem Keeps.portOff {p} (h : Keeps s₀ s) : Keeps s₀ (portOff p s) := .ite h.sendNow.onPort h
protected theorem Keeps.powerDown {passed} (h : Keeps s₀ s) : Keeps s₀ (powerDown passed s) := h.saveRecord.set.resetDomains
protected theorem Keeps.shutdownParked (h : Keeps s₀ s) : Keeps s₀ (shutdownParked s) := .ite (h.each fun _ _ ht => ht.portOff) h

protected theorem Keeps.shutdownTick (h : Keeps s₀ s) : Keeps s₀ (shutdownTick s) :=
  have h1 := h.shutdownParked
  .ite h1.powerDown h1

protected theorem Keeps.holdEnd {lowest us} (h : Keeps s₀ s) : Keeps s₀ (holdEnd lowest us s) := by
  refine .ite h ?_
  exact have h1 := h.onHk.noteLow.event; by
    dsimp only
    split
    · exact h1.onMst
    · exact h1.onMst.shutdownParked

protected theorem Keeps.unapply {r} (h : Keeps s₀ s) : Keeps s₀ (unapply r s) := h.onLtr.bookAdd

protected theorem Keeps.dropTensor {d} (h : Keeps s₀ s) : Keeps s₀ (dropTensor d s) :=
  .ite h ((h.each fun _ _ ht => ht.bookDense).each fun _ _ ht => ht.unapply).countLtr.ltrEvent.onTensor

protected theorem Keeps.dropUpdates (h : Keeps s₀ s) : Keeps s₀ (dropUpdates s) :=
  have h1 := (h.each fun _ _ ht => ht.dropTensor).each fun _ _ ht => .ite ht.cutWalk ht
  .ite (h1.each fun _ _ ht => ht.cutWalk) h1

protected theorem Keeps.supplyPark (h : Keeps s₀ s) : Keeps s₀ (supplyPark s) := .ite h.dropUpdates.event.onMst h

protected theorem Keeps.supplyReset {mv us} (h : Keeps s₀ s) : Keeps s₀ (supplyReset mv us s) :=
  h.noteLow.event.saveRecord.set.resetDomains.losePower

protected theorem Keeps.execThermtrip {sensor} (h : Keeps s₀ s) : Answers s₀ (execThermtrip sensor s) :=
  .next <|
  have h1 := h.event
  .set (.ite h1.failStart h1.resetDomains)

protected theorem Keeps.beginShutdown {coppice} (h : Keeps s₀ s) : Keeps s₀ (beginShutdown coppice s) := .onMst (.ite h.set h)

protected theorem Keeps.storeResult {k r} (h : Keeps s₀ s) : Keeps s₀ (storeResult k r s) :=
  have h1 := h.set
  have h2 := Keeps.ite h1 h1.event
  .ite h2.event h2

protected theorem Keeps.storeRun {k rs ms} (h : Keeps s₀ s) : Keeps s₀ (storeRun k rs ms s) :=
  (h.takeUp.each fun _ _ ht => ht.storeResult).set

protected theorem Keeps.coppiceTest {k rs ms} (h : Keeps s₀ s) : Keeps s₀ (coppiceTest k rs ms s) := by
  unfold coppiceTest
  split
  · exact .ite h.shutdownParked.storeRun.powerDown h
  · exact
      .ite
        (have h1 := h.storeRun
         .ite h1 h1.failStart)
        h
  · exact .ite h.storeRun h

protected theorem Keeps.beginStart (h : Keeps s₀ s) : Keeps s₀ (beginStart s) := h.set

protected theorem Keeps.execStart {mv bladeA bladeB} (h : Keeps s₀ s) : Answers s₀ (execStart mv bladeA bladeB s) :=
  .next <|
  have h1 := h.onHk
  .ite h1.beginStart h1

protected theorem Keeps.earlySecurity {b} (h : Keeps s₀ s) : Keeps s₀ (earlySecurity b s) := h.each fun _ _ ht => ht.earlyBit

protected theorem Keeps.bootRom (h : Keeps s₀ s) : Keeps s₀ (bootRom s) := by
  unfold bootRom
  dsimp only
  split
  · exact .set (.ite (Keeps.ite h h.earlySecurity) (Keeps.ite h h.earlySecurity).earlyBit)
  · exact (Keeps.ite h h.earlySecurity).earlySecurity.enterFallow

protected theorem Keeps.restoreRecord (h : Keeps s₀ s) : Keeps s₀ (restoreRecord s) := by
  refine .ite h ?_
  split
  · exact h.onHk
  · exact h.onHk.event

protected theorem Keeps.maltsterStage (h : Keeps s₀ s) : Keeps s₀ (maltsterStage s) :=
  have h1 := h.restoreRecord.flushEarly.set
  .ite h1 h1.event

protected theorem Keeps.memoryStage {weak} (h : Keeps s₀ s) : Keeps s₀ (memoryStage weak s) :=
  .set (.ite (.ite h (h.event.each fun _ _ ht => ht.train)) (h.each fun _ _ ht => ht.train))

protected theorem Keeps.commitSvn (h : Keeps s₀ s) : Keeps s₀ (commitSvn s) := .ite h.setFuses.event h

protected theorem Keeps.readyStage (h : Keeps s₀ s) : Keeps s₀ (readyStage s) :=
  Keeps.commitSvn (.onMst ⟨fun _ => rfl, h.pending, h.fuses⟩)

protected theorem Keeps.stagePassed {stage weak} (h : Keeps s₀ s) : Keeps s₀ (stagePassed stage weak s) :=
  .ite h.set <|
  .ite h.bootRom <|
  .ite (.ite h.enterFallow h.set) (.ite h.maltsterStage (.ite h.memoryStage (.ite h.set (.ite h.set h.readyStage))))

protected theorem Keeps.stageFailed {c bad} (h : Keeps s₀ s) : Keeps s₀ (stageFailed c bad s) := by
  unfold stageFailed
  dsimp only
  split
  · exact (Keeps.ite (h.each fun _ _ ht => ht.trainFail) h).earlyBit.enterFallow
  · exact (Keeps.ite (h.each fun _ _ ht => ht.trainFail) h).earlyBit.enterFallow
  · exact (Keeps.ite (h.each fun _ _ ht => ht.trainFail) h).earlyBit.enterFallow
  · exact (Keeps.ite (h.each fun _ _ ht => ht.trainFail) h).failStart

protected theorem Keeps.execStartStage {stage failed channels} (h : Keeps s₀ s) :
    Answers s₀ (execStartStage stage failed channels s) := by
  refine .next ?_
  refine .ite h ?_
  split
  · exact h.stagePassed.announce
  · exact .ite h.stageFailed.announce h

/-! ### Epochs and steps -/

protected theorem Keeps.endUpdate {d flip} (h : Keeps s₀ s) : Keeps s₀ (endUpdate d flip s) :=
  (h.each fun _ _ ht => ht.bookDense).onTensor

protected theorem Keeps.bankBoundary {d} (h : Keeps s₀ s) : Keeps s₀ (bankBoundary d s) :=
  .ite h.endUpdate (.ite (.ite h.endUpdate (.ite h.endUpdate h)) (.ite h.endUpdate (.ite h.endUpdate h.onTensor.ltrEvent)))

protected theorem Keeps.staleTensor {d} (h : Keeps s₀ s) : Keeps s₀ (staleTensor d s) := .ite h h.event

protected theorem Keeps.staleGroup {g} (h : Keeps s₀ s) : Keeps s₀ (staleGroup g s) :=
  (h.each fun _ _ ht => ht.staleTensor).each fun _ _ ht => ht.countLtr

protected theorem Keeps.commitDense (h : Keeps s₀ s) : Keeps s₀ (commitDense s) :=
  .each
    (.each
       (.each (.ite h (h.each fun _ _ ht => .ite ht ht.staleGroup)) fun _ _ ht => .ite ht.onTensor ht)
       (fun _ _ ht => ht.bankBoundary))
    (fun _ _ ht => ht.onTensor)

protected theorem Keeps.closeReduction {r} (h : Keeps s₀ s) : Keeps s₀ (closeReduction r s) :=
  .ite h.bookAdd.bookAdd (h.each fun _ _ ht => .ite ht ht.takeContrib)

protected theorem Keeps.finishGroup {r had} (h : Keeps s₀ s) : Keeps s₀ (finishGroup r had s) :=
  .ite h (h.each fun _ _ ht => .ite ht ht.denseUpdate)

protected theorem Keeps.closeReductions (h : Keeps s₀ s) : Keeps s₀ (closeReductions s) :=
  .ite h (h.each fun _ _ ht => .ite ht.closeReduction.finishGroup ht)

protected theorem Keeps.senderBooks {r} (h : Keeps s₀ s) : Keeps s₀ (senderBooks r s) := h.bookAdd.bookAdd.bookAdd.bookAdd

protected theorem Keeps.contribBooks (h : Keeps s₀ s) : Keeps s₀ (contribBooks s) :=
  ((h.each fun _ _ ht => ht.senderBooks).each fun _ _ ht => .ite ht ht.event).onLtr

protected theorem Keeps.stepPins (h : Keeps s₀ s) : Keeps s₀ (stepPins s) :=
  have h1 := h.heldBooks.releasePins
  .ite h1.pinBooks h1

protected theorem Keeps.tunBooks (h : Keeps s₀ s) : Keeps s₀ (tunBooks s) := by
  unfold tunBooks
  exact .onMemRest (.each h fun _ _ ht => .ite ht ht.event) (by dsimp only)

protected theorem Keeps.creditBooks (h : Keeps s₀ s) : Keeps s₀ (creditBooks s) := h.each fun _ _ ht => .ite ht.event ht

protected theorem Keeps.checkBooks (h : Keeps s₀ s) : Keeps s₀ (checkBooks s) :=
  h.contribBooks.stepPins.tunBooks.pageBooks.creditBooks

protected theorem Keeps.parkNow (h : Keeps s₀ s) : Keeps s₀ (parkNow s) := .ite h h.onMst
protected theorem Keeps.unparkNow (h : Keeps s₀ s) : Keeps s₀ (unparkNow s) := h.onMst

protected theorem Keeps.applyLatch {w} (h : Keeps s₀ s) : Keeps s₀ (applyLatch w s) := by
  unfold applyLatch
  split
  · exact h.commitVersion
  · exact h.addReplicas
  · exact h.dropReplicas
  · exact h.onSch
  · exact h.onSch
  · exact h
  · exact h.unparkNow
  · exact h.reshardAt
  · exact h.reshardAt
  · exact h.reshardAt

protected theorem Keeps.applyDue (h : Keeps s₀ s) : Keeps s₀ (applyDue s) := h.onSch.each fun _ _ ht => ht.applyLatch
protected theorem Keeps.latchEta {n} (h : Keeps s₀ s) : Keeps s₀ (latchEta n s) := h.onLtr

protected theorem Keeps.latchRoots (h : Keeps s₀ s) : Keeps s₀ (latchRoots s) := by
  refine h.each fun _ _ ht => ?_
  split
  · exact ht
  · exact .ite ht ht.onTensor

protected theorem Keeps.keepRecords {n} (h : Keeps s₀ s) : Keeps s₀ (keepRecords n s) :=
  (h.each fun _ _ ht => .ite ht.putHist.onSch.event ht).each fun _ _ ht =>
    have h1 := ht.onSch
    .ite h1.putHist h1

protected theorem Keeps.slotBoundary {n flips d} (h : Keeps s₀ s) : Keeps s₀ (slotBoundary n flips d s) :=
  have h1 := h.onPlot
  by
    refine .ite ?_ h1
    split
    · exact h1.setSlotK
    · exact h1

protected theorem Keeps.clearStreamSems (h : Keeps s₀ s) : Keeps s₀ (clearStreamSems s) := h.each fun _ _ ht => .ite ht.onPlot ht

protected theorem Keeps.carryGroup {r} (h : Keeps s₀ s) : Keeps s₀ (carryGroup r s) := by
  refine .ite ?_ (.onLtr (.each (.each (.iteFst h h.ownContrib) fun _ _ ht => ht.devWrite) fun _ _ ht => ht.devWrite))
  split
  · exact .ite (h.each fun _ _ ht => ht.clearWindows) h
  · exact h

protected theorem Keeps.carryAll (h : Keeps s₀ s) : Keeps s₀ (carryAll s) := h.each fun _ _ ht => ht.carryGroup

protected theorem Keeps.skipWalks (h : Keeps s₀ s) : Keeps s₀ (skipWalks s) :=
  .ite (h.each fun _ _ ht => .ite ht.onStepEntry ht) h

protected theorem Keeps.localNoise (h : Keeps s₀ s) : Keeps s₀ (localNoise s) := by
  refine h.each fun _ _ ht => ?_
  split
  · exact ht
  · split
    · exact ht
    · exact .ite ht (ht.ownContrib.each fun _ _ hu => hu.noiseLocal)

protected theorem Keeps.pushNoise (h : Keeps s₀ s) : Keeps s₀ (pushNoise s) := .onLtr (.ite h h.localNoise)
protected theorem Keeps.startPlot {p} (h : Keeps s₀ s) : Keeps s₀ (startPlot p s) := h.onPlot.settle.settle

protected theorem Keeps.openStepNo {n} (h : Keeps s₀ s) : Keeps s₀ (openStepNo n s) :=
  have h1 := h.onSch.onGrn.onFab.onLtr
  have h2 := Keeps.ite h1.event h1
  .ite h2 (h2.each fun _ _ ht => ht.startPlot)

protected theorem Keeps.closeRecord (h : Keeps s₀ s) : Keeps s₀ (closeRecord s) := h.onSch
protected theorem Keeps.activatePorts (h : Keeps s₀ s) : Keeps s₀ (activatePorts s) := h.each fun _ _ ht => .ite ht.joinPort ht

protected theorem Keeps.putRunLists {y} (h : Keeps s₀ s) : Keeps s₀ (putRunLists y s) :=
  h.each fun _ _ ht => ht.each fun _ _ hu => .ite hu hu.devWrite

protected theorem Keeps.install {b first} (h : Keeps s₀ s) : Keeps s₀ (install b first s) := by
  unfold install
  extract_lets old y s1 s2 s3 s4 s5 s6 s7 s8
  have h3 : Keeps s₀ s3 := .each (.onMemRest (.set (.onSch h))) fun _ _ ht => ht.devWrite
  clear_value s3
  exact .updateSlow (.activatePorts (.startCasks (.onCsk (.onGrn (.onFab (.onLtr h3.putRunLists))))))

protected theorem Keeps.stepBoundary (h : Keeps s₀ s) : Keeps s₀ (stepBoundary s) := by
  unfold stepBoundary
  extract_lets n skip s1 s2 flips s3 s4 next s5 s6 s7 s8 s9 s10
  have h1 : Keeps s₀ s1 := h.each fun _ _ ht => ht.finishPlot
  clear_value s1
  have h4 : Keeps s₀ s4 := h1.closeReductions.commitDense.checkBooks.parkNow.skipWalks.carryAll.pushNoise
  clear_value s4
  have h6 : Keeps s₀ s6 := .each h4.applyDue.latchEta.keepRecords fun _ _ ht => ht.slotBoundary
  clear_value s6
  have h7 : Keeps s₀ s7 := .ite (.onCsk h6) h6
  clear_value s7
  have h9 : Keeps s₀ s9 := h7.clearStreamSems.caskBoundary.serviceBoundary.closeRecord
  clear_value s9 next
  have h10 : Keeps s₀ s10 := by
    unfold s10
    split
    · exact h9.install
    · exact h9
  exact h10.latchRoots.openStepNo.fillCaskStreams

protected theorem Keeps.cutEpoch (h : Keeps s₀ s) : Keeps s₀ (cutEpoch s) :=
  h.each fun _ _ ht =>
    have h1 := ht.cutTx
    .ite h1 h1.cutRx

protected theorem Keeps.readRunLists (h : Keeps s₀ s) : Keeps s₀ (readRunLists s) := by
  unfold readRunLists
  split
  · exact h
  · exact h.each fun _ _ ht => .ite ht ht.devRead

protected theorem Keeps.lookWork (h : Keeps s₀ s) : Keeps s₀ (lookWork s) := .ite h (.ite h.onSch h.onSch.ingest.caskLook)

protected theorem Keeps.lookStart (h : Keeps s₀ s) : Keeps s₀ (lookStart s) :=
  have h1 := Keeps.ite h (h.each fun _ _ ht => ht.cutWalk)
  .lookWork (.onGrn (.onSch (.ite h1 h1.asidePins)))

protected theorem Keeps.openUpdate {skip} (h : Keeps s₀ s) : Keeps s₀ (openUpdate skip s) :=
  have h1 := h.onSch
  .ite h1.event (.ite h1 h1.formGradRecords.formReplicaContribs.applyReplicas)

protected theorem Keeps.startPorts (h : Keeps s₀ s) : Keeps s₀ (startPorts s) :=
  .onFab <|
  h.each fun _ _ ht =>
    have h1 := ht.onFlow
    .ite h1.onPort h1

protected theorem Keeps.resumeHold (h : Keeps s₀ s) : Keeps s₀ (resumeHold s) :=
  .ite
    (have h1 := h.onMst.each fun _ _ ht => .ite ht.onPlot ht
     .ite h1.lookWork h1)
    h

protected theorem Keeps.nextEpochTally (h : Keeps s₀ s) : Keeps s₀ (nextEpochTally s) := by
  unfold nextEpochTally
  split
  · exact h.closeTally.onTally
  · exact h

protected theorem Keeps.startEpoch (h : Keeps s₀ s) : Keeps s₀ (startEpoch s) := by
  unfold startEpoch
  extract_lets s1
  have h1 : Keeps s₀ s1 := .nextEpochTally (.readRunLists (.startPorts (.onSch h)))
  clear_value s1
  exact .ite h1.lookStart h1

protected theorem Keeps.actEpoch {r} (h : Keeps s₀ s) : Keeps s₀ (actEpoch r s) := by
  unfold actEpoch
  refine .ite h ?_
  extract_lets e s1 s2 s3 s4
  have h2 : Keeps s₀ s2 := .onSch (.resumeHold h.cutEpoch)
  clear_value s2
  have h3 : Keeps s₀ s3 := .ite h2.openUpdate h2
  clear_value s3
  exact .shutdownParked (.startEpoch (.ite (.stepBoundary (.onSch h3)) h3))

protected theorem Keeps.activateNow {b first} (h : Keeps s₀ s) : Keeps s₀ (activateNow b first s) := by
  unfold activateNow
  extract_lets s1 s2 s3 s4
  have h2 : Keeps s₀ s2 := .onSch h.install
  clear_value s2
  exact .startEpoch (.fillCaskStreams (.openStepNo (.onMst h2.applyDue.latchEta.latchRoots)))

protected theorem Keeps.acceptTable {c w commit} (h : Keeps s₀ s) : Keeps s₀ (acceptTable c w commit s) := h.onTable.latch.respond

protected theorem Keeps.acceptCmd {c} (h : Keeps s₀ s) : Keeps s₀ (acceptCmd c s) := by
  refine .ite h.acceptTable ?_
  refine .ite h.acceptTable ?_
  refine .ite h.acceptTable ?_
  refine .ite h.acceptTable ?_
  refine .ite ?_ h
  split
  · exact h.respond
  · exact .ite h.latch.respond h.respond.activateNow

protected theorem Keeps.acceptMarkers {fid} (h : Keeps s₀ s) : Keeps s₀ (acceptMarkers fid s) := by
  refine h.each fun _ _ ht => ?_
  split
  · exact .ite ht.latch ht
  · exact ht

protected theorem Keeps.actBarrier {fid d} (h : Keeps s₀ s) : Keeps s₀ (actBarrier fid d s) :=
  have h1 := h.closeTally.each fun _ _ ht => ht.semPostAt
  by
    refine .ite h1.acceptMarkers ?_
    refine h1.each fun _ _ ht => ?_
    split
    · exact ht.acceptCmd
    · exact ht

protected theorem Keeps.releaseAct {fid} (h : Keeps s₀ s) : Keeps s₀ (releaseAct fid s) := by
  unfold releaseAct
  split
  · exact
      have h1 := h.onFab
      .ite h1.actEpoch h1.actBarrier
  · exact h

/-! ### The housekeeping cycle -/

protected theorem Keeps.tickPlot {n p} (h : Keeps s₀ s) : Keeps s₀ (tickPlot n p s) := h.onPlot

protected theorem Keeps.tickClocks (h : Keeps s₀ s) : Keeps s₀ (tickClocks s) :=
  have h1 := h.onHk
  .ite (h1.onSch.each fun _ _ ht => ht.tickPlot) h1

protected theorem Keeps.tick (h : Keeps s₀ s) : Keeps s₀ (tick s) := h.tickClocks.shutdownTick

/-! ### Every command -/

/-- Every command on every state answers a next state that keeps what stood. -/
theorem exec_answers (i : Instr) (h : Keeps s₀ s) : Answers s₀ (exec i s) := by
  cases i with
  | getInfo => exact .next (h.serveOp fun _ _ ht => ht.okWith)
  | getStatus => exact .next (h.serveOp fun _ _ ht => ht.inletTemp.okWith)
  | setProfile => exact .next (h.serveOp fun _ _ ht => .iteOut ht.badField (.iteOut ht.refuse ht.latch))
  | park => exact .next (h.serveOp fun _ _ ht => .iteOut ht.refuse ht.parkAccepted)
  | unpark => exact h.execUnpark
  | shutdown => exact .next (h.serveOp fun _ _ ht => .iteOut ht.badField (.iteOut ht.refuse ht.beginShutdown.respond.shutdownParked))
  | getAttestation => exact .next (h.serveOp fun _ _ ht => .iteOut ht.tooSmall ht)
  | setPartition => exact .next (h.serveOp fun _ _ ht => .iteOut ht.refuse (.iteOut ht.badField (.iteOut ht.badField ht.flushFrames.onMemRest.okWith)))
  | allocObject => exact h.execAllocObject
  | freeObject => exact h.execFreeObject
  | moveObject => exact h.execMoveObject
  | setTunWindow => exact .next (h.serveOp fun _ _ ht => .iteOut ht.refuse ht.onMemRest.okWith)
  | hopperRun => exact h.execHopperRun
  | tableCreate => exact h.execTableCreate
  | tableLoad => exact h.execTableLoad
  | tableStageVersion => exact h.execTableStageVersion
  | tableCommitVersion => exact .next (h.serveOp fun _ _ ht => ht.coordCheck fun _ => .iteOut ht.refuse ht.coordinate)
  | tableExport => exact h.execTableExport
  | replicateRows => exact .next (h.serveOp fun _ _ ht => ht.replicaCheck)
  | unreplicateRows => exact .next (h.serveOp fun _ _ ht => ht.replicaCheck)
  | granaryStats => exact h.execGranaryStats
  | portConfig => exact h.execPortConfig
  | portMeasure => exact .next (h.serveOp fun _ _ ht => .iteOut ht.refuse (.iteOut ht.refuse (.okWith (.ite ht ht.takeDelay))))
  | portRetrain => exact h.execPortRetrain
  | portStatus => exact .next (h.serveOp fun _ _ ht => .iteOut ht.tooSmall ht)
  | partnerTable => exact .next (h.serve fun _ _ ht => .iteOut ht.badField (.iteOut ht.tooSmall ht))
  | setMac => exact h.execSetMac
  | bundleLoad => exact h.execBundleLoad
  | bundleActivate => exact h.execBundleActivate
  | stepArm => exact h.execStepArm
  | stepStatus => exact .next (h.serveOp fun _ _ ht => .iteOut ht.badField (.ite ht ht.onSch))
  | reshard => exact h.execReshard
  | reshardCancel => exact h.execReshardCancel
  | setStragglerPolicy => exact h.execSetStragglerPolicy
  | ruleSet => exact h.execRuleSet
  | setStepSize => exact .next (h.serveOp fun _ _ ht => .iteOut ht.badField ht.onLtr)
  | precondConfig => exact h.execPrecondConfig
  | stateExport => exact h.execStateExport
  | stateImport => exact h.execStateImport
  | noiseStats => exact .next (h.serveOp fun _ _ ht => ht)
  | fwStage => exact h.execFwStage
  | fwActivate => exact h.execFwActivate
  | channelOut => exact .next (h.serveOp fun _ _ ht => ht.serviceGate (.iteOut ht.refuse (.iteOut ht.refuse ht.takeOut)))
  | channelIn => exact h.execChannelIn
  | cellarOut => exact .next (h.serveOp fun _ _ ht => ht.serviceGate (.iteOut ht.refuse (.iteOut ht.refuse ht.takeOut)))
  | cellarIn => exact h.execCellarIn
  | recalibrate => exact h.execRecalibrate
  | sensorsRead => exact h.execSensorsRead
  | countersRead => exact h.execCountersRead
  | errlogRead => exact .next (h.serveOp fun _ _ ht => .iteOut ht.badField ht.markRead)
  | stickyClear => exact .next (h.serveOp fun _ _ ht => (ht.each fun _ _ hu => hu.clearSticky).okWith)
  | coppiceResults => exact .next (h.serveOp fun _ _ ht => .iteOut ht.tooSmall ht)
  | idleByCause => exact .next (h.serveOp fun _ _ ht => .iteOut ht.tooSmall ht)
  | reservedOpcode => exact .next (h.serve fun _ _ ht => ht.refuse)
  | coordFail => exact h.execCoordFail
  | bundleCoordFail => exact h.execBundleCoordFail
  | mbxCmdProd => exact .next h.doorbell
  | mbxRspCons => exact .next h.consume
  | mbxCtrlReset => exact .next h.ctrlWrite
  | stmStickyW1c => exact .next h.clearSticky
  | stmSupplyWrite => exact .next h.clearMinMv
  | fncBar2BaseWrite => exact .next h.putBar2Base
  | fncHostLatWrite => exact .next h.putHostLat
  | fncFenceReq => exact .next (.ite h.fenceRequest h)
  | segmentEnable => exact .next h.segWord0
  | segmentDisable => exact .next h.segWord0
  | registerWrite => exact .next h.bar0Put
  | fenceComplete => exact h.execFenceComplete
  | bar0Access => exact .next (.ite (.ite h h.unsupported) (.ite h.bar0Put h.bar0Read))
  | bar2Read => exact .next (.ite h.unsupported (.ite h.bar2Fault.unsupported h.devRead.countHost.set))
  | bar2Write => exact .next (.ite h (.ite h.event (.ite h.bar2Fault h.devWrite.countHost)))
  | atomicopRequest => exact .next h.set
  | configRequest => exact .next (.ite h.set (.ite h.cfgWrite.set h.set))
  | readCompletion => exact h.execReadCompletion
  | cplTimeout => exact h.execCplTimeout
  | pcieRecovery => exact .next h.countHost.countHost
  | linkSlow => exact .next h.onHost.updateSlow
  | hostDetach => exact .next (.ite h h.detach)
  | coalesceTimeout => exact .next (.ite h.onMbx.raiseIrq h)
  | takeover => exact h.execTakeover
  | maltsterRestart => exact .next (.ite h h.onMst.announce)
  | maltsterLoss => exact .next (.ite h h.parkFor.announce)
  | hop => exact h.execHop
  | rowGroupStart => exact .next h.rowGroupStart
  | hedgeDrain => exact .next h.hedgeDrain
  | hopComplete => exact .next h.hopComplete
  | wload => exact h.execWload
  | wloadComplete => exact .next h.wloadComplete
  | mash => exact h.execMash
  | move => exact h.execMove
  | moveComplete => exact h.execMoveComplete
  | swait => exact h.execSwait
  | spost => exact h.execSpost
  | ewait => exact h.execEwait
  | fclr => exact h.execFclr
  | regionCheck => exact h.execRegionCheck
  | scopeDecision => exact h.execScopeDecision
  | loopDescriptor => exact h.execLoopDescriptor
  | rootDescriptor => exact h.execRootDescriptor
  | nop => exact .next h.mashRow
  | fadd => exact .next h.mashRow
  | fsub => exact .next h.mashRow
  | fmul => exact .next h.mashRow
  | ffma => exact .next h.mashRow
  | fmin => exact .next h.mashRow
  | fmax => exact .next h.mashRow
  | fabs => exact .next h.mashRow
  | fneg => exact .next h.mashRow
  | fdiv => exact .next h.mashRow
  | fsqrt => exact .next h.mashRow
  | fexp2 => exact .next h.mashRow
  | flog2 => exact .next h.mashRow
  | fcmpeq => exact .next h.mashRow
  | fcmplt => exact .next h.mashRow
  | fcmple => exact .next h.mashRow
  | fcmpun => exact .next h.mashRow
  | iadd => exact .next h.mashRow
  | isub => exact .next h.mashRow
  | imul => exact .next h.mashRow
  | and => exact .next h.mashRow
  | or => exact .next h.mashRow
  | xor => exact .next h.mashRow
  | shl => exact .next h.mashRow
  | shra => exact .next h.mashRow
  | shrl => exact .next h.mashRow
  | imin => exact .next h.mashRow
  | imax => exact .next h.mashRow
  | icmpeq => exact .next h.mashRow
  | icmplt => exact .next h.mashRow
  | vmov => exact .next h.mashRow
  | fsel => exact .next h.mashRow
  | vbcs => exact .next h.mashRow
  | vscal => exact .next h.mashRow
  | cvtF2b => exact .next h.mashRow
  | cvtF2h => exact .next h.mashRow
  | cvtB2f => exact .next h.mashRow
  | cvtH2f => exact .next h.mashRow
  | cvtF2i => exact .next h.mashRow
  | cvtI2f => exact .next h.mashRow
  | iota => exact .next h.mashRow
  | rsum => exact .next h.mashRow
  | rsuma => exact .next h.mashRow
  | rmax => exact .next h.mashRow
  | rmin => exact .next h.mashRow
  | ramax => exact .next h.mashRow
  | irsuma => exact .next h.mashRow
  | mand => exact .next h.mashRow
  | mor => exact .next h.mashRow
  | mnot => exact .next h.mashRow
  | mset => exact .next h.mashRow
  | mclr => exact .next h.mashRow
  | mfclr => exact .next h.mashRow
  | maltAccess => exact h.execMaltAccess
  | commitGroup => exact .next (.ite h.installGroup h)
  | fence => exact .next h.takeFence
  | tadd => exact h.execTadd
  | tread => exact .next h.tunReadOp
  | treadclr => exact .next h.tunReadOp
  | tclr => exact .next h.tunClear
  | tunIadd => exact .next h.tunAddInt
  | ireadclr => exact .next h.tunReadInt
  | linkRetransmit => exact .next h.onMemRest.event
  | cellarDieLost => exact .next h.onMemRest.event
  | scrub => exact .next (h.onMemRest.scrubKiln.each fun _ _ ht => ht.scrubFound).scrubPoison
  | hotRefresh => exact h.execHotRefresh
  | driftTracking => exact .next h.onMemRest
  | hopperDone => exact h.execHopperDone
  | resolutionRequest => exact .next (.ite h.requestRow h)
  | sectorFill => exact h.execSectorFill
  | agingSweep => exact h.execAgingSweep
  | pool => exact .next (.ite h.pool h)
  | gradientRecord => exact .next (.ite h.gradientRecord h)
  | embeddingRowUpdate => exact .next h.embeddingUpdate
  | contribArrival => exact .next h.contribArrival
  | denseGroupUpdate => exact .next h.denseUpdate
  | reducedBlock => exact .next h.reducedBlock
  | distArrival => exact .next h.distArrival
  | normReduction => exact .next h.normReduction
  | reshardRecord => exact h.execReshardRecord
  | reshardComplete => exact h.execReshardComplete
  | reshardFail => exact h.execReshardFail
  | tokenAppend => exact .next h.tokenAppend
  | spill => exact h.execSpill
  | prefetch => exact h.execPrefetch
  | partDelivery => exact h.execPartDelivery
  | saveImage => exact h.execSaveImage
  | loadImage => exact h.execLoadImage
  | splitPartial => exact h.execSplitPartial
  | release => exact .next h.release
  | releaseAct => exact .next h.releaseAct.announce
  | arriveAt => exact .next (.ite h.arriveAt h)
  | gradTallyArrival => exact h.execGradTallyArrival
  | amaxArrival => exact .next h.tallyOwn
  | rootIssue => exact h.execRootIssue
  | tallyArrive => exact .next h.tallyArrive
  | tallyCombined => exact .next h.tallyCombined
  | localTally => exact .next h.localArrive
  | tallyTimeout => exact h.execTallyTimeout
  | semPost => exact .next h.semPost
  | absent => exact .next h.absentMsg
  | replayNotice => exact .next h.replayNotice
  | measReq => exact .next h.measReq
  | measResp => exact .next h.measResp
  | cap => exact .next h.capMsg
  | portNotice => exact .next h.portNotice
  | withyFlit => exact .next h.withyFlit
  | dataFlit => exact .next h.dataFlit
  | flitTime => exact .next h.flitTime
  | runCheck => exact .next (.ite h h.checkRun)
  | trainingStage => exact h.execTrainingStage
  | linkDown => exact .next (.ite h.portDown h)
  | autoRetrain => exact .next (.ite h.startTraining.onPort h)
  | delayMeasurement => exact .next (.ite h.startSet h)
  | linkDegraded => exact h.execLinkDegraded
  | cmisPoll => exact h.execCmisPoll
  | syntHoldover => exact .next (.ite h.unsource.onFab.event h)
  | syntLost => exact .next (.ite h.onFab.event h)
  | syntLock => exact h.execSyntLock
  | switchedFrame => exact .next h.switchedFrame
  | switchedResend => exact h.execSwitchedResend
  | pauseRx => exact .next h.countPort
  | hold => exact .next h.hold.announce
  | holdEnd => exact .next h.holdEnd.announce
  | supplyPark => exact .next h.supplyPark.announce
  | supplyReset => exact .next h.supplyReset
  | overvolt => exact .next h.onHk.event.set.resetDomains
  | supplyHigh => exact .next h.onHk.event
  | powerThrottle => exact .next (.ite h h.withhold.event)
  | thermalThrottle => exact .next h.onHk.withhold.event
  | thermalAlert => exact .next h.onHk.event
  | thermtrip => exact h.execThermtrip
  | sensorSample => exact h.execSensorSample
  | shutdownReqN => exact .next (.ite h h.beginShutdown.shutdownParked.announce)
  | start => exact h.execStart
  | startStage => exact h.execStartStage
  | startFailed => exact .next (.ite h.failStart.announce h)
  | coppiceTest => exact .next h.coppiceTest.announce
  | liveTakeUp => exact .next h.takeUp
  | bypass => exact .next h.onHk
  | idcode => exact .next h.onHk.set
  | samplePreload => exact .next h.onHk
  | extest => exact .next h.onHk
  | pcieLinkUp => exact .next h.onHost.updateSlow
  | standbyReady => exact .next (.ite h.onMst h)
  | railFault => exact .next h.onHk.event

end Sys2Proof.Machine
end

section
/-! PROOFS. O3: every command, and the housekeeping cycle of an empty queue, keeps memory canonical. -/

namespace Sys2Proof.Machine

/-- A step of any state answers a next state, and what the step kept is told against the state without the command it took. -/
theorem step_answers (s : State) : Answers { s with pending := s.pending.tail } (step s) := by
  obtain ⟨q, hq⟩ : ∃ q, s.pending = q := ⟨_, rfl⟩
  unfold step
  rw [hq]
  cases q with
  | nil =>
    have hs : { s with pending := [] } = s := by rw [← hq]
    exact .next (hs ▸ (Keeps.refl s).tick)
  | cons c cs => exact exec_answers c (.refl _)

/-- Settles O3: memory is canonical after a step because every function the step runs through writes it by operations that keep it so
(`exec_answers` for a command, `Keeps.tick` for an empty queue). -/
theorem everyStepKeepsMemoryCanonical : Obligations.EveryStepKeepsMemoryCanonical := by
  unfold Obligations.EveryStepKeepsMemoryCanonical
  intro s t hs hst
  obtain ⟨u, hu, hkeeps⟩ := step_answers s
  obtain rfl : u = t := Host.Outcome.next.inj (hu.symm.trans hst)
  exact hkeeps.mem hs

end Sys2Proof.Machine
end

section
/-! SUPPORT. Accesses within one line (06_memory_tiers.md R126): what a byte reads as, what a read answers and a write stores, and
what the Malt cache leaves alone. -/

namespace Sys2Proof.Machine

open Sys2Proof.Obl (SameButCache)

/-! ### The bytes of device memory -/

theorem locate_eq_dir_iff (a off : Nat) : locate a = .dir off ↔ 0xC010000000 ≤ a ∧ a < 0xC014000000 ∧ off = a - 0xC010000000 := by
  unfold locate
  dsimp only
  repeat' split
  all_goals simp only [Loc.dir.injEq, reduceCtorEq, false_iff]; omega

theorem locate_of_hbm {a : Nat} (h : a < 0x8000000000) : locate a = .hbm := if_pos h

theorem locate_ne_cellar {a : Nat} (h : a < 0x20000000000) : locate a ≠ .cellar := by
  unfold locate
  dsimp only
  repeat' split
  all_goals simp

theorem locate_ne_aperture {a : Nat} (h : a < 0x20000000000) : locate a ≠ .aperture := by
  unfold locate
  dsimp only
  repeat' split
  all_goals simp

/-- An address outside the Granary's directory reads the byte that memory lists for it. -/
theorem rawByte_of_not_dir {a : Nat} (s : State) (h : ∀ o, locate a ≠ .dir o) : rawByte s a = Tab.get 0 s.mem.cells a := by
  unfold rawByte
  split
  · next o ho => exact absurd ho (h o)
  · rfl

theorem rawBytes_congr {s t : State} {a n : Nat} (h : ∀ x, a ≤ x → x < a + n → rawByte t x = rawByte s x) :
    rawBytes t a n = rawBytes s a n := by
  induction n generalizing a with
  | zero => rfl
  | succ n ih =>
    rw [rawBytes, rawBytes, h a (le_refl a) (by omega), ih fun x hlow hhigh => h x (by omega) (by omega)]

/-- The bytes read at an address are the list whose entries they are. -/
theorem rawBytes_eq_of_getD {t : State} {a : Nat} {bs : List Byte} (h : ∀ i, i < bs.length → rawByte t (a + i) = bs.getD i 0) :
    rawBytes t a bs.length = bs := by
  induction bs generalizing a with
  | nil => rfl
  | cons b bs ih =>
    have hhead : rawByte t a = b := h 0 (Nat.zero_lt_succ _)
    have htail : rawBytes t (a + 1) bs.length = bs := ih fun i hi => by
      have hnext := h (i + 1) (Nat.succ_lt_succ hi)
      rwa [show a + (i + 1) = a + 1 + i by omega, List.getD_cons_succ] at hnext
    rw [List.length_cons, rawBytes, hhead, htail]

/-! ### A store of bytes -/

/-- From s to t the bytes are stored at a: no other byte of memory changes, nor the plots, the housekeeping, the directory or the withdrawn
frames. -/
structure Stored (s t : State) (a : Nat) (bs : List Byte) : Prop where
  cells : t.mem.cells = (s.mem.putBytes a bs).cells
  withdrawn : t.mem.withdrawn = s.mem.withdrawn
  plots : t.plots = s.plots
  hk : t.hk = s.hk
  grn : t.grn = s.grn

theorem Memory.putBytes_cells_congr {m n : Memory} {a : Nat} {bs : List Byte} (h : m.cells = n.cells) :
    (m.putBytes a bs).cells = (n.putBytes a bs).cells := by
  induction bs generalizing m n a with
  | nil => exact h
  | cons b bs ih => exact ih (congrArg (fun c => Tab.set 0 c a b) h)

theorem Memory.putBytes_withdrawn (m : Memory) (a : Nat) (bs : List Byte) : (m.putBytes a bs).withdrawn = m.withdrawn := by
  induction bs generalizing m a with
  | nil => rfl
  | cons _ _ ih => exact ih _ _

theorem Memory.setPoison_withdrawn (m : Memory) (a : Nat) (v : Bool) : (m.setPoison a v).withdrawn = m.withdrawn := by
  unfold Memory.setPoison
  split <;> rfl

theorem Stored.nil (s : State) (a : Nat) : Stored s s a [] := ⟨rfl, rfl, rfl, rfl, rfl⟩

theorem Stored.onMem (s : State) (a : Nat) (bs : List Byte) : Stored s (s.onMem (fun m => m.putBytes a bs)) a bs :=
  ⟨rfl, Memory.putBytes_withdrawn .., rfl, rfl, rfl⟩

section
variable {s t : State} {a : Nat} {bs : List Byte}

theorem Stored.wf (h : Stored s t a bs) (hw : s.mem.wf = true) : t.mem.wf = true :=
  Memory.wf_of_cells _ _ h.cells (Memory.wf_putBytes _ _ _ hw)

/-- The bytes stored outside the directory are read back. -/
theorem Stored.rawBytes_eq (h : Stored s t a bs) (hw : s.mem.wf = true) (hdir : ∀ x, a ≤ x → x < a + bs.length → ∀ o, locate x ≠ .dir o) :
    rawBytes t a bs.length = bs := by
  refine rawBytes_eq_of_getD fun i hi => ?_
  rw [rawByte_of_not_dir t (hdir (a + i) (by omega) (by omega)), h.cells, Memory.get_putBytes _ _ _ _ hw, if_pos (by omega),
    Nat.add_sub_cancel_left]

/-- Every byte outside the range reads as before. -/
theorem Stored.rawByte_outside (h : Stored s t a bs) (hw : s.mem.wf = true) {x : Nat} (hx : x < a ∨ a + bs.length ≤ x) :
    rawByte t x = rawByte s x := by
  unfold rawByte
  rw [h.grn, h.cells, Memory.get_putBytes _ _ _ _ hw, if_neg (by omega)]

end

/-! ### The Malt cache: lines held and traffic counted, nothing else -/

theorem sameButCache_refl (s : State) : SameButCache s s := rfl

theorem sameButCache_trans {s t u : State} (hst : SameButCache s t) (htu : SameButCache t u) : SameButCache s u := by
  unfold SameButCache at hst htu ⊢
  rw [htu, hst]

theorem sameButCache_each {α : Type} {f : α → State → State} (h : ∀ x s, SameButCache s (f x s)) (xs : List α) (s : State) :
    SameButCache s (State.each f xs s) :=
  State.each_inv (SameButCache s) f (fun x _ ht => sameButCache_trans ht (h x _)) xs s (sameButCache_refl s)

theorem sameButCache_kilnRead (blk : Nat) (s : State) : SameButCache s (kilnRead blk s) := rfl

theorem sameButCache_kilnWrite (w : Bool) (blk : Nat) (s : State) : SameButCache s (kilnWrite w blk s) := by
  cases w <;> rfl

theorem sameButCache_writeBack (sl : Nat) (v : Option MaltLine) (s : State) : SameButCache s (writeBack sl v s) := by
  unfold writeBack
  split
  · split
    · exact sameButCache_trans (sameButCache_kilnWrite ..) rfl
    · exact sameButCache_refl s
  · exact sameButCache_refl s

theorem sameButCache_putLine (sl : Nat) (v : Option MaltLine) (ls : Tab (List MaltLine)) (s : State) :
    SameButCache s (writeBack sl v (s.onMem (fun m => { m with malt := ls }))) :=
  sameButCache_trans (t := s.onMem (fun m => { m with malt := ls })) rfl (sameButCache_writeBack ..)

theorem sameButCache_keepLine (sl l : Nat) (s : State) : SameButCache s (keepLine sl l s) := by
  unfold keepLine
  split
  · exact sameButCache_refl s
  · exact sameButCache_putLine ..

theorem sameButCache_blockRead (h : Hint) (sl a : Nat) (s : State) : SameButCache s (blockRead h sl a s) := by
  unfold blockRead
  dsimp only
  split
  · exact sameButCache_kilnRead ..
  · exact sameButCache_trans (sameButCache_kilnRead ..) (sameButCache_each (sameButCache_keepLine sl) ..)

/-- A line accessed under its hint. -/
theorem sameButCache_maltTouch (h : Hint) (w full : Bool) (a : Nat) (s : State) : SameButCache s (maltTouch h w full a s) := by
  unfold maltTouch
  dsimp only
  refine sameButCache_trans ?_ (sameButCache_putLine ..)
  split
  · exact sameButCache_blockRead ..
  · exact sameButCache_refl s

@[simp] theorem maltTouch_withdrawn (h : Hint) (w full : Bool) (a : Nat) (s : State) :
    (maltTouch h w full a s).mem.withdrawn = s.mem.withdrawn := by
  rw [sameButCache_maltTouch h w full a s]

/-! ### An access within one line is one request of one line -/

theorem pieces_zero (u fuel a : Nat) : pieces u fuel a 0 = [] := by
  cases fuel <;> rfl

theorem pieces_of_fits {u fuel a n : Nat} (hn : 0 < n) (hfits : n ≤ u - a % u) : pieces u (fuel + 1) a n = [(a, n)] := by
  rw [pieces, if_neg (by omega)]
  simp [Nat.min_eq_left hfits, pieces_zero]

theorem lines_of_fits {a n : Nat} (hn : 0 < n) (hfits : n ≤ 128 - a % 128) : lines a n = [(a, n)] := pieces_of_fits hn hfits

theorem requests_zero (a : Nat) : requests a 0 = [] := pieces_zero ..

theorem requests_of_fits {a n : Nat} (hn : 0 < n) (hfits : n ≤ 128 - a % 128) : requests a n = [(a, n)] :=
  pieces_of_fits hn (by omega)

theorem inLine_le (a n : Nat) : inLine a n ≤ 128 - a % 128 := Nat.min_le_right ..

theorem inLine_pos {a n : Nat} (hn : 0 < n) : 0 < inLine a n := by
  unfold inLine
  omega

/-! ### Reads -/

theorem lineRead_data (req : Nat) (h : Hint) (a n : Nat) (s : State) : (lineRead req h a n s).2.1 = rawBytes s a n := by
  unfold lineRead
  dsimp only
  split <;> rfl

theorem requestRead_data {req a n : Nat} {h : Hint} {s : State} (hok : refuses s req a false = false) (hap : locate a ≠ .aperture)
    (hn : 0 < n) (hfits : n ≤ 128 - a % 128) : (requestRead req h a n s).2.1 = rawBytes s a n := by
  have hline : (linesRead req h (lines a n) s).2.1 = rawBytes s a n := by
    rw [lines_of_fits hn hfits]
    simp [linesRead, lineRead_data]
  unfold requestRead
  rw [hok]
  simp only [Bool.false_eq_true, if_false]
  split
  · exact hline
  · exact hline
  · next hloc => exact absurd hloc hap
  · rfl

theorem devRead_of_fits {req a n : Nat} {h : Hint} {s : State} (hn : 0 < n) (hfits : n ≤ 128 - a % 128) :
    devRead req h a n s = requestRead req h a n s := by
  unfold devRead
  rw [requests_of_fits hn hfits]
  simp [requestsRead]

/-- A read within a line that R21 does not refuse answers the bytes there. -/
theorem devRead_data {req a n : Nat} {h : Hint} {s : State} (hok : refuses s req a false = false) (hap : locate a ≠ .aperture)
    (hfits : n ≤ 128 - a % 128) : (devRead req h a n s).2.1 = rawBytes s a n := by
  rcases Nat.eq_zero_or_pos n with rfl | hn
  · simp [devRead, requests_zero, requestsRead, rawBytes]
  · rw [devRead_of_fits hn hfits, requestRead_data hok hap hn hfits]

theorem devRead_of_refuses {req a n : Nat} {h : Hint} {s : State} (hno : refuses s req a false = true) (hn : 0 < n)
    (hfits : n ≤ 128 - a % 128) : devRead req h a n s = (addrFault req a s, zeros n, false) := by
  rw [devRead_of_fits hn hfits, requestRead, if_pos hno]

/-! ### Writes -/

/-- A line written whose die is not lost. -/
theorem stored_lineWrite {h : Hint} {whole : Bool} {a : Nat} {bs : List Byte} {s : State} (hloc : locate a ≠ .cellar) :
    Stored s (lineWrite h whole a bs s) a bs := by
  unfold lineWrite
  rw [if_neg (by simp [hloc])]
  dsimp only
  split
  · exact ⟨by simpa using Memory.putBytes_cells_congr (maltTouch_cells ..),
      by simp [Memory.setPoison_withdrawn, Memory.putBytes_withdrawn], by simp, by simp, by simp⟩
  · exact ⟨by simpa using Memory.putBytes_cells_congr (maltTouch_cells ..), by simp [Memory.putBytes_withdrawn], by simp, by simp, by simp⟩

theorem devWrite_of_fits {req a : Nat} {h : Hint} {bs : List Byte} {s : State} (hn : bs ≠ []) (hfits : bs.length ≤ 128 - a % 128) :
    devWrite req h a bs s = requestWrite req h a bs s := by
  unfold devWrite
  rw [requests_of_fits (List.length_pos_iff.mpr hn) hfits]
  simp [requestsWrite]

/-- A write within a line of HBM, a plot store or the buffer that R21 does not refuse. -/
theorem stored_devWrite {req a : Nat} {h : Hint} {bs : List Byte} {s : State} (hok : refuses s req a true = false)
    (hlow : a < 0x20000000000) (hdir : ∀ o, locate a ≠ .dir o) (hfits : bs.length ≤ 128 - a % 128) : Stored s (devWrite req h a bs s) a bs := by
  rcases eq_or_ne bs [] with rfl | hn
  · simpa [devWrite, requests_zero, requestsWrite] using Stored.nil s a
  · rw [devWrite_of_fits hn hfits]
    unfold requestWrite
    rw [hok, lines_of_fits (List.length_pos_iff.mpr hn) hfits]
    simp only [Bool.false_eq_true, if_false]
    split
    · next hloc => simpa [linesWrite] using stored_lineWrite (by simp [hloc])
    · next hloc => exact absurd hloc (locate_ne_cellar hlow)
    · next hloc => exact absurd hloc (locate_ne_aperture hlow)
    · next hloc => exact absurd hloc (hdir _)
    · exact .onMem ..

theorem devWrite_of_refuses {req a : Nat} {h : Hint} {bs : List Byte} {s : State} (hno : refuses s req a true = true) (hn : bs ≠ [])
    (hfits : bs.length ≤ 128 - a % 128) : devWrite req h a bs s = addrFault req a s := by
  rw [devWrite_of_fits hn hfits, requestWrite, if_pos hno]

/-! ### MALT_ACCESS without array error -/

theorem beforeAccess_clean (req a len : Nat) (write : Bool) (s : State) : beforeAccess req a len write .clean s = s := by
  have htier : tierError req a len write .clean s = s := by simp [tierError, meetError]
  have hsram : sramError a .clean s = s := rfl
  unfold beforeAccess
  split
  · rfl
  · split
    · exact htier
    · exact htier
    · rfl
    · rfl
    · exact hsram

/-- The answer of a read. -/
def answerRead (req : Nat) (r : State × List Byte × Bool) : State :=
  { (if r.2.2 && decide (req < 64) then unregInv req r.1 else r.1) with ret := { data := r.2.1, poison := r.2.2 } }

theorem exec_maltAccess_read (req : Nat) (a : BitVec 44) (h : Hint) (n : Nat) (bs : List Byte) (s : State) :
    exec (.maltAccess req a h false n bs .clean) s = .next (answerRead req (devRead req h a.toNat (inLine a.toNat n) s)) := by
  change execMaltAccess req a h false n bs .clean s = _
  unfold execMaltAccess answerRead
  simp [beforeAccess_clean]

theorem exec_maltAccess_write (req : Nat) (a : BitVec 44) (h : Hint) (n : Nat) (bs : List Byte) (s : State) :
    exec (.maltAccess req a h true n bs .clean) s = .next (devWrite req h a.toNat (bs.take (inLine a.toNat bs.length)) s) := by
  change execMaltAccess req a h true n bs .clean s = _
  unfold execMaltAccess
  simp [beforeAccess_clean]

section
variable (req : Nat) (r : State × List Byte × Bool)

@[simp] theorem answerRead_data : (answerRead req r).ret.data = r.2.1 := rfl
@[simp] theorem answerRead_status : (answerRead req r).ret.status = 0 := rfl
@[simp] theorem answerRead_mem : (answerRead req r).mem = r.1.mem := by unfold answerRead; split <;> rfl
@[simp] theorem answerRead_grn : (answerRead req r).grn = r.1.grn := by unfold answerRead; split <;> rfl
@[simp] theorem answerRead_sch : (answerRead req r).sch = r.1.sch := by unfold answerRead; split <;> rfl

end

end Sys2Proof.Machine
end

section
/-! SUPPORT. Commit groups and the scrub (06_memory_tiers.md R129, R143): lines of one frame installed one after another, and what a scrub
pass keeps while it meets errors and poison. -/

namespace Sys2Proof.Machine

/-! ### A commit group -/

theorem padTo_of_length {bs : List Byte} {n : Nat} (h : bs.length = n) : padTo n bs = bs := by
  subst h
  simp [padTo, slice, zeros]

/-- A whole line of HBM frame f. -/
def WholeLineOf (f : Nat) (l : BitVec 44 × List Byte) : Prop :=
  l.1.toNat / 0x10000 = f ∧ l.1.toNat % 128 = 0 ∧ l.2.length = 128

section
variable {f : Nat} {l : BitVec 44 × List Byte}

theorem WholeLineOf.lt (h : WholeLineOf f l) (hf : f < 0x800000) : l.1.toNat < 0x8000000000 := by
  obtain ⟨hframe, -, -⟩ := h
  omega

/-- No byte of such a line lies in the Granary's directory. -/
theorem WholeLineOf.not_dir (h : WholeLineOf f l) (hf : f < 0x800000) {x : Nat} (hlow : l.1.toNat ≤ x) (hhigh : x < l.1.toNat + 128) (o : Nat) :
    locate x ≠ .dir o := by
  obtain ⟨hframe, hline, -⟩ := h
  rw [locate_of_hbm (by omega)]
  nofun

theorem WholeLineOf.stored_groupLine (h : WholeLineOf f l) (hf : f < 0x800000) (req : Nat) (as : List Nat) {s : State}
    (hin : s.mem.withdrawn.get false f = false) : Stored s (groupLine req as l s) l.1.toNat l.2 := by
  have hloc : locate l.1.toNat = .hbm := locate_of_hbm (h.lt hf)
  obtain ⟨hframe, hline, hlen⟩ := h
  have hok : refuses s req l.1.toNat true = false := by
    unfold refuses
    rw [hloc]
    simpa [hframe] using hin
  unfold groupLine
  dsimp only
  rw [show l.1.toNat / 128 * 128 = l.1.toNat by omega, hloc, padTo_of_length hlen]
  simpa [hok] using stored_lineWrite (by simp [hloc])

end

/-- From s to t every line of a group is stored, and no byte outside them changes. -/
structure Installed (s t : State) (ls : List (BitVec 44 × List Byte)) : Prop where
  lines : ∀ l ∈ ls, rawBytes t l.1.toNat 128 = l.2
  outside : ∀ x, (∀ l ∈ ls, x < l.1.toNat ∨ l.1.toNat + 128 ≤ x) → rawByte t x = rawByte s x
  plots : t.plots = s.plots
  hk : t.hk = s.hk

/-- Whole lines of one HBM frame that is not withdrawn, at distinct addresses, are all stored. -/
theorem installed_each (req : Nat) (as : List Nat) {f : Nat} (hf : f < 0x800000) (ls : List (BitVec 44 × List Byte)) (s : State)
    (hls : ∀ l ∈ ls, WholeLineOf f l) (hdistinct : (ls.map (fun l => l.1)).Nodup) (hin : s.mem.withdrawn.get false f = false)
    (hw : s.mem.wf = true) : Installed s (State.each (groupLine req as) ls s) ls := by
  induction ls generalizing s with
  | nil => exact ⟨by simp, fun _ _ => rfl, rfl, rfl⟩
  | cons l ls ih =>
    have hl : WholeLineOf f l := hls l (.head _)
    have hrest : ∀ m ∈ ls, WholeLineOf f m := fun m hm => hls m (.tail _ hm)
    obtain ⟨hnew, hdistinct⟩ := List.nodup_cons.mp hdistinct
    have hstored := hl.stored_groupLine hf req as hin
    have hi := ih (groupLine req as l s) hrest hdistinct (by rw [hstored.withdrawn]; exact hin) (hstored.wf hw)
    have hlen : l.2.length = 128 := hl.2.2
    have happart : ∀ m ∈ ls, l.1.toNat + 128 ≤ m.1.toNat ∨ m.1.toNat + 128 ≤ l.1.toNat := fun m hm => by
      have hne : l.1.toNat ≠ m.1.toNat := fun he => hnew (List.mem_map.mpr ⟨m, hm, (BitVec.eq_of_toNat_eq he).symm⟩)
      obtain ⟨-, hline, -⟩ := hl
      obtain ⟨-, hmline, -⟩ := hrest m hm
      omega
    refine ⟨fun m hm => ?_, fun x hx => ?_, hi.plots.trans hstored.plots, hi.hk.trans hstored.hk⟩
    · rcases List.mem_cons.mp hm with rfl | hm
      · have hkept : rawBytes (State.each (groupLine req as) ls (groupLine req as m s)) m.1.toNat 128 =
            rawBytes (groupLine req as m s) m.1.toNat 128 :=
          rawBytes_congr fun x hlow hhigh => hi.outside x fun k hk => by have := happart k hk; omega
        have hread := hstored.rawBytes_eq hw (fun x hlow hhigh => hl.not_dir hf hlow (by omega))
        exact hkept.trans (by rwa [hlen] at hread)
      · exact hi.lines m hm
    · rw [show State.each (groupLine req as) (l :: ls) s = State.each (groupLine req as) ls (groupLine req as l s) from rfl,
        hi.outside x fun m hm => hx m (.tail _ hm)]
      exact hstored.rawByte_outside hw (by have := hx l (.head _); omega)

theorem commitOk_of_wholeLines {f : Nat} {ls : List (BitVec 44 × List Byte)} (hfew : 1 ≤ ls.length) (hmany : ls.length ≤ 8)
    (hls : ∀ l ∈ ls, WholeLineOf f l) : commitOk ls = true := by
  have hhead : (ls.headD (0, [])).1.toNat / 0x10000 = f := by
    cases ls with
    | nil => simp at hfew
    | cons l _ => exact (hls l (.head _)).1
  have hall : ls.all (fun l => l.1.toNat / 0x10000 == f) = true := List.all_eq_true.mpr fun l hl => beq_iff_eq.mpr (hls l hl).1
  unfold commitOk
  rw [hhead, hall, decide_eq_true hfew, decide_eq_true hmany]
  rfl

theorem exec_commitGroup_of_ok (req : Nat) {ls : List (BitVec 44 × List Byte)} (s : State) (h : commitOk ls = true) :
    exec (.commitGroup req ls) s = .next (installGroup req ls s) := by
  change execCommitGroup req ls s = _
  rw [execCommitGroup, if_pos h]

theorem exec_commitGroup_of_not_ok (req : Nat) {ls : List (BitVec 44 × List Byte)} (s : State) (h : commitOk ls = false) :
    exec (.commitGroup req ls) s = .next s := by
  change execCommitGroup req ls s = _
  rw [execCommitGroup, h, if_neg Bool.false_ne_true]

/-! ### A scrub pass -/

/-- The channel of an address depends on where frames lie alone. -/
theorem channelOf_congr {s t : State} (hhbm : t.mem.hbmMap = s.mem.hbmMap) (hcel : t.mem.celMap = s.mem.celMap) (a : Nat) :
    channelOf t a = channelOf s a := by
  unfold channelOf
  rw [hhbm, hcel]

theorem stickyBit_event_self (g b src : Nat) (data : List Nat) (s : State) : stickyBit (event g b src data s) g b = true := by
  simp [stickyBit_event]

/-- A key stays listed when its table gains an entry. -/
theorem Tab.exists_key_insert {α : Type} {t : Tab α} {k : Nat} {v : α} {kv : Nat × α} (h : kv ∈ t) :
    ∃ x ∈ Tab.insert t k v, x.1 = kv.1 := by
  induction t with
  | nil => cases h
  | cons y t ih =>
    obtain ⟨j, w⟩ := y
    unfold Tab.insert
    split
    · next hj =>
      rcases List.mem_cons.mp h with rfl | h
      · exact ⟨(k, v), .head _, hj.symm⟩
      · exact ⟨kv, .tail _ h, rfl⟩
    · split
      · exact ⟨kv, .tail _ h, rfl⟩
      · rcases List.mem_cons.mp h with rfl | h
        · exact ⟨_, .head _, rfl⟩
        · obtain ⟨x, hx, hkey⟩ := ih h
          exact ⟨x, .tail _ hx, hkey⟩

/-- What every part of a scrub pass keeps: the bytes, where frames lie, the count of passes, plots and schedule; sticky bits that are set
stay set, and HBM lines listed as poisoned stay listed. -/
structure Scrubbed (s t : State) : Prop where
  cells : t.mem.cells = s.mem.cells
  hbmMap : t.mem.hbmMap = s.mem.hbmMap
  celMap : t.mem.celMap = s.mem.celMap
  scrubs : t.mem.scrubs = s.mem.scrubs
  plots : t.plots = s.plots
  sch : t.sch = s.sch
  sticky : ∀ g b, stickyBit s g b = true → stickyBit t g b = true
  poison : ∀ kv ∈ s.mem.hbmPoison, ∃ x ∈ t.mem.hbmPoison, x.1 = kv.1

section
variable {s t u : State}

theorem Scrubbed.refl (s : State) : Scrubbed s s := ⟨rfl, rfl, rfl, rfl, rfl, rfl, fun _ _ h => h, fun kv h => ⟨kv, h, rfl⟩⟩

theorem Scrubbed.trans (h : Scrubbed s t) (k : Scrubbed t u) : Scrubbed s u where
  cells := k.cells.trans h.cells
  hbmMap := k.hbmMap.trans h.hbmMap
  celMap := k.celMap.trans h.celMap
  scrubs := k.scrubs.trans h.scrubs
  plots := k.plots.trans h.plots
  sch := k.sch.trans h.sch
  sticky g b hb := k.sticky g b (h.sticky g b hb)
  poison kv hkv := by
    obtain ⟨x, hx, hkey⟩ := h.poison kv hkv
    obtain ⟨y, hy, hkey'⟩ := k.poison x hx
    exact ⟨y, hy, hkey'.trans hkey⟩

theorem Scrubbed.each {α : Type} {f : α → State → State} (h : ∀ x s, Scrubbed s (f x s)) (xs : List α) (s : State) :
    Scrubbed s (State.each f xs s) :=
  State.each_inv (Scrubbed s) f (fun x t ht => ht.trans (h x t)) xs s (.refl s)

theorem Scrubbed.channelOf_eq (h : Scrubbed s t) (a : Nat) : channelOf t a = channelOf s a := channelOf_congr h.hbmMap h.celMap a

end

theorem scrubbed_event (g b src : Nat) (data : List Nat) (s : State) : Scrubbed s (event g b src data s) :=
  ⟨by simp, by simp, by simp, by simp, by simp, by simp, fun _ _ hb => by simp [stickyBit_event, hb], fun kv h => ⟨kv, by simpa using h, rfl⟩⟩

theorem scrubbed_setPoison (a : Nat) (s : State) : Scrubbed s (s.onMem (·.setPoison a true)) := by
  by_cases ha : a < cellarBase
  · have hm : s.mem.setPoison a true = { s.mem with hbmPoison := s.mem.hbmPoison.insert (a / 128) true } := by
      rw [Memory.setPoison, if_pos ha]
      rfl
    refine ⟨?_, ?_, ?_, ?_, rfl, rfl, fun _ _ hb => hb, fun kv hkv => ?_⟩ <;> rw [State.onMem_mem, hm]
    exact Tab.exists_key_insert hkv
  · have hm : s.mem.setPoison a true = { s.mem with kilnPoison := s.mem.kilnPoison.set false ((a - cellarBase) / 512) true } := if_neg ha
    refine ⟨?_, ?_, ?_, ?_, rfl, rfl, fun _ _ hb => hb, fun kv hkv => ?_⟩ <;> rw [State.onMem_mem, hm]
    exact ⟨kv, hkv, rfl⟩

theorem scrubbed_poisonLine (req a : Nat) (s : State) : Scrubbed s (poisonLine req a s) :=
  (scrubbed_setPoison a s).trans (scrubbed_event ..)

theorem scrubbed_poisonRead (req a : Nat) (s : State) : Scrubbed s (poisonRead req a s) := scrubbed_event ..

theorem scrubbed_corrected (ch a : Nat) (s : State) : Scrubbed s (corrected ch a s) := by
  have hcount (times : Tab (List Nat)) : Scrubbed s (s.onMem (fun m => { m with ceCount := m.ceCount.modify 0 ch (· + 1), ceTimes := times })) :=
    ⟨rfl, rfl, rfl, rfl, rfl, rfl, fun _ _ hb => hb, fun kv h => ⟨kv, h, rfl⟩⟩
  unfold corrected
  dsimp only
  split
  · exact (hcount _).trans (scrubbed_event ..)
  · exact hcount _

theorem scrubbed_meetError (req a : Nat) (err : MemErr) (s : State) : Scrubbed s (meetError req a err s) := by
  unfold meetError
  split
  · exact scrubbed_corrected ..
  · exact scrubbed_poisonLine ..
  · split
    · exact .refl s
    · exact .each (scrubbed_poisonLine req) ..
  · exact .refl s

theorem scrubbed_scrubFound (ch : Nat) (x : BitVec 44 × MemErr) (s : State) : Scrubbed s (scrubFound ch x s) := by
  unfold scrubFound
  split
  · exact scrubbed_meetError ..
  · exact .refl s

theorem scrubbed_scrubKiln (ch : Nat) (s : State) : Scrubbed s (scrubKiln ch s) := by
  unfold scrubKiln
  split
  · exact .refl s
  · exact ⟨rfl, rfl, rfl, rfl, rfl, rfl, fun _ _ hb => hb, fun kv h => ⟨kv, h, rfl⟩⟩

/-- One address of the poison that a scrub pass reads. -/
def scrubPoisonAt (ch a : Nat) (s : State) : State := if channelOf s a = ch then poisonRead reqMaltster a s else s

theorem scrubPoison_eq (ch : Nat) (s : State) : scrubPoison ch s = State.each (scrubPoisonAt ch)
    (s.mem.hbmPoison.map (fun kv => kv.1 * 128) ++ s.mem.kilnPoison.map (fun kv => cellarBase + kv.1 * 512)) s := rfl

theorem scrubbed_scrubPoisonAt (ch a : Nat) (s : State) : Scrubbed s (scrubPoisonAt ch a s) := by
  unfold scrubPoisonAt
  split
  · exact scrubbed_poisonRead ..
  · exact .refl s

theorem scrubbed_scrubPoison (ch : Nat) (s : State) : Scrubbed s (scrubPoison ch s) := .each (scrubbed_scrubPoisonAt ch) ..

/-- What one entry of a list sets, a fold of steps that keep sticky bits leaves set. -/
theorem stickyBit_each {α : Type} {f : α → State → State} (h : ∀ x s, Scrubbed s (f x s)) {xs : List α} {x : α} (hx : x ∈ xs) {g b : Nat}
    {s : State} (hset : ∀ t, Scrubbed s t → stickyBit (f x t) g b = true) : stickyBit (State.each f xs s) g b = true := by
  obtain ⟨before, after, rfl⟩ := List.append_of_mem hx
  have hsplit : State.each f (before ++ x :: after) s = State.each f after (f x (State.each f before s)) := by
    simp [State.each]
  rw [hsplit]
  exact (Scrubbed.each h after _).sticky g b (hset _ (.each h before s))

/-- An uncorrectable error found on the channel sets its tier's bit. -/
theorem stickyBit_scrubFound {ch : Nat} {x : BitVec 44 × MemErr} {s : State} (herr : x.2 = .uncorrectable) (hch : channelOf s x.1.toNat = ch) :
    stickyBit (scrubFound ch x s) (tierGroup x.1.toNat) 1 = true := by
  rw [scrubFound, if_pos hch, herr]
  exact stickyBit_event_self ..

/-- A poisoned HBM line of the channel sets POISON_READ of group 2. -/
theorem stickyBit_scrubPoison {ch : Nat} {s : State} {kv : Nat × Bool} (hkv : kv ∈ s.mem.hbmPoison) (hch : channelOf s (kv.1 * 128) = ch)
    (hhbm : kv.1 * 128 < cellarBase) : stickyBit (scrubPoison ch s) 2 2 = true := by
  rw [scrubPoison_eq]
  refine stickyBit_each (scrubbed_scrubPoisonAt ch) (x := kv.1 * 128) (List.mem_append_left _ (List.mem_map.mpr ⟨kv, hkv, rfl⟩)) fun t ht => ?_
  rw [scrubPoisonAt, if_pos ((ht.channelOf_eq _).trans hch), poisonRead, tierGroup, if_pos hhbm]
  exact stickyBit_event_self ..

/-- Without a poisoned line or block of the channel nothing is read as poison. -/
theorem scrubPoison_of_none {ch : Nat} {s : State} (hhbm : ∀ kv ∈ s.mem.hbmPoison, channelOf s (kv.1 * 128) ≠ ch)
    (hkiln : ∀ kv ∈ s.mem.kilnPoison, channelOf s (cellarBase + kv.1 * 512) ≠ ch) : scrubPoison ch s = s := by
  have hnone : ∀ as : List Nat, (∀ a ∈ as, channelOf s a ≠ ch) → State.each (scrubPoisonAt ch) as s = s := by
    intro as
    induction as with
    | nil => exact fun _ => rfl
    | cons a as ih =>
      intro has
      have hstep : scrubPoisonAt ch a s = s := if_neg (has a (.head _))
      rw [State.each, List.foldl_cons, hstep]
      exact ih fun b hb => has b (.tail _ hb)
  rw [scrubPoison_eq]
  refine hnone _ fun a ha => ?_
  rcases List.mem_append.mp ha with ha | ha <;> obtain ⟨kv, hkv, rfl⟩ := List.mem_map.mp ha
  · exact hhbm kv hkv
  · exact hkiln kv hkv

/-- The pass counted. -/
def countScrub (ch : Nat) (s : State) : State := s.onMem (fun m => { m with scrubs := m.scrubs.modify 0 ch (· + 1) })

theorem exec_scrub (ch : Fin 384) (found : List (BitVec 44 × MemErr)) (s : State) :
    exec (.scrub ch found) s = .next (scrubPoison ch (State.each (scrubFound ch) found (scrubKiln ch (countScrub ch s)))) := rfl

end Sys2Proof.Machine
end

section
/-! PROOFS. Memory accesses (06_memory_tiers.md R120, R126, R129, R130, R142, R143, R148). -/

namespace Sys2Proof.Machine

/-- A read within its line. -/
theorem maltAccess_reads (req : Nat) (a : BitVec 44) (h : Hint) (n : Nat) (s : State) (hok : refuses s req a.toNat false = false)
    (hap : locate a.toNat ≠ .aperture) :
    ∃ t, exec (.maltAccess req a h false n [] .clean) s = .next t ∧ t.ret.data = rawBytes s a.toNat (min n (128 - a.toNat % 128)) ∧
      t.ret.status = 0 ∧ t.mem.cells = s.mem.cells ∧ t.grn = s.grn ∧ t.sch = s.sch :=
  ⟨_, exec_maltAccess_read .., by rw [answerRead_data, devRead_data hok hap (inLine_le ..), inLine], by simp, by simp, by simp, by simp⟩

/-- A write within its line. -/
theorem maltAccess_stores (req : Nat) (a : BitVec 44) (h : Hint) (bs : List Byte) (s : State) (hok : refuses s req a.toNat true = false)
    (hlow : a.toNat < 0x20000000000) (hdir : ∀ o, locate a.toNat ≠ .dir o) (hfits : a.toNat % 128 + bs.length ≤ 128)
    (hw : s.mem.wf = true) :
    ∃ t, exec (.maltAccess req a h true 0 bs .clean) s = .next t ∧ rawBytes t a.toNat bs.length = bs ∧
      (∀ x, x < a.toNat ∨ a.toNat + bs.length ≤ x → rawByte t x = rawByte s x) ∧ t.plots = s.plots ∧ t.hk = s.hk ∧ t.grn = s.grn := by
  have hwhole : bs.take (inLine a.toNat bs.length) = bs := List.take_of_length_le (by unfold inLine; omega)
  have hstored := stored_devWrite (h := h) hok hlow hdir (bs := bs) (by omega)
  have hline : ∀ x, a.toNat ≤ x → x < a.toNat + bs.length → ∀ o, locate x ≠ .dir o := fun x hlow hhigh o ho => by
    obtain ⟨h1, h2, -⟩ := (locate_eq_dir_iff x o).mp ho
    exact hdir _ ((locate_eq_dir_iff a.toNat _).mpr ⟨by omega, by omega, rfl⟩)
  refine ⟨_, exec_maltAccess_write .., ?_⟩
  rw [hwhole]
  exact ⟨hstored.rawBytes_eq hw hline, fun x hx => hstored.rawByte_outside hw hx, hstored.plots, hstored.hk, hstored.grn⟩

/-- A refused access. -/
theorem maltAccess_refused (req : Nat) (a : BitVec 44) (h : Hint) (wr : Bool) (n : Nat) (bs : List Byte) (s : State)
    (hno : refuses s req a.toNat wr = true) (hn : 0 < n) (hbs : bs ≠ []) :
    ∃ t, exec (.maltAccess req a h wr n bs .clean) s = .next t ∧ stickyBit t 4 2 = true ∧ t.mem = s.mem ∧
      (wr = false → t.ret.data = zeros (min n (128 - a.toNat % 128))) := by
  cases wr with
  | false =>
    have hread := devRead_of_refuses (h := h) hno (inLine_pos (a := a.toNat) hn) (inLine_le ..)
    refine ⟨_, exec_maltAccess_read .., ?_⟩
    rw [hread]
    exact ⟨stickyBit_event_self .., by simp, fun _ => rfl⟩
  | true =>
    have hlen : 0 < inLine a.toNat bs.length := inLine_pos (List.length_pos_iff.mpr hbs)
    have hne : bs.take (inLine a.toNat bs.length) ≠ [] := by
      simp only [ne_eq, List.take_eq_nil_iff, not_or]
      exact ⟨by omega, hbs⟩
    have hwrite := devWrite_of_refuses (h := h) hno hne ((List.length_take_le ..).trans (inLine_le ..))
    refine ⟨_, exec_maltAccess_write .., ?_⟩
    rw [hwrite]
    exact ⟨stickyBit_event_self .., by simp, by simp⟩

/-- A commit group of whole lines. -/
theorem commitGroup_installs (req : Nat) (ls : List (BitVec 44 × List Byte)) (f : Nat) (s : State) (hfew : 1 ≤ ls.length)
    (hmany : ls.length ≤ 8) (hf : f < 0x800000) (hls : ∀ l ∈ ls, WholeLineOf f l) (hdistinct : (ls.map (fun l => l.1)).Nodup)
    (hin : s.mem.withdrawn.get false f = false) (hw : s.mem.wf = true) :
    ∃ t, exec (.commitGroup req ls) s = .next t ∧ Installed s t ls :=
  ⟨_, exec_commitGroup_of_ok req s (commitOk_of_wholeLines hfew hmany hls), installed_each req _ hf ls s hls hdistinct hin hw⟩

theorem commitGroup_illFormed (req : Nat) (ls : List (BitVec 44 × List Byte)) (s : State) (h : ls = [] ∨ 8 < ls.length) :
    exec (.commitGroup req ls) s = .next s := by
  refine exec_commitGroup_of_not_ok req s ?_
  rcases h with rfl | h
  · rfl
  · simp [commitOk, Nat.not_le.mpr h]

theorem fence_counts (req : Nat) (s : State) : ∃ t, exec (.fence req) s = .next t ∧ t.mem = { s.mem with fences := t.mem.fences } ∧
    (Tab.wf 0 s.mem.fences = true → t.mem.fences.get 0 req = sat48 (s.mem.fences.get 0 req + 1)) ∧ t.plots = s.plots ∧ t.hk = s.hk :=
  ⟨takeFence req s, rfl, rfl, fun hw => by
    change Tab.get 0 (Tab.modify 0 s.mem.fences req (fun c => sat48 (c + 1))) req = _
    rw [Tab.get_modify _ _ _ _ _ hw, if_pos rfl], rfl, rfl⟩

theorem linkRetransmit_sets (d : Fin 4) (s : State) : ∃ t, exec (.linkRetransmit d) s = .next t ∧ stickyBit t 3 4 = true ∧
    t.mem.cells = s.mem.cells ∧ t.plots = s.plots :=
  ⟨_, rfl, stickyBit_event_self .., by simp, by simp⟩

theorem poisonedAt_of_dieLost {t : State} {a : Nat} (ha : locate a = .cellar)
    (hlost : t.mem.dieLost.get false ((channelOf t a - 128) / 64) = true) : poisonedAt t a = true := by
  unfold poisonedAt
  rw [ha]
  simp [hlost]

/-- A lost die reads as poison. -/
theorem cellarDieLost_poisons (d : Fin 4) (s : State) : ∃ t, exec (.cellarDieLost d) s = .next t ∧ stickyBit t 3 9 = true ∧
    t.mem.dieLost.get false d = true ∧
    (∀ a, locate a = .cellar → (channelOf s a - 128) / 64 = d.val → poisonedAt t a = true) ∧ t.mem.cells = s.mem.cells := by
  have hlost (t : State) (ht : t.mem.dieLost = s.mem.dieLost.set false d true) : t.mem.dieLost.get false d = true := by
    rw [ht]
    exact Tab.get_set_of_ne _ _ _ _ (by decide)
  refine ⟨_, rfl, stickyBit_event_self .., hlost _ (by simp), fun a ha hd => poisonedAt_of_dieLost ha ?_, by simp⟩
  rw [channelOf_congr (s := s) (by simp) (by simp), hd]
  exact hlost _ (by simp)

/-- A scrub pass. -/
theorem scrub_passes (c : Fin 384) (found : List (BitVec 44 × MemErr)) (s : State) : ∃ t, exec (.scrub c found) s = .next t ∧
    t.mem.cells = s.mem.cells ∧ t.mem.scrubs.get 0 c = s.mem.scrubs.get 0 c + 1 ∧ t.plots = s.plots ∧ t.sch = s.sch ∧
    (∀ x ∈ found, x.2 = .uncorrectable → channelOf s x.1.toNat = c.val → stickyBit t (tierGroup x.1.toNat) 1 = true) ∧
    (∀ kv ∈ s.mem.hbmPoison, channelOf s (kv.1 * 128) = c.val → kv.1 * 128 < cellarBase → stickyBit t 2 2 = true) ∧
    (c.val < 128 → found = [] → (∀ kv ∈ s.mem.hbmPoison, channelOf s (kv.1 * 128) ≠ c.val) →
      (∀ kv ∈ s.mem.kilnPoison, channelOf s (cellarBase + kv.1 * 512) ≠ c.val) → t = countScrub c s) := by
  have hkiln := scrubbed_scrubKiln c (countScrub c s)
  have hfound := Scrubbed.each (scrubbed_scrubFound c) found (scrubKiln c (countScrub c s))
  have hall := (hkiln.trans hfound).trans (scrubbed_scrubPoison c _)
  refine ⟨_, exec_scrub c found s, hall.cells, ?_, hall.plots, hall.sch, fun x hx herr hch => ?_, fun kv hkv hch hhbm => ?_, ?_⟩
  · rw [hall.scrubs]
    exact Tab.get_set_of_ne _ _ _ _ (Nat.succ_ne_zero _)
  · refine (scrubbed_scrubPoison c _).sticky _ _ (stickyBit_each (scrubbed_scrubFound c) hx fun t ht => ?_)
    exact stickyBit_scrubFound herr ((ht.channelOf_eq _).trans ((hkiln.channelOf_eq _).trans hch))
  · obtain ⟨x, hx, hkey⟩ := (hkiln.trans hfound).poison kv hkv
    rw [← hkey] at hch hhbm
    exact stickyBit_scrubPoison hx (((hkiln.trans hfound).channelOf_eq _).trans hch) hhbm
  · rintro hc rfl hhbm hblocks
    have hnone : scrubKiln c (countScrub c s) = countScrub c s := if_pos hc
    rw [hnone]
    exact scrubPoison_of_none hhbm hblocks

theorem hotRefresh_sets (k : Fin 8) (hot : Bool) (s : State) : ∃ t, exec (.hotRefresh k hot) s = .next t ∧
    t.mem = { s.mem with hotRefresh := s.mem.hotRefresh.set false k hot } ∧ (hot = true → stickyBit t 2 4 = true) ∧
    (hot = false → t.hk = s.hk) := by
  cases hot with
  | false => exact ⟨_, rfl, rfl, by simp, fun _ => rfl⟩
  | true => exact ⟨_, rfl, event_mem .., fun _ => stickyBit_event_self .., by simp⟩

/-- Settles O49: each clause is the lemma about its command. -/
theorem memoryAccessesReadAndStoreTheirLine : Obligations.MemoryAccessesReadAndStoreTheirLine := by
  unfold Obligations.MemoryAccessesReadAndStoreTheirLine
  refine ⟨maltAccess_reads, maltAccess_stores, maltAccess_refused, fun req ls f s hfew hmany hf hls hdistinct hin hw => ?_,
    commitGroup_illFormed, fence_counts, linkRetransmit_sets, cellarDieLost_poisons, scrub_passes, fun _ _ => rfl, hotRefresh_sets⟩
  obtain ⟨t, ht, hi⟩ := commitGroup_installs req ls f s hfew hmany hf hls hdistinct hin hw
  exact ⟨t, ht, hi.lines, hi.outside, hi.plots, hi.hk⟩

end Sys2Proof.Machine
end

section
/-! SUPPORT. The cycle of an empty queue (02_plots_and_hedges.md R50): what the clocks leave alone, and what they count. -/

namespace Sys2Proof.Machine

@[simp] theorem tickPlot_hk (n p : Nat) (s : State) : (tickPlot n p s).hk = s.hk := rfl
@[simp] theorem tickPlot_mem (n p : Nat) (s : State) : (tickPlot n p s).mem = s.mem := rfl
@[simp] theorem tickPlot_mst (n p : Nat) (s : State) : (tickPlot n p s).mst = s.mst := rfl
@[simp] theorem tickPlot_sch (n p : Nat) (s : State) : (tickPlot n p s).sch = s.sch := rfl
@[simp] theorem tickPlot_pending (n p : Nat) (s : State) : (tickPlot n p s).pending = s.pending := rfl

/-- With the rails down only TIME runs. -/
theorem tickClocks_of_rails_down {s : State} (h : s.hk.rails = false) :
    tickClocks s = { s with hk := { s.hk with now := s.hk.now + 1, fresh := [] } } := by
  simp [tickClocks, State.onHk, h]

/-- The plots' clocks touch a projection of the state only as the counts of the schedule and the housekeeping do. -/
theorem tickClocks_keeps {β : Type} (π : State → β) (hplot : ∀ n p s, π (tickPlot n p s) = π s) (hhk : ∀ f s, π (s.onHk f) = π s)
    (hsch : ∀ f s, π (s.onSch f) = π s) (s : State) : π (tickClocks s) = π s := by
  unfold tickClocks
  dsimp only
  split
  · rw [State.each_keeps π _ (hplot _), hsch, hhk]
  · rw [hhk]

@[simp] theorem tickClocks_mem (s : State) : (tickClocks s).mem = s.mem :=
  tickClocks_keeps State.mem tickPlot_mem State.onHk_mem State.onSch_mem s
@[simp] theorem tickClocks_mst (s : State) : (tickClocks s).mst = s.mst :=
  tickClocks_keeps State.mst tickPlot_mst State.onHk_mst State.onSch_mst s
@[simp] theorem tickClocks_pending (s : State) : (tickClocks s).pending = s.pending :=
  tickClocks_keeps State.pending tickPlot_pending State.onHk_pending State.onSch_pending s

/-- TIME advances, and no sticky bit counts any longer as set in this cycle (R11). -/
theorem tickClocks_hk (s : State) : (tickClocks s).hk = { s.hk with now := s.hk.now + 1, fresh := [] } := by
  unfold tickClocks
  dsimp only
  split
  · rw [State.each_keeps State.hk _ (tickPlot_hk _), State.onSch_hk, State.onHk_hk]
  · rw [State.onHk_hk]

/-- With the rails up the plot clock runs, less the clocks withheld. -/
theorem tickClocks_clocks {s : State} (h : s.hk.rails = true) : (tickClocks s).sch.clocks =
    sat48 (s.sch.clocks + (clocksPerTick s.sch.profile - min (clocksPerTick s.sch.profile) s.sch.withheld)) := by
  unfold tickClocks
  simp only [State.onHk_hk, h, if_true]
  rw [State.each_keeps State.sch _ (tickPlot_sch _)]
  rfl

/-- A shutdown alone has a part in the cycle beside the clocks (R358). -/
theorem shutdownTick_of_not_shuttingDown {s : State} (h : s.mst.mode ≠ .shuttingDown) : shutdownTick s = s := by
  have hparked : shutdownParked s = s := by simp [shutdownParked, h]
  unfold shutdownTick
  rw [hparked]
  simp [h]

theorem step_idle {s : State} (hempty : s.pending = []) (hmode : s.mst.mode ≠ .shuttingDown) : step s = .next (tickClocks s) := by
  have htick : tick s = tickClocks s := shutdownTick_of_not_shuttingDown (by simpa using hmode)
  unfold step
  rw [hempty, ← htick]

end Sys2Proof.Machine
end

section
/-! PROOFS. The cycle of an empty queue (02_plots_and_hedges.md R50, 11_schedules_and_collectives.md R292, 14_module_power_boot.md R358). -/

namespace Sys2Proof.Machine

/-- Settles O2: outside a shutdown the step is the clocks' cycle, and each clause is a lemma about `tickClocks`. -/
theorem idleStepIsOneHousekeepingCycle : Obligations.IdleStepIsOneHousekeepingCycle := by
  unfold Obligations.IdleStepIsOneHousekeepingCycle
  intro s hempty hmode
  refine ⟨tickClocks s, step_idle hempty hmode, by simpa using hempty, ?_, tickClocks_mem s, ?_, tickClocks_of_rails_down,
    tickClocks_clocks⟩ <;> rw [tickClocks_hk]

end Sys2Proof.Machine
end

section
/-! SUPPORT. Integer accumulation (02_plots_and_hedges.md R34): the accumulator chunk by chunk, and what a chain of chunks comes to. -/

namespace Sys2Proof

/-- The exact sum of the exact products of chunk j: Kc activations and weights, those past the end being 0. -/
def chunkSum (kc : Nat) (xs ws : List Int) (j : Nat) : Int :=
  ((List.range kc).map (fun i => xs.getD (j * kc + i) 0 * ws.getD (j * kc + i) 0)).sum

/-- The INT32 accumulator with another chunk added. -/
def satAdd (v : Int) : Int := max (-2147483648) (min 2147483647 v)

/-- A sum outside INT32. -/
def Saturates (v : Int) : Prop := v < -2147483648 ∨ 2147483647 < v

/-- The accumulator after j chunks, from c on. -/
def accAfter (kc : Nat) (xs ws : List Int) (c : Int) : Nat → Int
  | 0 => c
  | j + 1 => satAdd (accAfter kc xs ws c j + chunkSum kc xs ws j)

/-- The sum that the add of chunk j limits. -/
def sumAt (kc : Nat) (xs ws : List Int) (c : Int) (j : Nat) : Int := accAfter kc xs ws c j + chunkSum kc xs ws j

theorem satInt_fst (v : Int) : (satInt 32 v).1 = satAdd v := by
  unfold satInt satAdd
  dsimp only
  split
  · omega
  · split <;> omega

theorem satInt_snd (v : Int) : (satInt 32 v).2 = true ↔ Saturates v := by
  unfold satInt Saturates
  dsimp only
  split
  · simp; omega
  · split <;> simp <;> omega

theorem ceilDiv_zero {kc : Nat} (h : 0 < kc) : ceilDiv 0 kc = 0 := Nat.div_eq_of_lt (by omega)

theorem ceilDiv_eq_succ {n kc : Nat} (hkc : 0 < kc) (hn : 0 < n) : ceilDiv n kc = ceilDiv (n - kc) kc + 1 := by
  unfold ceilDiv
  rcases Nat.le_total kc n with h | h
  · rw [show n + kc - 1 = n - kc + kc - 1 + kc by omega, Nat.add_div_right _ hkc]
  · rw [show n - kc = 0 by omega, Nat.div_eq_of_lt (show 0 + kc - 1 < kc by omega), show n + kc - 1 = (n - 1) + kc by omega,
      Nat.add_div_right _ hkc, Nat.div_eq_of_lt (by omega)]

/-- The first chunk's products, added pairwise. -/
theorem sum_zipWith_take (kc : Nat) (xs ws : List Int) :
    (List.zipWith (· * ·) (xs.take kc) (ws.take kc)).sum = chunkSum kc xs ws 0 := by
  unfold chunkSum
  simp only [Nat.zero_mul, Nat.zero_add]
  induction kc generalizing xs ws with
  | zero => simp
  | succ kc ih =>
    rw [List.range_succ_eq_map, List.map_cons, List.sum_cons, List.map_map]
    cases xs with
    | nil => simp [Function.comp_def]
    | cons x xs =>
      cases ws with
      | nil => simp [Function.comp_def]
      | cons w ws => simpa [Function.comp_def] using ih xs ws

theorem chunkSum_drop (kc : Nat) (xs ws : List Int) (j : Nat) :
    chunkSum kc (xs.drop kc) (ws.drop kc) j = chunkSum kc xs ws (j + 1) := by
  unfold chunkSum
  refine congrArg List.sum (List.map_congr_left fun i _ => ?_)
  rw [show (j + 1) * kc + i = kc + (j * kc + i) by ring]
  simp [List.getD_eq_getElem?_getD]

/-- The chunks after the first accumulate from what the first leaves. -/
theorem accAfter_drop (kc : Nat) (xs ws : List Int) (c : Int) (j : Nat) :
    accAfter kc (xs.drop kc) (ws.drop kc) (accAfter kc xs ws c 1) j = accAfter kc xs ws c (j + 1) := by
  induction j with
  | zero => rfl
  | succ j ih => rw [accAfter, ih, chunkSum_drop, ← accAfter]

theorem sumAt_drop (kc : Nat) (xs ws : List Int) (c : Int) (j : Nat) :
    sumAt kc (xs.drop kc) (ws.drop kc) (accAfter kc xs ws c 1) j = sumAt kc xs ws c (j + 1) := by
  rw [sumAt, accAfter_drop, chunkSum_drop, ← sumAt]

end Sys2Proof

namespace Sys2Proof.Machine

/-- One chunk of a chain: the saturating add of its sum. -/
theorem intChunks_succ {kc fuel : Nat} {xs ws : List Int} {c : Int} {f : Bool} (hxs : xs ≠ []) : intChunks kc (fuel + 1) xs ws c f =
    intChunks kc fuel (xs.drop kc) (ws.drop kc) (accAfter kc xs ws c 1) (f || (satInt 32 (sumAt kc xs ws c 0)).2) := by
  rw [intChunks, if_neg (by simpa using hxs)]
  dsimp only
  rw [sum_zipWith_take, satInt_fst]
  rfl

/-- A chain of chunks with fuel to spare leaves the accumulator after the last of them, flagged when a sum saturated. -/
theorem intChunks_spec {kc : Nat} (hkc : 0 < kc) (fuel : Nat) (xs ws : List Int) (c : Int) (f : Bool) (hfuel : xs.length < fuel) :
    (intChunks kc fuel xs ws c f).1 = accAfter kc xs ws c (ceilDiv xs.length kc) ∧
    ((intChunks kc fuel xs ws c f).2 = true ↔ f = true ∨ ∃ j, j < ceilDiv xs.length kc ∧ Saturates (sumAt kc xs ws c j)) := by
  induction fuel generalizing xs ws c f with
  | zero => omega
  | succ fuel ih =>
    rcases eq_or_ne xs [] with rfl | hxs
    · simp [intChunks, ceilDiv_zero hkc, accAfter]
    · have hpos : 0 < xs.length := List.length_pos_iff.mpr hxs
      obtain ⟨hacc, hsat⟩ := ih (xs.drop kc) (ws.drop kc) (accAfter kc xs ws c 1) (f || (satInt 32 (sumAt kc xs ws c 0)).2)
        (by rw [List.length_drop]; omega)
      rw [List.length_drop, accAfter_drop] at hacc
      rw [List.length_drop, Bool.or_eq_true, satInt_snd] at hsat
      simp only [sumAt_drop] at hsat
      rw [intChunks_succ hxs, hacc, hsat, ceilDiv_eq_succ hkc hpos, Nat.exists_lt_succ_left, or_assoc]
      exact ⟨rfl, Iff.rfl⟩

end Sys2Proof.Machine
end

section
/-! SUPPORT. Elements stored in whole blocks (04_number_formats.md R77, R80): as many values as are asked for. -/

namespace Sys2Proof

theorem chunks_length {α : Type} {n k : Nat} {xs : List α} (hn : 0 < n) (h : xs.length = k * n) : (chunks n k xs).length = k := by
  induction k generalizing xs with
  | zero => rfl
  | succ k ih =>
    rw [Nat.succ_mul] at h
    have hne : xs.isEmpty = false := List.isEmpty_eq_false_iff.mpr (List.ne_nil_of_length_pos (by omega))
    rw [chunks, hne, if_neg Bool.false_ne_true, List.length_cons, ih (by rw [List.length_drop]; omega)]

theorem Fmt.blockBytes_pos (f : Fmt) : 0 < f.blockBytes := by
  cases f <;> decide

theorem Fmt.blockVals_pos (f : Fmt) : 0 < f.blockVals := by
  cases f <;> decide

theorem Fmt.decodeBlock_length (f : Fmt) (bs : List Byte) : (f.decodeBlock bs).length = f.blockVals := by
  cases f <;> simp [Fmt.decodeBlock, Fmt.blockVals, mb8Values]

theorem le_ceilDiv_mul (n : Nat) {b : Nat} (hb : 0 < b) : n ≤ ceilDiv n b * b := by
  have := Nat.lt_div_mul_add (a := n + b - 1) hb
  unfold ceilDiv
  omega

theorem Fmt.decodeMany_length {f : Fmt} {n : Nat} {bs : List Byte} (h : bs.length = f.bytesFor n) : (f.decodeMany n bs).length = n := by
  have hvals : ((chunks f.blockBytes (ceilDiv n f.blockVals) bs).map f.decodeBlock).flatten.length = ceilDiv n f.blockVals * f.blockVals := by
    simp [List.length_flatten, Function.comp_def, Fmt.decodeBlock_length, chunks_length f.blockBytes_pos h]
  rw [Fmt.decodeMany, List.length_take, hvals, Nat.min_eq_left (le_ceilDiv_mul n f.blockVals_pos)]

end Sys2Proof

namespace Sys2Proof.Machine

@[simp] theorem rawBytes_length (s : State) (a n : Nat) : (rawBytes s a n).length = n := by
  induction n generalizing a with
  | zero => rfl
  | succ n ih => simp [rawBytes, ih]

end Sys2Proof.Machine
end

section
/-! SUPPORT. Row groups (02_plots_and_hedges.md R36, R37, R40, R42): what starting one makes of its plot, and that it touches nothing else. -/

namespace Sys2Proof

/-- A written value that is not the default is read, and every other key reads as before, whatever the table. -/
theorem Tab.get_modify_of_ne {α : Type} [DecidableEq α] {d : α} {t : Tab α} {k : Nat} {f : α → α} (h : f (Tab.get d t k) ≠ d) (i : Nat) :
    Tab.get d (Tab.modify d t k f) i = if i = k then f (Tab.get d t k) else Tab.get d t i := by
  unfold Tab.modify Tab.set
  rw [if_neg h]
  split
  · next hi => rw [hi, Tab.get_insert_self]
  · next hi => rw [Tab.get_insert_other _ _ _ _ _ hi]

end Sys2Proof

namespace Sys2Proof.Machine

/-! ### A plot with operations in flight is listed, so a change of it reads back whatever the other plots are -/

theorem State.plot_onPlot_of_flight {p : Nat} {f : Plot → Plot} {s : State} (h : (f (s.plot p)).flight ≠ []) (q : Nat) :
    (s.onPlot p f).plot q = if q = p then f (s.plot p) else s.plot q :=
  Tab.get_modify_of_ne (fun he => h (congrArg Plot.flight he)) q

theorem State.plot_onPlot_self_of_flight {p : Nat} {f : Plot → Plot} {s : State} (h : (f (s.plot p)).flight ≠ []) :
    (s.onPlot p f).plot p = f (s.plot p) := by
  rw [State.plot_onPlot_of_flight h, if_pos rfl]

theorem flight_ne_nil_of_getElem? {q : Plot} {i : Nat} {f : Flight} (h : q.flight[i]? = some f) : q.flight ≠ [] := by
  rintro he
  simp [he] at h

@[simp] theorem Plot.onFlight_flight_eq_nil_iff (q : Plot) (i : Nat) (f : Flight → Flight) : (q.onFlight i f).flight = [] ↔ q.flight = [] := by
  simp [Plot.onFlight, ← List.length_eq_zero_iff]

@[simp] theorem Plot.onFlight_accs (q : Plot) (i : Nat) (f : Flight → Flight) : (q.onFlight i f).accs = q.accs := rfl
@[simp] theorem Plot.onFlight_hflags (q : Plot) (i : Nat) (f : Flight → Flight) : (q.onFlight i f).hflags = q.hflags := rfl
@[simp] theorem Plot.onFlight_bank (q : Plot) (i : Nat) (f : Flight → Flight) : (q.onFlight i f).bank = q.bank := rfl
@[simp] theorem Plot.onFlight_sems (q : Plot) (i : Nat) (f : Flight → Flight) : (q.onFlight i f).sems = q.sems := rfl
@[simp] theorem Plot.onFlight_pcP (q : Plot) (i : Nat) (f : Flight → Flight) : (q.onFlight i f).pcP = q.pcP := rfl

/-! ### Flags of a hedge (R36, R105) -/

section
variable (s : State) (p : Nat) (tag : Option Nat) (f : NFlags) (q : Plot)

/-- A TAG's flags go to the region's set or to the unregioned one. -/
theorem flagTag_eq : flagTag s p tag f q = { q with regFlags := (flagTag s p tag f q).regFlags, unreg := (flagTag s p tag f q).unreg } := by
  unfold flagTag
  split
  · split <;> rfl
  · rfl

@[simp] theorem flagTag_flight : (flagTag s p tag f q).flight = q.flight := by rw [flagTag_eq]
@[simp] theorem flagTag_accs : (flagTag s p tag f q).accs = q.accs := by rw [flagTag_eq]
@[simp] theorem flagTag_hflags : (flagTag s p tag f q).hflags = q.hflags := by rw [flagTag_eq]
@[simp] theorem flagTag_bank : (flagTag s p tag f q).bank = q.bank := by rw [flagTag_eq]
@[simp] theorem flagTag_sems : (flagTag s p tag f q).sems = q.sems := by rw [flagTag_eq]
@[simp] theorem flagTag_pcP : (flagTag s p tag f q).pcP = q.pcP := by rw [flagTag_eq]

end

theorem natBit_or_left {b x : Nat} (y : Nat) (h : natBit b x = true) : natBit b (x ||| y) = true := by
  rw [natBit_eq_testBit] at h ⊢
  simp [h]

/-- SAT_h of PLT_HFLAGS. -/
theorem natBit_or_hflagBits_of_sat (h x : Nat) {f : NFlags} (hf : f.sat = true) : natBit (4 * h + 2) (x ||| hflagBits h f) = true := by
  have hbits : ∀ a b : Bool, (b2n a + 2 * b2n b + 4 * b2n true).testBit 2 = true := by decide
  rw [natBit_eq_testBit, Nat.testBit_or, hflagBits, hf, Nat.testBit_mul_two_pow]
  simp [hbits]

theorem foldl_or_sat {α : Type} (es : List (α × NFlags)) (f : NFlags) :
    (es.foldl (fun a e => a.or e.2) f).sat = (f.sat || es.any (fun e => e.2.sat)) := by
  induction es generalizing f with
  | nil => simp
  | cons e es ih => rw [List.foldl_cons, ih, List.any_cons, NFlags.or, Bool.or_assoc]

/-! ### Starting a row group -/

/-- From s to t plot p may have changed, and neither memory, the Granary's directory, housekeeping, the schedule nor another plot has. -/
structure OnlyPlot (p : Nat) (s t : State) : Prop where
  mem : t.mem = s.mem
  grn : t.grn = s.grn
  hk : t.hk = s.hk
  sch : t.sch = s.sch
  others : ∀ j, j ≠ p → t.plot j = s.plot j

theorem OnlyPlot.refl (p : Nat) (s : State) : OnlyPlot p s s := ⟨rfl, rfl, rfl, rfl, fun _ _ => rfl⟩

theorem OnlyPlot.trans {p : Nat} {s t u : State} (h : OnlyPlot p s t) (k : OnlyPlot p t u) : OnlyPlot p s u :=
  ⟨k.mem.trans h.mem, k.grn.trans h.grn, k.hk.trans h.hk, k.sch.trans h.sch, fun j hj => (k.others j hj).trans (h.others j hj)⟩

theorem OnlyPlot.onPlot {p : Nat} {f : Plot → Plot} {s : State} (h : (f (s.plot p)).flight ≠ []) : OnlyPlot p s (s.onPlot p f) :=
  ⟨rfl, rfl, rfl, rfl, fun j hj => by rw [State.plot_onPlot_of_flight h, if_neg hj]⟩

/-- A byte of memory reads the same. -/
theorem OnlyPlot.rawByte_eq {p : Nat} {s t : State} (h : OnlyPlot p s t) (x : Nat) : rawByte t x = rawByte s x := by
  unfold rawByte
  rw [h.mem, h.grn]

/-- The wait of flight entry i is satisfied. -/
def readied (p i : Nat) (f : Flight) (s : State) : State :=
  if f.ready then s else s.onPlot p (fun q => q.onFlight i (fun f => { f with ready := true }))

theorem flightWait_of_no_wait (p i sem : Nat) (f : Flight) (s : State) : flightWait p i false sem f s = some (readied p i f s) := by
  unfold flightWait readied
  split <;> rfl

section
variable {p i : Nat} {s : State} (f : Flight) (h : (s.plot p).flight ≠ [])
include h

theorem onlyPlot_readied : OnlyPlot p s (readied p i f s) := by
  unfold readied
  split
  · exact .refl p s
  · exact .onPlot (by simpa using h)

theorem readied_plot : ((readied p i f s).plot p).flight ≠ [] ∧ ((readied p i f s).plot p).accs = (s.plot p).accs ∧
    ((readied p i f s).plot p).hflags = (s.plot p).hflags ∧ ((readied p i f s).plot p).bank = (s.plot p).bank ∧
    ((readied p i f s).plot p).sems = (s.plot p).sems ∧ ((readied p i f s).plot p).pcP = (s.plot p).pcP := by
  unfold readied
  split
  · simpa using h
  · rw [State.plot_onPlot_self_of_flight (by simpa using h)]
    simpa using h

end

/-- Hedge h starts the next group of the operation at flight index i. -/
theorem rowGroupStart_eq {p h i : Nat} {s : State} {f : Flight} (hi : nextStart (s.plot p) h = some i) (hf : (s.plot p).flight[i]? = some f)
    (hfree : ((s.plot p).accs.get [] h).length < 2) (hhalf : halfLoading (s.plot p) i (hopOf f.desc).half = false)
    (hwait : (hopOf f.desc).waitEn = false) : rowGroupStart p h s = startGroup p h i f (readied p i f s) := by
  unfold rowGroupStart
  simp only [hi, hf, hhalf, hwait, flightWait_of_no_wait]
  rw [if_neg (by simpa using hfree)]

/-- The accumulators and flags of the group that hedge h starts of flight entry f. -/
def nextGroup (s : State) (p h : Nat) (f : Flight) : List Nat × NFlags :=
  groupAccs s p (hopOf f.desc) (groupAt (hopOf f.desc) h (f.started.get 0 h))

/-- From s to t hedge h of plot p has started the next group of flight entry f. -/
structure GroupStarted (p h : Nat) (f : Flight) (s t : State) : Prop where
  only : OnlyPlot p s t
  accs : (t.plot p).accs.get [] h =
    (s.plot p).accs.get [] h ++ [⟨f.desc, groupAt (hopOf f.desc) h (f.started.get 0 h), (nextGroup s p h f).1⟩]
  hflags : (t.plot p).hflags = (s.plot p).hflags ||| hflagBits h (nextGroup s p h f).2
  bank : (t.plot p).bank = (s.plot p).bank
  sems : (t.plot p).sems = (s.plot p).sems
  pcP : (t.plot p).pcP = (s.plot p).pcP

section
variable {p : Nat} (h tag : Nat) (f : NFlags) {g : Plot → Plot} {s : State} (hq : (g (s.plot p)).flight ≠ [])
include hq

/-- A plot changed and then a hedge's flags raised on it. -/
theorem raiseHedge_onPlot_plot : (raiseHedge p h tag f (s.onPlot p g)).plot p =
    flagTag (s.onPlot p g) p (some tag) f { g (s.plot p) with hflags := (g (s.plot p)).hflags ||| hflagBits h f } := by
  have hplot := State.plot_onPlot_self_of_flight hq
  rw [raiseHedge, State.plot_onPlot_self_of_flight (by simpa [hplot] using hq), hplot]

theorem onlyPlot_raiseHedge_onPlot : OnlyPlot p s (raiseHedge p h tag f (s.onPlot p g)) :=
  (OnlyPlot.onPlot hq).trans (.onPlot (by simpa [State.plot_onPlot_self_of_flight hq] using hq))

end

/-- The plot once the group is started, before its flags are raised. -/
def withGroup (h i : Nat) (f : Flight) (vals : List Nat) (q : Plot) : Plot :=
  { (q.onFlight i (fun g => { g with started := g.started.set 0 h (f.started.get 0 h + 1) })) with
    accs := q.accs.modify [] h (· ++ [⟨f.desc, groupAt (hopOf f.desc) h (f.started.get 0 h), vals⟩]) }

theorem startGroup_eq (p h i : Nat) (f : Flight) (s : State) : startGroup p h i f s =
    raiseHedge p h (hopOf f.desc).tag (nextGroup s p h f).2 (s.onPlot p (withGroup h i f (nextGroup s p h f).1)) := rfl

theorem groupStarted_startGroup {p h i : Nat} {f : Flight} {s : State} (hq : (s.plot p).flight ≠ []) :
    GroupStarted p h f s (startGroup p h i f s) := by
  have hlisted : (withGroup h i f (nextGroup s p h f).1 (s.plot p)).flight ≠ [] := mt (Plot.onFlight_flight_eq_nil_iff ..).mp hq
  rw [startGroup_eq]
  refine ⟨onlyPlot_raiseHedge_onPlot _ _ _ hlisted, ?_, ?_, ?_, ?_, ?_⟩
  all_goals rw [raiseHedge_onPlot_plot _ _ _ hlisted]
  · simp only [flagTag_accs, withGroup]
    rw [Tab.get_modify_of_ne (by simp), if_pos rfl]
  all_goals simp [withGroup]

section
variable {p : Nat} {s t : State} (h : OnlyPlot p s t) (hbank : (t.plot p).bank = (s.plot p).bank)
include h hbank

/-- An element is computed of the plot's weights and the bytes of its store. -/
theorem hopElement_congr (d : HopDesc) (row n : Nat) : hopElement t p d row n = hopElement s p d row n := by
  have hbytes (a k : Nat) : rawBytes t a k = rawBytes s a k := rawBytes_congr fun x _ _ => h.rawByte_eq x
  simp only [hopElement, rawNat, hbytes, hbank]

theorem nextGroup_congr (k : Nat) (f : Flight) : nextGroup t p k f = nextGroup s p k f := by
  simp only [nextGroup, groupAccs, hopElement_congr h hbank]

end

section
variable {p h i : Nat} {s : State} {f : Flight}

/-- ROW_GROUP_START with a free accumulator, the half filled and no wait. -/
theorem groupStarted_rowGroupStart (hi : nextStart (s.plot p) h = some i) (hf : (s.plot p).flight[i]? = some f)
    (hfree : ((s.plot p).accs.get [] h).length < 2) (hhalf : halfLoading (s.plot p) i (hopOf f.desc).half = false)
    (hwait : (hopOf f.desc).waitEn = false) : GroupStarted p h f s (rowGroupStart p h s) := by
  have hq := flight_ne_nil_of_getElem? hf
  have honly := onlyPlot_readied (i := i) f hq
  obtain ⟨hlisted, haccs, hhflags, hbank, hsems, hpcP⟩ := readied_plot (i := i) f hq
  have hstart := groupStarted_startGroup (h := h) (i := i) (f := f) hlisted
  have hgroup := nextGroup_congr honly hbank h f
  rw [rowGroupStart_eq hi hf hfree hhalf hwait]
  exact ⟨honly.trans hstart.only, by rw [hstart.accs, haccs, hgroup], by rw [hstart.hflags, hhflags, hgroup], hstart.bank.trans hbank,
    hstart.sems.trans hsems, hstart.pcP.trans hpcP⟩

end

/-- A group's SAT is set when an element of it saturated. -/
theorem nextGroup_sat {s : State} {p h row n : Nat} {f : Flight}
    (hrow : row ∈ groupRows (hopOf f.desc) (groupAt (hopOf f.desc) h (f.started.get 0 h))) (hn : n < (hopOf f.desc).n)
    (hsat : (hopElement s p (hopOf f.desc) row n).2.sat = true) : (nextGroup s p h f).2.sat = true := by
  unfold nextGroup groupAccs
  rw [foldl_or_sat, Bool.false_or, List.any_eq_true]
  refine ⟨hopElement s p (hopOf f.desc) row n, ?_, hsat⟩
  simp only [List.mem_flatten, List.mem_map]
  exact ⟨_, ⟨row, hrow, rfl⟩, List.mem_map.mpr ⟨n, List.mem_range.mpr hn, rfl⟩⟩

theorem nextGroup_vals (s : State) (p h : Nat) (f : Flight) : (nextGroup s p h f).1 =
    ((groupRows (hopOf f.desc) (groupAt (hopOf f.desc) h (f.started.get 0 h))).map (fun r =>
      (List.range (hopOf f.desc).n).map (fun n => (hopElement s p (hopOf f.desc) r n).1))).flatten := by
  simp [nextGroup, groupAccs, List.map_flatten, Function.comp_def]

end Sys2Proof.Machine
end

section
/-! PROOFS. Integer hedge operations (02_plots_and_hedges.md R34). -/

namespace Sys2Proof.Machine

/-- The activations of a row as integers. -/
def rowInts (s : State) (p : Nat) (d : HopDesc) (row : Nat) : List Int :=
  (d.fmtA.decodeMany d.k (rawBytes s (storeBase p + d.aOff + row * d.aStride) (d.fmtA.bytesFor d.k))).map xInt

/-- The weights of a column as integers. -/
def colInts (s : State) (p : Nat) (d : HopDesc) (n : Nat) : List Int :=
  (weightCol ((s.plot p).bank.get {} d.half) d.fmtW d.k0 d.k (d.n0 + n)).map xInt

/-- What an accumulator starts from: CIN, 0 for a MUL. -/
def cinOf (s : State) (p : Nat) (d : HopDesc) (row n : Nat) : Int :=
  if d.mma then natSigned 32 (rawNat s (storeBase p + d.cinOff + row * d.cinStride + 4 * n) 4) else 0

theorem rowInts_length (s : State) (p : Nat) (d : HopDesc) (row : Nat) : (rowInts s p d row).length = d.k := by
  rw [rowInts, List.length_map, Fmt.decodeMany_length (rawBytes_length ..)]

/-- The class of an integer activation format, whose Kc is that of Table 02.3. -/
theorem classOf_integer {f : Fmt} (hf : f ∈ [Fmt.int16, Fmt.int8, Fmt.int4]) :
    ∃ c, classOf f = some c ∧ c ≠ .m8 ∧ c.isFloat = false ∧ c.kc = if f = .int16 then 2 else if f = .int8 then 8 else 16 := by
  simp only [List.mem_cons, List.not_mem_nil, or_false] at hf
  rcases hf with rfl | rfl | rfl <;> exact ⟨_, rfl, by decide, rfl, rfl⟩

theorem hopElement_of_integer {s : State} {p : Nat} {d : HopDesc} {c : CellClass} (hc : classOf d.fmtA = some c) (hm8 : c ≠ .m8)
    (hfloat : c.isFloat = false) (row n : Nat) : hopElement s p d row n =
      (intBits 32 (intChunks c.kc (d.k + 1) (rowInts s p d row) (colInts s p d n) (cinOf s p d row n) false).1,
        { sat := (intChunks c.kc (d.k + 1) (rowInts s p d row) (colInts s p d n) (cinOf s p d row n) false).2 }) := by
  have hcin : cinOf s p d row n =
      natSigned 32 (if d.mma then rawNat s (storeBase p + d.cinOff + row * d.cinStride + 4 * n) 4 else 0) := by
    unfold cinOf
    split <;> rfl
  rw [hcin]
  unfold hopElement
  dsimp only
  rw [hc]
  split
  · next he => exact absurd (Option.some.inj he) hm8
  · next he =>
    obtain rfl := Option.some.inj he
    rw [hfloat, if_neg Bool.false_ne_true]
    rfl
  · contradiction

/-- An element of an integer operation is the accumulator after its last chunk, and SAT tells of a saturating add. -/
theorem hopElement_accumulates {s : State} {p : Nat} {d : HopDesc} {kc : Nat} (hf : d.fmtA ∈ [Fmt.int16, Fmt.int8, Fmt.int4])
    (hkc : kc = if d.fmtA = .int16 then 2 else if d.fmtA = .int8 then 8 else 16) (row n : Nat) :
    (hopElement s p d row n).1 = intBits 32 (accAfter kc (rowInts s p d row) (colInts s p d n) (cinOf s p d row n) (ceilDiv d.k kc)) ∧
    ((hopElement s p d row n).2.sat = true ↔
      ∃ j, j < ceilDiv d.k kc ∧ Saturates (sumAt kc (rowInts s p d row) (colInts s p d n) (cinOf s p d row n) j)) ∧
    (hopElement s p d row n).2 = { sat := (hopElement s p d row n).2.sat } := by
  obtain ⟨c, hc, hm8, hfloat, hckc⟩ := classOf_integer hf
  have hpos : 0 < kc := by rw [hkc]; split_ifs <;> decide
  obtain ⟨hacc, hsat⟩ := intChunks_spec hpos (d.k + 1) (rowInts s p d row) (colInts s p d n) (cinOf s p d row n) false
    (by rw [rowInts_length]; omega)
  rw [rowInts_length] at hacc hsat
  rw [hopElement_of_integer hc hm8 hfloat, hckc, ← hkc, hacc]
  exact ⟨rfl, by simpa using hsat, rfl⟩

/-- Settles O40: the accumulators are `accAfter`, which the chain of chunks follows (`intChunks_spec`), and a group's SAT is that of its
elements. -/
theorem integerHedgesAccumulateWithSaturation : Obligations.IntegerHedgesAccumulateWithSaturation := by
  unfold Obligations.IntegerHedgesAccumulateWithSaturation
  refine ⟨fun s p d row n kc xs ws hf hkc hxs hws => ?_, fun p h s t i f d row n hd hi hfl hfree hhalf hwait hrow hn hsat ht => ?_⟩
  · obtain ⟨hval, hsat, hother⟩ := hopElement_accumulates (s := s) (p := p) hf hkc row n
    subst hxs hws
    exact ⟨accAfter kc (rowInts s p d row) (colInts s p d n) (cinOf s p d row n), rfl, fun _ _ => rfl, hval, hsat, hother⟩
  · subst hd
    obtain rfl : rowGroupStart p h s = t := Host.Outcome.next.inj ht
    rw [(groupStarted_rowGroupStart hi hfl hfree hhalf hwait).hflags]
    exact natBit_or_hflagBits_of_sat _ _ (nextGroup_sat hrow hn hsat)

end Sys2Proof.Machine
end

section
/-! SUPPORT. Draining a row group, and the ends of operations and weight loads (02_plots_and_hedges.md R39, R40, R42, R46). -/

namespace Sys2Proof.Machine

/-! ### The bytes of a drain -/

/-- A run of bytes stored at its address. -/
def putRun (x : Nat × List Byte) (s : State) : State := s.onMem (·.putBytes x.1 x.2)

/-- Every run of bytes of a list stored. -/
def putRuns (ws : List (Nat × List Byte)) (s : State) : State := State.each putRun ws s

@[simp] theorem putRuns_plot (ws : List (Nat × List Byte)) (s : State) (p : Nat) : (putRuns ws s).plot p = s.plot p :=
  State.each_keeps (fun s => s.plot p) putRun (fun _ _ => rfl) ws s

/-- No byte outside the runs changes. -/
theorem rawByte_putRuns_outside {x : Nat} (ws : List (Nat × List Byte)) (s : State) (hw : s.mem.wf = true)
    (hx : ∀ w ∈ ws, x < w.1 ∨ w.1 + w.2.length ≤ x) : rawByte (putRuns ws s) x = rawByte s x := by
  induction ws generalizing s with
  | nil => rfl
  | cons w ws ih =>
    have hstored := Stored.onMem s w.1 w.2
    exact (ih _ (hstored.wf hw) fun v hv => hx v (.tail _ hv)).trans (hstored.rawByte_outside hw (hx w (.head _)))

theorem rawBytes_putRuns_single {a : Nat} {bs : List Byte} {s : State} (hw : s.mem.wf = true)
    (hdir : ∀ x, a ≤ x → x < a + bs.length → ∀ o, locate x ≠ .dir o) : rawBytes (putRuns [(a, bs)] s) a bs.length = bs :=
  (Stored.onMem s a bs).rawBytes_eq hw hdir

theorem rawOut_blockVals {d : HopDesc} (h : rawOut d = true) : d.fmtOut.blockVals = 1 := by
  simp only [rawOut, Bool.or_eq_true, Bool.and_eq_true, beq_iff_eq] at h
  rcases h with h | ⟨⟨⟨⟨h, -⟩, -⟩, -⟩, -⟩ <;> rw [h] <;> rfl

theorem groupRows_of_seg_one {d : HopDesc} {g : Nat} (hseg : d.seg = 1) (hg : g < d.m) : groupRows d g = [g] := by
  simp [groupRows, hseg, hg]

/-- The accumulators of a raw group of one row go out as they are. -/
theorem drainWrites_raw {s : State} {p : Nat} {d : HopDesc} {a : Acc} (hraw : rawOut d = true) (hseg : d.seg = 1) (hg : a.group < d.m)
    (hlen : a.vals.length = d.n) (hvals : a.vals ≠ []) :
    (drainWrites s p d a).1 = [(storeBase p + d.cOff + a.group * d.cStride, (a.vals.map (leBytes 4)).flatten)] := by
  have hrows : rowsOf d a = [a.vals] := by
    rw [rowsOf, hseg, chunks, if_neg (by simpa using hvals), ← hlen, List.take_length]
    rfl
  rw [drainWrites, if_pos (by rw [rawOut_blockVals hraw, Nat.mod_one]), groupRows_of_seg_one hseg hg, hrows]
  simp [drainBytes, hraw]

theorem length_flatten_leBytes (vs : List Nat) : (vs.map (leBytes 4)).flatten.length = 4 * vs.length := by
  simp [List.length_flatten, Function.comp_def, Nat.mul_comm]

/-! ### What a drain makes of its plot -/

/-- A record of amax touches the scale slots alone. -/
theorem recordAmax_eq (n : Nat) (a : Int) (q : Plot) : recordAmax n a q = { q with slots := (recordAmax n a q).slots } := by
  unfold recordAmax
  dsimp only
  split <;> rfl

@[simp] theorem recordAmax_flight (n : Nat) (a : Int) (q : Plot) : (recordAmax n a q).flight = q.flight := by rw [recordAmax_eq]
@[simp] theorem recordAmax_accs (n : Nat) (a : Int) (q : Plot) : (recordAmax n a q).accs = q.accs := by rw [recordAmax_eq]
@[simp] theorem recordAmax_bank (n : Nat) (a : Int) (q : Plot) : (recordAmax n a q).bank = q.bank := by rw [recordAmax_eq]
@[simp] theorem recordAmax_sems (n : Nat) (a : Int) (q : Plot) : (recordAmax n a q).sems = q.sems := by rw [recordAmax_eq]

/-- From s to t hedge h of plot p has drained the group a, which its runs of bytes hold, and nothing but the plot has changed beside. -/
structure GroupDrained (p h : Nat) (a : Acc) (s t : State) : Prop where
  only : OnlyPlot p (putRuns (drainWrites s p (hopOf a.desc) a).1 s) t
  accs : (t.plot p).accs = (s.plot p).accs.modify [] h List.tail
  bank : (t.plot p).bank = (s.plot p).bank
  sems : (t.plot p).sems = (s.plot p).sems

/-- The amax record of a drain (R99). -/
def drainAmax (s : State) (p : Nat) (a : Acc) : Int :=
  if rawOut (hopOf a.desc) && (hopOf a.desc).fmtOut == .int32 then noAmax else amaxRecord (a.vals.map (drainValue s p (hopOf a.desc)))

/-- The plot with the group at the head of hedge h drained, before its flags are raised. -/
def withoutGroup (h i scale : Nat) (am : Int) (q : Plot) : Plot :=
  recordAmax scale am
    { (q.onFlight i (fun f => { f with drained := f.drained.modify 0 h (· + 1) })) with accs := q.accs.modify [] h List.tail }

theorem drainGroup_eq (p h i : Nat) (a : Acc) (s : State) : drainGroup p h i a s =
    raiseHedge p h (hopOf a.desc).tag (drainWrites s p (hopOf a.desc) a).2
      ((putRuns (drainWrites s p (hopOf a.desc) a).1 s).onPlot p (withoutGroup h i (hopOf a.desc).scaleOut (drainAmax s p a))) := rfl

theorem groupDrained_drainGroup {p h i : Nat} {a : Acc} {s : State} (hq : (s.plot p).flight ≠ []) :
    GroupDrained p h a s (drainGroup p h i a s) := by
  rw [drainGroup_eq]
  have hlisted : (withoutGroup h i (hopOf a.desc).scaleOut (drainAmax s p a)
      ((putRuns (drainWrites s p (hopOf a.desc) a).1 s).plot p)).flight ≠ [] := by
    simpa [withoutGroup] using hq
  refine ⟨onlyPlot_raiseHedge_onPlot _ _ _ hlisted, ?_, ?_, ?_⟩
  all_goals
    rw [raiseHedge_onPlot_plot _ _ _ hlisted]
    simp [withoutGroup]

section
variable {p h : Nat} {a : Acc} {s t : State}

theorem GroupDrained.rawByte_outside (hd : GroupDrained p h a s t) (hw : s.mem.wf = true) {x : Nat}
    (hx : ∀ w ∈ (drainWrites s p (hopOf a.desc) a).1, x < w.1 ∨ w.1 + w.2.length ≤ x) : rawByte t x = rawByte s x :=
  (hd.only.rawByte_eq x).trans (rawByte_putRuns_outside _ s hw hx)

/-- A raw group of one row stands at its row of C. -/
theorem GroupDrained.rawBytes_raw (hd : GroupDrained p h a s t) (hw : s.mem.wf = true) (hraw : rawOut (hopOf a.desc) = true)
    (hseg : (hopOf a.desc).seg = 1) (hg : a.group < (hopOf a.desc).m) (hlen : a.vals.length = (hopOf a.desc).n)
    (hin : storeBase p + (hopOf a.desc).cOff + a.group * (hopOf a.desc).cStride + 4 * (hopOf a.desc).n ≤ 0xC010000000) :
    rawBytes t (storeBase p + (hopOf a.desc).cOff + a.group * (hopOf a.desc).cStride) (4 * (hopOf a.desc).n) =
      (a.vals.map (leBytes 4)).flatten := by
  rw [← hlen] at hin ⊢
  rw [rawBytes_congr fun x _ _ => hd.only.rawByte_eq x]
  rcases eq_or_ne a.vals [] with hnil | hvals
  · simp [hnil, rawBytes]
  · rw [drainWrites_raw hraw hseg hg hlen hvals, ← length_flatten_leBytes]
    refine rawBytes_putRuns_single hw fun x _ hx o ho => ?_
    rw [length_flatten_leBytes] at hx
    have := ((locate_eq_dir_iff x o).mp ho).1
    omega

theorem GroupDrained.accs_eq (hd : GroupDrained p h a s t) {as : List Acc} (hhead : (s.plot p).accs.get [] h = a :: as)
    (hw : Tab.wf [] (s.plot p).accs = true) : (t.plot p).accs.get [] h = as := by
  rw [hd.accs, Tab.get_modify _ _ _ _ _ hw, if_pos rfl, hhead, List.tail_cons]

end

theorem flight_ne_nil_of_nextDrain {q : Plot} {h i : Nat} (hi : nextDrain q h = some i) : q.flight ≠ [] := by
  rintro he
  simp [nextDrain, he] at hi

theorem hedgeDrain_eq {p h i : Nat} {a : Acc} {as : List Acc} {s : State} (hhead : (s.plot p).accs.get [] h = a :: as)
    (hi : nextDrain (s.plot p) h = some i) : hedgeDrain p h s = drainGroup p h i a s := by
  unfold hedgeDrain
  simp only [hhead, hi]

theorem hedgeDrain_of_no_group {p h : Nat} {s : State} (hnone : (s.plot p).accs.get [] h = []) : hedgeDrain p h s = s := by
  unfold hedgeDrain
  simp only [hnone]

theorem rowGroupStart_of_none {p h : Nat} {s : State} (hn : nextStart (s.plot p) h = none) : rowGroupStart p h s = s := by
  unfold rowGroupStart
  simp only [hn]

/-! ### The ends of operations and weight loads -/

/-- A change of a plot depends on what the function makes of that plot alone. -/
theorem State.onPlot_congr {p : Nat} {f g : Plot → Plot} {s : State} (h : f (s.plot p) = g (s.plot p)) : s.onPlot p f = s.onPlot p g := by
  unfold State.onPlot Tab.modify
  rw [show f (s.plots.get {} p) = g (s.plots.get {} p) from h]

theorem hopComplete_eq {p i : Nat} {f : Flight} {s : State} (hi : (s.plot p).flight.findIdx? (fun f => f.kind == 0 && drainedAll f) = some i)
    (hf : (s.plot p).flight[i]? = some f) : hopComplete p s =
      if (hopOf f.desc).postEn then semPostAt p (hopOf f.desc).semPost 1 (s.onPlot p (·.endFlight i)) else s.onPlot p (·.endFlight i) := by
  have hat : (s.plot p).flight.getD i default = f := by rw [List.getD_eq_getElem?_getD, hf, Option.getD_some]
  unfold hopComplete
  simp only [hi, hat]
  rfl

/-- Nothing stands before the first operation, so a load there may write. -/
theorem wloadFree_zero (q : Plot) (d : WloadDesc) : wloadFree q 0 d = true := by
  simp [wloadFree, halfLoading]

theorem wloadComplete_head {p : Nat} {f : Flight} {fs : List Flight} {s : State} (hf : (s.plot p).flight = f :: fs) (hkind : f.kind = 1) :
    wloadComplete p s = s.onPlot p (fun q => { q with
      flight := fs
      bank := q.bank.set {} (wloadOf f.desc).half
        ⟨some (wloadOf f.desc).fmt.code, (wloadOf f.desc).kw, (wloadOf f.desc).nw, weightBytes s p (wloadOf f.desc)⟩ }) := by
  have hfirst : (List.range (s.plot p).flight.length).find? (fun i => ((s.plot p).flight.getD i default).kind == 1 &&
      wloadFree (s.plot p) i (wloadOf ((s.plot p).flight.getD i default).desc)) = some 0 := by
    rw [hf, List.length_cons, List.range_succ_eq_map, List.find?_cons_of_pos]
    simp [hkind, wloadFree_zero]
  unfold wloadComplete
  simp only [hfirst]
  exact State.onPlot_congr (by simp [hf, Plot.endFlight])

/-- With nothing in flight nothing ends. -/
theorem ends_of_no_flight {p : Fin 64} {s : State} (h : (s.plot p).flight = []) :
    exec (.hopComplete p) s = .next s ∧ exec (.wloadComplete p) s = .next s ∧ exec (.moveComplete p) s = .next s := by
  have hhop : hopComplete p s = s := by simp [hopComplete, h]
  have hload : wloadComplete p s = s := by simp [wloadComplete, h]
  have hmove : execMoveComplete p s = .next s := by simp [execMoveComplete, h]
  exact ⟨congrArg Host.Outcome.next hhop, congrArg Host.Outcome.next hload, hmove⟩

theorem weightCol_of_unfilled {w : WHalf} (h : w.fmt = none) (f : Fmt) (k0 k n : Nat) :
    weightCol w f k0 k n = List.replicate k (.fin false 0 0) := by
  simp [weightCol, h, xZero]

end Sys2Proof.Machine
end

section
/-! PROOFS. The course of hedge operations and weight loads (02_plots_and_hedges.md R37, R39, R40, R42, R46, R381). -/

namespace Sys2Proof.Machine

/-- Settles O41: a started and a drained group by `GroupStarted` and `GroupDrained`, the ends by what each comes to. -/
theorem hedgeOperationsRunToCompletion : Obligations.HedgeOperationsRunToCompletion := by
  unfold Obligations.HedgeOperationsRunToCompletion
  refine ⟨fun p h s i f d rows hd hi hf hfree hhalf hwait hrows => ?_, fun p h s i a as d hd hhead hi hmem haccs => ?_,
    fun p s i f hi hf => ⟨_, rfl, congrArg Host.Outcome.next (hopComplete_eq hi hf)⟩, fun p s f fs d hf hkind hd => ?_,
    fun p h f k0 k n => ⟨rfl, weightCol_of_unfilled rfl f k0 k n⟩,
    fun p h s => ⟨fun hn => congrArg Host.Outcome.next (rowGroupStart_of_none hn),
      fun hn => congrArg Host.Outcome.next (hedgeDrain_of_no_group hn), ends_of_no_flight⟩⟩
  · subst hd hrows
    have hstart := groupStarted_rowGroupStart hi hf hfree hhalf hwait
    refine ⟨rowGroupStart p h s, rfl, hstart.only.mem, hstart.only.hk, hstart.only.sch, ?_, fun b hb => ?_, hstart.bank, hstart.sems,
      hstart.pcP, hstart.only.others⟩
    · rw [hstart.accs, nextGroup_vals]
      rfl
    · rw [hstart.hflags]
      exact natBit_or_left _ hb
  · subst hd
    have hdrained : GroupDrained p h a s (hedgeDrain p h s) := by
      rw [hedgeDrain_eq hhead hi]
      exact groupDrained_drainGroup (flight_ne_nil_of_nextDrain hi)
    exact ⟨hedgeDrain p h s, rfl, hdrained.accs_eq hhead haccs, hdrained.sems, hdrained.bank, fun x hx => hdrained.rawByte_outside hmem hx,
      hdrained.rawBytes_raw hmem, fun j hj => (hdrained.only.others j hj).trans (putRuns_plot ..)⟩
  · subst hd
    exact congrArg Host.Outcome.next (wloadComplete_head hf hkind)

end Sys2Proof.Machine
end

section
/-! SUPPORT. The sequencer's streams (02_plots_and_hedges.md R30, 11_schedules_and_collectives.md R288): when an instruction that may
issue does, the stream moves on by one. -/

namespace Sys2Proof.Machine

open Sys2Proof.Obl (Issues past)

variable {p : Nat} {st : Stream} {s t : State}

/-- From s to t neither a stream of plot p nor the program it runs has changed, and the plots are canonical. -/
structure SameStream (p : Nat) (s t : State) : Prop where
  active : t.sch.active = s.sch.active
  pc : ∀ st, (t.plot p).pc st = (s.plot p).pc st
  plots : Tab.wf {} t.plots = true

theorem SameStream.progOf_eq (h : SameStream p s t) (st : Stream) : progOf t p st = progOf s p st := by
  unfold progOf State.body
  rw [h.active]

theorem SameStream.of_eq (hsch : t.sch = s.sch) (hplots : t.plots = s.plots) (hw : Tab.wf {} s.plots = true) : SameStream p s t :=
  ⟨by rw [hsch], fun st => by unfold State.plot; rw [hplots], by rw [hplots]; exact hw⟩

theorem SameStream.refl (hw : Tab.wf {} s.plots = true) : SameStream p s s := .of_eq rfl rfl hw

/-- A change of the plot that leaves its program counters. -/
theorem SameStream.onPlot {f : Plot → Plot} (hf : ∀ st, (f (s.plot p)).pc st = (s.plot p).pc st) (hw : Tab.wf {} s.plots = true) :
    SameStream p s (s.onPlot p f) where
  active := rfl
  pc st := by rw [State.plot_onPlot _ _ _ _ hw, if_pos rfl, hf]
  plots := Tab.wf_modify _ _ _ _ hw

@[simp] theorem Plot.pc_setPc (q : Plot) (st : Stream) (v : Nat) : (q.setPc st v).pc st = v := by
  cases st <;> rfl

/-- The instruction a stream is at once it has moved on. -/
theorem SameStream.instrAt_past (h : SameStream p s t) (st : Stream) :
    instrAt (past p st t) p st = (progOf s p st)[(s.plot p).pc st + 1]? := by
  have hprog : progOf (past p st t) p st = progOf t p st := rfl
  unfold instrAt
  rw [hprog, h.progOf_eq, past, State.plot_onPlot _ _ _ _ h.plots, if_pos rfl, Plot.pc_setPc, h.pc]

/-- The bundle's markers alone act as a stream reaches them. -/
theorem settle_of_no_marker {n : Nat} (h : ∀ j, instrAt s p st = some j → j ≠ .tallyPoint ∧ ∀ n, j ≠ .arrive n) : settle p st n s = s := by
  cases n with
  | zero => rfl
  | succ n =>
    unfold settle
    split
    · rfl
    · split
      · next hat => exact absurd rfl (h _ hat).1
      · next hat => exact absurd rfl ((h _ hat).2 _)
      · rfl

section
variable {i : SeqInstr} (hi : Issues s p st i)
include hi

theorem plots_wf_of_issues : Tab.wf {} s.plots = true := by
  obtain ⟨hw, -, -, -⟩ := hi
  exact hw

theorem mayIssue_of_issues : mayIssue s p st = true := by
  obtain ⟨-, hmay, -, -⟩ := hi
  exact hmay

theorem instrAt_of_issues : instrAt s p st = some i := by
  obtain ⟨-, -, hat, -⟩ := hi
  exact hat

/-- Past an issued instruction, with no marker behind it, the stream is at the next one and nothing else has changed. -/
theorem advance_eq_past (h : SameStream p s t) : advance p st t = past p st t := by
  obtain ⟨-, -, -, hnext⟩ := hi
  exact settle_of_no_marker fun j hj => hnext j ((h.instrAt_past st).symm.trans hj)

variable {f : SeqInstr → State → Option State}

theorem seqStep_of_some (hf : f i s = some t) (h : SameStream p s t) : seqStep p st f s = past p st t := by
  unfold seqStep
  rw [if_pos (mayIssue_of_issues hi), instrAt_of_issues hi]
  simp only [hf]
  exact advance_eq_past hi h

theorem seqStep_of_none (hf : f i s = none) : seqStep p st f s = s := by
  unfold seqStep
  rw [if_pos (mayIssue_of_issues hi), instrAt_of_issues hi]
  simp only [hf]

/-- An instruction that issues under a condition, and waits without it. -/
theorem seqStep_of_ite {c : Prop} [Decidable c] (hf : f i s = if c then some t else none) (h : SameStream p s t) :
    seqStep p st f s = if c then past p st t else s := by
  split
  · next hc => exact seqStep_of_some hi (by rw [hf, if_pos hc]) h
  · next hc => exact seqStep_of_none hi (by rw [hf, if_neg hc])

end

theorem seqStep_of_not_mayIssue {f : SeqInstr → State → Option State} (h : mayIssue s p st = false) : seqStep p st f s = s := by
  simp [seqStep, h]

/-! ### Semaphores (R269) -/

/-- SEM_MISUSE. -/
theorem SameStream.event {g b src : Nat} {data : List Nat} (hw : Tab.wf {} s.plots = true) : SameStream p s (event g b src data s) :=
  .of_eq (event_sch ..) (event_plots ..) hw

/-- A semaphore of plot p with another value. -/
def setSem (p n v : Nat) (s : State) : State :=
  s.onPlot p (fun q => { q with sems := q.sems.set {} n { (s.plot p).sems.get {} n with value := v } })

theorem sameStream_setSem {n v : Nat} (hw : Tab.wf {} s.plots = true) : SameStream p s (setSem p n v s) :=
  .onPlot (fun st => by cases st <;> rfl) hw

theorem semWaitAt_of_unassigned {n : Nat} (k : Nat) (h : ((s.plot p).sems.get {} n).assigned = false) :
    semWaitAt p n k s = some (event 7 2 p [p, n] s) := by
  simp [semWaitAt, h]

theorem semWaitAt_of_assigned {n : Nat} (k : Nat) (h : ((s.plot p).sems.get {} n).assigned = true) :
    semWaitAt p n k s =
      if k ≤ ((s.plot p).sems.get {} n).value then some (setSem p n (((s.plot p).sems.get {} n).value - k) s) else none := by
  simp [semWaitAt, setSem, h]

theorem semPostAt_of_unassigned {n : Nat} (d : Int) (h : ((s.plot p).sems.get {} n).assigned = false) :
    semPostAt p n d s = event 7 2 p [p, n] s := by
  simp [semPostAt, h]

theorem semPostAt_of_fits {n : Nat} {d : Int} (h : ((s.plot p).sems.get {} n).assigned = true)
    (hlow : 0 ≤ (((s.plot p).sems.get {} n).value : Int) + d) (hhigh : (((s.plot p).sems.get {} n).value : Int) + d ≤ 0xFFFF) :
    semPostAt p n d s = setSem p n ((((s.plot p).sems.get {} n).value : Int) + d).toNat s := by
  have hclamp : clampInt 0 0xFFFF ((((s.plot p).sems.get {} n).value : Int) + d) = (((s.plot p).sems.get {} n).value : Int) + d := by
    unfold clampInt
    omega
  unfold semPostAt setSem
  dsimp only
  rw [h, hclamp, if_neg (not_lt.mpr hhigh), if_neg (not_lt.mpr hlow)]
  rfl

/-! ### Messages (R235, R271) -/

theorem queueFull_eq_false_iff (s : State) (v : Nat) :
    queueFull s v = false ↔ (s.flow v).stalled = [] ∧ queuedWords (s.flow v).queue < 1024 := by
  simp [queueFull]

theorem pushWithy_of_room {v cls w : Nat} (h : queueFull s v = false) :
    pushWithy v cls [w] s = s.onFlow v (fun f => { f with queue := f.queue ++ [⟨cls, [w], (s.flow v).sent⟩] }) := by
  obtain ⟨hstalled, hroom⟩ := (queueFull_eq_false_iff s v).mp h
  unfold pushWithy
  dsimp only
  rw [if_pos (by simpa [hstalled] using hroom)]

end Sys2Proof.Machine
end

section
/-! PROOFS. The sequencer's instructions (02_plots_and_hedges.md R30, R49, 03_mash_engines.md R54, 11_schedules_and_collectives.md R269, R271,
R278). -/

namespace Sys2Proof.Machine

open Sys2Proof.Obl (Issues past)

section
variable {p : Fin 64} {st : Stream} {s : State}

/-- An operation put behind those in flight. -/
theorem sameStream_launch {p kind off len : Nat} (hw : Tab.wf {} s.plots = true) : SameStream p s (launch p kind off len s) :=
  .onPlot (fun st => by cases st <;> rfl) hw

theorem exec_hop_issues {off : Nat} (hi : Issues s p st (.hop off)) : exec (.hop p st) s = .next (past p st (launch p 0 off 64 s)) :=
  congrArg Host.Outcome.next (seqStep_of_some hi rfl (sameStream_launch (plots_wf_of_issues hi)))

theorem exec_wload_issues {off : Nat} (hi : Issues s p st (.wload off)) : exec (.wload p st) s = .next (past p st (launch p 1 off 32 s)) :=
  congrArg Host.Outcome.next (seqStep_of_some hi rfl (sameStream_launch (plots_wf_of_issues hi)))

theorem exec_mash_issues {m : MashItem} (hi : Issues s p st (.mash m)) : exec (.mash p st) s =
    .next (if (s.plot p).mashQ.length < 4 then past p st (s.onPlot p (fun q => { q with mashQ := q.mashQ ++ [m] })) else s) :=
  congrArg Host.Outcome.next (seqStep_of_ite hi rfl (.onPlot (fun st => by cases st <;> rfl) (plots_wf_of_issues hi)))

theorem exec_swait_issues {n k : Nat} (hi : Issues s p st (.swait n k)) : exec (.swait p st) s =
    .next (if ((s.plot p).sems.get {} n).assigned = false then past p st (event 7 2 p [p, n] s)
      else if k ≤ ((s.plot p).sems.get {} n).value then past p st (setSem p n (((s.plot p).sems.get {} n).value - k) s) else s) := by
  refine congrArg Host.Outcome.next ?_
  split
  · next h => exact seqStep_of_some hi (semWaitAt_of_unassigned k h) (.event (plots_wf_of_issues hi))
  · next h => exact seqStep_of_ite hi (semWaitAt_of_assigned k (by simpa using h)) (sameStream_setSem (plots_wf_of_issues hi))

/-- A local post issues whatever it comes to. -/
theorem exec_spost_issues {n : Nat} {d : Int} (hi : Issues s p st (.spost n d)) (h : SameStream p s (semPostAt p n d s)) :
    exec (.spost p st) s = .next (past p st (semPostAt p n d s)) := by
  refine congrArg Host.Outcome.next ?_
  split
  · next hat => exact absurd (hat.symm.trans (instrAt_of_issues hi)) (by simp)
  · exact seqStep_of_some hi rfl h

theorem exec_spost_misuses {n : Nat} {d : Int} (hi : Issues s p st (.spost n d)) (h : ((s.plot p).sems.get {} n).assigned = false) :
    exec (.spost p st) s = .next (past p st (event 7 2 p [p, n] s)) := by
  have hpost := semPostAt_of_unassigned d h
  rw [← hpost]
  exact exec_spost_issues hi (hpost ▸ .event (plots_wf_of_issues hi))

theorem exec_spost_adds {n : Nat} {d : Int} (hi : Issues s p st (.spost n d)) (h : ((s.plot p).sems.get {} n).assigned = true)
    (hlow : 0 ≤ (((s.plot p).sems.get {} n).value : Int) + d) (hhigh : (((s.plot p).sems.get {} n).value : Int) + d ≤ 0xFFFF) :
    exec (.spost p st) s = .next (past p st (setSem p n ((((s.plot p).sems.get {} n).value : Int) + d).toNat s)) := by
  have hpost := semPostAt_of_fits h hlow hhigh
  rw [← hpost]
  exact exec_spost_issues hi (hpost ▸ sameStream_setSem (plots_wf_of_issues hi))

/-- What a remote post comes to, by the route to its rank. -/
theorem exec_spostRemote {r q n : Nat} {d : Int} (hi : Issues s p st (.spostRemote r q n d)) : exec (.spost p st) s =
    .next ((routeTo s r).elim (advance p st s) fun v =>
      if queueFull s v then event 5 4 (0x60 + v) [v, s.sch.step, s.sch.epoch] s else advance p st (pushWithy v 3 [semPostWord r q n d] s)) := by
  change execSpost p st s = _
  unfold execSpost
  rw [instrAt_of_issues hi]
  simp only [mayIssue_of_issues hi]
  cases routeTo s r <;> rfl

theorem exec_spostRemote_routed {r q n v : Nat} {d : Int} (hi : Issues s p st (.spostRemote r q n d)) (hv : routeTo s r = some v) :
    exec (.spost p st) s = .next (if (s.flow v).stalled = [] ∧ queuedWords (s.flow v).queue < 1024 then
        past p st (s.onFlow v (fun f => { f with queue := f.queue ++ [⟨3, [semPostWord r q n d], (s.flow v).sent⟩] }))
      else event 5 4 (0x60 + v) [v, s.sch.step, s.sch.epoch] s) := by
  rw [exec_spostRemote hi, hv]
  refine congrArg Host.Outcome.next ?_
  dsimp only [Option.elim]
  by_cases hroom : (s.flow v).stalled = [] ∧ queuedWords (s.flow v).queue < 1024
  · have hfree := (queueFull_eq_false_iff s v).mpr hroom
    rw [if_pos hroom, hfree, if_neg Bool.false_ne_true, pushWithy_of_room hfree]
    exact advance_eq_past hi (.of_eq rfl rfl (plots_wf_of_issues hi))
  · rw [if_neg hroom, if_pos (by simpa using mt (queueFull_eq_false_iff s v).mp hroom)]

theorem exec_spostRemote_unrouted {r q n : Nat} {d : Int} (hi : Issues s p st (.spostRemote r q n d)) (hv : routeTo s r = none) :
    exec (.spost p st) s = .next (past p st s) := by
  rw [exec_spostRemote hi, hv, ← advance_eq_past hi (.refl (plots_wf_of_issues hi)), Option.elim]

theorem exec_ewait_issues {e : Nat} (hi : Issues s p st (.ewait e)) :
    exec (.ewait p st) s = .next (if e ≤ s.sch.planIdx then past p st s else s) :=
  congrArg Host.Outcome.next (seqStep_of_ite hi (by simp [epochReached]) (.refl (plots_wf_of_issues hi)))

theorem exec_fclr_issues (hi : Issues s p st .fclr) : exec (.fclr p st) s =
    .next (if (s.plot p).flight.all (fun f => f.kind != 0 || drainedAll f) = true then past p st (s.onPlot p (fun q => { q with hflags := 0 }))
      else s) :=
  congrArg Host.Outcome.next (seqStep_of_ite hi rfl (.onPlot (fun st => by cases st <;> rfl) (plots_wf_of_issues hi)))

theorem exec_spost_of_not_mayIssue (h : mayIssue s p st = false) : exec (.spost p st) s = .next s := by
  refine congrArg Host.Outcome.next ?_
  split
  · rw [h, if_neg Bool.false_ne_true]
  · exact seqStep_of_not_mayIssue h

end

/-- Settles O39: each clause is the lemma about its instruction. -/
theorem sequencerInstructionsIssueInOrder : Obligations.SequencerInstructionsIssueInOrder := by
  unfold Obligations.SequencerInstructionsIssueInOrder
  refine ⟨fun p st off s hi => exec_hop_issues hi, fun p st off s hi => exec_wload_issues hi, fun p st m s hi => exec_mash_issues hi,
    fun p st n k s x hi hx => ?_, fun p st n d s x hi hx => ?_, fun p st r q n d s v hi hv => exec_spostRemote_routed hi hv,
    fun p st r q n d s hi hv => exec_spostRemote_unrouted hi hv, fun p st e s hi => exec_ewait_issues hi,
    fun p st s hi => exec_fclr_issues hi, fun p st s h => ?_⟩
  · subst hx
    exact exec_swait_issues hi
  · subst hx
    exact ⟨exec_spost_misuses hi, exec_spost_adds hi⟩
  · have hidle (f) : Host.Outcome.next (seqStep p st f s) = (.next s : Host.Outcome State Fault Refusal) :=
      congrArg Host.Outcome.next (seqStep_of_not_mayIssue h)
    exact ⟨hidle _, hidle _, hidle _, hidle _, hidle _, exec_spost_of_not_mayIssue h, hidle _, hidle _⟩

end Sys2Proof.Machine
end

section
/-! SUPPORT. Flags of a Mash instruction (03_mash_engines.md R61, R70): the flags of several elements joined, bit by bit, as PLT_MFLAGS and
the unregioned set hold them. -/

namespace Sys2Proof

theorem natBit_or (b x y : Nat) : natBit b (x ||| y) = (natBit b x || natBit b y) := by
  simp only [natBit_eq_testBit, Nat.testBit_or]

theorem natBit_and (b x y : Nat) : natBit b (x &&& y) = (natBit b x && natBit b y) := by
  simp only [natBit_eq_testBit, Nat.testBit_and]

theorem natBit_xor (b x y : Nat) : natBit b (x ^^^ y) = (natBit b x ^^ natBit b y) := by
  simp only [natBit_eq_testBit, Nat.testBit_xor]

theorem natBit_zero_right (b : Nat) : natBit b 0 = false := by
  rw [natBit_eq_testBit, Nat.zero_testBit]

/-- Five flags as the bits of a number. -/
def fiveBits (a b c d e : Bool) : Nat := b2n a + 2 * b2n b + 4 * b2n c + 8 * b2n d + 16 * b2n e

theorem fiveBits_or : ∀ a b c d e a' b' c' d' e' : Bool,
    fiveBits (a || a') (b || b') (c || c') (d || d') (e || e') = fiveBits a b c d e ||| fiveBits a' b' c' d' e' := by
  decide +kernel

theorem NFlags.toNat_or (x y : NFlags) : (x.or y).toNat = x.toNat ||| y.toNat := fiveBits_or ..
@[simp] theorem NFlags.toNat_empty : NFlags.toNat {} = 0 := rfl

/-- The flags of several elements joined. -/
def joinFlags (fs : List NFlags) : NFlags := fs.foldl NFlags.or {}

@[simp] theorem joinFlags_nil : joinFlags [] = {} := rfl

@[simp] theorem NFlags.or_empty (f : NFlags) : f.or {} = f := by simp [NFlags.or]
@[simp] theorem NFlags.empty_or (f : NFlags) : NFlags.or {} f = f := by simp [NFlags.or]
@[simp] theorem joinFlags_singleton (f : NFlags) : joinFlags [f] = f := NFlags.empty_or f

/-- A bit that joins as the flags do is set in the joined flags exactly when it is in those of some element. -/
theorem natBit_foldl_or {g : NFlags → Nat} (hor : ∀ x y, g (x.or y) = g x ||| g y) (b : Nat) (fs : List NFlags) (f : NFlags) :
    natBit b (g (fs.foldl NFlags.or f)) = (natBit b (g f) || fs.any (fun f => natBit b (g f))) := by
  induction fs generalizing f with
  | nil => simp
  | cons x fs ih => rw [List.foldl_cons, ih, hor, natBit_or, List.any_cons, Bool.or_assoc]

/-- Elements that raise nothing may be left out of a join. -/
theorem foldl_or_ite {α : Type} (p : α → Bool) (g : α → NFlags) (xs : List α) (f : NFlags) :
    xs.foldl (fun a x => a.or (if p x then g x else {})) f = ((xs.filter p).map g).foldl NFlags.or f := by
  induction xs generalizing f with
  | nil => rfl
  | cons x xs ih =>
    rw [List.foldl_cons, ih, List.filter_cons]
    split <;> simp

end Sys2Proof

namespace Sys2Proof.Machine

open Sys2Proof.Obl

theorem mflagBits_or (x y : NFlags) : mflagBits (x.or y) = mflagBits x ||| mflagBits y := fiveBits_or ..

@[simp] theorem mflagBits_empty : mflagBits {} = 0 := rfl

/-- The plot after an instruction outside a loop: what it makes of the registers, and its flags in the unregioned set (R105). -/
def retired (x : Plot × NFlags) : Plot := { x.1 with unreg := x.1.unreg ||| x.2.toNat }

/-- An instruction changes registers and PLT_MFLAGS and nothing else of its plot. -/
def OnlyRegs (q r : Plot) : Prop := r = { q with v := r.v, s := r.s, m := r.m, mflags := r.mflags }

/-- An instruction's flags join PLT_MFLAGS. -/
def JoinsFlags (q : Plot) (x : Plot × NFlags) : Prop := x.1.mflags = q.mflags ||| mflagBits x.2

theorem OnlyRegs.unreg {q r : Plot} (h : OnlyRegs q r) : r.unreg = q.unreg := by rw [h]

theorem raised_retired {q : Plot} {x : Plot × NFlags} {fs : List NFlags} (honly : OnlyRegs q x.1) (hjoins : JoinsFlags q x)
    (hfs : x.2 = joinFlags fs) : Raised q (retired x) fs := by
  intro b
  constructor
  · change natBit b x.1.mflags = _
    rw [hjoins, natBit_or, hfs, joinFlags, natBit_foldl_or mflagBits_or, mflagBits_empty, natBit_zero_right, Bool.false_or]
    rfl
  · change natBit b (x.1.unreg ||| x.2.toNat) = _
    rw [honly.unreg, natBit_or, hfs, joinFlags, natBit_foldl_or NFlags.toNat_or, NFlags.toNat_empty, natBit_zero_right, Bool.false_or]
    rfl

end Sys2Proof.Machine
end

section
/-! SUPPORT. The Mash registers (03_mash_engines.md R53, R61): the elements of a register after a write of elements, and what a write of a
vector, scalar or mask register leaves alone. -/

namespace Sys2Proof.Machine

open Sys2Proof.Obl

/-- How many elements a register holds. -/
def elemCount (pk : Bool) : Nat := if pk then 256 else 128

/-- How wide an element is. -/
def elemWidth (pk : Bool) : Nat := if pk then 16 else 32

theorem elemCount_le (pk : Bool) : elemCount pk ≤ 256 := by cases pk <;> decide

@[simp] theorem elemsOf_length (pk : Bool) (xs : List Word) : (elemsOf pk xs).length = elemCount pk := by
  cases pk <;> simp [elemsOf, halvesOf, lanesOf, elemCount]

theorem natBits_lt (hi lo v : Nat) : natBits hi lo v < 2 ^ (hi + 1 - lo) := Nat.mod_lt _ (Nat.two_pow_pos _)

theorem getD_map_range {α : Type} {n e : Nat} (g : Nat → α) (d : α) (he : e < n) : ((List.range n).map g).getD e d = g e := by
  simp [List.getD_eq_getElem?_getD, he]

theorem lanesOf_getD {xs : List Word} {e : Nat} (he : e < 128) : (lanesOf xs).getD e 0 = (xs.getD e 0).toNat := getD_map_range _ _ he

theorem halvesOf_getD {xs : List Word} {e : Nat} (he : e < 256) :
    (halvesOf xs).getD e 0 = natBits (16 * (e % 2) + 15) (16 * (e % 2)) (xs.getD (e / 2) 0).toNat := getD_map_range _ _ he

theorem elemsOf_getD_lt (pk : Bool) (xs : List Word) (e : Nat) : (elemsOf pk xs).getD e 0 < 2 ^ elemWidth pk := by
  by_cases he : e < elemCount pk
  · cases pk with
    | false => rw [show elemsOf false xs = lanesOf xs from rfl, lanesOf_getD he]; exact (xs.getD e 0).isLt
    | true =>
      rw [show elemsOf true xs = halvesOf xs from rfl, halvesOf_getD he, elemWidth, if_pos rfl]
      exact lt_of_lt_of_eq (natBits_lt ..) (by congr 1; omega)
  · rw [List.getD_eq_default _ _ (by simpa using he)]
    exact Nat.two_pow_pos _

/-- Elements are read lane by lane. -/
theorem elemsOf_congr {xs ys : List Word} (pk : Bool) (h : ∀ l, xs.getD l 0 = ys.getD l 0) : elemsOf pk xs = elemsOf pk ys := by
  simp only [elemsOf, halvesOf, lanesOf, h]

theorem natBits_low_half {x y : Nat} (hx : x < 65536) : natBits 15 0 (x + 65536 * y) = x := by
  simp only [natBits, Nat.shiftRight_zero]
  omega

theorem natBits_high_half {x y : Nat} (hx : x < 65536) (hy : y < 65536) : natBits 31 16 (x + 65536 * y) = y := by
  simp only [natBits, Nat.shiftRight_eq_div_pow]
  omega

theorem halvesTo_getD {es : List Nat} {l : Nat} (hl : l < 128) : ((halvesTo es).getD l 0).toNat =
    es.getD (2 * l) 0 % 65536 + 65536 * (es.getD (2 * l + 1) 0 % 65536) := by
  rw [halvesTo, getD_map_range _ _ hl, BitVec.toNat_ofNat]
  omega

/-- Elements written to a register are read back, cut to their width. -/
theorem elemsOf_elemsTo {pk : Bool} {e : Nat} (he : e < elemCount pk) (es : List Nat) :
    (elemsOf pk (elemsTo pk es)).getD e 0 = es.getD e 0 % 2 ^ elemWidth pk := by
  cases pk with
  | false =>
    change (lanesOf (lanesTo es)).getD e 0 = _
    rw [lanesOf_getD he, lanesTo, show (0 : Word) = BitVec.ofNat 32 0 from rfl, List.getD_map, BitVec.toNat_ofNat]
    rfl
  | true =>
    change (halvesOf (halvesTo es)).getD e 0 = es.getD e 0 % 65536
    have hl : e / 2 < 128 := Nat.div_lt_of_lt_mul he
    have hlow : es.getD (2 * (e / 2)) 0 % 65536 < 65536 := Nat.mod_lt _ (by decide)
    have hhigh : es.getD (2 * (e / 2) + 1) 0 % 65536 < 65536 := Nat.mod_lt _ (by decide)
    rw [halvesOf_getD he, halvesTo_getD hl]
    rcases Nat.mod_two_eq_zero_or_one e with h | h
    · rw [h, natBits_low_half hlow, show 2 * (e / 2) = e by omega]
    · rw [h, natBits_high_half hlow hhigh, show 2 * (e / 2) + 1 = e by omega]

section
variable {q : Plot} {r : Nat} (hw : Tab.wf [] q.v = true)
include hw

theorem vreg_putV_other {j : Nat} (xs : List Word) (hj : j ≠ r) : (q.putV r xs).vreg j = q.vreg j := Tab.get_set_other _ _ _ _ _ hw hj

/-- A register of zeros is not listed, and reads as it was written all the same. -/
theorem vreg_putV_getD (xs : List Word) (l : Nat) : ((q.putV r xs).vreg r).getD l 0 = xs.getD l 0 := by
  rw [show (q.putV r xs).vreg r = if xs.all (· == 0) then [] else xs from Tab.get_set_self _ _ _ _ hw]
  split
  · next hz =>
    simp only [List.all_eq_true, beq_iff_eq] at hz
    rcases Nat.lt_or_ge l xs.length with hl | hl
    · rw [List.getD_eq_getElem _ _ hl, hz _ (List.getElem_mem hl)]; rfl
    · rw [List.getD_eq_default _ _ hl]; rfl
  · rfl

theorem el_putV (pk : Bool) (xs : List Word) (e : Nat) : el pk (q.putV r xs) r e = (elemsOf pk xs).getD e 0 := by
  rw [el, elemsOf_congr pk (vreg_putV_getD hw xs)]

theorem el_putV_elemsTo {pk : Bool} {e : Nat} (he : e < elemCount pk) (es : List Nat) :
    el pk (q.putV r (elemsTo pk es)) r e = es.getD e 0 % 2 ^ elemWidth pk := by
  rw [el_putV hw, elemsOf_elemsTo he]

end

theorem el_lt (pk : Bool) (q : Plot) (r e : Nat) : el pk q r e < 2 ^ elemWidth pk := elemsOf_getD_lt ..

/-! ### The active elements (R61, R62) -/

theorem natBit_allOnes {e : Nat} (he : e < 256) : natBit e allOnes = true := by
  rw [natBit_eq_testBit, allOnes, Nat.testBit_two_pow_sub_one, decide_eq_true he]

theorem natBit_effMask {w e : Nat} {q : Plot} (he : e < 256) : natBit e (effMask soloCtx w q) = active q w e := by
  rw [effMask, natBit_and, show natBit e soloCtx.m0 = true from natBit_allOnes he, Bool.and_true]
  rfl

theorem filter_effMask (pk : Bool) (w : Nat) (q : Plot) :
    (List.range (elemCount pk)).filter (fun e => natBit e (effMask soloCtx w q)) = actives pk q w :=
  List.filter_congr fun _ he => natBit_effMask (Nat.lt_of_lt_of_le (List.mem_range.mp he) (elemCount_le pk))

theorem mem_actives_lt {pk : Bool} {w e : Nat} {q : Plot} (he : e ∈ actives pk q w) : e < elemCount pk :=
  List.mem_range.mp (List.mem_of_mem_filter he)

/-- A merge takes the new element where the mask is set and keeps the old one elsewhere. -/
theorem mergeElems_getD {mask e : Nat} {old : List Nat} (new : List (Nat × NFlags)) (he : e < old.length) :
    (mergeElems mask old new).1.getD e 0 = if natBit e mask then (new.getD e (0, {})).1 else old.getD e 0 := by
  rw [mergeElems, List.map_map, getD_map_range _ _ he, Function.comp_apply]
  split <;> rfl

/-- A merge raises the flags of the elements it takes. -/
theorem mergeElems_flags (mask : Nat) (old : List Nat) (new : List (Nat × NFlags)) : (mergeElems mask old new).2 =
    joinFlags (((List.range old.length).filter (fun e => natBit e mask)).map (fun e => (new.getD e (0, {})).2)) := by
  rw [joinFlags, ← foldl_or_ite, mergeElems, List.foldl_map]
  refine List.foldl_ext _ _ _ fun a e _ => ?_
  split <;> rfl

section
variable {q : Plot} {r w : Nat} {pk : Bool} (new : List (Nat × NFlags))

/-- What an instruction outside a loop makes of register r with new elements (R61). -/
def putActive (pk : Bool) (r w : Nat) (new : List (Nat × NFlags)) (q : Plot) : Plot :=
  q.putV r (elemsTo pk (mergeElems (effMask soloCtx w q) (elemsOf pk (q.vreg r)) new).1)

theorem el_putV_mergeElems (mask : Nat) (hw : Tab.wf [] q.v = true) {e : Nat} (he : e < elemCount pk) :
    el pk (q.putV r (elemsTo pk (mergeElems mask (elemsOf pk (q.vreg r)) new).1)) r e =
      if natBit e mask then (new.getD e (0, {})).1 % 2 ^ elemWidth pk else el pk q r e := by
  rw [el_putV_elemsTo hw he, mergeElems_getD _ (by rwa [elemsOf_length])]
  split
  · rfl
  · exact Nat.mod_eq_of_lt (el_lt pk q r e)

theorem el_putActive (hw : Tab.wf [] q.v = true) {e : Nat} (he : e < elemCount pk) : el pk (putActive pk r w new q) r e =
    if active q w e then (new.getD e (0, {})).1 % 2 ^ elemWidth pk else el pk q r e := by
  rw [putActive, el_putV_mergeElems new _ hw he, natBit_effMask (Nat.lt_of_lt_of_le he (elemCount_le pk))]

theorem vreg_putActive_other (hw : Tab.wf [] q.v = true) {j : Nat} (hj : j ≠ r) : (putActive pk r w new q).vreg j = q.vreg j :=
  vreg_putV_other hw _ hj

theorem flags_putActive (xs : List Word) : (mergeElems (effMask soloCtx w q) (elemsOf pk xs) new).2 =
    joinFlags ((actives pk q w).map (fun e => (new.getD e (0, {})).2)) := by
  rw [mergeElems_flags, elemsOf_length, filter_effMask]

end

end Sys2Proof.Machine
end

section
/-! SUPPORT. One Mash instruction (03_mash_engines.md R57 to R62): what every one leaves of its plot, what each kind makes of the registers,
and how a row takes the instruction at the head of the queue. -/

namespace Sys2Proof.Machine

open Sys2Proof.Obl

/-! ### What every instruction leaves of its plot -/

/-- An instruction changes registers and PLT_MFLAGS only, and its flags join PLT_MFLAGS. -/
structure RegStep (q : Plot) (x : Plot × NFlags) : Prop where
  only : OnlyRegs q x.1
  joins : JoinsFlags q x

section
variable (c : MashCtx) (w : Nat) (q : Plot)

theorem onlyRegs_putM (n v : Nat) : OnlyRegs q (q.putM n v) := by
  unfold Plot.putM OnlyRegs
  split <;> rfl

@[simp] theorem putM_mflags (n v : Nat) : (q.putM n v).mflags = q.mflags := by
  unfold Plot.putM
  split <;> rfl

theorem onlyRegs_putV (r : Nat) (xs : List Word) : OnlyRegs q (q.putV r xs) := rfl

/-- Registers written and flags raised. -/
theorem regStep_raiseM {q r : Plot} (h : OnlyRegs q r) (hf : r.mflags = q.mflags) (f : NFlags) : RegStep q (r.raiseM f, f) := by
  refine ⟨?_, congrArg (· ||| mflagBits f) hf⟩
  exact congrArg (fun t : Plot => t.raiseM f) h

/-- Registers written and no flag raised. -/
theorem regStep_quiet {q r : Plot} (h : OnlyRegs q r) (hf : r.mflags = q.mflags) : RegStep q (r, {}) :=
  ⟨h, hf.trans (Nat.or_zero _).symm⟩

theorem regStep_nop : RegStep q (q, {}) := regStep_quiet rfl rfl

theorem regStep_elementwise (pk : Bool) (f : Nat → Nat → Nat → Nat × NFlags) : RegStep q (elementwise pk f c w q) :=
  regStep_raiseM (onlyRegs_putV ..) rfl _

theorem regStep_compare (pk : Bool) (t : Nat → Nat → Bool) (g : Nat → Nat → NFlags) : RegStep q (compare pk t g c w q) :=
  regStep_raiseM (onlyRegs_putM ..) (putM_mflags ..) _

theorem regStep_fselOp : RegStep q (fselOp c w q) := regStep_quiet (onlyRegs_putV ..) rfl
theorem regStep_vbcsOp : RegStep q (vbcsOp c w q) := regStep_quiet (onlyRegs_putV ..) rfl

theorem regStep_vscalOp : RegStep q (vscalOp c w q) := by
  unfold vscalOp
  split
  · exact regStep_quiet rfl rfl
  · exact regStep_nop q

theorem regStep_cvtDown (f : Fmt) : RegStep q (cvtDown f c w q) := regStep_raiseM (onlyRegs_putV ..) rfl _
theorem regStep_cvtUp (f : Fmt) (hi : Bool) : RegStep q (cvtUp f hi c w q) := regStep_raiseM (onlyRegs_putV ..) rfl _
theorem regStep_iotaOp : RegStep q (iotaOp c w q) := regStep_quiet (onlyRegs_putV ..) rfl
theorem regStep_rsumOp (acc : Bool) : RegStep q (rsumOp acc c w q) := regStep_raiseM (onlyRegs_putV ..) rfl _

theorem regStep_rextOp (f : XVal → XVal → XVal) (ident : Nat) (mag : Bool) : RegStep q (rextOp f ident mag c w q) :=
  regStep_raiseM (onlyRegs_putV ..) rfl _

theorem regStep_irsumaOp : RegStep q (irsumaOp c w q) := regStep_raiseM (onlyRegs_putV ..) rfl _
theorem regStep_maskOp (f : Nat → Nat → Nat) : RegStep q (maskOp f c w q) := regStep_quiet (onlyRegs_putM ..) (putM_mflags ..)

/-- Every instruction but MFCLR. -/
theorem regStep_mashExec (h : mOp w ≠ 0x80) : RegStep q (mashExec c w q) := by
  simp only [mashExec, floatCmp, vmovOp, if_neg h, apply_ite (RegStep q), ite_self, regStep_elementwise, regStep_compare, regStep_fselOp,
    regStep_vbcsOp, regStep_vscalOp, regStep_cvtDown, regStep_cvtUp, regStep_iotaOp, regStep_rsumOp, regStep_rextOp, regStep_irsumaOp,
    regStep_maskOp, regStep_nop]

theorem mashExec_mfclr (h : mOp w = 0x80) : mashExec c w q = ({ q with mflags := 0 }, {}) := by simp [mashExec, h]

theorem onlyRegs_mashExec : OnlyRegs q (mashExec c w q).1 := by
  rcases eq_or_ne (mOp w) 0x80 with h | h
  · rw [mashExec_mfclr c w q h]; rfl
  · exact (regStep_mashExec c w q h).only

end

/-! ### The row of an instruction -/

/-- A register instruction at the head of the queue changes its plot's registers and flags, and nothing else. -/
theorem plot_mashReg {p w : Nat} {rest : List MashItem} {s : State} (hw : Tab.wf {} s.plots = true) (j : Nat) :
    (mashReg p w rest s).plot j = if j = p then retired (mashExec soloCtx w { s.plot p with mashQ := rest }) else s.plot j :=
  State.plot_onPlot _ _ _ _ hw

/-- A command whose row takes the opcode runs as MashRuns says, when the instruction makes R of its plot. -/
theorem mashRuns_of {i : Instr} {p : Nat} {ops ops' : List Nat} {R : Plot → Nat → Plot → Prop}
    (hrow : ∀ s, exec i s = .next (mashRow ops' p s)) (hops : ∀ op ∈ ops, op ∈ ops')
    (hqueue : ∀ q w r rest, R { q with mashQ := rest } w r → R q w r)
    (hR : ∀ q w, mOp w ∈ ops → Tab.wf [] q.v = true → Tab.wf 0 q.s = true → Tab.wf 0 q.m = true → R q w (retired (mashExec soloCtx w q))) :
    MashRuns i p ops R := by
  intro s w rest hhead hop hplots hv hs hm
  have hrun : mashRow ops' p s = mashReg p w rest s := by
    rw [mashRow, hhead]
    exact if_pos (List.contains_iff_mem.mpr (hops _ hop))
  have hplot : (mashReg p w rest s).plot p = retired (mashExec soloCtx w { s.plot p with mashQ := rest }) := by
    rw [plot_mashReg hplots, if_pos rfl]
  refine ⟨mashReg p w rest s, by rw [hrow, hrun], rfl, fun j hj => by rw [plot_mashReg hplots, if_neg hj], ?_, fun hne b hb => ?_, ?_⟩
  · have honly := onlyRegs_mashExec soloCtx w { s.plot p with mashQ := rest }
    rw [hplot]
    exact congrArg (fun r : Plot => { r with unreg := (retired (mashExec soloCtx w { s.plot p with mashQ := rest })).unreg }) honly
  · rw [hplot]
    change natBit b (mashExec soloCtx w { s.plot p with mashQ := rest }).1.mflags = true
    rw [(regStep_mashExec soloCtx w _ hne).joins]
    exact natBit_or_left _ hb
  · rw [hplot]
    exact hqueue _ _ _ rest (hR _ w hop hv hs hm)

/-! ### Element-wise instructions -/

section
variable {q : Plot} {w : Nat} {pk : Bool}

/-- The results of an element-wise instruction, element by element. -/
theorem elementwise_results (f : Nat → Nat → Nat → Nat × NFlags) {e : Nat} (he : e < elemCount pk) :
    ((List.range (elemsOf pk (q.vreg (mVd w))).length).map (fun e =>
      f ((elemsOf pk (q.vreg (mVa w))).getD e 0) ((elemsOf pk (q.vreg (mVb w))).getD e 0) ((elemsOf pk (q.vreg (mVc w))).getD e 0))).getD e (0, {}) =
      f (el pk q (mVa w) e) (el pk q (mVb w) e) (el pk q (mVc w) e) := by
  rw [elemsOf_length, getD_map_range _ _ he]
  rfl

/-- An element-wise instruction, in a loop or outside: the elements under its mask take the results. -/
theorem el_elementwise (c : MashCtx) (f : Nat → Nat → Nat → Nat × NFlags) (hv : Tab.wf [] q.v = true) {e : Nat} (he : e < elemCount pk) :
    el pk (elementwise pk f c w q).1 (mVd w) e = if natBit e (effMask c w q) then
      (f (el pk q (mVa w) e) (el pk q (mVb w) e) (el pk q (mVc w) e)).1 % 2 ^ elemWidth pk else el pk q (mVd w) e := by
  refine (el_putV_mergeElems _ _ hv he).trans ?_
  rw [elementwise_results f he]

theorem elems_elementwise (f : Nat → Nat → Nat → Nat × NFlags) (hv : Tab.wf [] q.v = true) :
    Elems pk f q w (retired (elementwise pk f soloCtx w q)) := by
  refine ⟨rfl, rfl, fun j hj => vreg_putActive_other _ hv hj, fun e he => ?_, raised_retired rfl rfl ?_⟩
  · refine (el_elementwise soloCtx f hv he).trans ?_
    rw [natBit_effMask (Nat.lt_of_lt_of_le he (elemCount_le pk))]
    rfl
  · refine (flags_putActive _ _).trans (congrArg joinFlags (List.map_congr_left fun e he => ?_))
    rw [elementwise_results f (mem_actives_lt he)]

/-- The same function of the elements, up to the bits that an element holds. -/
theorem elems_congr {f g : Nat → Nat → Nat → Nat × NFlags} {r : Plot}
    (h : ∀ a b c, (f a b c).1 % 2 ^ elemWidth pk = (g a b c).1 % 2 ^ elemWidth pk ∧ (f a b c).2 = (g a b c).2) (hf : Elems pk f q w r) :
    Elems pk g q w r := by
  obtain ⟨hs, hm, hothers, helems, hraised⟩ := hf
  refine ⟨hs, hm, hothers, fun e he => ?_, ?_⟩
  · rw [helems e he]
    exact if_congr Iff.rfl (h _ _ _).1 rfl
  · simpa only [(h _ _ _).2] using hraised

/-! ### Compares -/

/-- A sum of distinct powers of two has the bits of those powers. -/
theorem compareMask_spec (mask n : Nat) (t : Nat → Bool) :
    compareMask mask n t < 2 ^ n ∧ ∀ e, natBit e (compareMask mask n t) = (decide (e < n) && natBit e mask && t e) := by
  induction n with
  | zero => exact ⟨by simp [compareMask], fun e => by simp [compareMask, natBit_zero_right]⟩
  | succ n ih =>
    obtain ⟨hlt, hbits⟩ := ih
    have hstep : compareMask mask (n + 1) t = if natBit n mask && t n then compareMask mask n t + 2 ^ n else compareMask mask n t := by
      rw [compareMask, List.range_succ, List.foldl_append]
      rfl
    rw [hstep]
    rcases Bool.eq_false_or_eq_true (natBit n mask && t n) with hn | hn
    · rw [hn, if_pos rfl]
      refine ⟨by rw [Nat.pow_succ]; omega, fun e => ?_⟩
      rw [natBit_eq_testBit, Nat.add_comm]
      rcases Nat.lt_trichotomy e n with h | rfl | h
      · rw [Nat.testBit_two_pow_add_gt h, ← natBit_eq_testBit, hbits, decide_eq_true h, decide_eq_true (by omega)]
      · rw [Nat.testBit_two_pow_add_eq, Nat.testBit_lt_two_pow hlt, decide_eq_true (by omega), Bool.true_and, hn]
        rfl
      · rw [Nat.testBit_lt_two_pow (lt_of_lt_of_le (b := 2 ^ (n + 1)) (by rw [Nat.pow_succ]; omega) (Nat.pow_le_pow_right (by decide) h)),
          decide_eq_false (by omega)]
        simp
    · rw [hn, if_neg Bool.false_ne_true]
      refine ⟨by rw [Nat.pow_succ]; omega, fun e => ?_⟩
      rw [hbits]
      rcases eq_or_ne e n with rfl | h
      · rw [decide_eq_false (lt_irrefl e), decide_eq_true (Nat.lt_succ_self e), Bool.true_and, hn]
        rfl
      · rw [show decide (e < n + 1) = decide (e < n) from decide_eq_decide.mpr (by omega)]

theorem putM_m_other {n j : Nat} (v : Nat) (hm : Tab.wf 0 q.m = true) (hj : j ≠ n) : (q.putM n v).m.get 0 j = q.m.get 0 j := by
  unfold Plot.putM
  split
  · rfl
  · exact Tab.get_set_other _ _ _ _ _ hm hj

theorem putM_m_self {n : Nat} (v : Nat) (hm : Tab.wf 0 q.m = true) (hn : n ≠ 0) : (q.putM n v).m.get 0 n = v := by
  rw [Plot.putM, if_neg hn]
  exact Tab.get_set_self _ _ _ _ hm

theorem putM_zero (v : Nat) : q.putM 0 v = q := if_pos rfl

@[simp] theorem putM_s (n v : Nat) : (q.putM n v).s = q.s := by
  unfold Plot.putM
  split <;> rfl

@[simp] theorem putM_v (n v : Nat) : (q.putM n v).v = q.v := by
  unfold Plot.putM
  split <;> rfl

theorem compares_compare (t g : Nat → Nat → Bool) (hm : Tab.wf 0 q.m = true) :
    Compares pk t g q w (retired (compare pk t (fun a b => { nan := g a b }) soloCtx w q)) := by
  have hregs := regStep_compare soloCtx w q pk t (fun a b => { nan := g a b })
  refine ⟨putM_s _ _, putM_v _ _, fun j hj => putM_m_other _ hm hj, fun h0 => ?_, fun h0 e => ?_, raised_retired hregs.only hregs.joins ?_⟩
  · change (q.putM (mVd w % 8) _).m = q.m
    rw [h0, putM_zero]
  · refine (congrArg (natBit e) (putM_m_self _ hm h0)).trans ?_
    rw [(compareMask_spec _ _ _).2, elemsOf_length]
    by_cases he : e < elemCount pk
    · rw [natBit_effMask (Nat.lt_of_lt_of_le he (elemCount_le pk))]
      rfl
    · rw [decide_eq_false he, decide_eq_false (show ¬ e < if pk then 256 else 128 from he)]
      simp
  · rw [← filter_effMask, joinFlags, List.foldl_map, List.foldl_filter, ← elemsOf_length pk (q.vreg (mVa w))]
    rfl

end

end Sys2Proof.Machine
end

section
/-! SUPPORT. Results of float instructions (03_mash_engines.md R59, R70, Table 03.6): the model's roundings and flags as those of one
rounding of the exact result. -/

namespace Sys2Proof.Machine

open Sys2Proof.Obl

/-- Rounding an arithmetic result raises NAN of a NaN and OVF, and nothing else. -/
theorem arith_flags (L : FLayout) (x : XVal) : (L.arith x).2 = { nan := x.isNan, ovf := (L.arith x).2.ovf } := by
  unfold FLayout.arith
  cases x with
  | nan => rfl
  | inf s => rfl
  | fin s m e => dsimp only; split <;> rfl

theorem roundOp_eq_once (op : Nat) (xs : List XVal) (x : XVal) : roundOp (mashLayout op) xs x = once op xs x := by
  simp only [roundOp, once, opFlags]
  rw [arith_flags]
  simp [NFlags.or]

theorem floatOp_two (op : Nat) (f : XVal → XVal → XVal) :
    floatOp op f false = fun a b _ => once op [val op a, val op b] (f (val op a) (val op b)) := by
  funext a b c
  exact roundOp_eq_once ..

theorem floatOp_one (op : Nat) (f : XVal → XVal → XVal) :
    floatOp op f true = fun a b _ => once op [val op a] (f (val op a) (val op b)) := by
  funext a b c
  exact roundOp_eq_once ..

theorem isNan_add_of_left {x : XVal} (h : x.isNan = true) (y : XVal) : (x.add y).isNan = true := by
  cases x with
  | nan => rfl
  | inf s => exact absurd h Bool.false_ne_true
  | fin s m e => exact absurd h Bool.false_ne_true

/-- A product that is no NaN has no NaN factor. -/
theorem isNan_of_mul {x y : XVal} (h : (x.mul y).isNan = false) : x.isNan = false ∧ y.isNan = false := by
  constructor
  · cases x with
    | nan => exact h
    | inf s => rfl
    | fin s m e => rfl
  · cases y with
    | nan => cases x <;> exact h
    | inf s => rfl
    | fin s m e => rfl

/-- The flags of a product and of the sum it goes into, joined. -/
theorem opFlags_mul_add (x y z : XVal) : (opFlags [x, y] (x.mul y)).or (opFlags [x.mul y, z] ((x.mul y).add z)) =
    { nan := [x, y, z].any XVal.isNan || ((x.mul y).add z).isNan
      inv := ((x.mul y).add z).isNan && !([x, y, z].any XVal.isNan) || (x.mul y).isNan && !([x, y].any XVal.isNan) } := by
  rcases Bool.eq_false_or_eq_true (x.mul y).isNan with hp | hp
  · have hs := isNan_add_of_left hp z
    cases hxy : x.isNan || y.isNan <;> simp_all [opFlags, NFlags.or]
  · obtain ⟨hx, hy⟩ := isNan_of_mul hp
    simp [opFlags, NFlags.or, hp, hx, hy]

/-- FFMA's INV is that of its product or of its sum, and its NAN covers its three sources and its result. -/
theorem ffmaOp_eq (op : Nat) : ffmaOp op = fun a b c =>
    let y := ((val op a).mul (val op b)).add (val op c)
    ((once op [] y).1,
      { nan := [val op a, val op b, val op c].any XVal.isNan || y.isNan
        inv := y.isNan && !([val op a, val op b, val op c].any XVal.isNan) || ((val op a).mul (val op b)).isNan && !([val op a, val op b].any XVal.isNan)
        ovf := (once op [] y).2.ovf }) := by
  funext a b c
  have hflags : (ffmaOp op a b c).2 = ((opFlags [val op a, val op b] ((val op a).mul (val op b))).or
      (opFlags [(val op a).mul (val op b), val op c] (((val op a).mul (val op b)).add (val op c)))).or
      ((mashLayout op).arith (((val op a).mul (val op b)).add (val op c))).2 := rfl
  refine Prod.ext rfl (hflags.trans ?_)
  rw [opFlags_mul_add, arith_flags]
  simp [NFlags.or, once]

/-- FDIV: INV of 0/0 alone, DZ of a non-zero finite value over zero. -/
theorem fdivOp_eq : fdivOp = fun a b _ =>
    let r := once 0x18 [val 0x18 a, val 0x18 b] ((val 0x18 a).div (val 0x18 b))
    (r.1, { r.2 with inv := (val 0x18 a).isZero && (val 0x18 b).isZero, dz := (val 0x18 a).isFin && !(val 0x18 a).isZero && (val 0x18 b).isZero }) := by
  funext a b c
  change ((lay32.arith _).1, NFlags.or _ (lay32.arith _).2) = _
  rw [arith_flags]
  simp [NFlags.or, once, val, mashLayout, Bool.or_assoc]

theorem flog2Op_eq : flog2Op = fun a _ _ =>
    let r := once 0x1B [val 0x1B a] (val 0x1B a).log2
    (r.1, { r.2 with dz := (val 0x1B a).isZero }) := by
  funext a b c
  have hround : roundOp lay32 [lay32.decode a] (lay32.decode a).log2 = once 0x1B [val 0x1B a] (val 0x1B a).log2 := roundOp_eq_once 0x1B _ _
  rw [flog2Op, hround]
  simp [NFlags.or, once, val, mashLayout]

/-! ### The row of an element-wise instruction and of a compare -/

section
variable {i : Instr} {p op : Nat} {ops : List Nat} {pk : Bool}

theorem mashRuns_elems {f : Nat → Nat → Nat → Nat × NFlags} (hrow : ∀ s, exec i s = .next (mashRow ops p s)) (hop : op ∈ ops)
    (hx : ∀ w q, mOp w = op → mashExec soloCtx w q = elementwise pk f soloCtx w q) : MashRuns i p [op] (Elems pk f) := by
  refine mashRuns_of hrow (by simpa using hop) (fun _ _ _ _ h => h) fun q w hw hv _ _ => ?_
  rw [hx w q (List.mem_singleton.mp hw)]
  exact elems_elementwise f hv

theorem mashRuns_compares {t g : Nat → Nat → Bool} (hrow : ∀ s, exec i s = .next (mashRow ops p s)) (hop : op ∈ ops)
    (hx : ∀ w q, mOp w = op → mashExec soloCtx w q = compare pk t (fun a b => { nan := g a b }) soloCtx w q) :
    MashRuns i p [op] (Compares pk t g) := by
  refine mashRuns_of hrow (by simpa using hop) (fun _ _ _ _ h => h) fun q w hw _ _ hm => ?_
  rw [hx w q (List.mem_singleton.mp hw)]
  exact compares_compare t g hm

end

/-! ### Opcodes of one kind: b for FP32, b + 16 for packed BF16, b + 32 for packed FP16 (R58) -/

theorem mem_typed {b k : Nat} (hk : k < 3) : b + 16 * k ∈ [b, b + 16, b + 32] := by
  interval_cases k <;> simp

section
variable {i : Instr} {p b k : Nat} (hk : k < 3) (hrow : ∀ s, exec i s = .next (mashRow [b, b + 16, b + 32] p s))
include hk hrow

theorem mashRuns_typedElems {F : Nat → Nat → Nat → Nat → Nat × NFlags}
    (hx : ∀ w q, mOp w = b + 16 * k → mashExec soloCtx w q = elementwise (decide (0 < k)) (F (b + 16 * k)) soloCtx w q) :
    ∀ op, op = b + 16 * k → MashRuns i p [op] (Elems (decide (0 < k)) (F op)) := by
  rintro op rfl
  exact mashRuns_elems hrow (mem_typed hk) hx

theorem mashRuns_typedCompares {T : XVal → XVal → Bool}
    (hx : ∀ w q, mOp w = b + 16 * k → mashExec soloCtx w q =
      compare (decide (0 < k)) (fun x y => T (val (b + 16 * k) x) (val (b + 16 * k) y)) (cmpFlags (b + 16 * k)) soloCtx w q)
    {op : Nat} {t g : Nat → Nat → Bool} (hg : ∀ a b, g a b = ((val op a).isNan || (val op b).isNan)) (hop : op = b + 16 * k)
    (ht : ∀ a b, t a b = T (val op a) (val op b)) : MashRuns i p [op] (Compares (decide (0 < k)) t g) := by
  subst hop
  obtain rfl := funext fun a => funext fun b => hg a b
  obtain rfl := funext fun a => funext fun b => ht a b
  exact mashRuns_compares hrow (mem_typed hk) hx

end

end Sys2Proof.Machine
end

section
/-! PROOFS. The float instructions (03_mash_engines.md Table 03.3, R59, R61, R62, R70). -/

namespace Sys2Proof.Machine

open Sys2Proof.Obl

/-- Settles O44: each row takes its opcodes, and each opcode runs one element-wise function, or one compare, of the exact values. -/
theorem mashFloatInstructionsRoundOnce : Obligations.MashFloatInstructionsRoundOnce := by
  unfold Obligations.MashFloatInstructionsRoundOnce
  intro p k hk
  refine ⟨mashRuns_typedElems hk (fun _ => rfl) ?fadd, mashRuns_typedElems hk (fun _ => rfl) ?fsub,
    mashRuns_typedElems hk (fun _ => rfl) ?fmul, mashRuns_typedElems hk (fun _ => rfl) ?ffma,
    mashRuns_typedElems hk (fun _ => rfl) ?fmin, mashRuns_typedElems hk (fun _ => rfl) ?fmax,
    mashRuns_typedElems hk (fun _ => rfl) ?fabs, mashRuns_typedElems hk (fun _ => rfl) ?fneg,
    mashRuns_elems (fun _ => rfl) (List.mem_singleton_self _) ?fdiv, mashRuns_elems (fun _ => rfl) (List.mem_singleton_self _) ?fsqrt,
    mashRuns_elems (fun _ => rfl) (List.mem_singleton_self _) ?fexp2, mashRuns_elems (fun _ => rfl) (List.mem_singleton_self _) ?flog2,
    fun op t g hg => ⟨mashRuns_typedCompares hk (fun _ => rfl) ?fcmpeq hg, mashRuns_typedCompares hk (fun _ => rfl) ?fcmplt hg,
      mashRuns_typedCompares hk (T := fun x y => x.lt y || x.eqv y) (fun _ => rfl) ?fcmple hg,
      fun hop ht => mashRuns_typedCompares hk (T := fun x y => x.isNan || y.isNan) (fun _ => rfl) ?fcmpun hg hop
        fun a b => (ht a b).trans (hg a b)⟩⟩
  all_goals
    intro w q h
    interval_cases k <;> simp [mashExec, mashPacked, floatCmp, floatOp_two, floatOp_one, ffmaOp_eq, fdivOp_eq, flog2Op_eq, val, h]

end Sys2Proof.Machine
end

section
/-! SUPPORT. Reductions outside a loop (03_mash_engines.md R60): the lanes they take, and the one lane they write. -/

namespace Sys2Proof.Machine

open Sys2Proof.Obl

section
variable {q : Plot} {w : Nat}

theorem activeLanes_solo : activeLanes soloCtx w q = lanesIn q w :=
  congrArg (List.map fun l => (lanesOf (q.vreg (mVa w))).getD l 0) (filter_effMask false w q)

theorem accLane_solo (ident : Nat) : accLane soloCtx w ident q = el false q (mVd w) 0 := rfl

/-- A reduction writes lane 0 of VD, keeps its other lanes, and raises its flags. -/
theorem lane0_putLane0 (v : Nat) (f : NFlags) (hv : Tab.wf [] q.v = true) :
    Lane0 v f q w (retired ((q.putLane0 (mVd w) v).raiseM f, f)) := by
  let es := v :: (lanesOf (q.vreg (mVd w))).tail
  have hel : ∀ e, e < 128 → el false (q.putV (mVd w) (elemsTo false es)) (mVd w) e = es.getD e 0 % 2 ^ elemWidth false :=
    fun e he => el_putV_elemsTo hv he es
  have hstep : RegStep q ((q.putLane0 (mVd w) v).raiseM f, f) := regStep_raiseM (onlyRegs_putV ..) rfl f
  refine ⟨rfl, rfl, fun j hj => vreg_putV_other hv _ hj, hel 0 (by decide), fun e hpos he => ?_,
    raised_retired hstep.only hstep.joins (joinFlags_singleton f).symm⟩
  obtain ⟨e, rfl⟩ := Nat.exists_eq_add_of_lt hpos
  refine (hel _ he).trans ?_
  rw [Nat.zero_add, List.getD_cons_succ, List.getD_eq_getElem?_getD, List.getElem?_tail, ← List.getD_eq_getElem?_getD]
  exact Nat.mod_eq_of_lt (el_lt false q (mVd w) (e + 1))

/-- A float reduction of the values xs into x, rounded once. -/
theorem reduces_putLane0 {xs : List XVal} {x : XVal} (hv : Tab.wf [] q.v = true) :
    Reduces xs x q w (retired ((q.putLane0 (mVd w) (roundOp lay32 xs x).1).raiseM (roundOp lay32 xs x).2, (roundOp lay32 xs x).2)) := by
  rw [show roundOp lay32 xs x = once 0x10 xs x from roundOp_eq_once 0x10 xs x]
  exact lane0_putLane0 _ _ hv

theorem reduces_rsumOp {acc : Bool} {xs : List XVal} (hv : Tab.wf [] q.v = true)
    (hxs : xs = ((if acc then [el false q (mVd w) 0] else []) ++ lanesIn q w).map lay32.decode) :
    Reduces xs (exactSum xs) q w (retired (rsumOp acc soloCtx w q)) := by
  have hsum : xs = if acc then lay32.decode (accLane soloCtx w 0x80000000 q) :: (activeLanes soloCtx w q).map lay32.decode
      else (activeLanes soloCtx w q).map lay32.decode := by
    rw [hxs, activeLanes_solo, accLane_solo]
    cases acc <;> rfl
  rw [hsum]
  exact reduces_putLane0 hv

theorem reduces_rextOp {f : XVal → XVal → XVal} (ident : Nat) {mag : Bool} {xs : List XVal} {a : XVal} (hv : Tab.wf [] q.v = true)
    (hxs : xs = ((lanesIn q w).map lay32.decode).map (fun x => if mag then x.abs else x)) (ha : a = lay32.decode (el false q (mVd w) 0)) :
    Reduces (a :: xs) (xs.foldl f a) q w (retired (rextOp f ident mag soloCtx w q)) := by
  rw [hxs, ha, ← activeLanes_solo, ← accLane_solo ident]
  exact reduces_putLane0 hv

theorem satInt_eq_satOf (v : Int) : (intBits 32 (satInt 32 v).1, { sat := (satInt 32 v).2 }) = satOf v := by
  rw [satInt_fst, satOf, satAdd, Prod.mk.injEq]
  refine ⟨rfl, ?_⟩
  congr 1
  rw [Bool.eq_iff_iff, satInt_snd, Saturates]
  simp

theorem foldl_add_natSigned (xs : List Nat) (a : Int) : xs.foldl (fun t x => t + natSigned 32 x) a = a + (xs.map (natSigned 32)).sum := by
  induction xs generalizing a with
  | nil => simp
  | cons x xs ih => rw [List.foldl_cons, ih, List.map_cons, List.sum_cons, Int.add_assoc]

theorem lane0_irsumaOp {v : Nat × NFlags} (hv : Tab.wf [] q.v = true)
    (hsum : v = satOf (natSigned 32 (el false q (mVd w) 0) + ((lanesIn q w).map (natSigned 32)).sum)) :
    Lane0 v.1 v.2 q w (retired (irsumaOp soloCtx w q)) := by
  rw [hsum, ← satInt_eq_satOf, ← foldl_add_natSigned, ← activeLanes_solo, ← accLane_solo 0]
  exact lane0_putLane0 _ _ hv

end

end Sys2Proof.Machine
end

section
/-! PROOFS. The reductions (03_mash_engines.md R59, R60, R61, Table 03.3). -/

namespace Sys2Proof.Machine

open Sys2Proof.Obl

/-- Settles O46: each row runs its reduction of the active lanes into lane 0. -/
theorem mashReductionsWriteLaneZero : Obligations.MashReductionsWriteLaneZero := by
  unfold Obligations.MashReductionsWriteLaneZero
  intro p
  refine ⟨mashRuns_of (fun _ => rfl) (fun _ => id) (fun _ _ _ _ h => h) fun q w hw hv _ _ => ?rsum,
    mashRuns_of (fun _ => rfl) (fun _ => id) (fun _ _ _ _ h => h) fun q w hw hv _ _ => ?rsuma,
    mashRuns_of (fun _ => rfl) (fun _ => id) (fun _ _ _ _ h => h) fun q w hw hv _ _ => ?rmax,
    mashRuns_of (fun _ => rfl) (fun _ => id) (fun _ _ _ _ h => h) fun q w hw hv _ _ => ?rmin,
    mashRuns_of (fun _ => rfl) (fun _ => id) (fun _ _ _ _ h => h) fun q w hw hv _ _ => ?ramax,
    mashRuns_of (fun _ => rfl) (fun _ => id) (fun _ _ _ _ h => h) fun q w hw hv _ _ => ?irsuma⟩
  all_goals rw [List.mem_singleton] at hw
  case rsum =>
    intro xs hxs
    rw [show mashExec soloCtx w q = rsumOp false soloCtx w q by simp [mashExec, hw]]
    exact reduces_rsumOp hv hxs
  case rsuma =>
    intro xs hxs
    rw [show mashExec soloCtx w q = rsumOp true soloCtx w q by simp [mashExec, hw]]
    exact reduces_rsumOp hv hxs
  case rmax =>
    intro xs a hxs ha
    rw [show mashExec soloCtx w q = rextOp XVal.fmax 0xFF800000 false soloCtx w q by simp [mashExec, hw]]
    exact reduces_rextOp _ hv (hxs.trans (List.map_id' _).symm) ha
  case rmin =>
    intro xs a hxs ha
    rw [show mashExec soloCtx w q = rextOp XVal.fmin 0x7F800000 false soloCtx w q by simp [mashExec, hw]]
    exact reduces_rextOp _ hv (hxs.trans (List.map_id' _).symm) ha
  case ramax =>
    intro xs a hxs ha
    rw [show mashExec soloCtx w q = rextOp XVal.fmax 0 true soloCtx w q by simp [mashExec, hw]]
    exact reduces_rextOp _ hv hxs ha
  case irsuma =>
    intro v hsum
    rw [show mashExec soloCtx w q = irsumaOp soloCtx w q by simp [mashExec, hw]]
    exact lane0_irsumaOp hv hsum

end Sys2Proof.Machine
end

section
/-! SUPPORT. Integer, move, conversion and mask instructions (03_mash_engines.md Table 03.3, R58, R61, R69): what each makes of the
registers. -/

namespace Sys2Proof.Machine

open Sys2Proof.Obl

/-! ### Integer and bitwise results (R58) -/

theorem natSigned_range (v : Nat) : -2147483648 ≤ natSigned 32 v ∧ natSigned 32 v ≤ 2147483647 := by
  have hlt : v % 2 ^ 32 < 2 ^ 32 := Nat.mod_lt _ (by decide)
  unfold natSigned
  dsimp only
  split <;> omega

theorem intOp_eq (f : Int → Int → Int) : intOp f = fun a b _ => satOf (f (natSigned 32 a) (natSigned 32 b)) := by
  funext a b c
  exact satInt_eq_satOf _

/-- A value in range is not limited. -/
theorem satOf_of_range {v : Int} (h : -2147483648 ≤ v ∧ v ≤ 2147483647) : satOf v = (intBits 32 v, {}) := by
  obtain ⟨hlow, hhigh⟩ := h
  rw [satOf, min_eq_right hhigh, max_eq_right hlow, decide_eq_false (not_lt.mpr hlow), decide_eq_false (not_lt.mpr hhigh)]
  rfl

theorem satOf_min_natSigned (a b : Nat) :
    satOf (min (natSigned 32 a) (natSigned 32 b)) = (intBits 32 (min (natSigned 32 a) (natSigned 32 b)), {}) :=
  satOf_of_range ⟨le_min (natSigned_range a).1 (natSigned_range b).1, (min_le_left _ _).trans (natSigned_range a).2⟩

theorem satOf_max_natSigned (a b : Nat) :
    satOf (max (natSigned 32 a) (natSigned 32 b)) = (intBits 32 (max (natSigned 32 a) (natSigned 32 b)), {}) :=
  satOf_of_range ⟨(natSigned_range a).1.trans (le_max_left _ _), max_le (natSigned_range a).2 (natSigned_range b).2⟩

theorem decode_int32 (a : Nat) : Fmt.decode .int32 a = XVal.ofInt false (natSigned 32 a) 0 := rfl

theorem soloCtx_packed : soloCtx.packed = false := rfl

/-- A lane keeps the low 32 bits of a bitwise result in any case. -/
theorem bitOp_mod (f : Nat → Nat → Nat) (a b c : Nat) : (bitOp f a b c).1 % 2 ^ elemWidth false = f a b % 2 ^ elemWidth false :=
  Nat.mod_mod (f a b) (2 ^ 32)

theorem mashRuns_bits {i : Instr} {p op : Nat} {ops : List Nat} {f : Nat → Nat → Nat} (hrow : ∀ s, exec i s = .next (mashRow ops p s))
    (hop : op ∈ ops) (hx : ∀ w q, mOp w = op → mashExec soloCtx w q = elementwise false (bitOp f) soloCtx w q) :
    MashRuns i p [op] (Elems false (fun a b _ => (f a b, {}))) := by
  refine mashRuns_of hrow (by simpa using hop) (fun _ _ _ _ h => h) fun q w hw hv _ _ => ?_
  rw [hx w q (List.mem_singleton.mp hw)]
  exact elems_congr (fun a b c => ⟨bitOp_mod f a b c, rfl⟩) (elems_elementwise (bitOp f) hv)

/-! ### Moves and conversions -/

theorem getD_map_of_lt {α β : Type} {xs : List α} {e : Nat} (f : α → β) (d : β) (d' : α) (he : e < xs.length) :
    (xs.map f).getD e d = f (xs.getD e d') := by
  rw [List.getD_eq_getElem _ _ (by simpa using he), List.getElem_map, List.getD_eq_getElem _ _ he]

section
variable {q : Plot} {w : Nat}

theorem raised_quiet {r : Plot} (h : OnlyRegs q r) (hf : r.mflags = q.mflags) : Raised q (retired (r, {})) [] :=
  raised_retired (regStep_quiet h hf).only (regStep_quiet h hf).joins rfl

/-- An instruction that gives the elements of VD new values and raises nothing. -/
def Fills (pk : Bool) (g : Nat → Nat) (q : Plot) (w : Nat) (r : Plot) : Prop :=
  r.s = q.s ∧ r.m = q.m ∧ Raised q r [] ∧ (∀ j, j ≠ mVd w → r.vreg j = q.vreg j) ∧ ∀ e, e < elemCount pk → el pk r (mVd w) e = g e

theorem fills_putV {pk : Bool} {g : Nat → Nat} {es : List Nat} (hv : Tab.wf [] q.v = true)
    (hg : ∀ e, e < elemCount pk → es.getD e 0 % 2 ^ elemWidth pk = g e) :
    Fills pk g q w (retired (q.putV (mVd w) (elemsTo pk es), {})) :=
  ⟨rfl, rfl, raised_quiet (onlyRegs_putV ..) rfl, fun _ hj => vreg_putV_other hv _ hj, fun e he => (el_putV_elemsTo hv he es).trans (hg e he)⟩

/-- The active lanes take values of 32 bits, and the others keep theirs. -/
theorem fills_merge {g : Nat → Nat} {new : List (Nat × NFlags)} (hv : Tab.wf [] q.v = true)
    (hnew : ∀ e, e < 128 → (new.getD e (0, {})).1 = g e) (hg : ∀ e, e < 128 → g e < 2 ^ 32) :
    Fills false (fun e => if active q w e then g e else el false q (mVd w) e) q w
      (retired (q.putV (mVd w) (elemsTo false (mergeElems (effMask soloCtx w q) (elemsOf false (q.vreg (mVd w))) new).1), {})) := by
  refine fills_putV hv fun e he => ?_
  rw [mergeElems_getD _ (by rwa [elemsOf_length]), natBit_effMask (Nat.lt_of_lt_of_le he (elemCount_le _)), hnew e he]
  split
  · exact Nat.mod_eq_of_lt (hg e he)
  · exact Nat.mod_eq_of_lt (el_lt ..)

theorem fills_vbcsOp (hv : Tab.wf [] q.v = true) :
    Fills false (fun e => if active q w e then (q.s.get 0 (mVa w % 16)).toNat else el false q (mVd w) e) q w (retired (vbcsOp soloCtx w q)) := by
  refine fills_merge hv (fun e he => ?_) fun _ _ => (q.s.get 0 (mVa w % 16)).isLt
  rw [elemsOf_length]
  exact congrArg Prod.fst (getD_map_range (n := 128) _ _ he)

theorem fills_iotaOp (hv : Tab.wf [] q.v = true) :
    Fills false (fun e => if active q w e then e else el false q (mVd w) e) q w (retired (iotaOp soloCtx w q)) :=
  fills_merge hv (fun _ he => congrArg Prod.fst (getD_map_range _ _ he)) fun _ he => he.trans (by decide)

/-- FSEL takes every lane from one source or the other. -/
theorem fills_fselOp (hv : Tab.wf [] q.v = true) :
    Fills false (fun e => if active q w e then el false q (mVa w) e else el false q (mVb w) e) q w (retired (fselOp soloCtx w q)) := by
  refine fills_putV hv fun e he => ?_
  rw [elemsOf_length]
  refine (congrArg (· % 2 ^ elemWidth false) (getD_map_range (n := 128) _ _ he)).trans ?_
  refine (apply_ite (· % 2 ^ elemWidth false) ..).trans (if_congr Iff.rfl ?_ ?_) <;> exact Nat.mod_eq_of_lt (el_lt ..)

/-- VSCAL writes lane 0 of VA to a scalar when it is active. -/
theorem vscalOp_spec (hs : Tab.wf 0 q.s = true) {r : Plot} (hr : r = retired (vscalOp soloCtx w q)) :
    r.v = q.v ∧ r.m = q.m ∧ Raised q r [] ∧ (∀ j, j ≠ mVd w % 16 → r.s.get 0 j = q.s.get 0 j) ∧
      (r.s.get 0 (mVd w % 16)).toNat = if active q w 0 then el false q (mVa w) 0 else (q.s.get 0 (mVd w % 16)).toNat := by
  subst hr
  unfold vscalOp
  rw [natBit_effMask (by decide)]
  split
  · refine ⟨rfl, rfl, raised_quiet rfl rfl, fun j hj => Tab.get_set_other _ _ _ _ _ hs hj, ?_⟩
    refine (congrArg BitVec.toNat (Tab.get_set_self _ _ _ _ hs)).trans ?_
    exact (lanesOf_getD (by decide)).symm
  · exact ⟨rfl, rfl, raised_quiet rfl rfl, fun _ _ => rfl, rfl⟩

/-- A conversion outside a loop that gives the active elements of VD the results of g, with their flags. -/
def Converts (pk : Bool) (g : Nat → Nat × NFlags) (q : Plot) (w : Nat) (r : Plot) : Prop :=
  (∀ e, e < elemCount pk → el pk r (mVd w) e = if active q w e then (g e).1 % 2 ^ elemWidth pk else el pk q (mVd w) e) ∧
    Raised q r ((actives pk q w).map (fun e => (g e).2))

theorem putActive_raiseM_keeps {pk : Bool} {new : List (Nat × NFlags)} {f : NFlags} {r : Plot} (hv : Tab.wf [] q.v = true)
    (hr : r = retired ((putActive pk (mVd w) w new q).raiseM f, f)) : r.s = q.s ∧ r.m = q.m ∧ ∀ j, j ≠ mVd w → r.vreg j = q.vreg j := by
  subst hr
  exact ⟨rfl, rfl, fun j hj => vreg_putActive_other new hv hj⟩

theorem converts_putActive {pk : Bool} {g : Nat → Nat × NFlags} {new : List (Nat × NFlags)} {f : NFlags} (hv : Tab.wf [] q.v = true)
    (hf : f = (mergeElems (effMask soloCtx w q) (elemsOf pk (q.vreg (mVd w))) new).2) (hnew : ∀ e, e < elemCount pk → new.getD e (0, {}) = g e) :
    Converts pk g q w (retired ((putActive pk (mVd w) w new q).raiseM f, f)) := by
  subst hf
  refine ⟨fun e he => ?_, raised_retired rfl rfl ?_⟩
  · refine (el_putActive new hv he).trans ?_
    rw [hnew e he]
  · refine (flags_putActive new _).trans (congrArg joinFlags (List.map_congr_left fun e he => ?_))
    rw [hnew e (mem_actives_lt he)]

theorem converts_cvtDown (f : Fmt) (hv : Tab.wf [] q.v = true) : Converts true
    (fun e => f.encode (lay32.decode (if e < 128 then el false q (mVa w) e else el false q (mVb w) (e - 128)))) q w
    (retired (cvtDown f soloCtx w q)) := by
  refine converts_putActive hv rfl fun e he => ?_
  have hlen : (lanesOf (q.vreg (mVa w))).length = 128 := elemsOf_length false _
  have hlen' : (lanesOf (q.vreg (mVb w))).length = 128 := elemsOf_length false _
  have he' : e < 256 := he
  rw [getD_map_of_lt _ _ 0 (by rw [List.length_append, hlen, hlen']; exact he)]
  split
  · rw [List.getD_append _ _ _ _ (by omega)]
    rfl
  · rw [List.getD_append_right _ _ _ _ (by omega), hlen]
    rfl

theorem converts_cvtUp (f : Fmt) (hi : Bool) (hv : Tab.wf [] q.v = true) : Converts false
    (fun e => lay32.conv (f.decode (el true q (mVa w) (e + if hi then 128 else 0)))) q w (retired (cvtUp f hi soloCtx w q)) := by
  refine converts_putActive hv rfl fun e he => ?_
  have hlen : (halvesOf (q.vreg (mVa w))).length = 256 := elemsOf_length true _
  have he' : e < 128 := he
  have hoff : (if hi then 128 else 0) ≤ 128 := by split <;> decide
  rw [getD_map_of_lt _ _ 0 (by rw [List.length_take, List.length_drop, hlen]; omega), List.getD_eq_getElem?_getD, List.getElem?_take_of_lt he',
    List.getElem?_drop, ← List.getD_eq_getElem?_getD, Nat.add_comm]
  rfl

/-! ### Mask instructions -/

/-- A mask instruction whose function works bit by bit. -/
theorem masks_maskOp {g : Nat → Nat → Nat} {f : Bool → Bool → Bool}
    (hbit : ∀ a b e, e < 256 → natBit e (g a b) = f (natBit e a) (natBit e b)) (hm : Tab.wf 0 q.m = true) :
    Masks f q w (retired (maskOp g soloCtx w q)) := by
  have honly := (regStep_maskOp soloCtx w q g).only
  refine ⟨putM_s _ _, putM_v _ _, putM_mflags _ _ _, (Nat.or_zero _).trans honly.unreg, fun j hj => putM_m_other _ hm hj, fun h0 => ?_,
    fun h0 e he => ?_⟩
  · change (q.putM (mVd w % 8) _).m = q.m
    rw [h0, putM_zero]
  · refine (congrArg (natBit e) (putM_m_self _ hm h0)).trans ?_
    rw [natBit_or, natBit_and, natBit_and, natBit_xor, natBit_allOnes he, natBit_effMask he, hbit _ _ _ he,
      show q.mask soloCtx.m0 (mVd w % 8) = q.m.get 0 (mVd w % 8) from if_neg h0]
    cases active q w e
    · simp
    · simp; rfl

end

theorem natBit_not {a e : Nat} (he : e < 256) : natBit e (allOnes ^^^ a) = !natBit e a := by
  rw [natBit_xor, natBit_allOnes he, Bool.true_xor]

/-! ### The rows -/

section
variable {i : Instr} {p op : Nat} {ops : List Nat} (hrow : ∀ s, exec i s = .next (mashRow ops p s)) (hop : op ∈ ops)
include hrow hop

theorem mashRuns_narrows (f : Fmt) (hx : ∀ w q, mOp w = op → mashExec soloCtx w q = cvtDown f soloCtx w q) :
    MashRuns i p [op] (fun q w r => r.s = q.s ∧ r.m = q.m ∧ (∀ j, j ≠ mVd w → r.vreg j = q.vreg j) ∧ ∃ g : Nat → Nat × NFlags,
      (∀ e, g e = f.encode (lay32.decode (if e < 128 then el false q (mVa w) e else el false q (mVb w) (e - 128)))) ∧ Converts true g q w r) := by
  refine mashRuns_of hrow (by simpa using hop) (fun _ _ _ _ h => h) fun q w hw hv _ _ => ?_
  rw [hx w q (List.mem_singleton.mp hw)]
  obtain ⟨hs, hm, hothers⟩ := putActive_raiseM_keeps (r := retired (cvtDown f soloCtx w q)) (pk := true) hv rfl
  exact ⟨hs, hm, hothers, _, fun _ => rfl, converts_cvtDown f hv⟩

theorem mashRuns_widens (f : Fmt) (hi : Bool) (hx : ∀ w q, mOp w = op → mashExec soloCtx w q = cvtUp f hi soloCtx w q) :
    MashRuns i p [op] (fun q w r => r.s = q.s ∧ r.m = q.m ∧ (∀ j, j ≠ mVd w → r.vreg j = q.vreg j) ∧ ∃ g : Nat → Nat × NFlags,
      (∀ e, g e = lay32.conv (f.decode (el true q (mVa w) (e + if hi then 128 else 0)))) ∧ Converts false g q w r) := by
  refine mashRuns_of hrow (by simpa using hop) (fun _ _ _ _ h => h) fun q w hw hv _ _ => ?_
  rw [hx w q (List.mem_singleton.mp hw)]
  obtain ⟨hs, hm, hothers⟩ := putActive_raiseM_keeps (r := retired (cvtUp f hi soloCtx w q)) (pk := false) hv rfl
  exact ⟨hs, hm, hothers, _, fun _ => rfl, converts_cvtUp f hi hv⟩

theorem mashRuns_masks {g : Nat → Nat → Nat} {f : Bool → Bool → Bool} (hx : ∀ w q, mOp w = op → mashExec soloCtx w q = maskOp g soloCtx w q)
    (hbit : ∀ a b e, e < 256 → natBit e (g a b) = f (natBit e a) (natBit e b)) : MashRuns i p [op] (Masks f) := by
  refine mashRuns_of hrow (by simpa using hop) (fun _ _ _ _ h => h) fun q w hw _ _ hm => ?_
  rw [hx w q (List.mem_singleton.mp hw)]
  exact masks_maskOp hbit hm

end

/-- With an empty queue no row applies. -/
theorem mashRow_of_empty {ops : List Nat} {p : Nat} {s : State} (h : (s.plot p).mashQ = []) : mashRow ops p s = s := by
  unfold mashRow
  simp only [h]

end Sys2Proof.Machine
end

section
/-! PROOFS. The integer, move, conversion and mask instructions (03_mash_engines.md Table 03.3, R58, R61, R62, R69). -/

namespace Sys2Proof.Machine

open Sys2Proof.Obl

/-- Settles O45: each row takes its opcode, and each opcode runs one function of the active elements, of lane 0 or of the mask bits. -/
theorem mashIntegerMoveAndMaskInstructions : Obligations.MashIntegerMoveAndMaskInstructions := by
  unfold Obligations.MashIntegerMoveAndMaskInstructions
  intro p
  refine ⟨mashRuns_elems (fun _ => rfl) (List.mem_singleton_self _) ?iadd, mashRuns_elems (fun _ => rfl) (List.mem_singleton_self _) ?isub,
    mashRuns_elems (fun _ => rfl) (List.mem_singleton_self _) ?imul,
    mashRuns_bits (fun _ => rfl) (List.mem_singleton_self _) ?and, mashRuns_bits (fun _ => rfl) (List.mem_singleton_self _) ?or,
    mashRuns_bits (fun _ => rfl) (List.mem_singleton_self _) ?xor, mashRuns_bits (fun _ => rfl) (List.mem_singleton_self _) ?shl,
    mashRuns_bits (fun _ => rfl) (List.mem_singleton_self _) ?shra, mashRuns_bits (fun _ => rfl) (List.mem_singleton_self _) ?shrl,
    mashRuns_elems (fun _ => rfl) (List.mem_singleton_self _) ?imin, mashRuns_elems (fun _ => rfl) (List.mem_singleton_self _) ?imax,
    mashRuns_compares (fun _ => rfl) (List.mem_singleton_self _) ?icmpeq, mashRuns_compares (fun _ => rfl) (List.mem_singleton_self _) ?icmplt,
    mashRuns_elems (fun _ => rfl) (List.mem_singleton_self _) ?vmov, mashRuns_elems (fun _ => rfl) (List.mem_singleton_self _) ?cvtF2i,
    mashRuns_elems (fun _ => rfl) (List.mem_singleton_self _) ?cvtI2f,
    mashRuns_of (fun _ => rfl) (fun _ => id) (fun _ _ _ _ h => h) fun q w hw hv _ _ => ?fsel,
    mashRuns_of (fun _ => rfl) (fun _ => id) (fun _ _ _ _ h => h) fun q w hw hv _ _ => ?vbcs,
    mashRuns_of (fun _ => rfl) (fun _ => id) (fun _ _ _ _ h => h) fun q w hw _ hs _ => ?vscal, fun k hk => ?down, fun k hk => ?up,
    mashRuns_of (fun _ => rfl) (fun _ => id) (fun _ _ _ _ h => h) fun q w hw hv _ _ => ?iota,
    mashRuns_masks (fun _ => rfl) (List.mem_singleton_self _) ?mand fun a b e _ => natBit_and e a b,
    mashRuns_masks (fun _ => rfl) (List.mem_singleton_self _) ?mor fun a b e _ => natBit_or e a b,
    mashRuns_masks (fun _ => rfl) (List.mem_singleton_self _) ?mnot fun _ _ _ he => natBit_not he,
    mashRuns_masks (fun _ => rfl) (List.mem_singleton_self _) ?mset fun _ _ _ he => natBit_allOnes he,
    mashRuns_masks (fun _ => rfl) (List.mem_singleton_self _) ?mclr fun _ _ e _ => natBit_zero_right e,
    mashRuns_of (fun _ => rfl) (fun _ => id) (fun _ _ _ _ h => h) fun q w hw _ _ _ => ?mfclr,
    mashRuns_of (fun _ => rfl) (fun _ => id) (fun _ _ _ _ h => h) fun q w hw _ _ _ => ?nop, fun s h => ?empty⟩
  case fsel =>
    rw [show mashExec soloCtx w q = fselOp soloCtx w q by simp [mashExec, List.mem_singleton.mp hw]]
    exact fills_fselOp hv
  case vbcs =>
    rw [show mashExec soloCtx w q = vbcsOp soloCtx w q by simp [mashExec, List.mem_singleton.mp hw]]
    exact fills_vbcsOp hv
  case vscal =>
    exact vscalOp_spec hs (by simp [mashExec, List.mem_singleton.mp hw])
  case iota =>
    rw [show mashExec soloCtx w q = iotaOp soloCtx w q by simp [mashExec, List.mem_singleton.mp hw]]
    exact fills_iotaOp hv
  case down =>
    interval_cases k
    · exact mashRuns_narrows (fun _ => rfl) (List.mem_singleton_self _) .bf16 fun w q h => by simp [mashExec, h]
    · exact mashRuns_narrows (fun _ => rfl) (List.mem_singleton_self _) .fp16 fun w q h => by simp [mashExec, h]
  case up =>
    interval_cases k
    · exact mashRuns_widens (fun _ => rfl) (by decide) .bf16 false fun w q h => by simp [mashExec, h]
    · exact mashRuns_widens (fun _ => rfl) (by decide) .bf16 true fun w q h => by simp [mashExec, h]
    · exact mashRuns_widens (fun _ => rfl) (by decide) .fp16 false fun w q h => by simp [mashExec, h]
    · exact mashRuns_widens (fun _ => rfl) (by decide) .fp16 true fun w q h => by simp [mashExec, h]
  case mfclr =>
    rw [mashExec_mfclr _ _ _ (List.mem_singleton.mp hw)]
    exact ⟨rfl, rfl, rfl, rfl, Nat.or_zero _⟩
  case nop =>
    rw [show mashExec soloCtx w q = (q, {}) by simp [mashExec, List.mem_singleton.mp hw]]
    exact ⟨rfl, rfl, rfl, rfl, Nat.or_zero _⟩
  case empty =>
    have hidle : ∀ ops, (.next (mashRow ops p s) : Host.Outcome State Fault Refusal) = .next s := fun _ => by rw [mashRow_of_empty h]
    have hloop : execLoopDescriptor p s = .next s := by simp only [execLoopDescriptor, h]
    have hroot : execRootDescriptor p s = .next s := by simp only [execRootDescriptor, h]
    simp only [List.forall_mem_cons, List.not_mem_nil, false_imp_iff, implies_true, and_true]
    exact ⟨hidle _, hidle _, hidle _, hidle _, hidle _, hidle _, hidle _, hidle _, hidle _, hidle _, hidle _, hidle _, hidle _, hidle _, hidle _,
      hidle _, hidle _, hidle _, hloop, hroot⟩
  all_goals
    intro w q h
    simp [mashExec, intOp_eq, satOf_min_natSigned, satOf_max_natSigned, beq_eq_decide, vmovOp, soloCtx_packed, decode_int32, Nat.shiftLeft_eq,
      Nat.shiftRight_eq_div_pow, h]

end Sys2Proof.Machine
end

section
/-! SUPPORT. FP32 (04_number_formats.md R76, R83, Table 04.1): what an encoding's low 32 bits decode to, and that converting a decoded value
gives its encoding back. -/

namespace Sys2Proof

/-- A magnitude that the layout represents at its own last place is encoded as it stands. -/
theorem FLayout.rneMag_of_exact {L : FLayout} {m c : Nat} {e : Int} (hpos : m ≠ 0) (hfit : m < 2 ^ (L.fb + 1)) (hq : L.quantum m e = e)
    (hc : (if m < 2 ^ L.fb then (m : Int) else (e - (1 - (L.bias : Int) - L.fb) + 1) * 2 ^ L.fb + (m - 2 ^ L.fb : Nat)) = c)
    (hmax : c ≤ L.maxFin) : L.rneMag m e = some c := by
  have hshift : rneShift m e e = m := by simp [rneShift]
  have hle : (c : Int) ≤ L.maxFin := Int.ofNat_le.mpr hmax
  rw [FLayout.rneMag, if_neg hpos]
  dsimp only
  rw [hq, hshift, FLayout.pack, if_neg hpos]
  dsimp only
  rw [if_neg (not_le.mpr hfit)]
  dsimp only
  rw [hc, if_pos hle, Int.toNat_natCast]

theorem FLayout.pack_le {L : FLayout} {a c : Nat} {q : Int} (h : L.pack a q = some c) : c ≤ L.maxFin := by
  have hcode : ∀ code : Int, (if code ≤ L.maxFin then some code.toNat else none) = some c → c ≤ L.maxFin := fun code hk => by
    split at hk
    · injection hk with hk
      omega
    · contradiction
  unfold FLayout.pack at h
  dsimp only at h
  split at h
  · injection h with h
    omega
  · split at h <;> exact hcode _ h

theorem FLayout.rneMag_le {L : FLayout} {m c : Nat} {e : Int} (h : L.rneMag m e = some c) : c ≤ L.maxFin := by
  unfold FLayout.rneMag at h
  split at h
  · injection h with h
    omega
  · exact FLayout.pack_le h

theorem signBit_lay32 (b : Bool) : lay32.signBit b = 2147483648 * b2n b := by cases b <;> rfl

/-- A conversion's result is a 32-bit encoding. -/
theorem conv_lay32_lt (x : XVal) : (lay32.conv x).1 < 2 ^ 32 := by
  have hsign : ∀ b, lay32.signBit b ≤ 2147483648 := by decide
  cases x with
  | nan => decide
  | inf s => cases s <;> decide
  | fin s m e =>
    have hs := hsign s
    unfold FLayout.conv
    dsimp only
    split
    · next c hc =>
      have hle : c ≤ 0x7F7FFFFF := FLayout.rneMag_le hc
      dsimp only
      omega
    · exact Nat.lt_of_le_of_lt (Nat.add_le_add_right hs _) (by decide)

/-- Decoding by the three fields of an encoding. -/
theorem decode_lay32 (c : Nat) : lay32.decode c =
    if c / 8388608 % 256 = 0 then .fin (natBit 31 c) (c % 8388608) (-149)
    else if c / 8388608 % 256 = 255 then if c % 8388608 = 0 then .inf (natBit 31 c) else .nan
    else .fin (natBit 31 c) (8388608 + c % 8388608) (((c / 8388608 % 256 : Nat) : Int) - 150) := by
  have hbias : ∀ e : Int, e - 127 - 23 = e - 150 := fun e => by omega
  simp [FLayout.decode, lay32, hbias]

theorem b2n_natBit_31 (c : Nat) : b2n (natBit 31 c) = c / 2147483648 % 2 := by
  rw [natBit, Nat.shiftRight_eq_div_pow, b2n]
  rcases Nat.mod_two_eq_zero_or_one (c / 2147483648) with h | h <;> simp [h]

/-- An encoding is decoded from its low 32 bits. -/
theorem decode_lay32_mod (c : Nat) : lay32.decode (c % 2 ^ 32) = lay32.decode c := by
  have hexp : c % 2 ^ 32 / 8388608 % 256 = c / 8388608 % 256 := by omega
  have hfrac : c % 2 ^ 32 % 8388608 = c % 8388608 := by omega
  have hsign : natBit 31 (c % 2 ^ 32) = natBit 31 c := by
    rw [natBit_eq_testBit, natBit_eq_testBit, Nat.testBit_mod_two_pow, decide_eq_true (by decide), Bool.true_and]
  rw [decode_lay32, decode_lay32, hexp, hfrac, hsign]

/-- Fields put together. -/
theorem fields_lay32 (c : Nat) : 2147483648 * b2n (natBit 31 c) + (c / 8388608 % 256 * 8388608 + c % 8388608) = c % 2 ^ 32 := by
  rw [b2n_natBit_31]
  omega

theorem rneMag_subnormal {f : Nat} (hf : f < 8388608) : lay32.rneMag f (-149) = some f := by
  rcases eq_or_ne f 0 with rfl | h0
  · rfl
  · have hlog : Nat.log2 f < 23 := (Nat.log2_lt h0).mpr hf
    refine FLayout.rneMag_of_exact h0 (hf.trans (by decide)) ?_ (if_pos hf) (hf.le.trans (by decide))
    exact max_eq_right (show (Nat.log2 f : Int) + -149 - 23 ≤ -149 by omega)

theorem rneMag_normal {f e : Nat} (hf : f < 8388608) (hpos : 0 < e) (he : e < 255) :
    lay32.rneMag (8388608 + f) ((e : Int) - 150) = some (e * 8388608 + f) := by
  have hlog : Nat.log2 (8388608 + f) = 23 := (Nat.log2_eq_iff (by omega)).mpr ⟨by omega, by omega⟩
  refine FLayout.rneMag_of_exact (by omega) (show 8388608 + f < 16777216 by omega) ?_ ?_ (show e * 8388608 + f ≤ 0x7F7FFFFF by omega)
  · rw [FLayout.quantum, hlog]
    exact (max_eq_left (show (-149 : Int) ≤ (23 : Nat) + ((e : Int) - 150) - 23 by omega)).trans
      (show ((23 : Nat) : Int) + ((e : Int) - 150) - 23 = e - 150 by omega)
  · refine (if_neg (show ¬ 8388608 + f < 8388608 by omega)).trans ?_
    change ((e : Int) - 150 - -149 + 1) * 8388608 + ((8388608 + f - 8388608 : Nat) : Int) = ((e * 8388608 + f : Nat) : Int)
    omega

/-- Converting a decoded value that is no NaN gives the encoding back. -/
theorem conv_decode_lay32 {c : Nat} (h : lay32.decode c ≠ .nan) : (lay32.conv (lay32.decode c)).1 = c % 2 ^ 32 := by
  have hfields := fields_lay32 c
  have hfin : ∀ {m e k}, lay32.rneMag m e = some k → (lay32.conv (.fin (natBit 31 c) m e)).1 = 2147483648 * b2n (natBit 31 c) + k :=
    fun hk => by rw [FLayout.conv, hk, ← signBit_lay32]
  rw [decode_lay32] at h ⊢
  have hfrac : c % 8388608 < 8388608 := Nat.mod_lt _ (by decide)
  split at h
  · next hexp =>
    rw [if_pos hexp, hfin (rneMag_subnormal hfrac), ← hfields, hexp]
    omega
  · next hexp =>
    rw [if_neg hexp]
    split at h
    · next htop =>
      split at h
      · next hzero =>
        rw [if_pos htop, if_pos hzero, ← hfields, htop, hzero]
        cases natBit 31 c <;> rfl
      · contradiction
    · next htop =>
      rw [if_neg htop, hfin (rneMag_normal hfrac (by omega) (by omega)), ← hfields]

theorem XVal.scale_zero (x : XVal) : XVal.scale 0 x = x := by
  cases x <;> simp [XVal.scale]

/-- A value loaded from FP32 and held as FP32 is the value loaded. -/
theorem decode_conv_decode_lay32 (c : Nat) : lay32.decode (lay32.conv (lay32.decode c)).1 = lay32.decode c := by
  by_cases h : lay32.decode c = .nan
  · rw [h]
    rfl
  · rw [conv_decode_lay32 h, decode_lay32_mod]

end Sys2Proof
end

section
/-! SUPPORT. Rows of FP32 elements in memory (03_mash_engines.md R63, 04_number_formats.md R77): the words that a run of bytes holds, loaded
and stored. -/

namespace Sys2Proof

theorem chunks_flatten {α : Type} {n : Nat} (hn : 0 < n) {ls : List (List α)} (h : ∀ l ∈ ls, l.length = n) :
    chunks n ls.length ls.flatten = ls := by
  induction ls with
  | nil => rfl
  | cons l ls ih =>
    have hl : l.length = n := h l (.head _)
    have hne : (l ++ ls.flatten).isEmpty = false := List.isEmpty_eq_false_iff.mpr (List.ne_nil_of_length_pos (by rw [List.length_append]; omega))
    rw [List.length_cons, List.flatten_cons, chunks, hne, if_neg Bool.false_ne_true, List.take_left' hl, List.drop_left' hl,
      ih fun k hk => h k (.tail _ hk)]

theorem chunks_one {α : Type} (xs : List α) : chunks 1 xs.length xs = xs.map (fun x => [x]) := by
  have h := chunks_flatten Nat.one_pos (ls := xs.map (fun x => [x])) (by simp)
  rwa [List.length_map, ← List.flatMap_def, List.flatMap_singleton'] at h

theorem ceilDiv_one (n : Nat) : ceilDiv n 1 = n := by simp [ceilDiv]

/-- FP32 values are stored one word after another. -/
theorem encodeMany_fp32 (xs : List XVal) : (Fmt.encodeMany .fp32 xs).1 = ((xs.map (fun x => (lay32.conv x).1)).map (leBytes 4)).flatten := by
  have hblock : ∀ x, (Fmt.encodeBlock .fp32 [x]).1 = leBytes 4 (lay32.conv x).1 := fun _ => rfl
  simp only [Fmt.encodeMany, Fmt.blockVals, ceilDiv_one, Nat.mul_one, Nat.sub_self, List.replicate_zero, List.append_nil, chunks_one, List.map_map]
  rfl

end Sys2Proof

namespace Sys2Proof.Machine

theorem rawBytes_add (s : State) (a m n : Nat) : rawBytes s a (m + n) = rawBytes s a m ++ rawBytes s (a + m) n := by
  induction m generalizing a with
  | zero => rw [Nat.zero_add]; rfl
  | succ m ih => rw [Nat.succ_add, rawBytes, ih, rawBytes, List.cons_append, Nat.add_assoc, Nat.add_comm 1 m]

/-- A run of bytes as words. -/
theorem rawBytes_words (s : State) (a n : Nat) :
    rawBytes s a (4 * n) = ((List.range n).map (fun e => rawBytes s (a + 4 * e) 4)).flatten := by
  induction n with
  | zero => rfl
  | succ n ih =>
    rw [Nat.mul_succ, rawBytes_add, ih, List.range_succ, List.map_append, List.flatten_append]
    simp

theorem chunks_rawBytes (s : State) (a n : Nat) : chunks 4 n (rawBytes s a (4 * n)) = (List.range n).map (fun e => rawBytes s (a + 4 * e) 4) := by
  have h := chunks_flatten (n := 4) (by decide) (ls := (List.range n).map (fun e => rawBytes s (a + 4 * e) 4)) (by simp)
  rwa [List.length_map, List.length_range, ← rawBytes_words] at h

/-- FP32 values are loaded one word after another. -/
theorem decodeMany_fp32 (s : State) (a n : Nat) :
    Fmt.decodeMany .fp32 n (rawBytes s a (4 * n)) = (List.range n).map (fun e => lay32.decode (rawNat s (a + 4 * e) 4)) := by
  rw [Fmt.decodeMany, show Fmt.blockVals .fp32 = 1 from rfl, show Fmt.blockBytes .fp32 = 4 from rfl, ceilDiv_one, chunks_rawBytes, List.map_map,
    ← List.flatMap_def, show (List.range n).flatMap (Fmt.decodeBlock .fp32 ∘ fun e => rawBytes s (a + 4 * e) 4) =
      (List.range n).flatMap (fun e => [lay32.decode (rawNat s (a + 4 * e) 4)]) from rfl, ← List.map_eq_flatMap]
  exact List.take_of_length_le (by simp)

/-- The words of a run of bytes are those that it was written from. -/
theorem rawNat_of_words {t : State} {a e : Nat} {cs : List Nat} (h : rawBytes t a (4 * cs.length) = (cs.map (leBytes 4)).flatten)
    (he : e < cs.length) : rawNat t (a + 4 * e) 4 = cs.getD e 0 % 2 ^ 32 := by
  have hchunks := chunks_flatten (n := 4) (by decide) (ls := cs.map (leBytes 4)) (by simp)
  rw [List.length_map, ← h, chunks_rawBytes] at hchunks
  have hword : rawBytes t (a + 4 * e) 4 = leBytes 4 (cs.getD e 0) := by
    rw [← getD_map_range (fun e => rawBytes t (a + 4 * e) 4) [] he, hchunks, getD_map_of_lt _ _ 0 he]
  rw [rawNat, hword]
  exact leNat_leBytes 4 _

/-- What memory and the directory agree on reads the same. -/
theorem rawByte_congr {s t : State} (hmem : t.mem.cells = s.mem.cells) (hgrn : t.grn = s.grn) (x : Nat) : rawByte t x = rawByte s x := by
  unfold rawByte
  rw [hmem, hgrn]

theorem rawBytes_congr_mem {s t : State} (hmem : t.mem.cells = s.mem.cells) (hgrn : t.grn = s.grn) (a n : Nat) :
    rawBytes t a n = rawBytes s a n := rawBytes_congr fun x _ _ => rawByte_congr hmem hgrn x

theorem rawNat_congr {s t : State} (hmem : t.mem.cells = s.mem.cells) (hgrn : t.grn = s.grn) (a n : Nat) : rawNat t a n = rawNat s a n :=
  congrArg leNat (rawBytes_congr_mem hmem hgrn a n)

end Sys2Proof.Machine
end

section
/-! SUPPORT. Loops (03_mash_engines.md R65 to R67, 05_scaling_and_replay.md R102): what a loop changes on its way, what it leaves at its end, and
how its descriptor at the head of the queue runs. -/

namespace Sys2Proof.Machine

open Sys2Proof.Obl

theorem OnlyRegs.trans {q r t : Plot} (h : OnlyRegs q r) (k : OnlyRegs r t) : OnlyRegs q t := by
  rw [OnlyRegs, k, h]

theorem OnlyRegs.mashQ {q r : Plot} (h : OnlyRegs q r) : r.mashQ = q.mashQ := by rw [h]

theorem State.wf_plots_onPlot (p : Nat) (f : Plot → Plot) {s : State} (hw : Tab.wf {} s.plots = true) : Tab.wf {} (s.onPlot p f).plots = true :=
  Tab.wf_modify _ _ _ _ hw

theorem State.plot_onPlot_self (p : Nat) (f : Plot → Plot) {s : State} (hw : Tab.wf {} s.plots = true) :
    (s.onPlot p f).plot p = f (s.plot p) := by
  rw [State.plot_onPlot _ _ _ _ hw, if_pos rfl]

/-! ### The course of a loop: its plot's registers, and memory where it stores -/

/-- CONST0 to CONST7 in S8 to S15 (R65). -/
def withConsts (d : LoopDesc) (q : Plot) : Plot :=
  { q with s := (List.range 8).foldl (fun v i => v.set 0 (8 + i) (BitVec.ofNat 32 (d.consts.getD i 0))) q.s }

/-- Every tile of the iteration space. -/
def allTiles (p : Nat) (d : LoopDesc) (dry : Bool) (s : State) : LoopRun :=
  let t := d.ins.headD d.out
  let tiles := ceilDiv t.e0 (tileLen d.regt)
  (List.range t.e4).foldl (fun r i4 => (List.range t.e3).foldl (fun r i3 => (List.range t.e2).foldl (fun r i2 =>
    (List.range t.e1).foldl (fun r i1 => (List.range tiles).foldl (fun r k => runTile p d dry t.e0 i1 i2 i3 i4 tiles k r) r) r) r) r)
    ⟨s.onPlot p (withConsts d), {}, noAmax⟩

theorem runLoop_eq (p : Nat) (d : LoopDesc) (dry : Bool) (s : State) : runLoop p d dry s =
    if d.outEn && d.outMode == 2 then storeOut p d 0 0 0 0 0 1 dry (allTiles p d dry s) else allTiles p d dry s := rfl

/-- A fold whose steps keep a property of the state keeps it. -/
theorem loopRun_foldl_inv {β : Type} {P : State → Prop} {f : LoopRun → β → LoopRun} {xs : List β} {r : LoopRun} (h : P r.s)
    (hf : ∀ r b, P r.s → P (f r b).s) : P (xs.foldl f r).s :=
  List.foldlRecOn (motive := fun r : LoopRun => P r.s) xs f h fun r hr b _ => hf r b hr

section
variable {p : Nat} {P : State → Prop} (hplot : ∀ f s, OnlyRegs (s.plot p) (f (s.plot p)) → P s → P (s.onPlot p f))
include hplot

theorem raise_inv {r : LoopRun} (f : NFlags) (h : P r.s) : P (r.raise p f).s := hplot _ _ rfl h

theorem loadTile_inv {d : LoopDesc} {i1 i2 i3 i4 at_ n j : Nat} {x : Tensor5} {r : LoopRun} (h : P r.s) :
    P (loadTile p d i1 i2 i3 i4 at_ n j x r).s :=
  raise_inv hplot _ (hplot _ _ (onlyRegs_putV ..) h)

theorem runBody_inv {c : MashCtx} {ws : List Nat} {r : LoopRun} (h : P r.s) : P (runBody p c ws r).s := by
  induction ws generalizing r with
  | nil => exact h
  | cons w ws ih => exact ih (hplot _ _ (onlyRegs_mashExec c w (r.s.plot p)) h)

/-- The inputs of a tile loaded. -/
theorem loadTiles_inv {d : LoopDesc} {i1 i2 i3 i4 at_ n : Nat} {js : List Nat} {r : LoopRun} (h : P r.s) :
    P (js.foldl (fun r j => loadTile p d i1 i2 i3 i4 at_ n j (d.ins.getD j d.out) r) r).s :=
  loopRun_foldl_inv h fun _ _ hr => loadTile_inv hplot hr

section
variable {d : LoopDesc} {dry : Bool} (hmem : (d.outEn && !dry) = true → ∀ a bs s, P s → P (s.onMem (·.putBytes a bs)))
include hmem

theorem storeOut_inv {i1 i2 i3 i4 at_ n : Nat} {r : LoopRun} (hen : d.outEn = true) (h : P r.s) :
    P (storeOut p d i1 i2 i3 i4 at_ n dry r).s := by
  cases dry with
  | true => exact h
  | false => exact raise_inv hplot _ (hmem (by rw [hen]; rfl) _ _ _ h)

theorem runTile_inv {e0 i1 i2 i3 i4 tiles t : Nat} {r : LoopRun} (h : P r.s) : P (runTile p d dry e0 i1 i2 i3 i4 tiles t r).s := by
  have hbody : ∀ c at_ n js, P (runBody p c d.body
      (List.foldl (fun r j => loadTile p d i1 i2 i3 i4 at_ n j (d.ins.getD j d.out) r) r js)).s :=
    fun _ _ _ _ => runBody_inv hplot (loadTiles_inv hplot h)
  unfold runTile
  dsimp only
  split
  · next hen => exact storeOut_inv hplot hmem (Bool.and_eq_true_iff.mp hen).1 (hbody ..)
  · split
    · next hen => exact storeOut_inv hplot hmem (Bool.and_eq_true_iff.mp (Bool.and_eq_true_iff.mp hen).1).1 (hbody ..)
    · exact hbody ..

theorem allTiles_inv {s : State} (h : P s) : P (allTiles p d dry s).s :=
  loopRun_foldl_inv (hplot (withConsts d) s rfl h) fun _ _ h => loopRun_foldl_inv h fun _ _ h => loopRun_foldl_inv h fun _ _ h =>
    loopRun_foldl_inv h fun _ _ h => loopRun_foldl_inv h fun _ _ h => runTile_inv hplot hmem h

/-- What changes of the plot's registers and stores of bytes keep, a loop keeps; one that stores nothing needs only the former. -/
theorem runLoop_inv {s : State} (h : P s) : P (runLoop p d dry s).s := by
  rw [runLoop_eq]
  split
  · next hen => exact storeOut_inv hplot hmem (Bool.and_eq_true_iff.mp hen).1 (allTiles_inv hplot hmem h)
  · exact allTiles_inv hplot hmem h

end

end

/-- From s to t plot p's registers and Mash flags and memory may have changed, and no table, port, record or other plot. -/
structure LoopRan (p : Nat) (s t : State) : Prop where
  grn : t.grn = s.grn
  fab : t.fab = s.fab
  hk : t.hk = s.hk
  others : ∀ j, j ≠ p → t.plot j = s.plot j
  regs : OnlyRegs (s.plot p) (t.plot p)
  wf : Tab.wf {} t.plots = true

theorem LoopRan.refl {p : Nat} {s : State} (hw : Tab.wf {} s.plots = true) : LoopRan p s s := ⟨rfl, rfl, rfl, fun _ _ => rfl, rfl, hw⟩

theorem LoopRan.onPlot {p : Nat} {s t : State} (h : LoopRan p s t) {f : Plot → Plot} (hf : OnlyRegs (t.plot p) (f (t.plot p))) :
    LoopRan p s (t.onPlot p f) where
  grn := h.grn
  fab := h.fab
  hk := h.hk
  others j hj := by rw [State.plot_onPlot _ _ _ _ h.wf, if_neg hj, h.others j hj]
  regs := by rw [State.plot_onPlot _ _ _ _ h.wf, if_pos rfl]; exact h.regs.trans hf
  wf := Tab.wf_modify _ _ _ _ h.wf

theorem LoopRan.onMem {p : Nat} {s t : State} (h : LoopRan p s t) (f : Memory → Memory) : LoopRan p s (t.onMem f) :=
  ⟨h.grn, h.fab, h.hk, h.others, h.regs, h.wf⟩

theorem loopRan_runLoop (p : Nat) (d : LoopDesc) (dry : Bool) {s : State} (hw : Tab.wf {} s.plots = true) :
    LoopRan p s (runLoop p d dry s).s :=
  runLoop_inv (P := LoopRan p s) (fun _ _ hf h => h.onPlot hf) (fun _ _ _ _ h => h.onMem _) (.refl hw)

/-- A loop without an output, and a first pass, store nothing. -/
theorem runLoop_mem_of_quiet {p : Nat} {d : LoopDesc} {dry : Bool} {s : State} (h : (d.outEn && !dry) = false) :
    (runLoop p d dry s).s.mem = s.mem :=
  runLoop_inv (P := fun t => t.mem = s.mem) (fun _ _ _ h => h) (fun hen => absurd (h.symm.trans hen) Bool.false_ne_true) rfl

/-! ### What a plot's work leaves: tables, ports and other plots, and of the plot what A says -/

/-- From s to t plot p alone of the plots has changed, no table and no port, and A holds of it. -/
structure PlotRun (p : Nat) (A : Plot → Prop) (s t : State) : Prop where
  grn : t.grn = s.grn
  fab : t.fab = s.fab
  others : ∀ j, j ≠ p → t.plot j = s.plot j
  plot : A (t.plot p)
  wf : Tab.wf {} t.plots = true

section
variable {p : Nat} {A : Plot → Prop} {s t : State}

theorem PlotRun.refl (hw : Tab.wf {} s.plots = true) (hA : A (s.plot p)) : PlotRun p A s s := ⟨rfl, rfl, fun _ _ => rfl, hA, hw⟩

theorem PlotRun.onPlot {B : Plot → Prop} {f : Plot → Plot} (h : PlotRun p A s t) (hf : ∀ q, A q → B (f q)) : PlotRun p B s (t.onPlot p f) where
  grn := h.grn
  fab := h.fab
  others j hj := by rw [State.plot_onPlot _ _ _ _ h.wf, if_neg hj, h.others j hj]
  plot := by rw [State.plot_onPlot _ _ _ _ h.wf, if_pos rfl]; exact hf _ h.plot
  wf := Tab.wf_modify _ _ _ _ h.wf

/-- A change that leaves the tables, the ports and the plots alone. -/
theorem PlotRun.of_eq {u : State} (h : PlotRun p A s t) (hgrn : u.grn = t.grn) (hfab : u.fab = t.fab) (hplots : u.plots = t.plots) :
    PlotRun p A s u := by
  have hplot : ∀ j, u.plot j = t.plot j := fun j => congrArg (fun x : Tab Plot => Tab.get ({} : Plot) x j) hplots
  exact ⟨hgrn.trans h.grn, hfab.trans h.fab, fun j hj => (hplot j).trans (h.others j hj), (hplot p).symm ▸ h.plot, hplots.symm ▸ h.wf⟩

theorem PlotRun.event {g b src : Nat} {data : List Nat} (h : PlotRun p A s t) : PlotRun p A s (event g b src data t) :=
  h.of_eq (by simp) (by simp) (by simp)

theorem PlotRun.semPostAt {n : Nat} {k : Int} (h : PlotRun p A s t) (hA : ∀ q x, A q → A { q with sems := x }) :
    PlotRun p A s (semPostAt p n k t) := by
  have hset : ∀ v, PlotRun p A s (t.onPlot p (fun x => { x with sems := x.sems.set {} n v })) := fun v => h.onPlot fun q => hA q _
  unfold Machine.semPostAt
  dsimp only
  split
  · exact h.event
  · split
    · exact (hset _).event
    · split
      · exact (hset _).event
      · exact hset _

theorem PlotRun.descPost {en : Bool} {n : Nat} (h : PlotRun p A s t) (hA : ∀ q x, A q → A { q with sems := x }) :
    PlotRun p A s (descPost en p n t) := by
  unfold Machine.descPost
  split
  · exact h.semPostAt hA
  · exact h

theorem PlotRun.setSlotK {n tag : Nat} {a : Int} {ovr : Bool} (h : PlotRun p A s t) (hA : ∀ q x, A q → A { q with slots := x }) :
    PlotRun p A s (setSlotK p n a ovr tag t) := by
  have hset : ∀ v, PlotRun p A s (t.onPlot p (fun q => { q with slots := q.slots.set {} n v })) := fun v => h.onPlot fun q => hA q _
  unfold Machine.setSlotK
  dsimp only
  split
  · exact h
  · split
    · split
      · exact hset _
      · exact h
    · split
      · exact (hset _).event
      · exact hset _

theorem PlotRun.runLoop {d : LoopDesc} {dry : Bool} (h : PlotRun p A s t) (hA : ∀ q r, OnlyRegs q r → A q → A r) :
    PlotRun p A s (runLoop p d dry t).s :=
  have hran := loopRan_runLoop p d dry h.wf
  ⟨hran.grn.trans h.grn, hran.fab.trans h.fab, fun j hj => (hran.others j hj).trans (h.others j hj), hA _ _ hran.regs h.plot, hran.wf⟩

end

@[simp] theorem semPostAt_mem (p n : Nat) (k : Int) (s : State) : (semPostAt p n k s).mem = s.mem := by
  unfold semPostAt
  dsimp only
  repeat' split
  all_goals simp

@[simp] theorem descPost_mem (en : Bool) (p n : Nat) (s : State) : (descPost en p n s).mem = s.mem := by
  unfold descPost
  split
  · simp
  · rfl

/-! ### The Mash queue -/

/-- The plot's Mash queue. -/
def HasQueue (qs : List MashItem) (q : Plot) : Prop := q.mashQ = qs

@[simp] theorem flagTag_mashQ (s : State) (p : Nat) (tag : Option Nat) (f : NFlags) (q : Plot) : (flagTag s p tag f q).mashQ = q.mashQ := by
  rw [flagTag_eq]

@[simp] theorem recordAmax_mashQ (n : Nat) (a : Int) (q : Plot) : (recordAmax n a q).mashQ = q.mashQ := by rw [recordAmax_eq]

@[simp] theorem keepPass_mashQ (s : State) (p tag : Nat) (a : Int) (q : Plot) : (keepPass s p tag a q).mashQ = q.mashQ := by
  unfold keepPass
  split <;> rfl

section
variable {p : Nat} {qs : List MashItem} {s t : State}

theorem PlotRun.endLoop {d : LoopDesc} {r : LoopRun} (h : PlotRun p (HasQueue qs) s r.s) : PlotRun p (HasQueue qs.tail) s (endLoop p d r) := by
  refine .descPost (h.onPlot fun q hq => ?_) fun _ _ h => h
  rw [HasQueue, flagTag_mashQ, ← show q.mashQ = qs from hq]

theorem PlotRun.secondPass {d : LoopDesc} (h : PlotRun p (HasQueue qs) s t) : PlotRun p (HasQueue qs.tail) s (secondPass p d t) :=
  (h.runLoop fun _ _ hregs hq => hregs.mashQ.trans hq).endLoop

theorem PlotRun.firstPass {d : LoopDesc} (h : PlotRun p (HasQueue qs) s t) : PlotRun p (HasQueue qs) s (firstPass p d t).1 :=
  (h.runLoop fun _ _ hregs hq => hregs.mashQ.trans hq).onPlot fun q hq => by
    rw [HasQueue, flagTag_mashQ, keepPass_mashQ, recordAmax_mashQ]
    exact hq

end

@[simp] theorem endLoop_mem (p : Nat) (d : LoopDesc) (r : LoopRun) : (endLoop p d r).mem = r.s.mem := by simp [endLoop]

theorem firstPass_mem (p : Nat) (d : LoopDesc) (s : State) : (firstPass p d s).1.mem = s.mem :=
  runLoop_mem_of_quiet (Bool.and_false _)

/-! ### The entry at the head of the queue -/

section
variable {p : Fin 64} {off : Nat} {rest : List MashItem} {s : State}

theorem exec_loopDescriptor (h : (s.plot p).mashQ = .loop off :: rest) : exec (.loopDescriptor p) s = .next (runLoopEntry p off s) := by
  change execLoopDescriptor p s = _
  simp only [execLoopDescriptor, h]

theorem exec_rootDescriptor (h : (s.plot p).mashQ = .root off :: rest) : exec (.rootDescriptor p) s = .next (runRootEntry p off s) := by
  change execRootDescriptor p s = _
  simp only [execRootDescriptor, h]

end

section
variable {p off : Nat} {s : State} {d : LoopDesc}

/-- Outside a replay no loop waits for a scope. -/
theorem replayLoop_of_no_replay (h : (s.plot p).replay = none) : replayLoop s p d = none := by
  simp only [replayLoop, replayRegion, h]

/-- A loop without an output waits for no scope. -/
theorem replayLoop_of_no_output (h : d.outEn = false) : replayLoop s p d = none := by
  unfold replayLoop
  split
  · rw [h]; rfl
  · rfl

theorem scopeHeld_of_no_loop (h : replayLoop s p d = none) : scopeHeld s p d = false := by
  simp only [scopeHeld, h]

/-- A loop whose output is not PRESENT runs once. -/
theorem loopBody_once (h : replayLoop s p d = none) (hmode : (d.outEn && ((s.plot p).slot d.out.scale).mode == 2) = false) :
    loopBody p d s = secondPass p d s := by
  simp only [loopBody, h, hmode]
  rfl

/-- A loop whose output slot is PRESENT runs twice. -/
theorem loopBody_twice (h : replayLoop s p d = none) (hmode : (d.outEn && ((s.plot p).slot d.out.scale).mode == 2) = true) :
    loopBody p d s = secondPass p d (setSlotK p d.out.scale (firstPass p d s).2 false d.tag (firstPass p d s).1) := by
  simp only [loopBody, h, hmode]
  rfl

section
variable (hpass : (s.plot p).passOne = false) (hloop : replayLoop s p (loopAt s p off) = none)
include hpass hloop

/-- With no pass to await, a descriptor's loop begins when its wait is satisfied. -/
theorem runLoopEntry_eq : runLoopEntry p off s =
    (descWait (loopAt s p off).waitEn p (loopAt s p off).semWait s).elim s (loopBody p (loopAt s p off)) := by
  rw [runLoopEntry, hpass, scopeHeld_of_no_loop hloop, if_neg Bool.false_ne_true, if_neg Bool.false_ne_true]
  generalize descWait (loopAt s p off).waitEn p (loopAt s p off).semWait s = o
  cases o <;> rfl

theorem runLoopEntry_of_waits (hwait : descWait (loopAt s p off).waitEn p (loopAt s p off).semWait s = none) : runLoopEntry p off s = s := by
  rw [runLoopEntry_eq hpass hloop, hwait, Option.elim_none]

theorem runLoopEntry_of_no_wait (hwait : (loopAt s p off).waitEn = false) : runLoopEntry p off s = loopBody p (loopAt s p off) s := by
  rw [runLoopEntry_eq hpass hloop, hwait, descWait, if_neg Bool.false_ne_true, Option.elim_some]

end

/-- A wait on an assigned semaphore that reads 0 is not satisfied (R269). -/
theorem descWait_of_zero {n : Nat} {x : Sem} (hx : x = (s.plot p).sems.get {} n) (hassigned : x.assigned = true) (hzero : x.value = 0) :
    descWait true p n s = none := by
  subst hx
  rw [descWait, if_pos rfl, semWaitAt_of_assigned _ hassigned, hzero, if_neg (by decide)]

end

end Sys2Proof.Machine
end

section
/-! SUPPORT. A loop of one FADD over one row (03_mash_engines.md R65, R66, R67): the tile it loads, the sums its body leaves in V3, and the
bytes it stores. -/

namespace Sys2Proof.Machine

open Sys2Proof.Obl

/-- Slot 0 scales by 2^0 (R96). -/
theorem slot_zero_k (q : Plot) : (q.slot 0).k = 0 := rfl

/-! ### Loading a tile -/

/-- The codes that a tile's elements of a tensor have in the register format, and their flags. -/
def tileCodes (p : Nat) (d : LoopDesc) (i1 i2 i3 i4 at_ n : Nat) (x : Tensor5) (s : State) : List Nat × NFlags :=
  encodeRegs (regFmt d.regt) ((x.load s i1 i2 i3 i4 at_ n).map (XVal.scale (-((s.plot p).slot x.scale).k)))

theorem loadTile_plot {p : Nat} {d : LoopDesc} {i1 i2 i3 i4 at_ n j : Nat} {x : Tensor5} {r : LoopRun} (hw : Tab.wf {} r.s.plots = true) :
    (loadTile p d i1 i2 i3 i4 at_ n j x r).s.plot p = ((r.s.plot p).putV j (elemsTo (regPacked d.regt)
      ((tileCodes p d i1 i2 i3 i4 at_ n x r.s).1 ++ List.replicate (tileLen d.regt - n) 0))).raiseM (tileCodes p d i1 i2 i3 i4 at_ n x r.s).2 := by
  refine (State.plot_onPlot_self p _ (State.wf_plots_onPlot p _ hw)).trans ?_
  rw [State.plot_onPlot_self p _ hw]
  rfl

/-- A tensor of one row of n FP32 elements under slot 0. -/
def FlatRow (n : Nat) (x : Tensor5) : Prop :=
  x.fmt = .fp32 ∧ x.scale = 0 ∧ x.e0 = n ∧ x.e1 = 1 ∧ x.e2 = 1 ∧ x.e3 = 1 ∧ x.e4 = 1

theorem row_zero (x : Tensor5) : x.row 0 0 0 0 = x.base := by simp [Tensor5.row]

theorem FlatRow.load {n : Nat} {x : Tensor5} (h : FlatRow n x) (hn : n ≠ 1) (s : State) :
    x.load s 0 0 0 0 0 n = (List.range n).map (fun e => lay32.decode (rawNat s (x.base + 4 * e) 4)) := by
  obtain ⟨hfmt, -, h0, -, -, -, -⟩ := h
  have hheld : ∀ k, heldAt k 0 = 0 := fun k => by simp [heldAt]
  have hbytes : Fmt.bytesFor .fp32 n = 4 * n := by rw [Fmt.bytesFor, show Fmt.blockVals .fp32 = 1 from rfl, ceilDiv_one]; exact Nat.mul_comm n 4
  rw [Tensor5.load, h0, if_neg hn, hfmt, hheld, hheld, hheld, hheld, row_zero, hbytes]
  exact decodeMany_fp32 s x.base n

theorem FlatRow.tileCodes {n : Nat} {x : Tensor5} (h : FlatRow n x) (hn : n ≠ 1) (p : Nat) {d : LoopDesc} (hregt : d.regt = 0) (s : State) :
    (tileCodes p d 0 0 0 0 0 n x s).1 = (List.range n).map (fun e => (lay32.conv (lay32.decode (rawNat s (x.base + 4 * e) 4))).1) := by
  rw [Machine.tileCodes, h.load hn, hregt, h.2.1, slot_zero_k, Int.neg_zero, encodeRegs, List.map_map, List.map_map, List.map_map]
  refine List.map_congr_left fun e _ => ?_
  simp only [Function.comp_apply, XVal.scale_zero]
  rfl

/-- What a tile's load makes of the vector registers. -/
structure TileLoaded (p n j : Nat) (x : Tensor5) (s t : State) : Prop where
  el : ∀ e, e < n → el false (t.plot p) j e = (lay32.conv (lay32.decode (rawNat s (x.base + 4 * e) 4))).1
  others : ∀ i, i ≠ j → (t.plot p).vreg i = (s.plot p).vreg i
  wfv : Tab.wf [] (t.plot p).v = true
  wf : Tab.wf {} t.plots = true
  mem : t.mem = s.mem
  grn : t.grn = s.grn

theorem FlatRow.loaded {n : Nat} {x : Tensor5} (h : FlatRow n x) (hn : 2 ≤ n) (hn' : n ≤ 128) {p : Nat} {d : LoopDesc} (hregt : d.regt = 0)
    {j : Nat} {r : LoopRun} (hw : Tab.wf {} r.s.plots = true) (hv : Tab.wf [] (r.s.plot p).v = true) :
    TileLoaded p n j x r.s (loadTile p d 0 0 0 0 0 n j x r).s := by
  have hplot := loadTile_plot (p := p) (d := d) (i1 := 0) (i2 := 0) (i3 := 0) (i4 := 0) (at_ := 0) (n := n) (j := j) (x := x) hw
  have hran : LoopRan p r.s (loadTile p d 0 0 0 0 0 n j x r).s :=
    loadTile_inv (P := LoopRan p r.s) (fun _ _ hf h => h.onPlot hf) (.refl hw)
  rw [h.tileCodes (by omega) p hregt, hregt] at hplot
  refine ⟨fun e he => ?_, fun i hi => ?_, ?_, hran.wf, rfl, rfl⟩
  · rw [hplot]
    refine (el_putV_elemsTo (pk := false) hv (Nat.lt_of_lt_of_le he hn') _).trans ?_
    rw [List.getD_append _ _ _ _ (by simpa using he), getD_map_range _ _ he]
    exact Nat.mod_eq_of_lt (conv_lay32_lt _)
  · rw [hplot]
    exact vreg_putV_other hv _ hi
  · rw [hplot]
    exact Tab.wf_set _ _ _ _ hv

/-! ### The sums -/

theorem loadTile_mem (p : Nat) (d : LoopDesc) (i1 i2 i3 i4 at_ n j : Nat) (x : Tensor5) (r : LoopRun) :
    (loadTile p d i1 i2 i3 i4 at_ n j x r).s.mem = r.s.mem := rfl

theorem storeOut_mem (p : Nat) (d : LoopDesc) (i1 i2 i3 i4 at_ n : Nat) (r : LoopRun) : (storeOut p d i1 i2 i3 i4 at_ n false r).s.mem =
    r.s.mem.putBytes (d.out.row i1 i2 i3 i4 + fmtOffset d.out.fmt at_)
      (d.out.fmt.encodeMany ((outValues p d n r).map (XVal.scale ((r.s.plot p).slot d.out.scale).k))).1 := rfl

theorem runBody_mem (p : Nat) (c : MashCtx) (ws : List Nat) (r : LoopRun) : (runBody p c ws r).s.mem = r.s.mem :=
  runBody_inv (P := fun t => t.mem = r.s.mem) (fun _ _ _ h => h) rfl

/-- FADD in FP32 under M0, in a loop whose tile has n elements. -/
theorem el_fadd {c : MashCtx} {w n e : Nat} {q : Plot} (hop : mOp w = 0x10) (hmsk : mMsk w = 0) (hm0 : c.m0 = 2 ^ n - 1) (he : e < n)
    (hn : n ≤ 128) (hv : Tab.wf [] q.v = true) : el false (mashExec c w q).1 (mVd w) e =
      (lay32.arith ((lay32.decode (el false q (mVa w) e)).add (lay32.decode (el false q (mVb w) e)))).1 % 2 ^ 32 := by
  have hexec : mashExec c w q = elementwise false (floatOp 0x10 XVal.add false) c w q := by simp [mashExec, mashPacked, hop]
  have hbit : natBit e (effMask c w q) = true := by
    rw [effMask, Plot.mask, if_pos hmsk, Nat.and_self, hm0, natBit_eq_testBit, Nat.testBit_two_pow_sub_one, decide_eq_true he]
  rw [hexec, el_elementwise (pk := false) c _ hv (Nat.lt_of_lt_of_le he hn), if_pos hbit, floatOp_two]
  rfl

theorem take_eq_map_range {xs : List Nat} {n : Nat} (hn : n ≤ xs.length) : xs.take n = (List.range n).map (fun e => xs.getD e 0) := by
  refine List.ext_getElem (by simpa using hn) fun e he he' => ?_
  have hen : e < n := by simpa using he'
  rw [List.getElem_take, List.getElem_map, List.getElem_range, List.getD_eq_getElem]

/-- The values that an FP32 loop stores of a tile are the first lanes of V3. -/
theorem outValues_fp32 {p n : Nat} {d : LoopDesc} {r : LoopRun} (hregt : d.regt = 0) (hn : n ≤ 128) :
    outValues p d n r = (List.range n).map (fun e => lay32.decode (el false (r.s.plot p) 3 e)) := by
  have hlen : n ≤ (elemsOf false ((r.s.plot p).vreg 3)).length := by rw [elemsOf_length]; exact hn
  rw [outValues, hregt, show regPacked 0 = false from rfl, take_eq_map_range hlen, List.map_map]
  rfl

/-- A loop that adds two rows of n elements into a third: FP32, under slot 0, one FADD V3, V0, V1. -/
structure AddsRows (d : LoopDesc) (a b : Tensor5) (n : Nat) : Prop where
  ins : d.ins = [a, b]
  outEn : d.outEn = true
  outMode : d.outMode = 0
  regt : d.regt = 0
  body : ∃ w, d.body = [w] ∧ mOp w = 0x10 ∧ mVd w = 3 ∧ mVa w = 0 ∧ mVb w = 1 ∧ mMsk w = 0
  rows : ∀ x ∈ [a, b, d.out], FlatRow n x
  lower : 2 ≤ n
  upper : n ≤ 128

/-- Word e of the sum of two rows. -/
def rowSum (s : State) (a b : Tensor5) (e : Nat) : XVal :=
  lay32.decode (lay32.arith ((lay32.decode (rawNat s (a.base + 4 * e) 4)).add (lay32.decode (rawNat s (b.base + 4 * e) 4)))).1

/-- The words that a loop stores of the sums of n elements. -/
def sumCodes (s : State) (a b : Tensor5) (n : Nat) : List Nat := (List.range n).map (fun e => (lay32.conv (rowSum s a b e)).1)

section
variable {d : LoopDesc} {a b : Tensor5} {n p : Nat} (h : AddsRows d a b n)
include h

/-- The one tile of such a loop. -/
theorem AddsRows.runLoop_oneTile (s : State) : runLoop p d false s = runTile p d false n 0 0 0 0 1 0 ⟨s.onPlot p (withConsts d), {}, noAmax⟩ := by
  obtain ⟨-, -, h0, h1, h2, h3, h4⟩ := h.rows a (.head _)
  have hlower := h.lower
  have hupper := h.upper
  have htiles : ceilDiv n (tileLen 0) = 1 := Nat.div_eq_of_lt_le (by change 1 * 128 ≤ n + 128 - 1; omega) (by change n + 128 - 1 < 2 * 128; omega)
  have hone : List.range 1 = [0] := rfl
  rw [runLoop_eq, h.outMode, allTiles, h.ins, h.regt]
  simp only [List.headD_cons, h0, h1, h2, h3, h4, htiles, hone, List.foldl_cons, List.foldl_nil]
  simp

/-- The tile: both inputs loaded, the body run, the sums stored. -/
theorem AddsRows.runTile_storeOut (r : LoopRun) : runTile p d false n 0 0 0 0 1 0 r =
    storeOut p d 0 0 0 0 0 n false (runBody p ⟨2 ^ n - 1, false, true⟩ d.body (loadTile p d 0 0 0 0 0 n 1 b (loadTile p d 0 0 0 0 0 n 0 a r))) := by
  have hmin : min 128 n = n := Nat.min_eq_right h.upper
  have hlen : tileLen 0 = 128 := rfl
  have hpk : regPacked 0 = false := rfl
  have htwo : List.range 2 = [0, 1] := rfl
  simp [runTile, h.ins, h.outEn, h.outMode, h.regt, hlen, hmin, hpk, htwo]

/-- The body leaves the sums in V3. -/
theorem AddsRows.sums {r : LoopRun} (hw : Tab.wf {} r.s.plots = true) (hv : Tab.wf [] (r.s.plot p).v = true) {t : LoopRun}
    (ht : t = runBody p ⟨2 ^ n - 1, false, true⟩ d.body (loadTile p d 0 0 0 0 0 n 1 b (loadTile p d 0 0 0 0 0 n 0 a r))) :
    outValues p d n t = (List.range n).map (rowSum r.s a b) := by
  obtain ⟨w, hbody, hop, hvd, hva, hvb, hmsk⟩ := h.body
  have ha := (h.rows a (.head _)).loaded h.lower h.upper h.regt (j := 0) (p := p) hw hv
  have hb := (h.rows b (.tail _ (.head _))).loaded h.lower h.upper h.regt (j := 1) (p := p) ha.wf ha.wfv
  generalize hu : loadTile p d 0 0 0 0 0 n 1 b (loadTile p d 0 0 0 0 0 n 0 a r) = u at hb ht
  have hplot : t.s.plot p = (mashExec ⟨2 ^ n - 1, false, true⟩ w (u.s.plot p)).1 := by
    rw [ht, hbody]
    exact State.plot_onPlot_self p _ hb.wf
  rw [outValues_fp32 h.regt h.upper, hplot]
  refine List.map_congr_left fun e he => ?_
  have hen : e < n := List.mem_range.mp he
  have hin : el false (u.s.plot p) 0 e = (lay32.conv (lay32.decode (rawNat r.s (a.base + 4 * e) 4))).1 :=
    (congrArg (fun xs => (elemsOf false xs).getD e 0) (hb.others 0 (by decide))).trans (ha.el e hen)
  have hsum := el_fadd (c := ⟨2 ^ n - 1, false, true⟩) (q := u.s.plot p) hop hmsk rfl hen h.upper hb.wfv
  rw [hvd, hva, hvb, hb.el e hen, hin, decode_conv_decode_lay32, decode_conv_decode_lay32, rawNat_congr (congrArg Memory.cells ha.mem) ha.grn] at hsum
  rw [hsum, decode_lay32_mod, rowSum]

/-- The loop stores the sums one word after another, and changes no other memory. -/
theorem AddsRows.runLoop_mem {s : State} (hw : Tab.wf {} s.plots = true) (hv : Tab.wf [] (s.plot p).v = true) : (runLoop p d false s).s.mem =
    s.mem.putBytes d.out.base ((sumCodes s a b n).map (leBytes 4)).flatten := by
  obtain ⟨hfmt, hscale, -, -, -, -, -⟩ := h.rows d.out (.tail _ (.tail _ (.head _)))
  have hstart : Tab.wf {} (s.onPlot p (withConsts d)).plots = true := State.wf_plots_onPlot p _ hw
  have hstartv : Tab.wf [] ((s.onPlot p (withConsts d)).plot p).v = true := by rw [State.plot_onPlot_self p _ hw]; exact hv
  rw [h.runLoop_oneTile, h.runTile_storeOut]
  generalize ht : runBody p ⟨2 ^ n - 1, false, true⟩ d.body (loadTile p d 0 0 0 0 0 n 1 b (loadTile p d 0 0 0 0 0 n 0 a
    ⟨s.onPlot p (withConsts d), {}, noAmax⟩)) = t
  have hkeeps : t.s.mem = s.mem := by rw [← ht, runBody_mem, loadTile_mem, loadTile_mem, State.onPlot_mem]
  have hsums := h.sums (r := ⟨s.onPlot p (withConsts d), {}, noAmax⟩) hstart hstartv ht.symm
  have hcodes : ((List.range n).map (rowSum s a b)).map (fun x => (lay32.conv x).1) = sumCodes s a b n := List.map_map ..
  rw [storeOut_mem, hkeeps, row_zero, hfmt, hscale, slot_zero_k, hsums, encodeMany_fp32, show XVal.scale 0 = id from funext XVal.scale_zero,
    List.map_id, ← hcodes]
  rfl

end

end Sys2Proof.Machine
end

section
/-! SUPPORT. Loop descriptors at the head of the queue (03_mash_engines.md R66, 05_scaling_and_replay.md R102): a loop that runs to its end. -/

namespace Sys2Proof.Machine

open Sys2Proof.Obl

theorem secondPass_mem_of_no_output {p : Nat} {d : LoopDesc} {s : State} (h : d.outEn = false) : (secondPass p d s).mem = s.mem := by
  rw [secondPass, endLoop_mem, runLoop_mem_of_quiet (by rw [h]; rfl)]

theorem secondPass_hk_of_no_post {p : Nat} {d : LoopDesc} {s : State} (h : d.postEn = false) (hw : Tab.wf {} s.plots = true) :
    (secondPass p d s).hk = s.hk := by
  rw [secondPass, endLoop, h]
  exact (loopRan_runLoop p d false hw).hk

section
variable {p : Fin 64} {off : Nat} {rest : List MashItem} {s : State} {d : LoopDesc}

/-- A loop that waits for nothing, outside a replay of its own, begins at once. -/
theorem exec_loopDescriptor_begins (hq : (s.plot p).mashQ = .loop off :: rest) (hd : d = loopAt s p off) (hwait : d.waitEn = false)
    (hpass : (s.plot p).passOne = false) (hloop : replayLoop s p d = none) : exec (.loopDescriptor p) s = .next (loopBody p d s) := by
  subst hd
  rw [exec_loopDescriptor hq, runLoopEntry_of_no_wait hpass hloop hwait]

/-- A loop without an output changes no memory and leaves the queue. -/
theorem loop_without_output (hq : (s.plot p).mashQ = .loop off :: rest) (hout : (loopAt s p off).outEn = false)
    (hwait : (loopAt s p off).waitEn = false) (hpass : (s.plot p).passOne = false) (hplots : Tab.wf {} s.plots = true) :
    ∃ t, exec (.loopDescriptor p) s = .next t ∧ t.mem = s.mem ∧ (t.plot p).mashQ = rest := by
  have hloop := replayLoop_of_no_output (s := s) (p := p) hout
  refine ⟨_, exec_loopDescriptor_begins hq rfl hwait hpass hloop, ?_⟩
  rw [loopBody_once hloop (by rw [hout]; rfl)]
  exact ⟨secondPass_mem_of_no_output hout, (PlotRun.refl (A := HasQueue (.loop off :: rest)) hplots hq).secondPass.plot⟩

/-- A loop runs once, or twice when its output slot is PRESENT, and leaves the queue. -/
theorem loop_passes (hq : (s.plot p).mashQ = .loop off :: rest) (hd : d = loopAt s p off) (hwait : d.waitEn = false)
    (hpass : (s.plot p).passOne = false) (hreplay : (s.plot p).replay = none) (hplots : Tab.wf {} s.plots = true) :
    ∃ t, exec (.loopDescriptor p) s = .next t ∧ (t.plot p).mashQ = rest ∧ (∀ j, j ≠ p.val → t.plot j = s.plot j) ∧ t.grn = s.grn ∧ t.fab = s.fab ∧
      (d.outEn = false ∨ ((s.plot p).slot d.out.scale).mode ≠ 2 → t = endLoop p d (runLoop p d false s)) ∧
      (d.outEn = true → ((s.plot p).slot d.out.scale).mode = 2 → ∃ u, u = (firstPass p d s).1 ∧ u.mem = s.mem ∧
        t = secondPass p d (setSlotK p d.out.scale (firstPass p d s).2 false d.tag u)) := by
  have hloop := replayLoop_of_no_replay (d := d) hreplay
  have hstart : PlotRun p (HasQueue (.loop off :: rest)) s s := .refl hplots hq
  refine ⟨_, exec_loopDescriptor_begins hq hd hwait hpass hloop, ?_⟩
  by_cases hpresent : d.outEn = true ∧ ((s.plot p).slot d.out.scale).mode = 2
  · obtain ⟨hout, hmode⟩ := hpresent
    rw [loopBody_twice hloop (by rw [hout, hmode]; rfl)]
    have hrun := (hstart.firstPass (d := d)).setSlotK (n := d.out.scale) (tag := d.tag) (a := (firstPass p d s).2) (ovr := false)
      (fun _ _ h => h) |>.secondPass (d := d)
    refine ⟨hrun.plot, hrun.others, hrun.grn, hrun.fab, fun hnot => ?_, fun _ _ => ⟨_, rfl, firstPass_mem p d s, rfl⟩⟩
    rcases hnot with hnot | hnot
    · exact absurd (hnot.symm.trans hout) Bool.false_ne_true
    · exact absurd hmode hnot
  · have honce : (d.outEn && ((s.plot p).slot d.out.scale).mode == 2) = false := by
      rw [Bool.eq_false_iff, ne_eq, Bool.and_eq_true, beq_iff_eq]
      exact hpresent
    rw [loopBody_once hloop honce]
    have hrun := hstart.secondPass (d := d)
    exact ⟨hrun.plot, hrun.others, hrun.grn, hrun.fab, fun _ => rfl, fun hout hmode => absurd ⟨hout, hmode⟩ hpresent⟩

/-- A loop that adds two rows stores the sums and no other byte. -/
theorem loop_adds_rows {n : Nat} {a b : Tensor5} (hq : (s.plot p).mashQ = .loop off :: rest) (hd : d = loopAt s p off) (h : AddsRows d a b n)
    (hwait : d.waitEn = false) (hpost : d.postEn = false) (hreplay : (s.plot p).replay = none) (hpass : (s.plot p).passOne = false)
    (hhigh : d.out.base + 4 * n ≤ storeBase p + 0x300000) (hmem : Tab.wf 0 s.mem.cells = true) (hv : Tab.wf [] (s.plot p).v = true)
    (hplots : Tab.wf {} s.plots = true) :
    ∃ t, exec (.loopDescriptor p) s = .next t ∧ (t.plot p).mashQ = rest ∧
      (∀ e, e < n → rawNat t (d.out.base + 4 * e) 4 = (Fmt.encode .fp32 (rowSum s a b e)).1) ∧
      (∀ x, x < d.out.base ∨ d.out.base + 4 * n ≤ x → rawByte t x = rawByte s x) ∧ (∀ j, j ≠ p.val → t.plot j = s.plot j) ∧ t.hk = s.hk := by
  have hloop := replayLoop_of_no_replay (d := d) hreplay
  obtain ⟨-, hscale, -⟩ := h.rows d.out (.tail _ (.tail _ (.head _)))
  have hmode : (d.outEn && ((s.plot p).slot d.out.scale).mode == 2) = false := by rw [hscale, h.outEn]; rfl
  refine ⟨_, exec_loopDescriptor_begins hq hd hwait hpass hloop, ?_⟩
  rw [loopBody_once hloop hmode]
  have hrun := (PlotRun.refl (A := HasQueue (.loop off :: rest)) hplots hq).secondPass (d := d)
  generalize hcs : sumCodes s a b n = cs
  have hlen : cs.length = n := by simp [← hcs, sumCodes]
  have hcells : (secondPass p d s).mem = s.mem.putBytes d.out.base (cs.map (leBytes 4)).flatten := by
    rw [secondPass, endLoop_mem, h.runLoop_mem hplots hv, hcs]
  have hbytes : ∀ x, rawByte (secondPass p d s) x = rawByte (s.onMem (·.putBytes d.out.base (cs.map (leBytes 4)).flatten)) x :=
    rawByte_congr (congrArg Memory.cells hcells) hrun.grn
  have hstored := Stored.onMem s d.out.base (cs.map (leBytes 4)).flatten
  have htop : storeBase p + 0x300000 ≤ 0xC010000000 := by
    have := p.isLt
    unfold storeBase
    omega
  refine ⟨hrun.plot, fun e he => ?_, fun x hx => ?_, hrun.others, secondPass_hk_of_no_post hpost hplots⟩
  · have hread : rawBytes (secondPass p d s) d.out.base (4 * cs.length) = (cs.map (leBytes 4)).flatten := by
      rw [rawBytes_congr fun x _ _ => hbytes x, ← length_flatten_leBytes]
      refine hstored.rawBytes_eq hmem fun x _ hx o ho => ?_
      rw [length_flatten_leBytes, hlen] at hx
      have := ((locate_eq_dir_iff x o).mp ho).1
      omega
    rw [rawNat_of_words hread (by rwa [hlen]), ← hcs, sumCodes, getD_map_range _ _ he]
    exact Nat.mod_eq_of_lt (conv_lay32_lt _)
  · rw [hbytes, hstored.rawByte_outside hmem (by rwa [length_flatten_leBytes, hlen])]

end

end Sys2Proof.Machine
end

section
/-! SUPPORT. Root descriptors (03_mash_engines.md R72 to R74): the bytes a stage writes, what the run of stages leaves, and what an entry out of
sequence does. -/

namespace Sys2Proof

theorem Tab.insert_insert {α : Type} (t : Tab α) (k : Nat) (v w : α) : Tab.insert (Tab.insert t k v) k w = Tab.insert t k w := by
  induction t with
  | nil => simp [Tab.insert]
  | cons x t ih =>
    obtain ⟨j, u⟩ := x
    rcases Nat.lt_trichotomy j k with h | rfl | h
    · simp [Tab.insert, show j ≠ k by omega, show ¬ k < j by omega, ih]
    · simp [Tab.insert]
    · simp [Tab.insert, show j ≠ k by omega, h]

/-- Two changes of a key, neither of which leaves the default, are one, whatever the table. -/
theorem Tab.modify_modify_of_ne {α : Type} [DecidableEq α] {d : α} {t : Tab α} {k : Nat} {f g : α → α} (hf : f (Tab.get d t k) ≠ d)
    (hg : g (f (Tab.get d t k)) ≠ d) : Tab.modify d (Tab.modify d t k f) k g = Tab.modify d t k (fun x => g (f x)) := by
  have hget : Tab.get d (Tab.insert t k (f (Tab.get d t k))) k = f (Tab.get d t k) := Tab.get_insert_self ..
  simp only [Tab.modify, Tab.set, if_neg hf, hget, if_neg hg, Tab.insert_insert]

end Sys2Proof

namespace Sys2Proof.Machine

open Sys2Proof.Obl

/-! ### Matrices in the plot store -/

/-- An n by n matrix. -/
def Square (n : Nat) (m : Mat) : Prop := m.length = n ∧ ∀ row ∈ m, row.length = n

theorem square_matOf (n : Nat) (f : Nat → Nat → Word) : Square n (matOf n f) :=
  ⟨by simp [matOf], by simp [matOf]⟩

theorem square_matAt (s : State) (p off n : Nat) : Square n (matAt s p off n) :=
  ⟨by simp [matAt], by simp [matAt]⟩

/-- The bytes that a matrix is stored as. -/
def matBytes (m : Mat) : List Byte := (m.flatten.map (fun w => leBytes 4 w.toNat)).flatten

theorem Square.matBytes_length {n : Nat} {m : Mat} (h : Square n m) : (matBytes m).length = 4 * n * n := by
  obtain ⟨hrows, hcols⟩ := h
  have hsum : (m.map List.length).sum = n * n := by
    rw [List.map_congr_left hcols, List.map_const', List.sum_replicate, hrows, smul_eq_mul]
  simp only [matBytes, List.length_flatten, List.map_map, Function.comp_def, leBytes_length, List.map_const', List.sum_replicate, hsum, smul_eq_mul]
  rw [Nat.mul_comm (n * n) 4, Nat.mul_assoc]

/-! ### The stages -/

/-- Address x lies outside the n by n matrix at a store offset. -/
def Outside (p n x off : Nat) : Prop := x < storeBase p + off ∨ storeBase p + off + 4 * n * n ≤ x

/-- From s to t memory alone may have changed, canonical as before, and no byte of X. -/
structure KeepsBytes (X : Nat → Prop) (s t : State) : Prop where
  rest : t = { s with mem := t.mem }
  wf : t.mem.wf = true
  bytes : ∀ x, X x → rawByte t x = rawByte s x

section
variable {X : Nat → Prop} {s₀ s : State}

theorem KeepsBytes.refl (h : s.mem.wf = true) : KeepsBytes X s s := ⟨rfl, h, fun _ _ => rfl⟩

theorem KeepsBytes.putBytes {a : Nat} {bs : List Byte} (h : KeepsBytes X s₀ s) (hX : ∀ x, X x → x < a ∨ a + bs.length ≤ x) :
    KeepsBytes X s₀ (s.onMem (·.putBytes a bs)) := by
  have hstored := Stored.onMem s a bs
  refine ⟨?_, hstored.wf h.wf, fun x hx => (hstored.rawByte_outside h.wf (hX x hx)).trans (h.bytes x hx)⟩
  exact congrArg (fun u : State => { u with mem := s.mem.putBytes a bs }) h.rest

theorem KeepsBytes.putMat {p off n : Nat} {m : Mat} (h : KeepsBytes X s₀ s) (hm : Square n m) (hX : ∀ x, X x → Outside p n x off) :
    KeepsBytes X s₀ (putMat p off m s) := by
  refine h.putBytes (bs := matBytes m) ?_
  rw [hm.matBytes_length]
  exact hX

variable {p : Nat} {d : RootDesc} {r : RootRun} (hX : ∀ x, X x → ∀ o ∈ [d.x, d.m, d.t, d.w], Outside p d.n x o)
include hX

theorem KeepsBytes.rootInit (h : KeepsBytes X s₀ s) : KeepsBytes X s₀ (rootInit p d s).s :=
  (h.putMat (square_matOf ..) fun x hx => hX x hx d.m (by simp)).putMat (square_matOf ..) fun x hx => hX x hx d.x (by simp)

theorem KeepsBytes.rootFactor (h : KeepsBytes X s₀ r.s) : KeepsBytes X s₀ (rootFactor p d r).s :=
  h.putMat (square_matOf ..) fun x hx => hX x hx d.t (by simp)

theorem KeepsBytes.rootProduct {a b dst : Nat} (h : KeepsBytes X s₀ r.s) (hdst : dst ∈ [d.x, d.m, d.t, d.w]) :
    KeepsBytes X s₀ (rootProduct p d a b dst r).s :=
  (h.putMat (square_matOf ..) fun x hx => hX x hx d.w (by simp)).putMat (square_matOf ..) fun x hx => hX x hx dst hdst

omit hX in
theorem KeepsBytes.rootPublish (h : KeepsBytes X s₀ r.s) (hout : ∀ x, X x → Outside p d.n x d.out) : KeepsBytes X s₀ (rootPublish p d r).s := by
  unfold Machine.rootPublish
  split
  · exact h
  · exact h.putMat (square_matAt ..) hout

/-- A stage writes X, M, T and W, and the publish stage OUT. -/
theorem KeepsBytes.rootStage {k : Nat} (h : KeepsBytes X s₀ r.s) (hout : k = 1 + d.iter * (d.p + 2) → ∀ x, X x → Outside p d.n x d.out) :
    KeepsBytes X s₀ (rootStage p d k r).s := by
  unfold Machine.rootStage
  dsimp only
  split
  · exact h.rootInit hX
  · split
    · next hk => exact h.rootPublish (hout hk)
    · split
      · exact h.rootFactor hX
      · split <;> exact h.rootProduct hX (by simp)

end

/-- The stages of a root descriptor from STAGE_FIRST to top. -/
def rootStages (p : Nat) (d : RootDesc) (top : Nat) (r : RootRun) : RootRun :=
  (List.range (top + 1 - d.first)).foldl (fun r i => rootStage p d (d.first + i) r) r

/-- What the stages up to top leave alone: all but X, M, T and W, and OUT unless the publish stage is reached. -/
def StagesSpare (p : Nat) (d : RootDesc) (top x : Nat) : Prop :=
  (∀ o ∈ [d.x, d.m, d.t, d.w], Outside p d.n x o) ∧ (top < 1 + d.iter * (d.p + 2) ∨ Outside p d.n x d.out)

theorem KeepsBytes.rootStages {s₀ : State} {p top : Nat} {d : RootDesc} {r : RootRun} (h : KeepsBytes (StagesSpare p d top) s₀ r.s) :
    KeepsBytes (StagesSpare p d top) s₀ (rootStages p d top r).s :=
  List.foldlRecOn (motive := fun r : RootRun => KeepsBytes (StagesSpare p d top) s₀ r.s) _ _ h fun _ hr i hi =>
    hr.rootStage (fun _ hx => hx.1) fun hk x hx => hx.2.resolve_left (by have := List.mem_range.mp hi; omega)

/-! ### The status word and the end of an entry -/

/-- The stages run from the status word that stands at STAT. -/
def rootRunOf (s : State) (p : Nat) (d : RootDesc) : RootRun :=
  let st := rawNat s (storeBase p + d.stat) 4
  rootStages p d (min d.last (1 + d.iter * (d.p + 2))) ⟨s, natBit 16 st, natBit 17 st, natBit 18 st, false⟩

/-- The state with the matrices and the status word of a run stored. -/
def rootStored (s : State) (p : Nat) (d : RootDesc) : State :=
  (rootRunOf s p d).s.onMem (·.putBytes (storeBase p + d.stat)
    (leBytes 4 (rootStatus (max (min d.last (1 + d.iter * (d.p + 2))) (d.first - 1)) (rootRunOf s p d))))

theorem rootBody_eq (p : Nat) (d : RootDesc) (s : State) : rootBody p d s = descPost d.postEn p d.semPost
    (if (rootRunOf s p d).failed then event 8 4 p [(rootStored s p d).sch.step, p, d.tag] (rootFailFlag p (rootStored s p d)) else rootStored s p d) :=
  rfl

/-- The low ten bits of a status word are LAST_STAGE. -/
theorem rootStatus_mod {last : Nat} (r : RootRun) (h : last < 1024) : rootStatus last r % 1024 = last := by
  unfold rootStatus
  omega

theorem or_32_mod (m : Nat) : (m ||| 32) % 32 = m % 32 := by
  rw [show (32 : Nat) = 2 ^ 5 from rfl, Nat.or_mod_two_pow]
  exact Nat.or_zero _

section
variable {p : Nat} {s : State} (d : RootDesc) (hmem : s.mem.wf = true)
include hmem

theorem keepsBytes_rootRunOf : KeepsBytes (StagesSpare p d (min d.last (1 + d.iter * (d.p + 2)))) s (rootRunOf s p d).s :=
  KeepsBytes.rootStages (.refl hmem)

/-- The stages and the status word change memory alone. -/
theorem rootStored_rest : rootStored s p d = { s with mem := (rootStored s p d).mem } :=
  congrArg (fun u : State => { u with mem := (rootStored s p d).mem }) (keepsBytes_rootRunOf d hmem).rest

/-- A descriptor's stages, flag and post leave of the plot what its semaphores and ROOT_FAIL do not change. -/
theorem PlotRun.rootBody {A : Plot → Prop} {s₀ : State} (h : PlotRun p A s₀ s) (hsems : ∀ q x, A q → A { q with sems := x })
    (hfail : ∀ q, A q → A { q with mflags := q.mflags ||| 32 }) : PlotRun p A s₀ (rootBody p d s) := by
  have hrest := rootStored_rest (p := p) d hmem
  have hstored : PlotRun p A s₀ (rootStored s p d) :=
    h.of_eq (by rw [hrest]) (by rw [hrest]) (by rw [hrest])
  rw [rootBody_eq]
  refine PlotRun.descPost ?_ hsems
  split
  · exact (hstored.onPlot hfail).event
  · exact hstored

theorem rawByte_rootBody (hw : Tab.wf {} s.plots = true) (x : Nat) : rawByte (rootBody p d s) x = rawByte (rootStored s p d) x := by
  have hrun := PlotRun.rootBody (p := p) (A := fun _ => True) d hmem (.refl hw trivial) (fun _ _ h => h) fun _ h => h
  have hgrn : (rootStored s p d).grn = s.grn := by rw [rootStored_rest d hmem]
  refine rawByte_congr ?_ (hrun.grn.trans hgrn.symm) x
  rw [rootBody_eq, descPost_mem]
  split
  · rw [event_mem]; rfl
  · rfl

/-- No byte changes that the stages spare and the status word does not hold. -/
theorem rawByte_rootStored {x : Nat} (hx : StagesSpare p d (min d.last (1 + d.iter * (d.p + 2))) x)
    (hstat : x < storeBase p + d.stat ∨ storeBase p + d.stat + 4 ≤ x) : rawByte (rootStored s p d) x = rawByte s x := by
  have hrun := keepsBytes_rootRunOf (p := p) d hmem
  exact ((Stored.onMem ..).rawByte_outside hrun.wf (by rwa [leBytes_length])).trans (hrun.bytes x hx)

/-- The status word holds the last stage that has run. -/
theorem lastStage_rootStored (hdir : storeBase p + d.stat + 4 ≤ 0xC010000000)
    (hlast : max (min d.last (1 + d.iter * (d.p + 2))) (d.first - 1) < 1024) :
    rawNat (rootStored s p d) (storeBase p + d.stat) 4 % 1024 = max (min d.last (1 + d.iter * (d.p + 2))) (d.first - 1) := by
  generalize hword : rootStatus (max (min d.last (1 + d.iter * (d.p + 2))) (d.first - 1)) (rootRunOf s p d) = word
  have hread : rawBytes (rootStored s p d) (storeBase p + d.stat) 4 = leBytes 4 word := by
    rw [rootStored, hword]
    refine (Stored.onMem (rootRunOf s p d).s (storeBase p + d.stat) (leBytes 4 word)).rawBytes_eq (keepsBytes_rootRunOf d hmem).wf
      fun x _ hx o ho => ?_
    rw [leBytes_length] at hx
    have := ((locate_eq_dir_iff x o).mp ho).1
    omega
  rw [rawNat, hread, leNat_leBytes, Nat.mod_mod_of_dvd _ (by decide), ← hword, rootStatus_mod _ hlast]

end

/-! ### The entry at the head of the queue -/

section
variable {p : Fin 64} {off : Nat} {rest : List MashItem} {s : State} {d : RootDesc}

/-- The head of the Mash queue leaves it. -/
def popQueue (q : Plot) : Plot := { q with mashQ := q.mashQ.tail }

/-- ROOT_FAIL set (R74). -/
def raiseRootFail (q : Plot) : Plot := { q with mflags := q.mflags ||| 32 }

/-- A plot with ROOT_FAIL set is listed, so the two changes of an entry out of sequence are one, whatever the other plots are. -/
theorem rootFailFlag_popQueue (p : Nat) (s : State) : (rootFailFlag p s).onPlot p popQueue = s.onPlot p (fun q => popQueue (raiseRootFail q)) := by
  have hset : natBit 5 (raiseRootFail (s.plot p)).mflags = true := by
    rw [raiseRootFail, natBit_or, show natBit 5 32 = true from rfl, Bool.or_true]
  have hlisted : ∀ r : Plot, natBit 5 r.mflags = true → r ≠ {} := by
    rintro r hr rfl
    exact absurd hr (by decide)
  exact congrArg (fun t => { s with plots := t })
    (Tab.modify_modify_of_ne (f := raiseRootFail) (g := popQueue) (hlisted (raiseRootFail (s.plot p)) hset)
      (hlisted (popQueue (raiseRootFail (s.plot p))) hset))

theorem rootMismatch_iff (s : State) (p : Nat) (d : RootDesc) :
    rootMismatch s p d = true ↔ d.first ≠ 0 ∧ d.first ≠ rawNat s (storeBase p + d.stat) 4 % 1024 + 1 := by
  simp [rootMismatch, natBits]

theorem runRootEntry_of_mismatch {p : Nat} (h : rootMismatch s p (rootAt s p off) = true) :
    runRootEntry p off s = (rootFailFlag p s).onPlot p popQueue := by
  rw [runRootEntry, h, if_pos rfl]
  rfl

/-- An entry in sequence begins when its wait is satisfied. -/
theorem runRootEntry_eq {p : Nat} (h : rootMismatch s p (rootAt s p off) = false) : runRootEntry p off s =
    (descWait (rootAt s p off).waitEn p (rootAt s p off).semWait s).elim s (fun u => (rootBody p (rootAt s p off) u).onPlot p popQueue) := by
  rw [runRootEntry, h, if_neg Bool.false_ne_true]
  generalize descWait (rootAt s p off).waitEn p (rootAt s p off).semWait s = o
  cases o <;> rfl

/-- An entry out of sequence sets ROOT_FAIL and leaves the queue. -/
theorem exec_rootDescriptor_mismatch (hq : (s.plot p).mashQ = .root off :: rest) (hd : d = rootAt s p off) (h : rootMismatch s p d = true) :
    exec (.rootDescriptor p) s = .next (s.onPlot p (fun q => { q with mflags := q.mflags ||| 32, mashQ := rest })) := by
  subst hd
  rw [exec_rootDescriptor hq, runRootEntry_of_mismatch h, rootFailFlag_popQueue]
  refine congrArg Host.Outcome.next (State.onPlot_congr ?_)
  simp only [popQueue, raiseRootFail, hq, List.tail_cons]

/-- An entry in sequence runs its stages: what its plot keeps, the last stage, and the bytes it spares. -/
theorem root_runs_stages {top : Nat} (hq : (s.plot p).mashQ = .root off :: rest) (hd : d = rootAt s p off) (hwait : d.waitEn = false)
    (hseq : d.first = 0 ∨ d.first = rawNat s (storeBase p + d.stat) 4 % 1024 + 1) (htop : top = min d.last (1 + d.iter * (d.p + 2)))
    (hfits : top < 1024) (hdir : storeBase p + d.stat + 4 ≤ 0xC010000000) (hmem : Tab.wf 0 s.mem.cells = true) (hplots : Tab.wf {} s.plots = true) :
    ∃ t, exec (.rootDescriptor p) s = .next t ∧ (t.plot p).mashQ = rest ∧ (t.plot p).mflags % 32 = (s.plot p).mflags % 32 ∧
      (t.plot p).v = (s.plot p).v ∧ rawNat t (storeBase p + d.stat) 4 % 1024 = (if d.first ≤ top then top else d.first - 1) ∧
      ∀ x, StagesSpare p d top x → (x < storeBase p + d.stat ∨ storeBase p + d.stat + 4 ≤ x) → rawByte t x = rawByte s x := by
  have hmatch : rootMismatch s p d = false := by
    rw [Bool.eq_false_iff, ne_eq, rootMismatch_iff]
    omega
  have hfirst : d.first < 1025 := by
    have := Nat.mod_lt (rawNat s (storeBase p + d.stat) 4) (show 0 < 1024 by decide)
    omega
  have hlast : max top (d.first - 1) = if d.first ≤ top then top else d.first - 1 := by split <;> omega
  have hrun := PlotRun.rootBody (A := fun q => q.mashQ = .root off :: rest ∧ q.mflags % 32 = (s.plot p).mflags % 32 ∧ q.v = (s.plot p).v) d hmem
    (.refl hplots ⟨hq, rfl, rfl⟩) (fun _ _ h => h) fun q ⟨hqueue, hflags, hv⟩ => ⟨hqueue, (or_32_mod q.mflags).trans hflags, hv⟩
  have hexec : exec (.rootDescriptor p) s = .next ((rootBody p d s).onPlot p popQueue) := by
    subst hd
    rw [exec_rootDescriptor hq, runRootEntry_eq hmatch, hwait]
    rfl
  obtain ⟨hqueue, hflags, hv⟩ := hrun.plot
  have hbyte : ∀ x, rawByte ((rootBody p d s).onPlot p popQueue) x = rawByte (rootStored s p d) x := rawByte_rootBody d hmem hplots
  refine ⟨_, hexec, ?_⟩
  rw [State.plot_onPlot_self p _ hrun.wf]
  refine ⟨congrArg List.tail hqueue, hflags, hv, ?_, fun x hx hstat => ?_⟩
  · rw [← hlast, rawNat, rawBytes_congr fun x _ _ => hbyte x, htop]
    exact lastStage_rootStored d hmem hdir (by rw [← htop]; omega)
  · subst htop
    rw [hbyte, rawByte_rootStored d hmem hx hstat]

end

end Sys2Proof.Machine
end

section
/-! PROOFS. Loops and root descriptors (03_mash_engines.md R66, R67, R72, R74, Table 03.8, 05_scaling_and_replay.md R103). -/

namespace Sys2Proof.Machine

open Sys2Proof.Obl

/-- An entry whose semaphore reads 0 stays at the head of the queue. -/
theorem entries_wait (p : Fin 64) (off : Nat) (rest : List MashItem) (s : State) (x : Sem) :
    ((s.plot p).mashQ = .loop off :: rest → (s.plot p).passOne = false → (s.plot p).replay = none → (loopAt s p off).waitEn = true →
      x = (s.plot p).sems.get {} (loopAt s p off).semWait → x.assigned = true → x.value = 0 → exec (.loopDescriptor p) s = .next s) ∧
    ((s.plot p).mashQ = .root off :: rest → rootMismatch s p (rootAt s p off) = false → (rootAt s p off).waitEn = true →
      x = (s.plot p).sems.get {} (rootAt s p off).semWait → x.assigned = true → x.value = 0 → exec (.rootDescriptor p) s = .next s) := by
  refine ⟨fun hq hpass hreplay hwait hx ha hz => ?_, fun hq hmatch hwait hx ha hz => ?_⟩
  · rw [exec_loopDescriptor hq, runLoopEntry_of_waits hpass (replayLoop_of_no_replay hreplay) (by rw [hwait, descWait_of_zero hx ha hz])]
  · rw [exec_rootDescriptor hq, runRootEntry_eq hmatch, hwait, descWait_of_zero hx ha hz, Option.elim_none]

/-- Settles O47: each entry of the queue from what its descriptor does, loops by the sums and the bytes they store, roots by the bytes their
stages spare. -/
theorem mashLoopsAndRootsStoreTheirResults : Obligations.MashLoopsAndRootsStoreTheirResults := by
  unfold Obligations.MashLoopsAndRootsStoreTheirResults
  refine ⟨?adds, ?quiet, ?passes, entries_wait, ?mismatch, ?stages⟩
  case adds =>
    intro p off n rest s d a b w hq hd hins hout hmode hregt hbody hop hvd hva hvb hmsk hwait hpost hrows hlower hupper hreplay hpass hlow hhigh
      hmem hv hplots
    exact loop_adds_rows hq hd ⟨hins, hout, hmode, hregt, ⟨w, hbody, hop, hvd, hva, hvb, hmsk⟩, hrows, hlower, hupper⟩ hwait hpost hreplay hpass
      hhigh hmem hv hplots
  case quiet =>
    intro p off rest s hq hout hwait hpass hplots
    exact loop_without_output hq hout hwait hpass hplots
  case passes =>
    intro p off rest s d hq hd hwait hpass hreplay hplots
    exact loop_passes hq hd hwait hpass hreplay hplots
  case mismatch =>
    intro p off rest s d hq hd hne hfirst
    exact exec_rootDescriptor_mismatch hq hd ((rootMismatch_iff s p d).mpr ⟨hne, hfirst⟩)
  case stages =>
    intro p off rest s d top hq hd hwait hseq htop hfits hdir hmem hplots
    obtain ⟨t, hexec, hqueue, hflags, hv, hlast, hbytes⟩ := root_runs_stages hq hd hwait hseq htop hfits hdir hmem hplots
    exact ⟨t, hexec, hqueue, hflags, hv, hlast, fun x hx hout hstat => hbytes x ⟨hx, htop ▸ hout⟩ hstat⟩

end Sys2Proof.Machine
end

section
/-! PROOFS. Every finite encoding rounds to itself (04_number_formats.md R76, R83, R84, R86, Tables 04.1 and 04.2): the exact value of an encoding
has its last place where the layout puts it, so that no mode rounds, and its code is its magnitude bits. -/

namespace Sys2Proof

/-! ### Roundings of a magnitude that the layout represents -/

section
variable {L : FLayout} {m k : Nat} {e : Int}

theorem FLayout.conv_of_rneMag (h : L.rneMag m e = some k) (s : Bool) : L.conv (.fin s m e) = (L.signBit s + k, {}) := by
  rw [FLayout.conv, h]

theorem FLayout.arith_of_rneMag (h : L.rneMag m e = some k) (s : Bool) : L.arith (.fin s m e) = (L.signBit s + k, {}) := by
  rw [FLayout.arith, h]

/-- A value that keeps its last place is representable, and stochastic rounding leaves it alone whatever the random bits (R84, step 1). -/
theorem FLayout.sr_of_rneMag (hq : m ≠ 0 → L.quantum m e = e) (h : L.rneMag m e = some k) (u : Nat) (s : Bool) :
    L.sr u (.fin s m e) = (L.signBit s + k, {}) := by
  unfold FLayout.rneMag at h
  unfold FLayout.sr
  by_cases h0 : m = 0
  · obtain rfl : 0 = k := by simpa [h0] using h
    simp [h0]
  · have hpack : L.pack m e = some k := by simpa [h0, hq h0, rneShift] using h
    simp [h0, hq h0, hpack]

end

/-! ### The fields of an encoding -/

/-- The magnitude bits are the exponent field above the fraction field. -/
theorem FLayout.fields_eq_mod (L : FLayout) (c : Nat) :
    c / 2 ^ L.fb % 2 ^ L.eb * 2 ^ L.fb + c % 2 ^ L.fb = c % 2 ^ (L.eb + L.fb) := by
  rw [Nat.add_comm L.eb, pow_add, Nat.mod_mul, Nat.mul_comm (2 ^ L.fb), Nat.add_comm]

/-- The sign bit above the magnitude bits. -/
theorem FLayout.signBit_add_mod {L : FLayout} {c : Nat} (h : c < 2 ^ (1 + L.eb + L.fb)) :
    L.signBit (natBit (L.eb + L.fb) c) + c % 2 ^ (L.eb + L.fb) = c := by
  have htwo : c < 2 ^ (L.eb + L.fb) * 2 := by rwa [Nat.add_assoc, Nat.add_comm, pow_succ] at h
  have hquot : c / 2 ^ (L.eb + L.fb) < 2 := Nat.div_lt_of_lt_mul htwo
  have hdiv := Nat.div_add_mod c (2 ^ (L.eb + L.fb))
  rw [FLayout.signBit, natBit_eq_testBit, Nat.testBit_eq_decide_div_mod_eq, Nat.mod_eq_of_lt hquot]
  interval_cases hq : c / 2 ^ (L.eb + L.fb) <;> simpa using hdiv

/-- A layout whose largest finite encoding stands where its exponent field and its NaNs leave it. -/
structure FLayout.MaxFinIsLargest (L : FLayout) : Prop where
  exp_pos : 0 < L.eb
  succ_maxFin : L.maxFin + 1 = if L.topFin then (2 ^ L.eb - 1) * 2 ^ L.fb + (2 ^ L.fb - 1) else (2 ^ L.eb - 1) * 2 ^ L.fb

theorem Fmt.layout_maxFinIsLargest {f : Fmt} {L : FLayout} (h : f.layout = some L) : L.MaxFinIsLargest := by
  cases f <;> simp only [Fmt.layout, Option.some.injEq, reduceCtorEq] at h <;> subst h <;> exact ⟨by decide, by decide⟩

/-! ### Finite encodings -/

section
variable {L : FLayout} {c m : Nat} {neg : Bool} {e : Int}

/-- The two shapes of a finite value: zero or subnormal, and normal. The top exponent field holds a finite value in no layout but one that
keeps only the all-ones fraction for NaN. -/
theorem FLayout.decode_eq_fin (h : L.decode c = .fin neg m e) : neg = natBit (L.eb + L.fb) c ∧
    (c / 2 ^ L.fb % 2 ^ L.eb = 0 ∧ m = c % 2 ^ L.fb ∧ e = 1 - (L.bias : Int) - L.fb ∨
      c / 2 ^ L.fb % 2 ^ L.eb ≠ 0 ∧ m = 2 ^ L.fb + c % 2 ^ L.fb ∧ e = ((c / 2 ^ L.fb % 2 ^ L.eb : Nat) : Int) - L.bias - L.fb ∧
        (c / 2 ^ L.fb % 2 ^ L.eb = 2 ^ L.eb - 1 → L.topFin = true ∧ c % 2 ^ L.fb ≠ 2 ^ L.fb - 1)) := by
  unfold FLayout.decode at h
  dsimp only at h
  split at h
  · next hexp =>
    injection h with hs hm he
    exact ⟨hs.symm, .inl ⟨hexp, hm.symm, he.symm⟩⟩
  · next hexp =>
    split at h
    · next htop =>
      split at h
      · next hfin =>
        split at h
        · contradiction
        · next hfrac =>
          injection h with hs hm he
          exact ⟨hs.symm, .inr ⟨hexp, hm.symm, he.symm, fun _ => ⟨hfin, hfrac⟩⟩⟩
      · split at h <;> contradiction
    · next htop =>
      injection h with hs hm he
      exact ⟨hs.symm, .inr ⟨hexp, hm.symm, he.symm, fun hk => absurd hk htop⟩⟩

/-- The last place of a decoded value is the one the layout gives a value of its size. -/
theorem FLayout.quantum_of_decode (h : L.decode c = .fin neg m e) (h0 : m ≠ 0) : L.quantum m e = e := by
  have hfrac : c % 2 ^ L.fb < 2 ^ L.fb := Nat.mod_lt _ (Nat.two_pow_pos _)
  obtain ⟨-, ⟨-, hm, he⟩ | ⟨hexp, hm, he, -⟩⟩ := FLayout.decode_eq_fin h
  · have hlog : Nat.log2 m < L.fb := (Nat.log2_lt h0).mpr (hm ▸ hfrac)
    rw [FLayout.quantum, ← he]
    exact max_eq_right (by omega)
  · have hlog : Nat.log2 m = L.fb := (Nat.log2_eq_iff h0).mpr ⟨by omega, by rw [pow_succ]; omega⟩
    rw [FLayout.quantum, hlog, max_eq_left (by omega)]
    omega

/-- No finite encoding's magnitude lies above the largest finite encoding. -/
theorem FLayout.mod_le_maxFin (hL : L.MaxFinIsLargest) (h : L.decode c = .fin neg m e) : c % 2 ^ (L.eb + L.fb) ≤ L.maxFin := by
  have hmax := hL.succ_maxFin
  have htwo : 2 ≤ 2 ^ L.eb := Nat.le_self_pow hL.exp_pos.ne' 2
  have hexp : c / 2 ^ L.fb % 2 ^ L.eb < 2 ^ L.eb := Nat.mod_lt _ (Nat.two_pow_pos _)
  have hfrac : c % 2 ^ L.fb < 2 ^ L.fb := Nat.mod_lt _ (Nat.two_pow_pos _)
  have htop : c / 2 ^ L.fb % 2 ^ L.eb = 2 ^ L.eb - 1 → L.topFin = true ∧ c % 2 ^ L.fb ≠ 2 ^ L.fb - 1 := by
    obtain ⟨-, ⟨hzero, -⟩ | ⟨-, -, -, htop⟩⟩ := FLayout.decode_eq_fin h
    · omega
    · exact htop
  rw [← FLayout.fields_eq_mod]
  by_cases hE : c / 2 ^ L.fb % 2 ^ L.eb = 2 ^ L.eb - 1
  · obtain ⟨hfin, hne⟩ := htop hE
    rw [if_pos hfin] at hmax
    rw [hE]
    omega
  · have hbelow : (c / 2 ^ L.fb % 2 ^ L.eb + 1) * 2 ^ L.fb ≤ (2 ^ L.eb - 1) * 2 ^ L.fb := Nat.mul_le_mul_right _ (by omega)
    rw [Nat.succ_mul] at hbelow
    split at hmax <;> omega

/-- The magnitude of a decoded value is encoded by the encoding's own magnitude bits. -/
theorem FLayout.rneMag_of_decode (hL : L.MaxFinIsLargest) (h : L.decode c = .fin neg m e) : L.rneMag m e = some (c % 2 ^ (L.eb + L.fb)) := by
  have hfields := L.fields_eq_mod c
  have hmax := FLayout.mod_le_maxFin hL h
  have hfrac : c % 2 ^ L.fb < 2 ^ L.fb := Nat.mod_lt _ (Nat.two_pow_pos _)
  have hfit : ∀ {x}, x < 2 ^ L.fb → 2 ^ L.fb + x < 2 ^ (L.fb + 1) := fun hx => by rw [pow_succ]; omega
  have hq := FLayout.quantum_of_decode h
  obtain ⟨-, ⟨hzero, hm, he⟩ | ⟨hexp, hm, he, -⟩⟩ := FLayout.decode_eq_fin h
  · rw [hzero, Nat.zero_mul, Nat.zero_add, ← hm] at hfields
    rw [← hm] at hfrac
    rw [← hfields] at hmax ⊢
    rcases eq_or_ne m 0 with h0 | h0
    · rw [FLayout.rneMag, if_pos h0, h0]
    · exact FLayout.rneMag_of_exact h0 ((Nat.le_add_left _ _).trans_lt (hfit hfrac)) (hq h0) (if_pos hfrac) hmax
  · have hpos : m ≠ 0 := by have := Nat.two_pow_pos L.fb; omega
    refine FLayout.rneMag_of_exact hpos (hm ▸ hfit hfrac) (hq hpos) ?_ hmax
    rw [if_neg (by omega), hm, he, ← hfields, Nat.add_sub_cancel_left]
    push_cast
    ring

end

/-- Settles O60: a finite encoding's value has the layout's own last place, so its magnitude bits come back from all three roundings, and its
sign bit with them. -/
theorem finiteEncodingsRoundToThemselves : Obligations.FiniteEncodingsRoundToThemselves := by
  unfold Obligations.FiniteEncodingsRoundToThemselves
  intro f L c neg m e hlayout hc hdec
  have hmag := FLayout.rneMag_of_decode (Fmt.layout_maxFinIsLargest hlayout) hdec
  have hsign : L.signBit neg + c % 2 ^ (L.eb + L.fb) = c := by
    obtain ⟨rfl, -⟩ := FLayout.decode_eq_fin hdec
    exact FLayout.signBit_add_mod hc
  rw [hdec, FLayout.conv_of_rneMag hmag, FLayout.arith_of_rneMag hmag, hsign]
  refine ⟨rfl, fun u _ => ?_, rfl⟩
  rw [FLayout.sr_of_rneMag (FLayout.quantum_of_decode hdec) hmag, hsign]

end Sys2Proof
end

section
/-! SUPPORT. The outcome of a region check (05_scaling_and_replay.md R106, R107, R110, R112, R113, Table 05.6): what ending a replay, noting an
outcome and going on leave of the schedule and of the plot, and the row of the table that each flag set takes. -/

namespace Sys2Proof.Machine

open Sys2Proof.Obl (Outcome)

variable {p : Nat} {g : RegionDef} {c : Check} {F n : Nat} {s t u : State}

/-! ### What deciding leaves of the state -/

/-- From s to t memory stays, and of the schedule all but the replay log, the steps' records and the count of events. -/
structure Decided (s t : State) : Prop where
  mem : t.mem = s.mem
  sch : t.sch = { s.sch with replays := t.sch.replays, recs := t.sch.recs, events := t.sch.events }

theorem Decided.refl (s : State) : Decided s s := ⟨rfl, rfl⟩

theorem Decided.trans (h : Decided s t) (k : Decided t u) : Decided s u :=
  ⟨k.mem.trans h.mem, k.sch.trans (by rw [h.sch])⟩

theorem Decided.of_eq (hmem : t.mem = s.mem) (hsch : t.sch = s.sch) : Decided s t := ⟨hmem, by rw [hsch]⟩

theorem Decided.step (h : Decided s t) : t.sch.step = s.sch.step := by rw [h.sch]
theorem Decided.clocks (h : Decided s t) : t.sch.clocks = s.sch.clocks := by rw [h.sch]

theorem Decided.scope_eq (h : Decided s t) (g : RegionDef) : t.scope g = s.scope g := by
  unfold State.scope
  rw [h.sch]

theorem Decided.body_eq (h : Decided s t) : t.body = s.body := by
  unfold State.body
  rw [h.sch]

theorem Decided.progOf_eq (h : Decided s t) (p : Nat) (st : Stream) : progOf t p st = progOf s p st := by
  unfold progOf
  rw [h.body_eq]

theorem Decided.allMates_eq (h : Decided s t) (g : RegionDef) (ps : List Nat) : allMates t g ps = allMates s g ps := by
  unfold allMates scopeMates
  rw [h.body_eq]

/-! ### The end of a replay (R110, R112) -/

/-- An outcome is noted by its step, region, level and scope, whatever its CLOCKS. -/
theorem outcomeNoted_of_clocks {f : ReplayEntry → ReplayEntry} (hf : ∀ e, ∃ k, f e = { e with clocks := k })
    (hreplays : t.sch.replays = s.sch.replays.map f) (hstep : t.sch.step = s.sch.step) (g : RegionDef) (c : Check) :
    outcomeNoted t g c = outcomeNoted s g c := by
  unfold outcomeNoted
  rw [hreplays, hstep, List.any_map]
  congr 1
  funext e
  obtain ⟨k, hk⟩ := hf e
  simp [hk]

/-- The replay of plot p, if any, has ended, though the plot still names it: no outcome is noted and no event counted. -/
structure ReplayEnded (p : Nat) (s t : State) : Prop extends Decided s t where
  wf : Tab.wf {} t.plots = true
  replay : (t.plot p).replay = (s.plot p).replay
  events : t.sch.events = s.sch.events
  noted : ∀ g c, outcomeNoted t g c = outcomeNoted s g c

theorem ReplayEnded.event {grp b src : Nat} {data : List Nat} (h : ReplayEnded p s t) : ReplayEnded p s (event grp b src data t) where
  toDecided := h.toDecided.trans (.of_eq (by simp) (by simp))
  wf := by rw [event_plots]; exact h.wf
  replay := by unfold State.plot; rw [event_plots]; exact h.replay
  events := by rw [event_sch]; exact h.events
  noted g c := by unfold outcomeNoted; rw [event_sch]; exact h.noted g c

theorem ReplayEnded.onPlot {f : Plot → Plot} (h : ReplayEnded p s t) (hf : ∀ q, (f q).replay = q.replay) : ReplayEnded p s (t.onPlot p f) where
  toDecided := h.toDecided.trans (.of_eq rfl rfl)
  wf := State.wf_plots_onPlot _ _ h.wf
  replay := by rw [State.plot_onPlot_self _ _ h.wf, hf, h.replay]
  events := h.events
  noted := h.noted

theorem ReplayEnded.onClocks {f : Schedule → ReplayEntry → ReplayEntry} (h : ReplayEnded p s t)
    (hf : ∀ c e, ∃ k, f c e = { e with clocks := k }) :
    ReplayEnded p s (t.onSch (fun c => { c with replays := c.replays.map (f c) })) where
  toDecided := h.toDecided.trans ⟨rfl, rfl⟩
  wf := h.wf
  replay := h.replay
  events := h.events
  noted g c := by rw [← h.noted g c]; exact outcomeNoted_of_clocks (s := t) (t := t.onSch _) (hf t.sch) rfl rfl g c

theorem replayEnded_endReplay (p : Nat) (g : RegionDef) (hw : Tab.wf {} s.plots = true) : ReplayEnded p s (endReplay p g s) := by
  have start : ReplayEnded p s s := ⟨.refl s, hw, rfl, rfl, fun _ _ => rfl⟩
  unfold endReplay
  split
  · exact start
  · dsimp only
    have hclocks : ∀ (b : Bool) (e : ReplayEntry) (n : Nat), ∃ k, (if b = true then { e with clocks := n } else e) = { e with clocks := k } :=
      fun b e n => by cases b <;> exact ⟨_, rfl⟩
    split
    · exact .event (.onPlot (.onClocks start fun _ _ => hclocks ..) fun _ => rfl)
    · exact .onPlot (.onClocks start fun _ _ => hclocks ..) fun _ => rfl

/-! ### An outcome noted (R110, R113, R116) -/

/-- The replay log entry of an outcome. -/
def outcomeEntry (p : Nat) (g : RegionDef) (c : Check) (to_ F : Nat) (sup : Bool) (s : State) : ReplayEntry :=
  ⟨s.sch.step, g.tag, flaggedPlot s p g, c.level, to_, F, sup, microIndex s, if to_ = 3 then checkClocks s c else 0, scopeNo g, false⟩

/-- The outcome is the newest of the replay log, k more events have been counted, and the plots stand as they were. -/
structure OutcomeNoted (e : ReplayEntry) (k : Nat) (s t : State) : Prop extends Decided s t where
  plots : t.plots = s.plots
  newest : t.sch.replays.getLast? = some e
  events : t.sch.events = s.sch.events + k

theorem outcomeNoted_putReplay (e : ReplayEntry) (s : State) : OutcomeNoted e 0 s (putReplay e s) := by
  unfold putReplay
  dsimp only
  split <;> exact ⟨⟨by simp, by simp⟩, by simp, by simp, by simp⟩

/-- A replay's outcome enters the log alone. -/
theorem outcomeNoted_of_replay {to_ : Nat} (hto : to_ ≠ 3) (sup : Bool) (h : outcomeNoted s g c = false) :
    OutcomeNoted (outcomeEntry p g c to_ F sup s) 0 s (noteOutcome p g c to_ F sup s) := by
  unfold noteOutcome
  simp only [h, if_neg hto, outcomeEntry, Bool.false_eq_true, if_false]
  exact outcomeNoted_putReplay _ s

/-- An outcome that counts enters the log, and the event's bit is set. -/
theorem outcomeNoted_of_event (sup : Bool) (h : outcomeNoted s g c = false) :
    OutcomeNoted (outcomeEntry p g c 3 F sup s) 1 s (noteOutcome p g c 3 F sup s) ∧ stickyBit (noteOutcome p g c 3 F sup s) 8 0 = true := by
  obtain ⟨hdec, hplots, hnewest, hevents⟩ := outcomeNoted_putReplay (outcomeEntry p g c 3 F sup s) s
  have hnote : noteOutcome p g c 3 F sup s = event 8 0 p [s.sch.step, p, g.tag]
      ((putReplay (outcomeEntry p g c 3 F sup s) s).onSch (fun c => { c with events := c.events + 1 })) := by
    simp [noteOutcome, h, outcomeEntry]
  rw [hnote]
  refine ⟨⟨hdec.trans ⟨?_, ?_⟩, ?_, ?_, ?_⟩, ?_⟩
  · simp
  · simp
  · simp [hplots]
  · simp [hnewest]
  · simp [hevents]
  · simp [stickyBit_event]

/-! ### Going on -/

/-- No marker of the bundle stands at instruction pc of plot p's primary stream. -/
def NoMarkerAt (s : State) (p pc : Nat) : Prop :=
  (progOf s p .primary)[pc]? ≠ some .tallyPoint ∧ ∀ n, (progOf s p .primary)[pc]? ≠ some (.arrive n)

theorem resumeAt_eq {pc : Nat} (tag : Nat) (hw : Tab.wf {} s.plots = true) (h : NoMarkerAt s p pc) :
    resumeAt p pc tag s = s.onPlot p (fun q => { clearRegion tag q with pcP := pc, replay := none, check := none }) := by
  refine settle_of_no_marker fun j hj => ?_
  unfold instrAt Plot.pc at hj
  dsimp only at hj
  rw [State.plot_onPlot_self _ _ hw] at hj
  obtain ⟨htally, harrive⟩ := h
  exact ⟨fun he => htally (he ▸ hj), fun n he => harrive n (he ▸ hj)⟩

/-- Plot p goes on at pc with neither replay nor check, and nothing but plots has changed. -/
structure Resumed (p pc : Nat) (s t : State) : Prop where
  eq : t = { s with plots := t.plots }
  pcP : (t.plot p).pcP = pc
  replay : (t.plot p).replay = none
  check : (t.plot p).check = none

theorem resumed_resumeAt {pc : Nat} (tag : Nat) (hw : Tab.wf {} s.plots = true) (h : NoMarkerAt s p pc) :
    Resumed p pc s (resumeAt p pc tag s) := by
  rw [resumeAt_eq tag hw h]
  refine ⟨rfl, ?_, ?_, ?_⟩ <;> rw [State.plot_onPlot_self _ _ hw]

theorem Resumed.sch {pc : Nat} (h : Resumed p pc s t) : t.sch = s.sch := by rw [h.eq]

theorem Resumed.stickyBit_eq {pc : Nat} (h : Resumed p pc s t) (grp b : Nat) : stickyBit t grp b = stickyBit s grp b := by
  rw [h.eq]
  rfl

theorem Resumed.decided {pc : Nat} (h : Resumed p pc s t) : Decided s t := .of_eq (by rw [h.eq]) h.sch

theorem Decided.noMarkerAt {pc : Nat} (h : Decided s t) (hm : NoMarkerAt s p pc) : NoMarkerAt t p pc := by
  unfold NoMarkerAt
  rw [h.progOf_eq]
  exact hm

/-! ### The rows of Table 05.6 -/

theorem range_flags_ne_zero (h : (natBit 1 F || natBit 2 F) = true) : F % 32 ≠ 0 := by
  intro h0
  have hbit : ∀ i < 5, natBit i F = false := fun i hi => by
    have := Nat.testBit_mod_two_pow F 5 i
    simpa [h0, hi, natBit_eq_testBit] using this.symm
  simp [hbit 1 (by decide), hbit 2 (by decide)] at h

/-- A check whose outcome is not noted yet, and no marker of the bundle stands where the plot may go on. -/
structure Undecided (p : Nat) (g : RegionDef) (c : Check) (s : State) : Prop where
  wf : Tab.wf {} s.plots = true
  new : outcomeNoted s g c = false
  next : NoMarkerAt s p (g.checkPc + 1)
  resume : NoMarkerAt s p g.resumePc

/-- The replay that led to a check ends before the check is decided, and leaves it to be decided. -/
theorem Undecided.endReplay (h : Undecided p g c s) : Undecided p g c (endReplay p g s) := by
  have hend := replayEnded_endReplay p g h.wf
  exact ⟨hend.wf, by rw [hend.noted, h.new], hend.noMarkerAt h.next, hend.noMarkerAt h.resume⟩

theorem OutcomeNoted.wf {e : ReplayEntry} {k : Nat} (h : OutcomeNoted e k s t) (hw : Tab.wf {} s.plots = true) : Tab.wf {} t.plots = true := by
  rw [h.plots]
  exact hw

/-- Without flags no outcome is noted (the first row). -/
theorem decideScope_of_clear (h : F % 32 = 0) : decideScope p g c F n s =
    resumeAt p (if ((endReplay p g s).plot p).replay.isSome then g.resumePc else g.checkPc + 1) g.tag (endReplay p g s) := if_pos h

/-- Only a range event below level 2 replays, and only before the first event (R107, R113). -/
theorem decideScope_of_range (hF : (natBit 1 F || natBit 2 F) = true) (hlevel : c.level < 2) : decideScope p g c F n s =
    if n = 0 then startReplay p g c (c.level + 1) (noteOutcome p g c (c.level + 1) F false (endReplay p g s))
    else resumeAt p g.resumePc g.tag (noteOutcome p g c 3 F true (endReplay p g s)) := by
  have hne := range_flags_ne_zero hF
  by_cases hn : n = 0 <;> simp [decideScope, hF, hlevel, hne, hn]

theorem decideScope_of_nonfinite (hF : F % 32 ≠ 0) (h : 2 ≤ c.level ∨ (natBit 1 F || natBit 2 F) = false) :
    decideScope p g c F n s = resumeAt p g.resumePc g.tag (noteOutcome p g c 3 F false (endReplay p g s)) := by
  have hno : ((natBit 1 F || natBit 2 F) && decide (c.level < 2)) = false := by
    rcases h with h | h
    · simp [Nat.not_lt.mpr h]
    · simp [h]
  simp only [decideScope, if_neg hF, hno, Bool.false_and, Bool.false_eq_true, if_false]

/-- An outcome that counts one event, suppressed or not: the plot goes on at RESUME_PC. -/
theorem resumes_of_event (sup : Bool) (h : Undecided p g c s) (ht : t = resumeAt p g.resumePc g.tag (noteOutcome p g c 3 F sup s)) :
    (t.plot p).pcP = g.resumePc ∧ (t.plot p).replay = none ∧ t.sch.events = s.sch.events + 1 ∧ stickyBit t 8 0 = true ∧
      t.sch.replays.getLast? = some (outcomeEntry p g c 3 F sup s) ∧ Decided s t := by
  obtain ⟨hnoted, hbit⟩ := outcomeNoted_of_event (p := p) (F := F) sup h.new
  have hres : Resumed p g.resumePc (noteOutcome p g c 3 F sup s) t :=
    ht ▸ resumed_resumeAt g.tag (hnoted.wf h.wf) (hnoted.noMarkerAt h.resume)
  exact ⟨hres.pcP, hres.replay, by rw [hres.sch, hnoted.events], by rw [hres.stickyBit_eq, hbit], by rw [hres.sch, hnoted.newest],
    hnoted.toDecided.trans hres.decided⟩

/-- A widening replay: the plot enters its program, and no event counts. -/
theorem replays_of_range (h : Undecided p g c s) (hlevel : c.level < 2)
    (ht : t = startReplay p g c (c.level + 1) (noteOutcome p g c (c.level + 1) F false s)) :
    (t.plot p).pcP = (if c.level = 0 then g.wide16 else g.wide32) ∧
      (t.plot p).replay = some ⟨if c.level = 0 then g.end16 else g.end32, g.tag, c.level + 1, c.since, s.sch.clocks⟩ ∧
      (t.plot p).check = none ∧ t.sch.events = s.sch.events ∧
      t.sch.replays.getLast? = some (outcomeEntry p g c (c.level + 1) F false s) ∧ Decided s t := by
  have hnoted := outcomeNoted_of_replay (p := p) (g := g) (c := c) (F := F) (to_ := c.level + 1) (by omega) false h.new
  subst ht
  unfold startReplay
  rw [State.plot_onPlot_self _ _ (hnoted.wf h.wf)]
  refine ⟨?_, ?_, rfl, hnoted.events, hnoted.newest, hnoted.toDecided.trans (.of_eq rfl rfl)⟩
  · simp
  · simp [hnoted.clocks]

/-- Table 05.6, row by row. -/
theorem outcome_decideScope (h : Undecided p g c s) : Outcome s p g c F n (decideScope p g c F n s) := by
  have hend := replayEnded_endReplay p g h.wf
  refine ⟨fun hF => ?clear, fun hF hlevel hn => ?replay, fun hF hlevel hn => ?suppressed, fun hF hlevel _ => ?nonfinite⟩
  case clear =>
    have hmark : NoMarkerAt (endReplay p g s) p (if (s.plot p).replay.isSome then g.resumePc else g.checkPc + 1) := by
      split
      · exact h.endReplay.resume
      · exact h.endReplay.next
    have hres := resumed_resumeAt g.tag hend.wf hmark
    rw [decideScope_of_clear hF, hend.replay]
    exact ⟨hres.pcP, hres.replay, hres.check, by rw [hres.sch, hend.events]⟩
  case replay =>
    obtain ⟨hpc, hreplay, hcheck, hevents, hlast, -⟩ := replays_of_range h.endReplay hlevel ((decideScope_of_range hF hlevel).trans (if_pos hn))
    exact ⟨hpc, by rw [hreplay, hend.clocks], hcheck, by rw [hevents, hend.events], _, hlast, hend.step, rfl, rfl, rfl, rfl, rfl⟩
  case suppressed =>
    obtain ⟨hpc, hreplay, hevents, -, hlast, -⟩ := resumes_of_event true h.endReplay ((decideScope_of_range hF hlevel).trans (if_neg hn.ne'))
    exact ⟨hpc, hreplay, by rw [hevents, hend.events], _, hlast, rfl, rfl, rfl⟩
  case nonfinite =>
    obtain ⟨hpc, hreplay, hevents, hbit, hlast, -⟩ := resumes_of_event false h.endReplay
      (decideScope_of_nonfinite hF (hlevel.imp_left ge_of_eq))
    exact ⟨hpc, hreplay, by rw [hevents, hend.events], hbit, _, hlast, rfl, rfl, rfl⟩

theorem decided_decideScope (h : Undecided p g c s) : Decided s (decideScope p g c F n s) := by
  have hend := replayEnded_endReplay p g h.wf
  by_cases hF : F % 32 = 0
  · rw [decideScope_of_clear hF]
    split
    · exact hend.toDecided.trans (resumed_resumeAt g.tag hend.wf h.endReplay.resume).decided
    · exact hend.toDecided.trans (resumed_resumeAt g.tag hend.wf h.endReplay.next).decided
  · by_cases hr : (natBit 1 F || natBit 2 F) = true ∧ c.level < 2
    · obtain ⟨hrange, hlevel⟩ := hr
      rw [decideScope_of_range hrange hlevel]
      split
      · obtain ⟨-, -, -, -, -, hdec⟩ := replays_of_range h.endReplay hlevel rfl
        exact hend.toDecided.trans hdec
      · obtain ⟨-, -, -, -, -, hdec⟩ := resumes_of_event true h.endReplay rfl
        exact hend.toDecided.trans hdec
    · obtain ⟨-, -, -, -, -, hdec⟩ := resumes_of_event (F := F) false h.endReplay rfl
      have hno : 2 ≤ c.level ∨ (natBit 1 F || natBit 2 F) = false := by
        rw [← Bool.not_eq_true, ← Nat.not_lt]
        tauto
      rw [decideScope_of_nonfinite hF hno]
      exact hend.toDecided.trans hdec

end Sys2Proof.Machine
end

section
/-! SUPPORT. Reports to a scope (05_scaling_and_replay.md R106, 11_schedules_and_collectives.md R272, R274): what a report leaves of memory, of the
plots and of the scope. -/

namespace Sys2Proof.Machine

variable {s₀ s t : State}

/-! ### Fabric tallies leave memory and the plots alone -/

/-- Memory and the plots stay on the way from s₀ to s. -/
structure SamePlots (s₀ s : State) : Prop where
  mem : s.mem = s₀.mem
  plots : s.plots = s₀.plots

protected theorem SamePlots.refl (s : State) : SamePlots s s := ⟨rfl, rfl⟩

protected theorem SamePlots.onFab {fab} (h : SamePlots s₀ s) : SamePlots s₀ { s with fab := fab } := ⟨h.mem, h.plots⟩
protected theorem SamePlots.onSch {sch} (h : SamePlots s₀ s) : SamePlots s₀ { s with sch := sch } := ⟨h.mem, h.plots⟩
protected theorem SamePlots.onGrn {grn} (h : SamePlots s₀ s) : SamePlots s₀ { s with grn := grn } := ⟨h.mem, h.plots⟩

protected theorem SamePlots.event {g b src data} (h : SamePlots s₀ s) : SamePlots s₀ (event g b src data s) :=
  ⟨(event_mem ..).trans h.mem, (event_plots ..).trans h.plots⟩

protected theorem SamePlots.ite {c : Prop} {_ : Decidable c} (hs : SamePlots s₀ s) (ht : SamePlots s₀ t) :
    SamePlots s₀ (if c then s else t) := by
  split <;> assumption

protected theorem SamePlots.each {α : Type} {f : α → State → State} {xs : List α} (h : SamePlots s₀ s)
    (hf : ∀ x t, SamePlots s₀ t → SamePlots s₀ (f x t)) : SamePlots s₀ (State.each f xs s) := State.each_inv _ f hf xs s h

protected theorem SamePlots.pushNet {p cls words} (h : SamePlots s₀ s) : SamePlots s₀ (pushNet p cls words s) :=
  .ite (.ite h.onFab h.onFab.event) h

protected theorem SamePlots.toChildren {t cls words} (h : SamePlots s₀ s) : SamePlots s₀ (toChildren t cls words s) :=
  h.each fun _ _ ht => ht.pushNet

protected theorem SamePlots.onTally {n f} (h : SamePlots s₀ s) : SamePlots s₀ (State.onTally n f s) := h.onFab
protected theorem SamePlots.closeTally {n} (h : SamePlots s₀ s) : SamePlots s₀ (closeTally n s) := h.onFab
protected theorem SamePlots.syncEvent {b x} (h : SamePlots s₀ s) : SamePlots s₀ (syncEvent b x s) := h.event
protected theorem SamePlots.syncCount {b x} (h : SamePlots s₀ s) : SamePlots s₀ (syncCount b x s) := h.onFab.syncEvent
protected theorem SamePlots.onScope {k f} (h : SamePlots s₀ s) : SamePlots s₀ (State.onScope k f s) := h.onSch
protected theorem SamePlots.scopeWhole {k} (h : SamePlots s₀ s) : SamePlots s₀ (scopeWhole k s) := h.onScope

protected theorem SamePlots.scopeLaneIn {fid lane value} (h : SamePlots s₀ s) : SamePlots s₀ (scopeLaneIn fid lane value s) := by
  refine h.each fun _ _ ht => ?_
  split
  · have hlane := fun k f => SamePlots.onScope (k := k) (f := f) ht
    exact .ite (.ite (hlane ..).scopeWhole (hlane ..)) ht
  · exact ht

protected theorem SamePlots.applyCombined {fid lane value} (h : SamePlots s₀ s) : SamePlots s₀ (applyCombined fid lane value s) :=
  (h.scopeLaneIn.each fun _ _ ht => .ite ht.onSch ht).each fun _ _ ht => .ite ht.onGrn ht

protected theorem SamePlots.tallyReach {fid d node} (h : SamePlots s₀ s) : SamePlots s₀ (tallyReach fid d node s) := by
  unfold tallyReach
  dsimp only
  split
  · exact (h.each fun _ _ ht => ht.pushNet).onTally
  · exact h
  · exact .ite ((h.each fun _ _ ht => ht.toChildren).closeTally.each fun _ _ ht => ht.applyCombined) h.onTally

protected theorem SamePlots.tallyCheck {fid d node} (h : SamePlots s₀ s) : SamePlots s₀ (tallyCheck fid d node s) := .ite h.tallyReach h

protected theorem SamePlots.tallyAdd {fid d node who count vs} (h : SamePlots s₀ s) : SamePlots s₀ (tallyAdd fid d node who count vs s) :=
  .ite h.syncEvent h.onTally

protected theorem SamePlots.tallyProxies {fid d node} (h : SamePlots s₀ s) : SamePlots s₀ (tallyProxies fid d node s) :=
  h.each fun _ _ ht => .ite ht.tallyAdd.onTally.syncCount ht

protected theorem SamePlots.tallyOwn {fid vs} (h : SamePlots s₀ s) : SamePlots s₀ (tallyOwn fid vs s) := by
  unfold tallyOwn
  split
  · exact h
  · exact
      have hclosed := SamePlots.ite h.syncEvent.closeTally h
      .ite hclosed hclosed.tallyAdd.onTally.tallyProxies.tallyCheck

/-! ### A LOCAL tally's posts change semaphores only -/

/-- From s₀ to s memory and plot p's place stay: its check and its primary stream's instruction. -/
structure StaysAtCheck (p : Nat) (s₀ s : State) : Prop where
  mem : s.mem = s₀.mem
  wf : Tab.wf {} s.plots = true
  check : (s.plot p).check = (s₀.plot p).check
  pcP : (s.plot p).pcP = (s₀.plot p).pcP

section
variable {p : Nat}

protected theorem StaysAtCheck.refl (hw : Tab.wf {} s.plots = true) : StaysAtCheck p s s := ⟨rfl, hw, rfl, rfl⟩

protected theorem StaysAtCheck.trans (h : StaysAtCheck p s₀ s) (k : StaysAtCheck p s t) : StaysAtCheck p s₀ t :=
  ⟨k.mem.trans h.mem, k.wf, k.check.trans h.check, k.pcP.trans h.pcP⟩

protected theorem StaysAtCheck.samePlots (h : StaysAtCheck p s₀ s) (k : SamePlots s t) : StaysAtCheck p s₀ t := by
  have hplot : t.plot p = s.plot p := congrArg (fun x : Tab Plot => Tab.get ({} : Plot) x p) k.plots
  exact ⟨k.mem.trans h.mem, k.plots ▸ h.wf, hplot ▸ h.check, hplot ▸ h.pcP⟩

protected theorem StaysAtCheck.sems {j : Nat} {f : Plot → Tab Sem} (h : StaysAtCheck p s₀ s) :
    StaysAtCheck p s₀ (s.onPlot j (fun q => { q with sems := f q })) where
  mem := h.mem
  wf := State.wf_plots_onPlot _ _ h.wf
  check := by
    rw [State.plot_onPlot _ _ _ _ h.wf, ← h.check]
    split
    · next hj => rw [hj]
    · rfl
  pcP := by
    rw [State.plot_onPlot _ _ _ _ h.wf, ← h.pcP]
    split
    · next hj => rw [hj]
    · rfl

protected theorem StaysAtCheck.semPostAt {j n : Nat} {d : Int} (h : StaysAtCheck p s₀ s) : StaysAtCheck p s₀ (semPostAt j n d s) := by
  have event : ∀ {t g b src data}, StaysAtCheck p s₀ t → StaysAtCheck p s₀ (event g b src data t) :=
    fun ht => ht.samePlots (SamePlots.refl _).event
  unfold semPostAt
  dsimp only
  repeat' split
  · exact event h
  · exact event h.sems
  · exact event h.sems
  · exact h.sems

protected theorem StaysAtCheck.localArrive {n : Nat} (h : StaysAtCheck p s₀ s) : StaysAtCheck p s₀ (localArrive n s) := by
  unfold localArrive
  split
  · dsimp only
    have hcount : ∀ f, StaysAtCheck p s₀ (s.onFab f) := fun f => h.samePlots (SamePlots.refl s).onFab
    repeat' split
    · exact State.each_inv _ _ (fun _ _ ht => ht.semPostAt) _ _ (hcount _)
    · exact hcount _
    · exact h
  · exact h

end

/-! ### The scope after a report -/

@[simp] theorem semPostAt_sch (p n : Nat) (d : Int) (s : State) : (semPostAt p n d s).sch = s.sch := by
  unfold semPostAt
  dsimp only
  repeat' split
  all_goals simp

@[simp] theorem localArrive_sch (n : Nat) (s : State) : (localArrive n s).sch = s.sch := by
  unfold localArrive
  split
  · dsimp only
    repeat' split
    · exact State.each_keeps State.sch _ (fun _ _ => semPostAt_sch ..) _ _
    · rfl
    · rfl
  · rfl

section
variable {g : RegionDef}

theorem allMates_of_sch (h : t.sch = s.sch) (g : RegionDef) (ps : List Nat) : allMates t g ps = allMates s g ps := by
  unfold allMates scopeMates State.body
  rw [h]

/-- A change of a scope that does not leave it empty is read back, whatever the table of scopes. -/
theorem State.scope_onScope {f : Scope → Scope} (h : f (s.scope g) ≠ {}) : (State.onScope (scopeKey g) f s).scope g = f (s.scope g) :=
  (Tab.get_modify_of_ne h _).trans (if_pos rfl)

/-- The plots whose reports make the scope's next combination. -/
def reporters (x : Scope) : List Nat := if x.passed.isEmpty || x.doneA then x.flagged else x.passed

/-- A plot's report to a LOCAL tally: one arrival, and the last member's makes the scope whole. -/
theorem scopeArrive_of_local {d : TallyDef} (htally : tallyDef s g.scopeTally = some d) (hkind : d.kind = .localT) :
    scopeArrive false g s = if allMates s g (reporters (s.scope g)) then scopeWhole (scopeKey g) (localArrive g.scopeTally s)
      else localArrive g.scopeTally s := by
  unfold scopeArrive
  simp only [htally, hkind, if_true, Bool.false_eq_true, if_false, allMates_of_sch (localArrive_sch g.scopeTally s)]
  rfl

/-- A report to a fabric tally, or to none: only a module whose plots have all reported arrives. -/
theorem scopeArrive_of_not_local (h : ∀ d, tallyDef s g.scopeTally = some d → d.kind ≠ .localT) :
    SamePlots s (scopeArrive false g s) ∧ (allMates s g (reporters (s.scope g)) = false → scopeArrive false g s = s) := by
  unfold scopeArrive
  dsimp only
  split
  · exact ⟨.refl s, fun _ => rfl⟩
  · next d hd =>
    rw [if_neg (h d hd)]
    refine ⟨.ite (SamePlots.refl s).onScope.tallyOwn (.refl s), fun hwait => ?_⟩
    unfold reporters at hwait
    rw [hwait]
    rfl

/-- A report leaves memory and the plots' places, and the scope too until every member has reported. -/
theorem scopeArrive_spec (p : Nat) (g : RegionDef) (hw : Tab.wf {} s.plots = true) : StaysAtCheck p s (scopeArrive false g s) ∧
    (allMates s g (reporters (s.scope g)) = false → (scopeArrive false g s).sch = s.sch) := by
  have hstay := StaysAtCheck.refl (p := p) hw
  by_cases hlocal : ∃ d, tallyDef s g.scopeTally = some d ∧ d.kind = .localT
  · obtain ⟨d, htally, hkind⟩ := hlocal
    rw [scopeArrive_of_local htally hkind]
    split
    · next hall => exact ⟨hstay.localArrive.samePlots (SamePlots.refl _).scopeWhole, fun hwait => absurd (hwait.symm.trans hall) (by decide)⟩
    · exact ⟨hstay.localArrive, fun _ => localArrive_sch ..⟩
  · obtain ⟨hsame, hwait⟩ := scopeArrive_of_not_local (g := g) (fun d hd hk => hlocal ⟨d, hd, hk⟩)
    exact ⟨hstay.samePlots hsame, fun h => by rw [hwait h]⟩

/-- The members' flags are whole, and no PRESENT pass is waited for (R106). -/
theorem scope_scopeWhole (h : (s.scope g).passed = [] ∨ (s.scope g).doneA = true) :
    (scopeWhole (scopeKey g) s).scope g = { s.scope g with doneF := true, arrived := false, events := s.sch.events } := by
  have hflags : ((s.scope g).passed.isEmpty || (s.scope g).doneA) = true := by simpa using h
  unfold scopeWhole
  rw [State.scope_onScope]
  · exact if_pos hflags
  · rw [if_pos hflags]
    exact fun he => Bool.noConfusion (congrArg Scope.doneF he : true = false)

end

end Sys2Proof.Machine
end

section
/-! PROOFS. Region checks and scope decisions (05_scaling_and_replay.md R105 to R110, R112, R113, Table 05.6). -/

namespace Sys2Proof.Machine

open Sys2Proof.Obl (Outcome)

variable {g : RegionDef} {c : Check} {s t : State}

/-! ### The plot at its check -/

/-- Plot p has reached check c. -/
def atCheck (p : Nat) (c : Check) (s : State) : State := s.onPlot p (fun q => { q with check := some c })

section
variable {p : Nat} (hw : Tab.wf {} s.plots = true)
include hw

theorem wf_atCheck (c : Check) : Tab.wf {} (atCheck p c s).plots = true := State.wf_plots_onPlot _ _ hw

theorem plot_atCheck (c : Check) : (atCheck p c s).plot p = { s.plot p with check := some c } := State.plot_onPlot_self _ _ hw

theorem regionBusy_atCheck (c : Check) (tag : Nat) : regionBusy (atCheck p c s) p tag = regionBusy s p tag := by
  have hstore : ∀ off n, storeBytes (atCheck p c s) p off n = storeBytes s p off n := fun _ _ =>
    rawBytes_congr_mem (s := s) (t := atCheck p c s) rfl rfl _ _
  have hloop : ∀ off, loopAt (atCheck p c s) p off = loopAt s p off := fun _ => by simp only [loopAt, hstore]
  have hroot : ∀ off, rootAt (atCheck p c s) p off = rootAt s p off := fun _ => by simp only [rootAt, hstore]
  simp only [regionBusy, plot_atCheck hw, hloop, hroot]

theorem regionFlags_atCheck (c : Check) (tag : Nat) : regionFlags (atCheck p c s) p tag = regionFlags s p tag := by
  unfold regionFlags
  rw [plot_atCheck hw]

/-- A plot's check is none of what Table 05.6 goes by. -/
theorem outcome_of_atCheck {r : Check} {F n : Nat} (h : Outcome (atCheck p r s) p g c F n t) : Outcome s p g c F n t := by
  unfold Outcome at h
  rw [plot_atCheck hw] at h
  exact h

end

/-! ### The two commands -/

section
variable {p : Fin 64} {level : Nat}

theorem exec_regionCheck_of_none (h : checkAt s p = none) : exec (.regionCheck p) s = .next s := by
  change execRegionCheck p s = .next s
  unfold execRegionCheck
  rw [h]
  simp

theorem exec_regionCheck (hissues : issues s = true) (hstop : (s.plot p).stopped = false) (hw : Tab.wf {} s.plots = true)
    (hat : checkAt s p = some (g, level)) (hc : c = (s.plot p).check.getD ⟨g.tag, level, s.sch.clocks, false⟩) :
    exec (.regionCheck p) s = .next (if regionBusy s p g.tag then atCheck p c s
      else if g.scopeEn then
        if (s.scope g).doneF then atCheck p c s
        else if c.reported then scopeArrive true g (atCheck p c s)
        else reportFlags p g (atCheck p { c with reported := true } (atCheck p c s))
      else decideScope p g c (regionFlags s p g.tag) s.sch.events (atCheck p c s)) := by
  change execRegionCheck p s = _
  unfold execRegionCheck
  rw [hat, ← regionBusy_atCheck hw c, ← regionFlags_atCheck hw c]
  simp only [hissues, hstop, Bool.not_true, Bool.or_false, Bool.false_eq_true, if_false, ← hc]
  rfl

theorem exec_scopeDecision_of_check (hcheck : (s.plot p).check = some c) (hreported : c.reported = true)
    (hregion : regionOf s p c.tag = some g) (hdone : (s.scope g).doneF = true) (hacted : p.val ∉ (s.scope g).acted) :
    exec (.scopeDecision p) s = .next (actedOn p g (decideScope p g c (s.scope g).flags (s.scope g).events s)) := by
  change execScopeDecision p s = _
  simp [execScopeDecision, hcheck, hreported, hregion, hdone, hacted]

theorem exec_scopeDecision_of_pass (hcheck : (s.plot p).check = none) (hregion : replayRegion s p = some g)
    (hpass : (s.plot p).passOne = true) (hdone : (s.scope g).doneA = true) (hacted : p.val ∉ (s.scope g).acted) :
    exec (.scopeDecision p) s = .next (actedOn p g (s.onPlot p (fun q => { q with scopeAmax := some (s.scope g).amax }))) := by
  change execScopeDecision p s = _
  simp [execScopeDecision, hcheck, hregion, hpass, hdone, hacted]

theorem exec_scopeDecision_of_none (hcheck : (s.plot p).check = none) (hreplay : (s.plot p).replay = none) :
    exec (.scopeDecision p) s = .next s := by
  change execScopeDecision p s = _
  simp [execScopeDecision, hcheck, replayRegion, hreplay]

end

/-! ### A plot that has acted on its scope -/

theorem actedOn_eq (p : Nat) (g : RegionDef) (s : State) :
    actedOn p g s = { s with sch := { s.sch with scopes := (actedOn p g s).sch.scopes } } := by
  unfold actedOn
  dsimp only
  split <;> rfl

@[simp] theorem actedOn_mem (p : Nat) (g : RegionDef) (s : State) : (actedOn p g s).mem = s.mem := by rw [actedOn_eq]

@[simp] theorem plot_actedOn (p : Nat) (g : RegionDef) (s : State) (j : Nat) : (actedOn p g s).plot j = s.plot j := by
  rw [actedOn_eq]
  rfl

theorem outcome_actedOn {u : State} {p q F n : Nat} (h : Outcome s p g c F n u) : Outcome s p g c F n (actedOn q g u) := by
  rw [actedOn_eq]
  exact h

/-- While another member has still to act, what was gathered stays. -/
theorem scope_actedOn {p : Nat} (h : allMates s g ((s.scope g).acted ++ [p]) = false) :
    (actedOn p g s).scope g = { s.scope g with acted := (s.scope g).acted ++ [p] } := by
  have hadd : (State.onScope (scopeKey g) (fun x => { x with acted := x.acted ++ [p] }) s).scope g =
      { s.scope g with acted := (s.scope g).acted ++ [p] } :=
    State.scope_onScope fun he => List.concat_ne_nil p (s.scope g).acted (by simpa using congrArg Scope.acted he)
  unfold actedOn
  dsimp only
  rw [hadd, if_neg]
  · exact hadd
  · exact Bool.eq_false_iff.mp h

/-! ### Reports -/

/-- A scope with a report of plot p: its flags F and its amax. -/
def Scope.joined (x : Scope) (p F amax : Nat) : Scope :=
  { x with flagged := x.flagged ++ [p], flags := x.flags ||| F, amax := max x.amax amax }

section
variable {p : Nat} {y : Scope} (hy : y = (s.scope g).joined p (regionFlags s p g.tag) ((s.plot p).regAmax.get 0 g.tag))
include hy

/-- The report joins the scope before the arrival that it may cause. -/
theorem reportFlags_eq : ∃ t, reportFlags p g s = scopeArrive false g t ∧ t = { s with sch := { s.sch with scopes := t.sch.scopes } } ∧
    t.scope g = y := by
  refine ⟨_, rfl, rfl, ?_⟩
  rw [hy, State.scope_onScope]
  · rfl
  · exact fun he => List.concat_ne_nil p (s.scope g).flagged (by simpa using congrArg Scope.flagged he)

theorem reportFlags_spec (hw : Tab.wf {} s.plots = true) (hpass : y.passed = [] ∨ y.doneA = true) :
    StaysAtCheck p s (reportFlags p g s) ∧ (allMates s g y.flagged = false → (reportFlags p g s).scope g = y) ∧
      ∀ d, allMates s g y.flagged = true → tallyDef s g.scopeTally = some d → d.kind = .localT →
        (reportFlags p g s).scope g = { y with doneF := true, arrived := false, events := s.sch.events } := by
  obtain ⟨t, hreport, ht, hscope⟩ := reportFlags_eq hy
  have hsame : SamePlots s t := by rw [ht]; exact (SamePlots.refl s).onSch
  have hmates : ∀ ps, allMates t g ps = allMates s g ps := fun ps => by rw [ht]; rfl
  have htally : tallyDef t = tallyDef s := by rw [ht]; rfl
  have hevents : t.sch.events = s.sch.events := by rw [ht]
  have hreporters : reporters y = y.flagged := if_pos (by simpa using hpass)
  obtain ⟨hstay, hwait⟩ := scopeArrive_spec (s := t) p g (by rw [hsame.plots]; exact hw)
  rw [hscope, hreporters, hmates] at hwait
  rw [hreport]
  refine ⟨((StaysAtCheck.refl hw).samePlots hsame).trans hstay, fun h => ?_, fun d hall hd hkind => ?_⟩
  · rw [← hscope, State.scope, hwait h, State.scope]
  · have hlocal : (localArrive g.scopeTally t).scope g = y := by rw [State.scope, localArrive_sch]; exact hscope
    rw [scopeArrive_of_local (htally ▸ hd) hkind, hscope, hreporters, hmates, if_pos hall, scope_scopeWhole (hlocal ▸ hpass), hlocal,
      localArrive_sch, hevents]

end

/-! ### The obligation -/

/-- The hypotheses about the check make it one to decide. -/
theorem undecided_of_next {p : Nat} (hw : Tab.wf {} s.plots = true) (hnew : outcomeNoted s g c = false)
    (hnext : ∀ j ∈ [(progOf s p .primary)[g.checkPc + 1]?, (progOf s p .primary)[g.resumePc]?],
      j ≠ some .tallyPoint ∧ ∀ n, j ≠ some (.arrive n)) : Undecided p g c s :=
  ⟨hw, hnew, hnext _ (by simp), hnext _ (by simp)⟩

/-- Settles O43: a check alone decides by the rows of `outcome_decideScope`, a check with a scope reports by `reportFlags_spec`, and a
decision acts by the same rows before the scope has it as acted. -/
theorem regionChecksFollowTheOutcomeTable : Obligations.RegionChecksFollowTheOutcomeTable := by
  unfold Obligations.RegionChecksFollowTheOutcomeTable
  refine ⟨fun p s g level c hissues hstop hw hat hc => ⟨fun hbusy => ?busy, fun hbusy halone hnew hnext => ?alone,
      fun x y hbusy hscope hrep hx hdone hpass hy => ?report⟩,
    fun p s g c hcheck hrep hw hregion hdone hacted hnew hnext => ?decision, fun p s g hcheck hw hregion hpass hdone hacted => ?pass,
    fun p s => exec_scopeDecision_of_none, fun p s => exec_regionCheck_of_none⟩
  case busy => rw [exec_regionCheck hissues hstop hw hat hc, if_pos hbusy, atCheck]
  case alone =>
    have hund : Undecided p g c (atCheck p c s) := undecided_of_next (wf_atCheck hw c) hnew hnext
    rw [exec_regionCheck hissues hstop hw hat hc, hbusy, halone]
    exact ⟨_, rfl, outcome_of_atCheck hw (outcome_decideScope hund), (decided_decideScope hund).mem⟩
  case report =>
    subst hx
    have hw' := wf_atCheck (p := p) hw c
    have hplot : (atCheck p { c with reported := true } (atCheck p c s)).plot p = { s.plot p with check := some { c with reported := true } } := by
      rw [plot_atCheck hw', plot_atCheck hw]
    have hjoined : y = (s.scope g).joined p (regionFlags (atCheck p { c with reported := true } (atCheck p c s)) p g.tag)
        (((atCheck p { c with reported := true } (atCheck p c s)).plot p).regAmax.get 0 g.tag) := by
      rw [regionFlags_atCheck hw', regionFlags_atCheck hw, hplot, hy, Scope.joined]
    obtain ⟨hstay, hwait, hlocal⟩ := reportFlags_spec hjoined (wf_atCheck hw' _) (hy ▸ hpass)
    simp only [exec_regionCheck hissues hstop hw hat hc, hbusy, hscope, hdone, hrep, Bool.false_eq_true, if_true, if_false]
    exact ⟨_, rfl, by rw [hstay.check, hplot], by rw [hstay.pcP, hplot], hstay.mem, hwait, fun d hall hd hkind _ => hlocal d hall hd hkind⟩
  case decision =>
    have hund := undecided_of_next hw hnew hnext
    have hdec := decided_decideScope (F := (s.scope g).flags) (n := (s.scope g).events) hund
    refine ⟨_, exec_scopeDecision_of_check hcheck hrep hregion hdone hacted, outcome_actedOn (outcome_decideScope hund),
      (actedOn_mem ..).trans hdec.mem, fun hwait => ?_⟩
    rw [scope_actedOn (by rw [hdec.scope_eq, hdec.allMates_eq, hwait]), hdec.scope_eq]
  case pass =>
    refine ⟨_, exec_scopeDecision_of_pass hcheck hregion hpass hdone hacted, by rw [actedOn_eq]; rfl, ?_, fun j hj => ?_⟩
    · rw [plot_actedOn, State.plot_onPlot_self _ _ hw]
    · rw [plot_actedOn, State.plot_onPlot _ _ _ _ hw, if_neg hj]

end Sys2Proof.Machine
end

section
/-! SUPPORT. Hints (06_memory_tiers.md R128): the operations of an access on two states that differ at most in the Malt cache's lines and
the Kiln codec's counts leave states that differ at most so. -/

namespace Sys2Proof.Machine

open Sys2Proof.Obl (SameButCache)

/-- The state with other lines in the Malt cache and other counts of the Kiln codec. -/
def withCache (ls : Tab (List MaltLine)) (k : Tab Nat) (s : State) : State := { s with mem := { s.mem with malt := ls, kiln := k } }

variable {s t : State}

theorem sameButCache_symm (h : SameButCache s t) : SameButCache t s := by
  unfold SameButCache at h ⊢
  rw [h]

/-- What does not look at the cache does not tell such states apart. -/
theorem sameButCache_congr {f : State → State} (hf : ∀ ls k s, f (withCache ls k s) = withCache ls k (f s)) (h : SameButCache s t) :
    SameButCache (f s) (f t) := by
  have ht : t = withCache t.mem.malt t.mem.kiln s := h
  rw [ht, hf]
  rfl

/-! ### Events do not look at the cache -/

section
variable (ls : Tab (List MaltLine)) (k : Tab Nat) (s : State)

theorem eventIrq_withCache : eventIrq (withCache ls k s) = withCache ls k (eventIrq s) := by
  have hirq (v : Nat) : raiseIrq v (withCache ls k s) = withCache ls k (raiseIrq v s) := by
    rw [raiseIrq, raiseIrq, apply_ite (withCache ls k), apply_ite (withCache ls k)]
    rfl
  rw [eventIrq, eventIrq, apply_ite (withCache ls k), ← hirq]
  rfl

theorem setSticky_withCache (g b : Nat) : setSticky g b (withCache ls k s) = withCache ls k (setSticky g b s) := by
  rw [setSticky, setSticky, apply_ite (withCache ls k), apply_ite (withCache ls k), ← eventIrq_withCache]
  rfl

theorem wrapLog_withCache : wrapLog (withCache ls k s) = withCache ls k (wrapLog s) := by
  have hset : setSticky 14 8 (markFresh 14 8 (withCache ls k s)) = withCache ls k (setSticky 14 8 (markFresh 14 8 s)) :=
    setSticky_withCache ls k (markFresh 14 8 s) 14 8
  rw [wrapLog, wrapLog, apply_ite (withCache ls k), hset]
  rfl

theorem event_withCache (g b src : Nat) (data : List Nat) :
    event g b src data (withCache ls k s) = withCache ls k (event g b src data s) := by
  have hset : setSticky g b (markFresh g b (withCache ls k s)) = withCache ls k (setSticky g b (markFresh g b s)) :=
    setSticky_withCache ls k (markFresh g b s) g b
  rw [event, event, apply_ite (withCache ls k), hset, ← wrapLog_withCache]
  rfl

end

theorem sameButCache_event (g b src : Nat) (data : List Nat) (h : SameButCache s t) :
    SameButCache (event g b src data s) (event g b src data t) := sameButCache_congr (fun _ _ _ => event_withCache ..) h

theorem sameButCache_onHost (f : HostLink → HostLink) (h : SameButCache s t) : SameButCache (s.onHost f) (t.onHost f) :=
  sameButCache_congr (f := State.onHost f) (fun _ _ _ => rfl) h

theorem sameButCache_countHost (i n : Nat) (h : SameButCache s t) : SameButCache (s.countHost i n) (t.countHost i n) :=
  sameButCache_onHost _ h

/-! ### What an access looks at -/

theorem refuses_congr (h : SameButCache s t) (req a : Nat) (wr : Bool) : refuses t req a wr = refuses s req a wr := by rw [h]; rfl

theorem rawBytes_eq_of_sameButCache (h : SameButCache s t) (a n : Nat) : rawBytes t a n = rawBytes s a n :=
  rawBytes_congr fun x _ _ => by rw [h]; rfl

theorem poisonedAt_congr (h : SameButCache s t) (a : Nat) : poisonedAt t a = poisonedAt s a := by rw [h]; rfl

/-- A line accessed under any two hints. -/
theorem sameButCache_maltTouch_maltTouch (h h' : Hint) (w full : Bool) (a : Nat) (hst : SameButCache s t) :
    SameButCache (maltTouch h w full a s) (maltTouch h' w full a t) :=
  sameButCache_trans (sameButCache_symm (sameButCache_maltTouch ..)) (sameButCache_trans hst (sameButCache_maltTouch ..))

theorem sameButCache_addrFault (req a : Nat) (h : SameButCache s t) : SameButCache (addrFault req a s) (addrFault req a t) := by
  rw [addrFault, addrFault, show blockOf t req = blockOf s req by rw [h]; rfl]
  exact sameButCache_event _ _ _ _ h

theorem sameButCache_poisonRead (req a : Nat) (h : SameButCache s t) : SameButCache (poisonRead req a s) (poisonRead req a t) := by
  rw [poisonRead, poisonRead, show blockOf t req = blockOf s req by rw [h]; rfl, show channelOf t a = channelOf s a by rw [h]; rfl]
  exact sameButCache_event _ _ _ _ h

/-! ### Reads -/

/-- Two answered reads: states that differ at most in the cache, the same bytes and poison. -/
def SameAnswer (x y : State × List Byte × Bool) : Prop := SameButCache x.1 y.1 ∧ y.2 = x.2

theorem sameAnswer_lineRead (req : Nat) (h h' : Hint) (a n : Nat) (hst : SameButCache s t) :
    SameAnswer (lineRead req h a n s) (lineRead req h' a n t) := by
  have htouch := sameButCache_maltTouch_maltTouch h h' false false a hst
  rw [lineRead, lineRead, rawBytes_eq_of_sameButCache hst, poisonedAt_congr htouch]
  split
  · exact ⟨sameButCache_poisonRead req a htouch, rfl⟩
  · exact ⟨htouch, rfl⟩

theorem sameAnswer_linesRead (req : Nat) (h h' : Hint) (ls : List (Nat × Nat)) (hst : SameButCache s t) :
    SameAnswer (linesRead req h ls s) (linesRead req h' ls t) := by
  induction ls generalizing s t with
  | nil => exact ⟨hst, rfl⟩
  | cons l ls ih =>
    obtain ⟨hline, hdata⟩ := sameAnswer_lineRead req h h' l.1 l.2 hst
    obtain ⟨hrest, hrestdata⟩ := ih hline
    exact ⟨hrest, by simp only [linesRead, hdata, hrestdata]⟩

theorem sameAnswer_hostReadNow (req a n : Nat) (hst : SameButCache s t) :
    SameButCache (hostReadNow req a n s).1 (hostReadNow req a n t).1 ∧ (hostReadNow req a n t).2 = (hostReadNow req a n s).2 := by
  have hhost : t.host = s.host := by rw [hst]
  have hseg : segOf t a = segOf s a := by rw [segOf, hhost]; rfl
  have hbytes (bus : Nat) : hostBytes t bus n = hostBytes s bus n := by
    induction n generalizing bus with
    | zero => rfl
    | succ n ih => rw [hostBytes, hostBytes, ih, hostByteAt, hhost]; rfl
  rw [hostReadNow, hostReadNow, hhost, hseg]
  split
  · exact ⟨hst, rfl⟩
  · split
    · exact ⟨sameButCache_addrFault req a hst, rfl⟩
    · exact ⟨sameButCache_countHost 1 n hst, hbytes _⟩

theorem sameAnswer_requestRead (req : Nat) (h h' : Hint) (a n : Nat) (hst : SameButCache s t) :
    SameAnswer (requestRead req h a n s) (requestRead req h' a n t) := by
  rw [requestRead, requestRead, refuses_congr hst]
  split
  · exact ⟨sameButCache_addrFault req a hst, rfl⟩
  · split
    · exact sameAnswer_linesRead req h h' _ hst
    · exact sameAnswer_linesRead req h h' _ hst
    · obtain ⟨hs, hdata⟩ := sameAnswer_hostReadNow req a n hst
      exact ⟨hs, by simp only [hdata]⟩
    · exact ⟨hst, by simp only [rawBytes_eq_of_sameButCache hst]⟩

theorem sameAnswer_devRead (req : Nat) (h h' : Hint) (a n : Nat) (hst : SameButCache s t) :
    SameAnswer (devRead req h a n s) (devRead req h' a n t) := by
  unfold devRead
  generalize requests a n = ls
  induction ls generalizing s t with
  | nil => exact ⟨hst, rfl⟩
  | cons l ls ih =>
    obtain ⟨hreq, hdata⟩ := sameAnswer_requestRead req h h' l.1 l.2 hst
    obtain ⟨hrest, hrestdata⟩ := ih hreq
    exact ⟨hrest, by simp only [requestsRead, hdata, hrestdata]⟩

theorem sameButCache_answerRead (req : Nat) {x y : State × List Byte × Bool} (h : SameAnswer x y) :
    SameButCache (answerRead req x) (answerRead req y) := by
  obtain ⟨hs, hdata⟩ := h
  rw [answerRead, answerRead, hdata]
  refine sameButCache_congr (f := fun s => { s with ret := { data := x.2.1, poison := x.2.2 } }) (fun _ _ _ => rfl) ?_
  split
  · exact sameButCache_congr (fun _ _ _ => rfl) hs
  · exact hs

/-! ### Writes -/

/-- Bytes written change the listed bytes alone. -/
theorem Memory.putBytes_eq (m : Memory) (a : Nat) (bs : List Byte) : m.putBytes a bs = { m with cells := (m.putBytes a bs).cells } := by
  induction bs generalizing m a with
  | nil => rfl
  | cons b bs ih => exact ih (m.putByte a b) (a + 1)

theorem sameButCache_putBytes (a : Nat) (bs : List Byte) (hst : SameButCache s t) :
    SameButCache (s.onMem (fun m => m.putBytes a bs)) (t.onMem (fun m => m.putBytes a bs)) := by
  refine sameButCache_congr (f := fun s => s.onMem (fun m => m.putBytes a bs)) (fun ls k s => ?_) hst
  have hcells : (({ s.mem with malt := ls, kiln := k } : Memory).putBytes a bs).cells = (s.mem.putBytes a bs).cells :=
    Memory.putBytes_cells_congr rfl
  change { s with mem := ({ s.mem with malt := ls, kiln := k } : Memory).putBytes a bs } = { s with mem := { s.mem.putBytes a bs with malt := ls, kiln := k } }
  rw [Memory.putBytes_eq, hcells, Memory.putBytes_eq s.mem]

theorem sameButCache_setPoison (a : Nat) (v : Bool) (hst : SameButCache s t) :
    SameButCache (s.onMem (·.setPoison a v)) (t.onMem (·.setPoison a v)) := by
  refine sameButCache_congr (f := fun s => s.onMem (·.setPoison a v)) (fun ls k s => ?_) hst
  by_cases ha : a < cellarBase
  · simp only [State.onMem, Memory.setPoison, ha, if_true]
    rfl
  · simp only [State.onMem, Memory.setPoison, ha, if_false]
    rfl

theorem sameButCache_lineWrite (h h' : Hint) (whole : Bool) (a : Nat) (bs : List Byte) (hst : SameButCache s t) :
    SameButCache (lineWrite h whole a bs s) (lineWrite h' whole a bs t) := by
  have hstored := sameButCache_putBytes a bs (sameButCache_maltTouch_maltTouch h h' true (bs.length == 128) a hst)
  have hlost : t.mem.dieLost.get false ((channelOf t a - 128) / 64) = s.mem.dieLost.get false ((channelOf s a - 128) / 64) := by
    rw [hst]
    rfl
  rw [lineWrite, lineWrite, hlost]
  split
  · refine sameButCache_congr (f := fun s => s.onMem (fun m => { m with
      lostWrites := m.lostWrites.modify 0 ((channelOf s a - 128) / 64) (fun c => sat48 (c + 1)) })) (fun _ _ _ => rfl) hst
  · dsimp only
    split
    · exact sameButCache_setPoison a false hstored
    · exact hstored

theorem sameButCache_linesWrite (h h' : Hint) (lo hi : Nat) (ls : List (Nat × Nat)) (bs : List Byte) (hst : SameButCache s t) :
    SameButCache (linesWrite h lo hi ls bs s) (linesWrite h' lo hi ls bs t) := by
  induction ls generalizing s t bs with
  | nil => exact hst
  | cons l ls ih => exact ih _ (sameButCache_lineWrite h h' _ _ _ hst)

theorem sameButCache_dirWrite (ps : List (Nat × Nat)) (bs : List Byte) (hst : SameButCache s t) :
    SameButCache (dirWrite ps bs s) (dirWrite ps bs t) := by
  induction ps generalizing s t bs with
  | nil => exact hst
  | cons p ps ih => exact ih _ (sameButCache_congr (fun _ _ _ => rfl) hst)

theorem sameButCache_hostWrite (req a : Nat) (bs : List Byte) (ep : Bool) (hst : SameButCache s t) :
    SameButCache (hostWrite req a bs ep s) (hostWrite req a bs ep t) := by
  have hhost : t.host = s.host := by rw [hst]
  have hseg : segOf t a = segOf s a := by rw [segOf, hhost]; rfl
  rw [hostWrite, hostWrite, hhost, hseg]
  split
  · rw [mpsBytes, mpsBytes, hhost]
    exact sameButCache_countHost _ _ hst
  · split
    · exact sameButCache_addrFault req a hst
    · exact sameButCache_countHost _ _ (sameButCache_onHost _ hst)

theorem sameButCache_requestWrite (req : Nat) (h h' : Hint) (a : Nat) (bs : List Byte) (hst : SameButCache s t) :
    SameButCache (requestWrite req h a bs s) (requestWrite req h' a bs t) := by
  rw [requestWrite, requestWrite, refuses_congr hst]
  split
  · exact sameButCache_addrFault req a hst
  · split
    · exact sameButCache_linesWrite h h' _ _ _ _ hst
    · exact sameButCache_linesWrite h h' _ _ _ _ hst
    · exact sameButCache_hostWrite req a bs false hst
    · exact sameButCache_dirWrite _ _ hst
    · exact sameButCache_putBytes a bs hst

theorem sameButCache_devWrite (req : Nat) (h h' : Hint) (a : Nat) (bs : List Byte) (hst : SameButCache s t) :
    SameButCache (devWrite req h a bs s) (devWrite req h' a bs t) := by
  unfold devWrite
  generalize requests a bs.length = ls
  induction ls generalizing s t bs with
  | nil => exact hst
  | cons l ls ih => exact ih _ (sameButCache_requestWrite req h h' _ _ hst)

end Sys2Proof.Machine
end

section
/-! PROOFS. Hints (06_memory_tiers.md R128). -/

namespace Sys2Proof.Machine

open Sys2Proof.Obl (SameButCache)

/-- Settles O48: a read answers alike and a write stores alike under any two hints, since only the lines touched depend on the hint. -/
theorem hintsNeverChangeValues : Obligations.HintsNeverChangeValues := by
  unfold Obligations.HintsNeverChangeValues
  intro req a h h' wr n bs s s' hss
  have hdiffer : ∃ t t', exec (.maltAccess req a h wr n bs .clean) s = .next t ∧ exec (.maltAccess req a h' wr n bs .clean) s' = .next t' ∧
      SameButCache t t' := by
    cases wr with
    | false => exact ⟨_, _, exec_maltAccess_read .., exec_maltAccess_read .., sameButCache_answerRead req (sameAnswer_devRead req h h' _ _ hss)⟩
    | true => exact ⟨_, _, exec_maltAccess_write .., exec_maltAccess_write .., sameButCache_devWrite req h h' _ _ hss⟩
  obtain ⟨t, t', ht, ht', hsame⟩ := hdiffer
  exact ⟨t, t', ht, ht', hsame, by rw [hsame], by rw [hsame]⟩

end Sys2Proof.Machine
end

section
/-! SUPPORT. Numbers in memory (04_number_formats.md R94): bytes that hold a number little-endian, and two's complement read back. -/

namespace Sys2Proof

theorem leNat_lt (bs : List Byte) : leNat bs < 256 ^ bs.length := by
  induction bs with
  | nil => simp [leNat]
  | cons b bs ih =>
    rw [leNat, List.length_cons, Nat.pow_succ']
    have hb := b.isLt
    omega

/-- Bytes are the little-endian bytes of their number. -/
theorem leBytes_leNat (bs : List Byte) : leBytes bs.length (leNat bs) = bs := by
  induction bs with
  | nil => rfl
  | cons b bs ih =>
    have hb := b.isLt
    have hlow : BitVec.ofNat 8 (b.toNat + 256 * leNat bs) = b := BitVec.eq_of_toNat_eq (by rw [BitVec.toNat_ofNat]; omega)
    have hhigh : (b.toNat + 256 * leNat bs) / 256 = leNat bs := by omega
    rw [List.length_cons, leNat, leBytes, hlow, hhigh, ih]

theorem natSigned_mod (w v : Nat) : natSigned w (v % 2 ^ w) = natSigned w v := by
  unfold natSigned
  rw [Nat.mod_mod]

/-- An integer that w bits hold is read back from them. -/
theorem natSigned_intBits {w : Nat} {v : Int} (hlow : -2 ^ w ≤ v) (hhigh : v < 2 ^ w) : natSigned (w + 1) (intBits (w + 1) v) = v := by
  have hpow : (2 : Int) ^ (w + 1) = 2 * 2 ^ w := by rw [pow_succ, mul_comm]
  have hnat : (2 : Nat) ^ (w + 1) = 2 * 2 ^ w := by rw [pow_succ, mul_comm]
  have hcast : ((2 ^ w : Nat) : Int) = 2 ^ w := by push_cast; rfl
  have hpos : 0 < 2 ^ w := Nat.two_pow_pos w
  unfold natSigned intBits
  dsimp only
  rw [Nat.add_sub_cancel, hpow, hnat]
  generalize 2 ^ w = k at *
  generalize (2 : Int) ^ w = z at *
  subst hcast
  rcases Int.lt_or_le v 0 with hneg | hpos
  · have hmod : v % (2 * k) = v + 2 * k := by
      rw [← Int.add_mul_emod_self_left v (2 * k) 1, Int.emod_eq_of_lt] <;> omega
    rw [hmod, Nat.mod_eq_of_lt (by omega)]
    split <;> omega
  · rw [Int.emod_eq_of_lt hpos (by omega), Nat.mod_eq_of_lt (by omega)]
    split <;> omega

/-- An integer stored in bytes that can hold it is read back. -/
theorem natSigned_leBytes {n w : Nat} {v : Int} (hn : 256 ^ n = 2 ^ (w + 1)) (hlow : -2 ^ w ≤ v) (hhigh : v < 2 ^ w) :
    natSigned (w + 1) (leNat (leBytes n (intBits (w + 1) v))) = v := by
  rw [leNat_leBytes, hn, natSigned_mod, natSigned_intBits hlow hhigh]

end Sys2Proof
end

section
/-! SUPPORT. Tun operations (06_memory_tiers.md R131 to R133): what an accepted operation stores at its operand, and that the books, the
counts and the events of one leave every byte alone. -/

namespace Sys2Proof.Machine

open Sys2Proof.Obl (TunAt SameButCache)

variable {s t u : State} {a : Nat} {bs : List Byte}

/-! ### The operand -/

/-- From s to t the bytes are stored at a; no other byte and no plot changes. -/
structure OperandStored (s t : State) (a : Nat) (bs : List Byte) : Prop where
  bytes : rawBytes t a bs.length = bs
  outside : ∀ x, x < a ∨ a + bs.length ≤ x → rawByte t x = rawByte s x
  plots : t.plots = s.plots

/-- What reads alike before and after does not matter. -/
theorem OperandStored.congr {s' t' : State} (h : OperandStored s t a bs) (hs : s.mem.cells = s'.mem.cells) (hsg : s.grn = s'.grn)
    (hsp : s.plots = s'.plots) (ht : t'.mem.cells = t.mem.cells) (htg : t'.grn = t.grn) (htp : t'.plots = t.plots) :
    OperandStored s' t' a bs where
  bytes := (rawBytes_congr_mem ht htg ..).trans h.bytes
  outside x hx := (rawByte_congr ht htg x).trans ((h.outside x hx).trans (rawByte_congr hs hsg x))
  plots := htp.trans (h.plots.trans hsp)

theorem operandStored_tunStore (h : Hint) (ha : a < 0x8000000000) (hlen : bs.length ≤ 16) (hw : s.mem.wf = true) :
    OperandStored s (tunStore h a bs s) a bs := by
  have hstored : Stored s (tunStore h a bs s) a bs := stored_lineWrite (by simp [locate_of_hbm ha])
  have hdir : ∀ x, a ≤ x → x < a + bs.length → ∀ o, locate x ≠ .dir o := fun x _ hx o ho => by
    obtain ⟨hlow, -⟩ := (locate_eq_dir_iff x o).mp ho
    omega
  exact ⟨hstored.rawBytes_eq hw hdir, fun x hx => hstored.rawByte_outside hw hx, hstored.plots⟩

theorem OperandStored.rawNat_eq (h : OperandStored s t a bs) {n : Nat} (hn : bs.length = n) : rawNat t a n = leNat bs := by
  subst hn
  rw [rawNat, h.bytes]

theorem windowAt_congr (hmem : t.mem.cells = s.mem.cells) (hgrn : t.grn = s.grn) (a : Nat) : windowAt t a = windowAt s a :=
  congrArg (natSigned 128) (rawNat_congr hmem hgrn a 16)

/-- A window that an integer of 128 bits was stored in. -/
theorem OperandStored.windowAt_eq {v : Int} (h : OperandStored s t a (leBytes 16 (intBits 128 v))) (hlow : -2 ^ 127 ≤ v) (hhigh : v < 2 ^ 127) :
    windowAt t a = v := by
  rw [windowAt, h.rawNat_eq (leBytes_length ..)]
  exact natSigned_leBytes (by norm_num) hlow hhigh

theorem windowAt_tunBook (a b : Nat) (s : State) : windowAt (tunBook a s) b = windowAt s b := windowAt_congr rfl rfl b

theorem rawNat_tunBook (a b n : Nat) (s : State) : rawNat (tunBook a s) b n = rawNat s b n :=
  rawNat_congr (s := s) (t := tunBook a s) rfl rfl b n

theorem windowAt_noAnswer (a : Nat) (s : State) : windowAt (noAnswer s) a = windowAt s a := windowAt_congr rfl rfl a

theorem rawNat_noAnswer (a n : Nat) (s : State) : rawNat (noAnswer s) a n = rawNat s a n :=
  rawNat_congr (s := s) (t := noAnswer s) rfl rfl a n

/-! ### Admission -/

/-- The books of an accepted operation. -/
@[simp] theorem tunBook_cells : (tunBook a s).mem.cells = s.mem.cells := rfl
@[simp] theorem tunBook_grn : (tunBook a s).grn = s.grn := rfl
@[simp] theorem tunBook_plots : (tunBook a s).plots = s.plots := rfl
@[simp] theorem tunBook_ret : (tunBook a s).ret = s.ret := rfl

section
variable {req n : Nat} {int32 : Bool} {r : TunRegion}

theorem tunAdmit_of_tunAt (h : TunAt s req a n int32 r) (f : Nat → TunRegion → State → State) :
    tunAdmit req a int32 s f = f n r (tunBook a s) := by
  obtain ⟨hregion, hkind, halign, -, hok, -⟩ := h
  unfold tunAdmit
  rw [hok, hregion]
  simp [halign, hkind]

theorem tunAt_lt (h : TunAt s req a n int32 r) : a < 0x8000000000 := by
  obtain ⟨-, -, -, ha, -, -⟩ := h
  exact ha

theorem tunAt_noAnswer (h : TunAt s req a n int32 r) : TunAt (noAnswer s) req a n int32 r := h

/-- No poison lies at the operand, whatever lines the cache holds. -/
theorem tunAt_not_poisoned (h : TunAt s req a n int32 r) (hu : SameButCache (tunBook a (noAnswer s)) u) : poisonedAt u a = false := by
  obtain ⟨-, -, -, ha, -, hpoison⟩ := h
  rw [poisonedAt_congr hu, poisonedAt, locate_of_hbm ha]
  exact hpoison

end

/-! ### Adds -/

@[simp] theorem tunCount_cells (n : Nat) (sat low : Bool) (s : State) : (tunCount n sat low s).mem.cells = s.mem.cells := rfl
@[simp] theorem tunCount_grn (n : Nat) (sat low : Bool) (s : State) : (tunCount n sat low s).grn = s.grn := rfl
@[simp] theorem tunCount_plots (n : Nat) (sat low : Bool) (s : State) : (tunCount n sat low s).plots = s.plots := rfl

/-- An add stored, counted, and logged when it saturated. -/
def tunAdded (h : Hint) (n a : Nat) (bs : List Byte) (sat low : Bool) (s : State) : State :=
  let t := tunCount n sat low (tunStore h a bs s)
  if sat then event (tierGroup a) 5 (0x40 + sliceAt t a) [n, t.sch.step] t else t

theorem operandStored_tunAdded (h : Hint) (n : Nat) (sat low : Bool) (ha : a < 0x8000000000) (hlen : bs.length ≤ 16) (hw : s.mem.wf = true) :
    OperandStored s (tunAdded h n a bs sat low (tunBook a s)) a bs := by
  have hstored : OperandStored (tunBook a s) (tunStore h a bs (tunBook a s)) a bs := operandStored_tunStore h ha hlen hw
  unfold tunAdded
  dsimp only
  split
  · exact hstored.congr rfl rfl rfl (by simp) (by simp) (by simp)
  · exact hstored.congr rfl rfl rfl rfl rfl rfl

section
variable {req n : Nat} {r : TunRegion}

/-- TADD stores the window that `tunStep` gives. -/
theorem operandStored_tunAddVal (h : TunAt s req a n false r) (hint : Hint) (v : XVal) (hw : s.mem.wf = true) :
    OperandStored s (tunAddVal hint req a v s) a (leBytes 16 (intBits 128 (tunStep r.x (windowAt s a) v).1)) := by
  have heq : tunAddVal hint req a v s = tunAdded hint n a (leBytes 16 (intBits 128 (tunStep r.x (windowAt s a) v).1))
      (tunStep r.x (windowAt s a) v).2.1 (tunStep r.x (windowAt s a) v).2.2 (tunBook a s) := by
    rw [← windowAt_tunBook a a s]
    exact tunAdmit_of_tunAt h _
  rw [heq]
  exact operandStored_tunAdded _ _ _ _ (tunAt_lt h) (leBytes_length ..).le hw

/-- IADD stores the limited sum. -/
theorem operandStored_tunAddInt (h : TunAt s req a n true r) (v : Int) (hw : s.mem.wf = true) :
    OperandStored s (tunAddInt req a v s) a (leBytes 4 (intBits 32 (satAdd (natSigned 32 (rawNat s a 4) + v)))) := by
  have heq : tunAddInt req a v s = tunAdded .none n a (leBytes 4 (intBits 32 (satInt 32 (natSigned 32 (rawNat s a 4) + v)).1))
      (satInt 32 (natSigned 32 (rawNat s a 4) + v)).2 false (tunBook a s) := by
    rw [← rawNat_tunBook a a 4 s]
    exact tunAdmit_of_tunAt h _
  rw [heq, satInt_fst]
  exact operandStored_tunAdded _ _ _ _ (tunAt_lt h) (by rw [leBytes_length]; decide) hw

end

/-! ### The integer of a window (R132) -/

theorem tunStep_of_nanMark (x : Int) (v : XVal) : tunStep x nanMark v = (nanMark, false, false) := by simp [tunStep]

/-- A finite value rounded to the window's unit and added, within the bounds. -/
theorem tunStep_of_fin (x : Int) {w : Int} (neg : Bool) (m : Nat) (e : Int) (hw : w ≠ nanMark) :
    (tunStep x w (.fin neg m e)).1 = max (-winMax) (min winMax (w + rneInt neg m (e + 95 - x))) := by
  rw [tunStep, if_neg hw]
  rfl

/-- The window stays an integer of 128 bits. -/
theorem tunStep_range (x w : Int) (v : XVal) : -2 ^ 127 ≤ (tunStep x w v).1 ∧ (tunStep x w v).1 < 2 ^ 127 := by
  by_cases hw : w = nanMark
  · rw [hw, tunStep_of_nanMark]
    decide
  · cases v with
    | nan =>
      rw [tunStep, if_neg hw]
      decide
    | inf neg =>
      rw [tunStep, if_neg hw]
      cases neg <;> decide
    | fin neg m e =>
      rw [tunStep_of_fin x neg m e hw]
      unfold winMax
      omega

/-- A finite value that saturates nothing is added as the integer it rounds to; only a NaN leaves the NaN mark. -/
theorem tunStep_of_not_sat {x w : Int} {neg : Bool} {m : Nat} {e : Int} (hw : w ≠ nanMark) (h : (tunStep x w (.fin neg m e)).2.1 = false) :
    (tunStep x w (.fin neg m e)).1 = w + rneInt neg m (e + 95 - x) ∧ w + rneInt neg m (e + 95 - x) ≠ nanMark := by
  rw [tunStep_of_fin x neg m e hw]
  rw [tunStep, if_neg hw] at h
  dsimp only [tunInput] at h
  rw [Bool.or_eq_false_iff, decide_eq_false_iff_not, decide_eq_false_iff_not] at h
  unfold winMax at h ⊢
  unfold nanMark at hw ⊢
  omega

theorem tunStep_of_nan (x w : Int) : (tunStep x w .nan).1 = nanMark := by
  unfold tunStep
  split
  · assumption
  · rfl

theorem tunStep_sat_of_inf {x w : Int} (neg : Bool) (hw : w ≠ nanMark) : (tunStep x w (.inf neg)).2.1 = true := by
  rw [tunStep, if_neg hw]

/-- Adds commute while none of them saturates. -/
theorem tunStep_comm {x w : Int} {u v : XVal} (hu : (tunStep x w u).2.1 = false) (hv : (tunStep x w v).2.1 = false)
    (huv : (tunStep x (tunStep x w u).1 v).2.1 = false) (hvu : (tunStep x (tunStep x w v).1 u).2.1 = false) :
    (tunStep x (tunStep x w u).1 v).1 = (tunStep x (tunStep x w v).1 u).1 := by
  by_cases hw : w = nanMark
  · simp [hw, tunStep_of_nanMark]
  · cases u with
    | inf neg => simp [tunStep_sat_of_inf neg hw] at hu
    | nan => rw [tunStep_of_nan, tunStep_of_nan, tunStep_of_nanMark]
    | fin neg m e =>
      cases v with
      | inf neg => simp [tunStep_sat_of_inf neg hw] at hv
      | nan => rw [tunStep_of_nan, tunStep_of_nan, tunStep_of_nanMark]
      | fin neg' m' e' =>
        obtain ⟨hsum, hne⟩ := tunStep_of_not_sat hw hu
        obtain ⟨hsum', hne'⟩ := tunStep_of_not_sat hw hv
        rw [hsum] at huv ⊢
        rw [hsum'] at hvu ⊢
        rw [(tunStep_of_not_sat hne huv).1, (tunStep_of_not_sat hne' hvu).1]
        omega

/-! ### Reads and clears -/

/-- A read's answer without poison. -/
theorem tunAnswer_of_not_poisoned {req : Nat} {v : Word} {sat ovf : Bool} (h : poisonedAt s a = false) :
    tunAnswer req a v sat ovf s = { s with ret := { data := leBytes 4 v.toNat, poison := false, sat := sat, ovf := ovf } } := by
  simp [tunAnswer, h]

theorem tunStore_ret (h : Hint) (a : Nat) (bs : List Byte) (s : State) : (tunStore h a bs s).ret = s.ret := by
  unfold tunStore lineWrite
  split
  · rfl
  · dsimp only
    split <;> simp

/-- The state that has answered a read of an operand with the word and marks. -/
def tunAnswered (a : Nat) (v : Word) (sat ovf : Bool) (s : State) : State :=
  { maltTouch .none false false a (tunBook a (noAnswer s)) with ret := { data := leBytes 4 v.toNat, poison := false, sat := sat, ovf := ovf } }

section
variable {req n : Nat} {r : TunRegion} {v : Word} {sat ovf : Bool}

@[simp] theorem tunAnswered_cells : (tunAnswered a v sat ovf s).mem.cells = s.mem.cells := maltTouch_cells ..
@[simp] theorem tunAnswered_grn : (tunAnswered a v sat ovf s).grn = s.grn := maltTouch_grn ..
@[simp] theorem tunAnswered_plots : (tunAnswered a v sat ovf s).plots = s.plots := maltTouch_plots ..

/-- TREAD, and TREADCLR with its clear behind it. -/
theorem tunReadOp_of_tunAt (h : TunAt s req a n false r) (clr : Bool) : ∃ sat ovf u,
    u = tunAnswered a (tunRead r.x (windowAt s a)).1 sat ovf s ∧
    tunReadOp clr req a s = if clr then tunStore .none a (zeros 16) u else u := by
  refine ⟨(tunRead r.x (windowAt s a)).2.1, (tunRead r.x (windowAt s a)).2.2, _, rfl, ?_⟩
  unfold tunReadOp
  rw [tunAdmit_of_tunAt (tunAt_noAnswer h)]
  dsimp only
  rw [tunAnswer_of_not_poisoned (tunAt_not_poisoned h (sameButCache_maltTouch ..)), windowAt_tunBook, windowAt_noAnswer]
  rfl

/-- IREADCLR. -/
theorem tunReadInt_of_tunAt (h : TunAt s req a n true r) :
    tunReadInt req a s = tunStore .none a (zeros 4) (tunAnswered a (BitVec.ofNat 32 (rawNat s a 4)) false false s) := by
  unfold tunReadInt
  rw [tunAdmit_of_tunAt (tunAt_noAnswer h)]
  dsimp only
  rw [tunAnswer_of_not_poisoned (tunAt_not_poisoned h (sameButCache_maltTouch ..)), rawNat_tunBook, rawNat_noAnswer]
  rfl

/-- The operand cleared after its answer. -/
theorem operandStored_tunAnswered {k : Nat} (ha : a < 0x8000000000) (hk : k ≤ 16) (hw : s.mem.wf = true) :
    OperandStored s (tunStore .none a (zeros k) (tunAnswered a v sat ovf s)) a (zeros k) := by
  have hw' : (tunAnswered a v sat ovf s).mem.wf = true := Memory.wf_of_cells _ _ tunAnswered_cells hw
  exact (operandStored_tunStore .none ha (by simpa [zeros] using hk) hw').congr (by simp) (by simp) (by simp) rfl rfl rfl

/-- TCLR. -/
theorem operandStored_tunClear (h : TunAt s req a n false r) (hw : s.mem.wf = true) : OperandStored s (tunClear req a s) a (zeros 16) := by
  have hstored : OperandStored (tunBook a s) (tunStore .none a (zeros 16) (tunBook a s)) a (zeros 16) :=
    operandStored_tunStore .none (tunAt_lt h) (le_refl 16) hw
  have heq : tunClear req a s = tunStore .none a (zeros 16) (tunBook a s) := tunAdmit_of_tunAt h _
  rw [heq]
  exact hstored.congr rfl rfl rfl rfl rfl rfl

theorem tunClear_ret (h : TunAt s req a n false r) : (tunClear req a s).ret = s.ret := by
  have heq : tunClear req a s = tunStore .none a (zeros 16) (tunBook a s) := tunAdmit_of_tunAt h _
  rw [heq, tunStore_ret, tunBook_ret]

end

theorem OperandStored.windowAt_zero (h : OperandStored s t a (zeros 16)) : windowAt t a = 0 := by
  rw [windowAt, h.rawNat_eq (by simp [zeros])]
  rfl

theorem OperandStored.outside_zeros {k : Nat} (h : OperandStored s t a (zeros k)) (x : Nat) (hx : x < a ∨ a + k ≤ x) :
    rawByte t x = rawByte s x := h.outside x (by simpa [zeros] using hx)

theorem OperandStored.outside_leBytes {k v : Nat} (h : OperandStored s t a (leBytes k v)) (x : Nat) (hx : x < a ∨ a + k ≤ x) :
    rawByte t x = rawByte s x := h.outside x (by simpa using hx)

/-- The word of four bytes spells them. -/
theorem leBytes_rawNat_word (s : State) (a : Nat) : leBytes 4 (BitVec.ofNat 32 (rawNat s a 4)).toNat = rawBytes s a 4 := by
  have hlt : rawNat s a 4 < 2 ^ 32 := by
    have h := leNat_lt (rawBytes s a 4)
    rwa [rawBytes_length] at h
  have hbytes := leBytes_leNat (rawBytes s a 4)
  rw [rawBytes_length] at hbytes
  rw [BitVec.toNat_ofNat, Nat.mod_eq_of_lt hlt, rawNat, hbytes]

/-! ### Dropped operations (R131) -/

theorem tunAdmit_of_no_region {req : Nat} {int32 : Bool} (hnone : tunRegionOf s a = none) (hok : refuses s req a true = false)
    (f : Nat → TunRegion → State → State) : tunAdmit req a int32 s f = tunFault req a s := by
  unfold tunAdmit
  rw [hok, hnone]
  rfl

/-- TUN_FAULT of a dropped operation, which changes no byte and no plot. -/
def Dropped (a : Nat) (s t : State) : Prop := stickyBit t (tierGroup a) 6 = true ∧ t.mem = s.mem ∧ t.plots = s.plots

theorem dropped_tunFault (req a : Nat) (s : State) : Dropped a s (tunFault req a s) :=
  ⟨stickyBit_event_self .., by simp [tunFault], by simp [tunFault]⟩

section
variable {req : Nat} (hnone : tunRegionOf s a = none) (hok : refuses s req a true = false)
include hnone hok

theorem dropped_tadd (v : Option XVal) :
    Dropped a s (match v with | some v => tunAddVal .none req a v s | none => tunUnfit req a s) := by
  have hfault := dropped_tunFault req a s
  cases v with
  | none => rwa [tunUnfit, hok]
  | some v => rwa [← tunAdmit_of_no_region hnone hok] at hfault

theorem dropped_tunReadOp (clr : Bool) : Dropped a s (tunReadOp clr req a s) := by
  rw [tunReadOp, tunAdmit_of_no_region (s := noAnswer s) hnone hok]
  exact dropped_tunFault req a (noAnswer s)

theorem dropped_tunClear : Dropped a s (tunClear req a s) := by
  rw [tunClear, tunAdmit_of_no_region hnone hok]
  exact dropped_tunFault req a s

theorem dropped_tunAddInt (v : Int) : Dropped a s (tunAddInt req a v s) := by
  rw [tunAddInt, tunAdmit_of_no_region hnone hok]
  exact dropped_tunFault req a s

theorem dropped_tunReadInt : Dropped a s (tunReadInt req a s) := by
  rw [tunReadInt, tunAdmit_of_no_region (s := noAnswer s) hnone hok]
  exact dropped_tunFault req a (noAnswer s)

end

end Sys2Proof.Machine
end

section
/-! PROOFS. Tun operations (06_memory_tiers.md R131 to R133, Table 06.8). -/

namespace Sys2Proof.Machine

open Sys2Proof.Obl (TunAt)

/-- Settles O50: an accepted operation stores its operand alone; a window's add is `tunStep`, which commutes while nothing saturates. -/
theorem tunOperationsAddExactly : Obligations.TunOperationsAddExactly := by
  unfold Obligations.TunOperationsAddExactly
  refine ⟨fun req n a s r fmt bits neg m e hat hv hw => ?tadd, fun req n a s r hat hw => ⟨?tread, ?treadclr, ?tclr⟩,
    fun req n a v s r hat hw => ⟨?iadd, ?ireadclr⟩, fun req a fmt v s hnone hok => ?fault, fun x w u v => tunStep_comm⟩
  case tadd =>
    have hexec : exec (.tadd req a fmt bits) s = .next (tunAddVal .none req a.toNat (.fin neg m e) s) := by
      change execTadd req a fmt bits s = _
      rw [execTadd, hv]
    have hstored := operandStored_tunAddVal hat .none (.fin neg m e) hw
    obtain ⟨hlow, hhigh⟩ := tunStep_range r.x (windowAt s a.toNat) (.fin neg m e)
    refine ⟨_, hexec, ?_, hstored.outside_leBytes, hstored.plots⟩
    rw [hstored.windowAt_eq hlow hhigh]
    split
    · next hnan => rw [hnan, tunStep_of_nanMark]
    · next hnum => exact tunStep_of_fin _ _ _ _ hnum
  case tread =>
    obtain ⟨sat, ovf, u, rfl, heq⟩ := tunReadOp_of_tunAt hat false
    exact ⟨_, congrArg Host.Outcome.next heq, rfl, tunAnswered_cells, rfl⟩
  case treadclr =>
    obtain ⟨sat, ovf, u, rfl, heq⟩ := tunReadOp_of_tunAt hat true
    have hstored := operandStored_tunAnswered (v := (tunRead r.x (windowAt s a.toNat)).1) (sat := sat) (ovf := ovf) (tunAt_lt hat) (le_refl 16) hw
    exact ⟨_, congrArg Host.Outcome.next heq, congrArg Ret.data (tunStore_ret ..), hstored.windowAt_zero, hstored.outside_zeros⟩
  case tclr =>
    have hstored := operandStored_tunClear hat hw
    exact ⟨_, rfl, hstored.windowAt_zero, hstored.outside_zeros, tunClear_ret hat⟩
  case iadd =>
    have hstored := operandStored_tunAddInt hat v.toInt hw
    refine ⟨_, rfl, ?_, hstored.outside_leBytes⟩
    rw [hstored.rawNat_eq (leBytes_length ..), satAdd]
    exact natSigned_leBytes (by norm_num) (by omega) (by omega)
  case ireadclr =>
    have hstored := operandStored_tunAnswered (v := BitVec.ofNat 32 (rawNat s a.toNat 4)) (sat := false) (ovf := false) (tunAt_lt hat)
      (show 4 ≤ 16 by decide) hw
    refine ⟨_, congrArg Host.Outcome.next (tunReadInt_of_tunAt hat), ?_, ?_, hstored.outside_zeros⟩
    · rw [tunStore_ret]
      exact leBytes_rawNat_word s a.toNat
    · rw [hstored.rawNat_eq (by simp [zeros])]
      rfl
  case fault =>
    simp only [List.forall_mem_cons, List.not_mem_nil, false_imp_iff, implies_true, and_true]
    exact ⟨⟨_, rfl, dropped_tadd hnone hok _⟩, ⟨_, rfl, dropped_tunReadOp hnone hok false⟩, ⟨_, rfl, dropped_tunReadOp hnone hok true⟩,
      ⟨_, rfl, dropped_tunClear hnone hok⟩, ⟨_, rfl, dropped_tunAddInt hnone hok _⟩, ⟨_, rfl, dropped_tunReadInt hnone hok⟩⟩

end Sys2Proof.Machine
end

section
/-! SUPPORT. Commands that pass the checks common to all (13_maltster_mailboxes.md R12, R322, R323, R333). -/

namespace Sys2Proof.Machine

open Sys2Proof.Obl (taken Replies)

/-- A command taken is answered by its body. -/
theorem serveOp_of_taken {sh : Shape} {op m : Nat} {s t : State} {c : Cmd} (h : taken sh op m s = some (c, t)) (body : Cmd → State → CmdOut) :
    serveOp op sh m body s = announce s (finish c (body c t)) := by
  unfold taken at h
  split at h
  · simp at h
  · next d hd =>
    split at h
    · next hpass =>
      obtain ⟨hop, hpre⟩ := hpass
      simp only [Option.some.injEq, Prod.mk.injEq] at h
      obtain ⟨rfl, rfl⟩ := h
      unfold serveOp serve
      rw [hd]
      simp [hop, hpre]
    · simp at h

/-- A mailbox row whose body answers completes its command. -/
theorem replies_of_taken {i : Instr} {sh : Shape} {op m : Nat} {s t u : State} {c : Cmd} {r : Reply} {body : Cmd → State → CmdOut}
    (h : taken sh op m s = some (c, t)) (hi : exec i s = .next (serveOp op sh m body s)) (hbody : body c t = .reply r u) : Replies i s c r u := by
  rw [Replies, hi, serveOp_of_taken h, hbody, finish_reply]

end Sys2Proof.Machine
end

section
/-! SUPPORT. Partitions and runtime objects (06_memory_tiers.md R119, R136 to R138): what flushing frames leaves of memory, the lowest
range that fits, and an object placed and dropped. -/

namespace Sys2Proof.Machine

open Sys2Proof.Obl (SameButCache)

variable {s : State}

/-! ### Frames flushed from the cache -/

theorem sameButCache_flushFrames (p : Nat → Bool) (s : State) : SameButCache s (flushFrames p s) := by
  refine sameButCache_each (fun kv s => ?_) ..
  refine sameButCache_trans (sameButCache_each (fun w s => ?_) kv.2 s) rfl
  split
  · exact sameButCache_writeBack ..
  · exact sameButCache_refl s

/-- Memory changed after a flush is all that changes. -/
theorem flushFrames_onMem (p : Nat → Bool) (f : Memory → Memory) (s : State) :
    (flushFrames p s).onMem f = { s with mem := f (flushFrames p s).mem } := by
  rw [sameButCache_flushFrames p s]
  rfl

/-- Memory but for the re-placements, the cache's lines and the codec's counts. -/
def Memory.rest (m : Memory) : Memory := { m with hbmMap := [], celMap := [], malt := [], kiln := [] }

theorem rest_putMap (cellar : Bool) (t : Tab Nat) (m : Memory) : (putMap cellar t m).rest = m.rest := by
  cases cellar <;> rfl

theorem rest_flushFrames (p : Nat → Bool) (s : State) : (flushFrames p s).mem.rest = s.mem.rest := by
  rw [sameButCache_flushFrames p s]
  rfl

/-! ### New partitions (R136) -/

/-- A tier's frames back at their own positions, but for those whose channel is down and those withdrawn. -/
def sentHome (s : State) (cellar : Bool) (m : Memory) : Memory :=
  putMap cellar (((mapOf m cellar).map (·.1)).foldl (fun t f =>
    if channelDown s (if cellar then 128 + celChannelOf f else hbmChannelOf f) || s.mem.withdrawn.get false (frameAddr cellar f / frameBytes64)
    then t else returnHome t f) (mapOf m cellar)) m

/-- A frame, by its address, of which a re-placement is listed. -/
def relocated (s : State) (u : Nat) : Bool :=
  (mapOf s.mem false).any (fun kv => frameAddr false kv.1 / frameBytes64 == u) ||
    (mapOf s.mem true).any (fun kv => frameAddr true kv.1 / frameBytes64 == u)

/-- Memory under the partitions that a SET_PARTITION names. -/
def partitioned (c : Cmd) (s : State) (m : Memory) : Memory :=
  { sentHome s true (sentHome s false m) with parts := (List.range 6).map (fun i => c.at_ (4 * i) 4), cellarGib := c.at_ 24 4 }

theorem rest_sentHome (s : State) (cellar : Bool) (m : Memory) : (sentHome s cellar m).rest = m.rest := rest_putMap ..

/-! ### The lowest range that fits (R137) -/

theorem leastWhere_append (p : Nat → Bool) (xs : List Nat) (x : Nat) :
    leastWhere p (xs ++ [x]) = if p x then some ((leastWhere p xs).elim x (min x)) else leastWhere p xs := by
  unfold leastWhere
  rw [List.filter_append, List.foldl_append]
  by_cases hx : p x = true
  · simp only [hx, List.filter_cons_of_pos, List.filter_nil, List.foldl_cons, List.foldl_nil, if_true]
    generalize List.foldl _ none (List.filter p xs) = y
    cases y <;> rfl
  · simp [hx]

theorem leastWhere_holds {p : Nat → Bool} {xs : List Nat} {a : Nat} (h : leastWhere p xs = some a) : p a = true := by
  induction xs using List.reverseRecOn generalizing a with
  | nil => exact absurd h (by simp [leastWhere])
  | append_singleton xs x ih =>
    rw [leastWhere_append] at h
    split at h
    · next hx =>
      cases hxs : leastWhere p xs with
      | none =>
        rw [hxs] at h
        rwa [← Option.some.inj h]
      | some y =>
        rw [hxs] at h
        rw [← Option.some.inj h]
        rcases min_choice x y with hmin | hmin <;> rw [Option.elim, hmin]
        · exact hx
        · exact ih hxs
    · exact ih h

theorem exists_leastWhere_le {p : Nat → Bool} {xs : List Nat} {b : Nat} (hb : b ∈ xs) (hp : p b = true) :
    ∃ a, leastWhere p xs = some a ∧ a ≤ b := by
  induction xs using List.reverseRecOn with
  | nil => simp at hb
  | append_singleton xs x ih =>
    rw [leastWhere_append]
    rcases List.mem_append.mp hb with hold | hnew
    · obtain ⟨a, ha, hle⟩ := ih hold
      rw [ha]
      split
      · exact ⟨_, rfl, (min_le_right ..).trans hle⟩
      · exact ⟨a, rfl, hle⟩
    · obtain rfl := List.mem_singleton.mp hnew
      rw [if_pos hp]
      refine ⟨_, rfl, ?_⟩
      cases leastWhere p xs with
      | none => exact le_refl b
      | some y => exact min_le_left ..

/-- The range from a on lies in the partition, on no object and no withdrawn frame. -/
def Fits (s : State) (part n a : Nat) : Prop :=
  (partRange s part).1 ≤ a ∧ a + n ≤ (partRange s part).2 ∧ rangeFree s a n = true

theorem rangeFree_iff (s : State) (a n : Nat) : rangeFree s a n = true ↔
    (∀ o ∈ objList s, a + n ≤ o.2.base ∨ o.2.base + o.2.size ≤ a) ∧
    ∀ kv ∈ s.mem.withdrawn, (kv.1 + 1) * frameBytes64 ≤ a ∨ a + n ≤ kv.1 * frameBytes64 := by
  simp [rangeFree]

/-- Where `lowestFit` looks: the partition's start and the end of every object and withdrawn frame. -/
def fitStarts (s : State) (part : Nat) : List Nat :=
  (partRange s part).1 :: (objList s).map (fun o => o.2.base + o.2.size) ++ s.mem.withdrawn.map (fun kv => (kv.1 + 1) * frameBytes64)

/-- A range that fits can slide down to the highest such start below it, and fits there. -/
theorem exists_fitStart {part n b : Nat} (hb : Fits s part n b) : ∃ c ∈ fitStarts s part, Fits s part n c ∧ c ≤ b := by
  obtain ⟨hlow, hhigh, hfree⟩ := hb
  have hstart : (partRange s part).1 ∈ (fitStarts s part).toFinset.filter (· ≤ b) := by simp [fitStarts, hlow]
  obtain ⟨c, hc, hmax⟩ := Finset.exists_max_image _ id ⟨_, hstart⟩
  obtain ⟨hmem, hle⟩ : c ∈ fitStarts s part ∧ c ≤ b := by simpa using hc
  have htop : ∀ x ∈ fitStarts s part, x ≤ b → x ≤ c := fun x hx hxb => hmax x (by simp [hx, hxb])
  refine ⟨c, hmem, ⟨hmax _ hstart, by omega, ?_⟩, hle⟩
  obtain ⟨hobjs, hgone⟩ := (rangeFree_iff s b n).mp hfree
  refine (rangeFree_iff s c n).mpr ⟨fun o ho => ?_, fun kv hkv => ?_⟩
  · have hend := htop (o.2.base + o.2.size) (by simp only [fitStarts, List.mem_append, List.mem_cons, List.mem_map]; exact .inl (.inr ⟨o, ho, rfl⟩))
    rcases hobjs o ho with h | h
    · exact .inl (by omega)
    · exact .inr (hend h)
  · have hend := htop ((kv.1 + 1) * frameBytes64) (List.mem_append_right _ (List.mem_map.mpr ⟨kv, hkv, rfl⟩))
    rcases hgone kv hkv with h | h
    · exact .inl (hend h)
    · exact .inr (by omega)

/-- The lowest base at which a range fits. -/
theorem lowestFit_spec {part n a : Nat} (h : lowestFit s part n = some a) : Fits s part n a ∧ ∀ b, Fits s part n b → a ≤ b := by
  have hiff (x : Nat) : (decide ((partRange s part).1 ≤ x) && decide (x + n ≤ (partRange s part).2) && rangeFree s x n) = true ↔ Fits s part n x := by
    simp [Fits, and_assoc]
  refine ⟨(hiff a).mp (leastWhere_holds h), fun b hb => ?_⟩
  obtain ⟨c, hmem, hc, hle⟩ := exists_fitStart hb
  obtain ⟨a', ha', hle'⟩ := exists_leastWhere_le (p := fun x => decide ((partRange s part).1 ≤ x) && decide (x + n ≤ (partRange s part).2) &&
    rangeFree s x n) hmem ((hiff c).mpr hc)
  rw [Option.some.inj (h.symm.trans ha')]
  exact hle'.trans hle

theorem freeRegion_range {r : Nat} (h : freeRegion s = some r) : 128 ≤ r ∧ r < 256 := by
  have hmem := List.mem_of_find?_eq_some h
  simp only [List.mem_map, List.mem_range] at hmem
  omega

/-! ### Objects -/

/-- Memory with an object placed at a, in region r when it is a tun object. -/
def withObj (a n : Nat) (tun : Bool) (r : Nat) (x : Int) (table : Option Nat) (m : Memory) : Memory :=
  { m with
    lastObj := m.lastObj + 1
    objs := m.objs.set none (m.lastObj + 1) (some ⟨a, n, if tun then some r else none, table⟩)
    tun := if tun then m.tun.set {} r { base := a, fin := a + n, x := x, en := true } else m.tun }

theorem get_withObj_other {a n r i : Nat} {tun : Bool} {x : Int} {table : Option Nat} {m : Memory} (hw : Tab.wf none m.objs = true)
    (hi : i ≠ m.lastObj + 1) : (withObj a n tun r x table m).objs.get none i = m.objs.get none i :=
  (Tab.get_set_other none m.objs (m.lastObj + 1) i (some ⟨a, n, if tun then some r else none, table⟩) hw hi :)

theorem placeObj_of_fit {part size a r : Nat} {tun : Bool} {x : Int} {table : Option Nat} (hroom : (objList s).length < 4096)
    (hfit : lowestFit s part (wholeFrames size) = some a) (hregion : (if tun then freeRegion s else some 0) = some r) :
    placeObj part size tun x table s =
      some ({ s with mem := withObj a (wholeFrames size) tun r x table s.mem }, s.mem.lastObj + 1, a, r) := by
  unfold placeObj
  rw [if_neg (Nat.not_le.mpr hroom), hfit, hregion]
  rfl

/-- Memory with an object and its region gone. -/
def withoutObj (id : Nat) (o : Obj) (m : Memory) : Memory :=
  { m with objs := m.objs.set none id none, tun := match o.region with | some r => m.tun.set {} r {} | none => m.tun }

theorem dropObj_of_get {id : Nat} {o : Obj} (h : s.mem.objs.get none id = some o) :
    dropObj id s = { s with mem := withoutObj id o s.mem } := by
  unfold dropObj
  rw [h]
  rfl

theorem get_withoutObj {id i : Nat} {o : Obj} {m : Memory} (hw : Tab.wf none m.objs = true) :
    (withoutObj id o m).objs.get none i = if i = id then none else m.objs.get none i :=
  (Tab.get_set none m.objs id i none hw :)

theorem get_withoutObj_region {id r : Nat} {o : Obj} {m : Memory} (hw : Tab.wf {} m.tun = true) :
    (o.region = some r → (withoutObj id o m).tun.get {} r = {}) ∧
    (o.region ≠ some r → (withoutObj id o m).tun.get {} r = m.tun.get {} r) := by
  unfold withoutObj
  cases o.region with
  | none => exact ⟨nofun, fun _ => rfl⟩
  | some k =>
    have hget : (m.tun.set {} k {}).get {} r = if r = k then {} else m.tun.get {} r := Tab.get_set _ _ _ _ _ hw
    exact ⟨fun h => hget.trans (if_pos (Option.some.inj h).symm), fun h => hget.trans (if_neg fun hk => h (congrArg some hk.symm))⟩

end Sys2Proof.Machine
end

section
/-! PROOFS. SET_PARTITION, ALLOC_OBJECT and FREE_OBJECT (06_memory_tiers.md R136 to R138, 13_maltster_mailboxes.md Table 13.9). -/

namespace Sys2Proof.Machine

open Sys2Proof.Obl (taken Replies)

variable {m : Fin 64} {s t : State} {c : Cmd}

/-- SET_PARTITION with nothing loaded and nothing allocated. -/
theorem setPartition_replies (h : taken { fields := [(0, 28)] } 0x0201 m s = some (c, t)) (hactive : t.sch.active = none)
    (hstaged : t.sch.staged = none) (hobjs : objList t = []) (hsum : ((List.range 6).map (fun i => c.at_ (4 * i) 4)).sum = 512)
    (hgranary : c.at_ 0 4 ∈ [4, 8, 16, 32, 64, 128, 256]) (hcellar : c.at_ 24 4 ≤ 2032) :
    ∃ u, Replies (.setPartition m) s c { status := .ok } { t with mem := u } ∧
      u.parts = (List.range 6).map (fun i => c.at_ (4 * i) 4) ∧ u.cellarGib = c.at_ 24 4 ∧ u.cells = t.mem.cells ∧
      u.objs = t.mem.objs ∧ u.tun = t.mem.tun ∧ u.withdrawn = t.mem.withdrawn ∧ u.chOut = t.mem.chOut := by
  have hloaded : bundleLoaded t = false := by simp [bundleLoaded, hactive, hstaged]
  have hok : granaryOk (((List.range 6).map (fun i => c.at_ (4 * i) 4)).headD 0) = true := List.contains_iff_mem.mpr hgranary
  have hreplies : Replies (.setPartition m) s c { status := .ok } { t with mem := partitioned c t (flushFrames (relocated t) t).mem } := by
    refine replies_of_taken h rfl ?_
    dsimp only
    rw [hloaded, hobjs, hsum, hok, if_neg (by simp), if_neg (by simp), if_neg (by omega), flushFrames_onMem]
    rfl
  have hrest : (sentHome t true (sentHome t false (flushFrames (relocated t) t).mem)).rest = t.mem.rest := by
    rw [rest_sentHome, rest_sentHome, rest_flushFrames]
  exact ⟨_, hreplies, rfl, rfl, (congrArg Memory.cells hrest :), (congrArg Memory.objs hrest :), (congrArg Memory.tun hrest :),
    (congrArg Memory.withdrawn hrest :), (congrArg Memory.chOut hrest :)⟩

/-- ALLOC_OBJECT of no bytes. -/
theorem allocObject_zero (h : taken { fields := [(0, 11)] } 0x0202 m s = some (c, t)) (hsize : c.at_ 0 8 = 0) :
    Replies (.allocObject m) s c { status := .badArgument, detail := 32 } t :=
  replies_of_taken h rfl (if_pos hsize)

/-- ALLOC_OBJECT where a range fits. -/
theorem allocObject_replies {a r : Nat} (h : taken { fields := [(0, 11)] } 0x0202 m s = some (c, t)) (hsize : c.at_ 0 8 ≠ 0)
    (hkind : c.at_ 8 1 ≤ 1) (hpart : c.at_ 9 1 ∈ [1, 5, 7]) (hroom : (objList t).length < 4096)
    (hfit : lowestFit t (c.at_ 9 1) (wholeFrames (c.at_ 0 8)) = some a) (hregion : (if c.at_ 8 1 = 1 then freeRegion t else some 0) = some r) :
    Replies (.allocObject m) s c { status := .ok, inline := leBytes 8 a ++ leBytes 4 (t.mem.lastObj + 1) ++ leBytes 1 r }
      { t with mem := withObj a (wholeFrames (c.at_ 0 8)) (c.at_ 8 1 == 1) r (natSigned 8 (c.at_ 10 1)) none t.mem } := by
  have hplaced : placeObj (c.at_ 9 1) (c.at_ 0 8) (c.at_ 8 1 == 1) (natSigned 8 (c.at_ 10 1)) none t = _ :=
    placeObj_of_fit hroom hfit (by simpa using hregion)
  refine replies_of_taken h rfl ?_
  dsimp only
  rw [if_neg hsize, if_neg (by omega), if_neg (by simp only [List.mem_cons, List.not_mem_nil, or_false] at hpart; omega), hplaced]
  rfl

/-- FREE_OBJECT of an object that nothing refers to. -/
theorem freeObject_replies {o : Obj} (h : taken { fields := [(0, 4)] } 0x0203 m s = some (c, t))
    (hobj : t.mem.objs.get none (c.at_ 0 4) = some o) (htable : o.table = none) (hfree : bundleRefers t o = false) :
    Replies (.freeObject m) s c { status := .ok } { t with mem := withoutObj (c.at_ 0 4) o t.mem } := by
  refine replies_of_taken h rfl ?_
  rw [hobj, ← dropObj_of_get hobj]
  simp [htable, hfree, okWith]

/-- Settles O16: SET_PARTITION moves frames in the re-placement tables alone, ALLOC_OBJECT takes what `lowestFit` finds, and FREE_OBJECT drops
one entry of the objects and of the regions. -/
theorem partitionsAndObjectsComplete : Obligations.PartitionsAndObjectsComplete := by
  unfold Obligations.PartitionsAndObjectsComplete
  refine ⟨fun m s t c => setPartition_replies, fun m s t c h => ⟨allocObject_zero h, fun a r hsize hkind hpart hroom hfit hregion => ?alloc⟩,
    fun m s t c o h hobjs htun hobj htable hfree => ?free⟩
  case alloc =>
    obtain ⟨⟨hlow, hhigh, hclear⟩, hleast⟩ := lowestFit_spec hfit
    refine ⟨_, allocObject_replies h hsize hkind hpart hroom hfit hregion, ?_, fun i hi hw => get_withObj_other hw hi,
      fun htun => ?_, fun hplain => ?_, rfl, hlow, hhigh, hclear, fun b hb hb' hbfree => hleast b ⟨hb, hb', hbfree⟩⟩
    · simpa [withObj] using Tab.get_set_of_ne _ _ _ _ (Option.some_ne_none _)
    · rw [if_pos htun] at hregion
      obtain ⟨hr, hr'⟩ := freeRegion_range hregion
      refine ⟨hr, hr', fun hw => ?_⟩
      simp only [withObj, htun, beq_self_eq_true, if_true]
      exact Tab.get_set_self _ _ _ _ hw
    · simp [withObj, hplain]
  case free =>
    refine ⟨_, freeObject_replies h hobj htable hfree, (get_withoutObj hobjs).trans (if_pos rfl), fun i hi => (get_withoutObj hobjs).trans (if_neg hi),
      fun r => (get_withoutObj_region htun).1, fun r => (get_withoutObj_region htun).2, rfl⟩

end Sys2Proof.Machine
end

section
/-! SUPPORT. MOVE_OBJECT and the Hoppers (06_memory_tiers.md R138, R146): frames swapped in the re-placement tables alone, and what a Hopper
run leaves in memory at its end. -/

namespace Sys2Proof

/-- A table with the keys of a set removed. -/
theorem Tab.get_filter_key {α : Type} [DecidableEq α] {d : α} {t : Tab α} (p : Nat → Bool) (k : Nat) (hw : Tab.wf d t = true) :
    Tab.get d (t.filter (fun kv => !p kv.1)) k = if p k then d else Tab.get d t k := by
  unfold Tab.wf at hw
  generalize 0 = lo at hw
  induction t generalizing lo with
  | nil => simp
  | cons x t ih =>
    obtain ⟨j, v⟩ := x
    simp only [Tab.wfFrom, Bool.and_eq_true, decide_eq_true_eq] at hw
    obtain ⟨-, htail⟩ := hw
    have hrest := ih (j + 1) htail
    have hbelow : k < j + 1 → Tab.get d t k = d := Tab.get_below d t (j + 1) k htail
    rw [List.filter_cons]
    by_cases hp : p j = true
    · rw [if_neg (by simp [hp]), hrest, Tab.get]
      by_cases hjk : j = k
      · simp [← hjk, hp]
      · rw [if_neg hjk]
        by_cases hlt : k < j
        · rw [if_pos hlt, hbelow (by omega)]
        · rw [if_neg hlt]
    · rw [if_pos (by simp [hp]), Tab.get, Tab.get, hrest]
      by_cases hjk : j = k
      · simp [← hjk, hp]
      · by_cases hlt : k < j <;> simp [hjk, hlt]

end Sys2Proof

namespace Sys2Proof.Machine

open Sys2Proof.Obl (SameButCache)

variable {s t : State}

/-! ### Frames swapped (R119, R138) -/

/-- Memory with pairs of frames swapped after a flush, beside the same without a flush. -/
theorem sameButCache_flush_swapAll (p : Nat → Bool) (cellar : Bool) (fs : List (Nat × Nat)) (s : State) :
    SameButCache (s.onMem (swapAll cellar fs)) ((flushFrames p s).onMem (swapAll cellar fs)) :=
  sameButCache_congr (f := State.onMem (swapAll cellar fs)) (fun _ _ _ => by cases cellar <;> rfl) (sameButCache_flushFrames p s)

/-- Memory with pairs of frames of a tier swapped, whatever lines the cache holds: no byte, poison mark or object changes, nor the other tier. -/
theorem swapAll_keeps {cellar : Bool} {fs : List (Nat × Nat)} {m u : Memory}
    (hu : u = { swapAll cellar fs m with malt := u.malt, kiln := u.kiln }) : u.cells = m.cells ∧ u.hbmPoison = m.hbmPoison ∧
      u.kilnPoison = m.kilnPoison ∧ u.objs = m.objs ∧ mapOf u cellar = fs.foldl (fun x y => swapPos x y.1 y.2) (mapOf m cellar) ∧
      mapOf u (!cellar) = mapOf m (!cellar) := by
  rw [hu]
  cases cellar <;> exact ⟨rfl, rfl, rfl, rfl, rfl, rfl⟩

theorem replacements_eq_of_sameButCache (h : SameButCache s t) (cellar : Bool) : replacements t cellar = replacements s cellar := by
  rw [h]
  cases cellar <;> rfl

/-! ### What a Hopper's patterns leave alone -/

/-- From m to n only contents and poison change, canonical cells stay canonical, and the addresses of X keep their bytes. -/
structure Refilled (X : Nat → Prop) (m n : Memory) : Prop where
  eq : n = { m with cells := n.cells, hbmPoison := n.hbmPoison, kilnPoison := n.kilnPoison }
  wf : m.wf = true → n.wf = true
  get : m.wf = true → ∀ a, X a → Tab.get 0 n.cells a = Tab.get 0 m.cells a

section
variable {X : Nat → Prop} {m n k : Memory}

theorem Refilled.refl (m : Memory) : Refilled X m m := ⟨rfl, id, fun _ _ _ => rfl⟩

theorem Refilled.trans (h : Refilled X m n) (g : Refilled X n k) : Refilled X m k :=
  ⟨by rw [g.eq, h.eq], fun hw => g.wf (h.wf hw), fun hw a ha => (g.get (h.wf hw) a ha).trans (h.get hw a ha)⟩

theorem Refilled.foldl {β : Type} {f : Memory → β → Memory} {xs : List β} (hf : ∀ n, ∀ x ∈ xs, Refilled X n (f n x)) (m : Memory) :
    Refilled X m (xs.foldl f m) :=
  List.foldlRecOn (motive := Refilled X m) xs f (.refl m) fun n hn x hx => hn.trans (hf n x hx)

theorem refilled_setPoison (m : Memory) (a : Nat) (v : Bool) : Refilled X m (m.setPoison a v) := by
  unfold Memory.setPoison
  split <;> exact ⟨rfl, id, fun _ _ _ => rfl⟩

theorem refilled_putBytes {a : Nat} {bs : List Byte} (hX : ∀ x, X x → x < a ∨ a + bs.length ≤ x) (m : Memory) : Refilled X m (m.putBytes a bs) where
  eq := by rw [Memory.putBytes_eq]
  wf := Memory.wf_putBytes m a bs
  get hw x hx := by
    have hout := hX x hx
    rw [Memory.get_putBytes _ _ _ _ hw, if_neg (by omega)]

/-- A frame refilled: nothing outside it. -/
theorem refilled_hopperFrame {params : List Nat} {h f : Nat}
    (hX : ∀ x, X x → x < frameAddr (decide (128 ≤ h)) f ∨ frameAddr (decide (128 ≤ h)) f + 0x10000 ≤ x) (m : Memory) :
    Refilled X m (hopperFrame params h s f m) := by
  refine Refilled.foldl (fun n i hi => ?_) m
  have hlt : i < 1024 := List.mem_range.mp hi
  dsimp only
  split
  · refine (refilled_putBytes (fun x hx => ?_) n).trans (refilled_setPoison ..)
    have hframe := hX x hx
    rw [List.length_map, List.length_range]
    omega
  · exact .refl n

end

/-! ### Frames and their channel -/

theorem frame_bounds {cellar : Bool} {f x : Nat} (hf : f < tierFrames cellar) (hlow : frameAddr cellar f ≤ x) (hhigh : x < frameAddr cellar f + 0x10000) :
    (channelRel s x).1 = frameChannel s cellar f := by
  cases cellar with
  | false =>
    have hf' : f < 0x800000 := hf
    have hlow' : 0 + f * 0x10000 ≤ x := hlow
    have hhigh' : x < 0 + f * 0x10000 + 0x10000 := hhigh
    have hframe : x / frameBytes64 = f := by
      unfold frameBytes64
      omega
    have htier : x < cellarBase := by
      unfold cellarBase
      omega
    rw [channelRel, if_pos htier, hframe]
    rfl
  | true =>
    have hlow' : cellarBase + f * 0x10000 ≤ x := hlow
    have hhigh' : x < cellarBase + f * 0x10000 + 0x10000 := hhigh
    have hframe : (x - cellarBase) / frameBytes64 = f := by
      unfold frameBytes64
      omega
    rw [channelRel, if_neg (by omega), hframe]
    rfl

/-- What a run's patterns in a channel change of the state: memory's contents, but for the bytes of other channels. -/
theorem refilled_hopperFill (params : List Nat) (h : Nat) (s : State) :
    hopperFill params s h = { s with mem := (hopperFill params s h).mem } ∧
      Refilled (fun a => (channelRel s a).1 ≠ h) s.mem (hopperFill params s h).mem := by
  refine ⟨rfl, Refilled.foldl (fun n f hf => refilled_hopperFrame (fun x hx => ?_) n) s.mem⟩
  obtain ⟨hmem, hch⟩ := List.mem_filter.mp hf
  have hch' : frameChannel s (decide (128 ≤ h)) f = h := by simpa using hch
  by_contra hin
  exact hx ((frame_bounds (List.mem_range.mp hmem) (by omega) (by omega)).trans hch')

/-- The places of addresses depend on the re-placements alone. -/
theorem channelRel_congr (hh : t.mem.hbmMap = s.mem.hbmMap) (hc : t.mem.celMap = s.mem.celMap) (a : Nat) : channelRel t a = channelRel s a := by
  rw [channelRel, channelRel, hh, hc]

theorem hopZeroed_congr (hh : t.mem.hbmMap = s.mem.hbmMap) (hc : t.mem.celMap = s.mem.celMap) (chs : List Nat) (start len a : Nat) :
    hopZeroed t chs start len a = hopZeroed s chs start len a := by
  rw [hopZeroed, hopZeroed, channelRel_congr hh hc, channelOf_congr hh hc, entryChannel, entryChannel, channelOf_congr hh hc]

/-- The run's patterns in every channel of a list. -/
theorem refilled_hopperFills (params : List Nat) (hs : List Nat) (s : State) :
    hs.foldl (hopperFill params) s = { s with mem := (hs.foldl (hopperFill params) s).mem } ∧
      Refilled (fun a => ∀ h ∈ hs, (channelRel s a).1 ≠ h) s.mem (hs.foldl (hopperFill params) s).mem := by
  refine List.foldlRecOn (motive := fun t => t = { s with mem := t.mem } ∧ Refilled (fun a => ∀ h ∈ hs, (channelRel s a).1 ≠ h) s.mem t.mem)
    hs (hopperFill params) ⟨rfl, .refl _⟩ fun t ht h hmem => ?_
  obtain ⟨heq, hfill⟩ := ht
  obtain ⟨heq', hfill'⟩ := refilled_hopperFill params h t
  have hh : t.mem.hbmMap = s.mem.hbmMap := by rw [hfill.eq]
  have hc : t.mem.celMap = s.mem.celMap := by rw [hfill.eq]
  refine ⟨heq'.trans (by rw [heq]), hfill.trans ⟨hfill'.eq, hfill'.wf, fun hw a ha => hfill'.get hw a ?_⟩⟩
  rw [channelRel_congr hh hc]
  exact ha h hmem

end Sys2Proof.Machine
end

section
/-! PROOFS. MOVE_OBJECT, SET_TUN_WINDOW, HOPPER_RUN and HOPPER_DONE (06_memory_tiers.md R119, R134, R138, R146, Table 06.14). -/

namespace Sys2Proof.Machine

open Sys2Proof.Obl (taken Replies SameButCache)

section
variable {m : Fin 64} {s t : State} {c : Cmd}

/-! ### MOVE_OBJECT and SET_TUN_WINDOW -/

/-- MOVE_OBJECT off a set of channels, with frames enough outside it. -/
theorem moveObject_replies {o : Obj} {fs ts : List Nat} {cel : Bool} (h : taken { fields := [(0, 5), (8, 48)] } 0x0204 m s = some (c, t))
    (hobj : t.mem.objs.get none (c.at_ 0 4) = some o) (hunit : c.at_ 4 1 ≤ 1) (hdies : c.at_ 4 1 = 1 → c.at_ 8 48 < 16)
    (hmask : c.at_ 8 48 ≠ 0) (hcel : cel = decide (cellarBase ≤ o.base))
    (hfs : fs = (objFrames o).filter (fun f => excluded (c.at_ 4 1) (c.at_ 8 48) (frameChannel t cel f)))
    (hts : ts = framesDown (fun f => freeFrame t cel f && !excluded (c.at_ 4 1) (c.at_ 8 48) (frameChannel t cel f)
      && !channelDown t (frameChannel t cel f)) (tierFrames cel) fs.length)
    (hlen : ts.length = fs.length) (hlimit : replacements (t.onMem (swapAll cel (List.zip fs ts))) cel ≤ replacementLimit) :
    ∃ u : Memory, u = { swapAll cel (List.zip fs ts) t.mem with malt := u.malt, kiln := u.kiln } ∧
      Replies (.moveObject m) s c { status := .ok, inline := leBytes 8 fs.length } { t with mem := u } := by
  have hsame := sameButCache_flush_swapAll (fun u => (fs ++ ts).any (fun f => frameAddr cel f / frameBytes64 == u)) cel (List.zip fs ts) t
  have hfits : ¬(decide (ts.length < fs.length) || decide (replacementLimit <
      replacements ((flushFrames (fun u => (fs ++ ts).any (fun f => frameAddr cel f / frameBytes64 == u)) t).onMem (swapAll cel (List.zip fs ts))) cel)) = true := by
    rw [replacements_eq_of_sameButCache hsame, hlen]
    simpa using hlimit
  have heq := flushFrames_onMem (fun u => (fs ++ ts).any (fun f => frameAddr cel f / frameBytes64 == u)) (swapAll cel (List.zip fs ts)) t
  refine ⟨_, congrArg State.mem hsame, ?_⟩
  rw [State.onMem_mem, ← heq]
  refine replies_of_taken h rfl ?_
  dsimp only
  rw [if_neg (by omega), if_neg (by omega), hobj]
  dsimp only
  rw [if_neg hmask, ← hcel, ← hfs, ← hts, if_neg hfits]
  rfl

theorem setTunWindow_of_enabled (h : taken { fields := [(0, 2)] } 0x0205 m s = some (c, t)) (hen : (t.mem.tun.get {} (c.at_ 0 1)).en = true) :
    Replies (.setTunWindow m) s c { status := .ok } { t with mem := { t.mem with
      tun := t.mem.tun.modify {} (c.at_ 0 1) (fun r => { r with x := natSigned 8 (c.at_ 1 1), satAdds := 0, lowAdds := 0 }) } } :=
  replies_of_taken h rfl (if_neg (by simp [hen]))

theorem setTunWindow_of_disabled (h : taken { fields := [(0, 2)] } 0x0205 m s = some (c, t)) (hen : (t.mem.tun.get {} (c.at_ 0 1)).en = false) :
    Replies (.setTunWindow m) s c { status := .notPresent } t :=
  replies_of_taken h rfl (if_pos (by simp [hen]))

/-! ### HOPPER_RUN -/

/-- The run that a command starts. -/
def hopRunOf (c : Cmd) (now : Nat) : HopRun :=
  ⟨c.m, c.at_ 0 48, [c.at_ 48 1, c.at_ 49 1, c.at_ 50 1, c.at_ 52 4, c.at_ 56 8, c.at_ 64 8, c.at_ 72 8, now], []⟩

/-- A run started, for which its mailbox waits. -/
def hopStarted (c : Cmd) (s : State) : State :=
  (s.onMem (fun x => { x with hop := some (hopRunOf c s.hk.now) })).onMbx c.m (fun b => { b with coord := some ⟨64, c.slot, c.arg⟩ })

theorem exec_hopperRun (h : taken { fields := [(0, 51), (52, 28)], hasRes := true } 0x0206 m s = some (c, t)) (hgood : hopperBad c = none)
    (hroom : 384 * (hoppersOf (c.at_ 0 48)).length ≤ c.resLen) (hsome : hoppersOf (c.at_ 0 48) ≠ []) (hidle : t.mem.hop = none)
    (hmay : ∀ h ∈ hoppersOf (c.at_ 0 48), hopperMayRun t h = true) : exec (.hopperRun m) s = .next (announce s (hopStarted c t)) := by
  have hnone : ¬(t.mem.hop.isSome || (hoppersOf (c.at_ 0 48)).any (fun h => !hopperMayRun t h)) = true := by
    rw [hidle]
    simpa using hmay
  change Host.Outcome.next _ = _
  rw [serveOp_of_taken h]
  dsimp only
  rw [hgood]
  dsimp only
  rw [if_neg (by simpa [fits] using hroom), if_neg hnone, if_neg (by simpa using hsome)]
  rfl

end

/-! ### HOPPER_DONE -/

section
variable {s : State} {r : HopRun} {h : Fin 384} {rep : HopperRep}

/-- The run with a Hopper's report. -/
def reported (h : Nat) (rep : HopperRep) (r : HopRun) : HopRun := { r with done := r.done.set none h (some rep) }

/-- The state that keeps a run. -/
def withRun (r : HopRun) (s : State) : State := s.onMem (fun m => { m with hop := some r })

theorem exec_hopperDone (hrun : s.mem.hop = some r) (hin : natBit h r.mask = true) : exec (.hopperDone h rep) s = .next
    (if (hoppersOf r.mask).all (fun x => ((reported h rep r).done.get none x).isSome) then
      announce s (hopperEnd (reported h rep r) (withRun (reported h rep r) s)) else withRun (reported h rep r) s) := by
  change execHopperDone h rep s = _
  rw [execHopperDone, hrun]
  dsimp only
  rw [if_pos hin]
  rfl

theorem reported_get (x : Nat) : (reported h rep r).done.get none x = if x = h.val then some rep else r.done.get none x := by
  unfold reported
  split
  · next hx =>
    rw [hx]
    exact Tab.get_set_of_ne _ _ _ _ (Option.some_ne_none _)
  · next hx => exact Tab.get_insert_other _ _ _ _ _ hx

/-- Memory at the end of a run: the patterns in the channels that are down, and the tested ranges of the others zero. -/
def hopEndMem (r : HopRun) (s : State) : Memory :=
  zeroWhere (hopZeroed s ((hoppersOf r.mask).filter (fun x => !channelDown s x)) (r.params.getD 4 0) (r.params.getD 5 0))
    { (((hoppersOf r.mask).filter (channelDown s)).foldl (hopperFill r.params) s).mem with hop := none }

/-- The state with such memory. -/
def hopEnded (r : HopRun) (s : State) : State := { s with mem := hopEndMem r s }

theorem hopperBytes_length (params : List Nat) (h : Nat) (r : HopperRep) : (hopperBytes params h r).length = 384 := by
  simp [hopperBytes, padTo, slice, zeros]

/-- The record of a Hopper of a run, zero without a report. -/
def hopRecord (r : HopRun) (h : Nat) : List Byte := (r.done.get none h).elim (zeros 384) (hopperBytes r.params h)

/-- The answer to a run's command. -/
def hopReply (r : HopRun) (now : Nat) : Reply :=
  { status := .ok, detail := b2n (decide (r.params.getD 7 0 + 90000000000 ≤ now)), inline := leBytes 4 (hoppersOf r.mask).length
    res := ((hoppersOf r.mask).map (hopRecord r)).flatten }

theorem hopReply_res_length (r : HopRun) (now : Nat) : (hopReply r now).res.length = 384 * (hoppersOf r.mask).length := by
  have hrecord : List.length ∘ hopRecord r = fun _ => 384 := by
    funext h
    rw [Function.comp, hopRecord]
    cases r.done.get none h with
    | none => exact List.length_replicate
    | some x => exact hopperBytes_length ..
  rw [hopReply, List.length_flatten, List.map_map, hrecord, List.map_const', List.sum_replicate, smul_eq_mul, mul_comm]

/-- The end of a run that a mailbox waits for. -/
theorem hopperEnd_of_held {c : Cmd} (hheld : heldCmd s r.mailbox = some c) :
    hopperEnd r s = respond c (hopReply r s.hk.now) (hopEnded r s) := by
  obtain ⟨heq, hfill⟩ := refilled_hopperFills r.params ((hoppersOf r.mask).filter (channelDown s)) s
  have hh : (((hoppersOf r.mask).filter (channelDown s)).foldl (hopperFill r.params) s).mem.hbmMap = s.mem.hbmMap := by rw [hfill.eq]
  have hc : (((hoppersOf r.mask).filter (channelDown s)).foldl (hopperFill r.params) s).mem.celMap = s.mem.celMap := by rw [hfill.eq]
  have hzero : hopZeroed (((hoppersOf r.mask).filter (channelDown s)).foldl (hopperFill r.params) s) = hopZeroed s := by
    funext chs start len a
    exact hopZeroed_congr hh hc ..
  have hheld' : heldCmd (((hoppersOf r.mask).filter (channelDown s)).foldl (hopperFill r.params) s) r.mailbox = some c := by
    rw [heq]
    exact hheld
  have hrecord : hopRecord r = fun h => match r.done.get none h with | some x => hopperBytes r.params h x | none => zeros 384 := by
    funext h
    unfold hopRecord
    cases r.done.get none h <;> rfl
  unfold hopperEnd hopReply
  dsimp only
  rw [hheld', hzero, hopEnded, hopEndMem, heq, hrecord]
  rfl

/-- The bytes at the end of a run. -/
theorem hopEndMem_get (hw : s.mem.wf = true) (a : Nat) (p : Nat → Bool)
    (hp : p = hopZeroed s ((hoppersOf r.mask).filter (fun x => !channelDown s x)) (r.params.getD 4 0) (r.params.getD 5 0)) :
    (p a = true → Tab.get 0 (hopEndMem r s).cells a = 0) ∧
    (p a = false → (∀ x ∈ hoppersOf r.mask, channelDown s x = true → (channelRel s a).1 ≠ x) →
      Tab.get 0 (hopEndMem r s).cells a = Tab.get 0 s.mem.cells a) := by
  obtain ⟨-, hfill⟩ := refilled_hopperFills r.params ((hoppersOf r.mask).filter (channelDown s)) s
  have hget : Tab.get 0 (hopEndMem r s).cells a =
      if p a then 0 else Tab.get 0 (((hoppersOf r.mask).filter (channelDown s)).foldl (hopperFill r.params) s).mem.cells a := by
    rw [hp]
    exact Tab.get_filter_key _ _ (hfill.wf hw)
  refine ⟨fun hpa => hget.trans (if_pos hpa), fun hpa hch => ?_⟩
  rw [hget, hpa, if_neg Bool.false_ne_true]
  refine hfill.get hw a fun x hx => ?_
  obtain ⟨hmem, hdown⟩ := List.mem_filter.mp hx
  exact hch x hmem hdown

end

/-- Settles O17: frames swap in the re-placement tables alone, SET_TUN_WINDOW changes one region, and a Hopper run waits until its last report,
when memory becomes `hopEndMem`. -/
theorem moveTunWindowAndHoppersComplete : Obligations.MoveTunWindowAndHoppersComplete := by
  unfold Obligations.MoveTunWindowAndHoppersComplete
  refine ⟨fun m s t c o fs ts cel h hobj hunit hdies hmask hcel hfs hts hlen hlimit => ?move, fun m s t c h hen => ?window,
    fun m s t c h hen => ?absent, fun m s t c h hgood hroom hsome hidle hmay => ?run, fun h rep s r hrun hin => ⟨?report, ?last⟩⟩
  case move =>
    obtain ⟨u, hu, hreplies⟩ := moveObject_replies h hobj hunit hdies hmask hcel hfs hts hlen hlimit
    exact ⟨u, hreplies, swapAll_keeps hu⟩
  case window => exact setTunWindow_of_enabled h hen
  case absent => exact setTunWindow_of_disabled h hen
  case run => exact ⟨_, _, exec_hopperRun h hgood hroom hsome hidle hmay, rfl, rfl, rfl, rfl, rfl, rfl, rfl, rfl⟩
  case report =>
    intro x hx hne hnone
    have hmore : ¬(hoppersOf r.mask).all (fun x => ((reported h rep r).done.get none x).isSome) = true := fun hall => by
      have hsome := List.all_eq_true.mp hall x hx
      rw [reported_get, if_neg hne, hnone] at hsome
      exact absurd hsome (by simp)
    exact ⟨withRun (reported h rep r) s, by rw [exec_hopperDone hrun hin, if_neg hmore], rfl, rfl, rfl⟩
  case last =>
    intro c hheld _ hw hall
    have hlast : (hoppersOf r.mask).all (fun x => ((reported h rep r).done.get none x).isSome) = true :=
      List.all_eq_true.mpr fun x hx => by
        rw [reported_get]
        split
        · rfl
        · next hne => exact hall x hx hne
    have hend := hopperEnd_of_held (s := withRun (reported h rep r) s) (r := reported h rep r) hheld
    refine ⟨hopReply (reported h rep r) s.hk.now, hopEnded (reported h rep r) (withRun (reported h rep r) s), ?_, rfl,
      hopReply_res_length .., rfl, rfl, fun a => ?_, fun a => ?_⟩
    · rw [exec_hopperDone hrun hin, if_pos hlast, hend]
      rfl
    · exact (hopEndMem_get (s := withRun (reported h rep r) s) (r := reported h rep r) hw a _ rfl).1
    · exact (hopEndMem_get (s := withRun (reported h rep r) s) (r := reported h rep r) hw a _ rfl).2

end Sys2Proof.Machine
end

section
/-! SUPPORT. Accesses of any length (06_memory_tiers.md R126, R386): how a range is cut, what a read of a plot's store answers and a write of
HBM stores. -/

namespace Sys2Proof.Machine

/-! ### A range cut at the multiples of a unit -/

/-- The pieces follow one another from a on, n bytes together, none empty and none across a multiple of u. -/
inductive Cut (u : Nat) : List (Nat × Nat) → Nat → Nat → Prop
  | nil (a : Nat) : Cut u [] a 0
  | cons {a k n : Nat} {ls : List (Nat × Nat)} (hpos : 0 < k) (hfits : k ≤ u - a % u) (hrest : Cut u ls (a + k) n) : Cut u ((a, k) :: ls) a (k + n)

/-- With fuel for every unit that the range meets, its pieces cut it. -/
theorem cut_pieces {u fuel a n : Nat} (hu : 0 < u) (hfuel : a % u + n ≤ fuel * u) : Cut u (pieces u fuel a n) a n := by
  induction fuel generalizing a n with
  | zero =>
    obtain rfl : n = 0 := by omega
    exact .nil a
  | succ fuel ih =>
    rcases Nat.eq_zero_or_pos n with rfl | hn
    · exact pieces_zero u (fuel + 1) a ▸ .nil a
    have hmod := Nat.mod_lt a hu
    by_cases hfits : n ≤ u - a % u
    · exact pieces_of_fits hn hfits ▸ .cons hn hfits (.nil _)
    · have hmin : min n (u - a % u) = u - a % u := Nat.min_eq_right (by omega)
      have hnext : (a + (u - a % u)) % u = 0 := by
        rw [show a + (u - a % u) = u * (a / u) + u by have := Nat.div_add_mod a u; omega]
        simp
      have hrest : Cut u (pieces u fuel (a + (u - a % u)) (n - (u - a % u))) (a + (u - a % u)) (n - (u - a % u)) :=
        ih (by rw [hnext]; rw [Nat.succ_mul] at hfuel; omega)
      have hcut := Cut.cons (by omega) le_rfl hrest
      rw [show u - a % u + (n - (u - a % u)) = n by omega] at hcut
      rw [pieces, if_neg (by omega), hmin]
      exact hcut

theorem cut_requests (a n : Nat) : Cut 0x10000 (requests a n) a n := cut_pieces (by decide) (by omega)

theorem cut_lines (a n : Nat) : Cut 128 (lines a n) a n := cut_pieces (by decide) (by omega)

/-! ### A read of a plot's store -/

theorem locate_of_store {p x : Nat} (hp : p < 64) (hlow : storeBase p ≤ x) (hhigh : x < storeBase p + 0x300000) :
    locate x = .store p (x - storeBase p) := by
  unfold storeBase at hlow hhigh ⊢
  have hplot : (x - 0xC000000000) / 0x400000 = p := by omega
  have hoff : (x - 0xC000000000) % 0x400000 = x - (0xC000000000 + p * 0x400000) := by omega
  unfold locate
  rw [if_neg (by omega), if_neg (by omega), if_pos (by omega)]
  dsimp only
  rw [hoff, hplot, if_pos (by omega)]

theorem requestRead_of_store {req p off a n : Nat} {h : Hint} {s : State} (hloc : locate a = .store p off) :
    requestRead req h a n s = (s, rawBytes s a n, false) := by
  have hok : refuses s req a false = false := by
    unfold refuses
    rw [hloc]
  unfold requestRead
  rw [hok, hloc]
  rfl

theorem requestsRead_of_store {req p u a n : Nat} {h : Hint} {rs : List (Nat × Nat)} (s : State) (hcut : Cut u rs a n) (hp : p < 64)
    (hlow : storeBase p ≤ a) (hhigh : a + n ≤ storeBase p + 0x300000) : requestsRead req h rs s = (s, rawBytes s a n, false) := by
  induction hcut with
  | nil a => rfl
  | cons hpos hfits hrest ih =>
    rw [requestsRead, requestRead_of_store (locate_of_store hp hlow (by omega))]
    dsimp only
    rw [ih (by omega) (by omega), rawBytes_add]
    rfl

/-- A read within a plot's store answers the bytes there and changes nothing. -/
theorem devRead_of_store {req p a n : Nat} {h : Hint} (s : State) (hp : p < 64) (hlow : storeBase p ≤ a) (hhigh : a + n ≤ storeBase p + 0x300000) :
    devRead req h a n s = (s, rawBytes s a n, false) := requestsRead_of_store s (cut_requests a n) hp hlow hhigh

/-! ### A write of HBM -/

theorem Memory.putBytes_append (m : Memory) (a : Nat) (bs cs : List Byte) :
    m.putBytes a (bs ++ cs) = (m.putBytes a bs).putBytes (a + bs.length) cs := by
  induction bs generalizing m a with
  | nil => rfl
  | cons b bs ih => rw [List.cons_append, Memory.putBytes, ih, Memory.putBytes, List.length_cons, Nat.add_assoc, Nat.add_comm 1]

theorem Stored.append {s t u : State} {a b : Nat} {bs cs : List Byte} (h : Stored s t a bs) (k : Stored t u b cs) (hb : b = a + bs.length) :
    Stored s u a (bs ++ cs) where
  cells := by rw [k.cells, Memory.putBytes_append, ← hb, Memory.putBytes_cells_congr h.cells]
  withdrawn := k.withdrawn.trans h.withdrawn
  plots := k.plots.trans h.plots
  hk := k.hk.trans h.hk
  grn := k.grn.trans h.grn

/-- From s to t the bytes are stored at a, and the host link has no part in it. -/
structure StoredInHbm (s t : State) (a : Nat) (bs : List Byte) : Prop where
  stored : Stored s t a bs
  host : t.host = s.host

theorem StoredInHbm.nil (s : State) (a : Nat) : StoredInHbm s s a [] := ⟨.nil s a, rfl⟩

/-- The rest of a run of bytes stored behind its first k. -/
theorem StoredInHbm.rest {s t u : State} {a k : Nat} {bs : List Byte} (h : StoredInHbm s t a (bs.take k)) (hk : k ≤ bs.length)
    (hrest : StoredInHbm t u (a + k) (bs.drop k)) : StoredInHbm s u a bs where
  stored := List.take_append_drop k bs ▸ h.stored.append hrest.stored (by rw [List.length_take, Nat.min_eq_left hk])
  host := hrest.host.trans h.host

theorem storedInHbm_lineWrite {h : Hint} {whole : Bool} {a : Nat} {bs : List Byte} {s : State} (hloc : locate a = .hbm) :
    StoredInHbm s (lineWrite h whole a bs s) a bs := by
  refine ⟨stored_lineWrite (by rw [hloc]; nofun), ?_⟩
  unfold lineWrite
  rw [if_neg (by simp [hloc])]
  dsimp only
  split <;> simp

theorem storedInHbm_linesWrite {u lo hi a n : Nat} {h : Hint} {ls : List (Nat × Nat)} {bs : List Byte} {s : State} (hcut : Cut u ls a n)
    (hn : bs.length = n) (hhigh : a + n ≤ 0x8000000000) : StoredInHbm s (linesWrite h lo hi ls bs s) a bs := by
  induction hcut generalizing bs s with
  | nil a =>
    obtain rfl := List.length_eq_zero_iff.mp hn
    exact .nil s a
  | cons hpos hfits hrest ih =>
    exact (storedInHbm_lineWrite (locate_of_hbm (by omega))).rest (by omega) (ih (by rw [List.length_drop]; omega) (by omega))

theorem storedInHbm_requestWrite {req a : Nat} {h : Hint} {bs : List Byte} {s : State} (hlow : a < 0x8000000000)
    (hhigh : a + bs.length ≤ 0x8000000000) (hin : s.mem.withdrawn.get false (a / 0x10000) = false) :
    StoredInHbm s (requestWrite req h a bs s) a bs := by
  have hloc := locate_of_hbm hlow
  have hok : refuses s req a true = false := by
    unfold refuses
    rw [hloc]
    exact hin
  unfold requestWrite
  rw [hok, hloc]
  exact storedInHbm_linesWrite (cut_lines a bs.length) rfl hhigh

theorem storedInHbm_requestsWrite {req u a n : Nat} {h : Hint} {rs : List (Nat × Nat)} {bs : List Byte} {s : State} (hcut : Cut u rs a n)
    (hn : bs.length = n) (hhigh : a + n ≤ 0x8000000000) (hin : ∀ x, a ≤ x → x < a + n → s.mem.withdrawn.get false (x / 0x10000) = false) :
    StoredInHbm s (requestsWrite req h rs bs s) a bs := by
  induction hcut generalizing bs s with
  | nil a =>
    obtain rfl := List.length_eq_zero_iff.mp hn
    exact .nil s a
  | @cons a k n ls hpos hfits hrest ih =>
    have hfirst : StoredInHbm s (requestWrite req h a (bs.take k) s) a (bs.take k) :=
      storedInHbm_requestWrite (by omega) (by rw [List.length_take]; omega) (hin a le_rfl (by omega))
    refine hfirst.rest (by omega) (ih (by rw [List.length_drop]; omega) (by omega) fun x hlow hx => ?_)
    rw [hfirst.stored.withdrawn]
    exact hin x (by omega) (by omega)

/-- A write of any length wholly in HBM, with no withdrawn frame. -/
theorem storedInHbm_devWrite {req a : Nat} {h : Hint} {bs : List Byte} {s : State} (hhigh : a + bs.length ≤ 0x8000000000)
    (hin : ∀ x, a ≤ x → x < a + bs.length → s.mem.withdrawn.get false (x / 0x10000) = false) : StoredInHbm s (devWrite req h a bs s) a bs :=
  storedInHbm_requestsWrite (cut_requests a bs.length) rfl hhigh hin

end Sys2Proof.Machine
end

section
/-! PROOFS. O42: a MOVE of one row from the plot's store into HBM, and its completion. -/

namespace Sys2Proof.Machine

open Sys2Proof.Obl (Issues past)

/-! ### The row -/

/-- A row of the plot's store copied to an address below the cellar. -/
theorem moveRow_of_store {p off src dst n : Nat} {hs hd : Hint} (s : State) (hp : p < 64) (hlow : storeBase p ≤ src)
    (hhigh : src + n ≤ storeBase p + 0x300000) (hdst : dst < 0x20000000000) :
    moveRow p off hs hd src dst n s = (devWrite p hd dst (rawBytes s src n) s, false) := by
  have hsrc : src < 0x20000000000 := by unfold storeBase at hhigh; omega
  unfold moveRow
  rw [if_neg (locate_ne_aperture hsrc), if_neg (locate_ne_aperture hdst), devRead_of_store s hp hlow hhigh]
  rfl

/-- A COPY whose tensors are one row each writes the bytes of the one over the other. -/
theorem moveRun_of_row {p off : Nat} {d : MoveDesc} {src dst : Tensor5} {s : State} (hmode : d.mode = 0)
    (hsrc : src = tensorOf (storeBytes s p d.src 64)) (hdst : dst = tensorOf (storeBytes s p d.dst 64))
    (hsrcRows : tensorRows src = [src.base]) (hdstRows : tensorRows dst = [dst.base]) (hp : p < 64) (hlow : storeBase p ≤ src.base)
    (hhigh : src.base + src.fmt.bytesFor src.e0 ≤ storeBase p + 0x300000) (hbase : dst.base < 0x20000000000) :
    moveRun p off d s = devWrite p dst.hint dst.base (rawBytes s src.base (src.fmt.bytesFor src.e0)) s := by
  have hrows : moveRows p off src.hint dst.hint (src.fmt.bytesFor src.e0) (List.zip (tensorRows src) (tensorRows dst)) s =
      (devWrite p dst.hint dst.base (rawBytes s src.base (src.fmt.bytesFor src.e0)) s, false) := by
    rw [hsrcRows, hdstRows, List.zip_cons_cons, moveRows, moveRow_of_store s hp hlow hhigh hbase]
    rfl
  have hfence : (locate dst.base = .aperture && dst.hint = .last) = false := by simp [locate_ne_aperture hbase]
  unfold moveRun
  dsimp only
  rw [← hsrc, ← hdst, hmode, if_neg (by decide), hfence, if_neg Bool.false_ne_true, hrows]
  rfl

/-! ### The issue -/

/-- The operation that a MOVE's issue puts in flight. -/
def moveFlight (s : State) (p off : Nat) (ready : Bool) : Flight := ⟨2, off, rawBytes s (storeBase p + off) 32, ready, [], [], false, 0⟩

/-- The plot with a MOVE in flight, its wait satisfied. -/
def withMove (s : State) (p off : Nat) (q : Plot) : Plot := { q with flight := q.flight ++ [moveFlight s p off true] }

/-- The state in which the accesses of an issued MOVE that waits for nothing are made. -/
def moving (p off : Nat) (s : State) : State :=
  (launch p 2 off 32 s).onPlot p (fun q => q.onFlight (s.plot p).flight.length (fun f => { f with ready := true }))

section
variable {p off : Nat} {s : State} (hw : Tab.wf {} s.plots = true)
include hw

theorem launch_flight : ((launch p 2 off 32 s).plot p).flight = (s.plot p).flight ++ [moveFlight s p off false] := by
  rw [launch, State.plot_onPlot_self p _ hw]
  rfl

theorem moving_plot (j : Nat) : (moving p off s).plot j = if j = p then withMove s p off (s.plot p) else s.plot j := by
  have hlaunch : Tab.wf {} (launch p 2 off 32 s).plots = true := State.wf_plots_onPlot p _ hw
  rw [moving, State.plot_onPlot _ _ _ _ hlaunch]
  split
  · rw [launch, State.plot_onPlot_self p _ hw]
    have hflight : ((s.plot p).flight ++ [moveFlight s p off false]).modify (s.plot p).flight.length (fun f => { f with ready := true }) =
        (s.plot p).flight ++ [moveFlight s p off true] := List.modifyTailIdx_add _ 0 _ _
    exact congrArg (fun fs => { s.plot p with flight := fs }) hflight
  · next hj => rw [launch, State.plot_onPlot _ _ _ _ hw, if_neg hj]

theorem sameStream_moving : SameStream p s (moving p off s) where
  active := rfl
  pc st := by
    rw [moving_plot hw, if_pos rfl]
    cases st <;> rfl
  plots := State.wf_plots_onPlot p _ (State.wf_plots_onPlot p _ hw)

end

/-- A store from there leaves the plots as they are. -/
theorem Stored.plot_of_moving {p off a : Nat} {bs : List Byte} {s u : State} (h : Stored (moving p off s) u a bs)
    (hw : Tab.wf {} s.plots = true) (j : Nat) : u.plot j = if j = p then withMove s p off (s.plot p) else s.plot j := by
  rw [← moving_plot hw, State.plot, h.plots]
  rfl

theorem SameStream.stored {p a : Nat} {bs : List Byte} {s t u : State} (h : SameStream p s t) (hstored : Stored t u a bs) (hsch : u.sch = t.sch) :
    SameStream p s u where
  active := hsch ▸ h.active
  pc st := by rw [State.plot, hstored.plots]; exact h.pc st
  plots := hstored.plots ▸ h.plots

theorem rawByte_moving (p off : Nat) (s : State) (x : Nat) : rawByte (moving p off s) x = rawByte s x :=
  rawByte_congr (s := s) (t := moving p off s) rfl rfl x

theorem rawByte_past (p : Nat) (st : Stream) (s : State) (x : Nat) : rawByte (past p st s) x = rawByte s x :=
  rawByte_congr (s := s) (t := past p st s) rfl rfl x

theorem rawBytes_moving (p off : Nat) (s : State) (a n : Nat) : rawBytes (moving p off s) a n = rawBytes s a n :=
  rawBytes_congr fun x _ _ => rawByte_moving p off s x

/-- The accesses of a MOVE that waits for nothing and has not run. -/
theorem moveStart_of_no_wait {p i : Nat} {f : Flight} {s : State} (hready : f.ready = false) (hwait : (moveOf f.desc).waitEn = false) :
    moveStart p i f s = moveRun p f.off (moveOf f.desc) (s.onPlot p (fun q => q.onFlight i (fun f => { f with ready := true }))) := by
  unfold moveStart
  dsimp only
  rw [hwait, flightWait_of_no_wait, readied, hready]
  simp only [Bool.false_eq_true, if_false]

/-- An issued MOVE that waits for nothing runs at once. -/
theorem exec_move_issues {p : Fin 64} {st : Stream} {off : Nat} {s : State} {d : MoveDesc} (hi : Issues s p st (.move off))
    (hd : d = moveOf (rawBytes s (storeBase p + off) 32)) (hwait : d.waitEn = false)
    (hrun : SameStream p s (moveRun p off d (moving p off s))) : exec (.move p st) s = .next (past p st (moveRun p off d (moving p off s))) := by
  have hw := plots_wf_of_issues hi
  subst hd
  refine congrArg Host.Outcome.next (seqStep_of_some hi (congrArg some ?_) hrun)
  rw [launch_flight hw, List.length_append, List.length_singleton, Nat.add_sub_cancel, List.getD_append_right _ _ _ _ le_rfl, Nat.sub_self]
  exact moveStart_of_no_wait rfl hwait

/-! ### The completion -/

/-- MOVE_COMPLETE of a MOVE that has run and has no read outstanding. -/
theorem exec_moveComplete_of_done {p : Fin 64} {s : State} {i : Nat} {f : Flight} (hfirst : (s.plot p).flight.findIdx? (fun f => f.kind == 2) = some i)
    (hf : (s.plot p).flight[i]? = some f) (hready : f.ready = true) (hreads : moveReads s p f.off = 0) :
    exec (.moveComplete p) s = .next (if (moveOf f.desc).postEn
      then semPostAt p (moveOf f.desc).semPost 1 (takeFence p (s.onPlot p (·.endFlight i))) else takeFence p (s.onPlot p (·.endFlight i))) := by
  have hget : (s.plot p).flight.getD i default = f := by rw [List.getD_eq_getElem?_getD, hf]; rfl
  have hstart : moveStart p i f s = s := by simp [moveStart, flightWait, hready]
  have hend : moveEnd p i f s = descPost (moveOf f.desc).postEn p (moveOf f.desc).semPost (takeFence p (s.onPlot p (·.endFlight i))) := by
    simp [moveEnd, -List.getD_eq_getElem?_getD, hget, hready, hreads]
  refine congrArg Host.Outcome.next ?_
  simp only [hfirst, hget, hstart, hend]
  rfl

/-- A fence taken counts one more for its engine. -/
theorem takeFence_fences (e : Nat) {s : State} (hw : Tab.wf 0 s.mem.fences = true) :
    (takeFence e s).mem.fences.get 0 e = sat48 (s.mem.fences.get 0 e + 1) := by
  have hfences : (takeFence e s).mem.fences = s.mem.fences.modify 0 e (fun c => sat48 (c + 1)) := rfl
  rw [hfences, Tab.get_modify _ _ _ _ _ hw, if_pos rfl]

/-- Settles O42: the issue reads the row from the plot's store, cut in frames, and writes it to HBM, cut in frames and lines
(`devRead_of_store`, `storedInHbm_devWrite`); the completion removes the entry and takes the fence. -/
theorem moveCopiesRowsIntoHbm : Obligations.MoveCopiesRowsIntoHbm := by
  unfold Obligations.MoveCopiesRowsIntoHbm
  refine ⟨?_, ?_⟩
  · intro p st off n s d src dst hi hd hsrc hdst hmode hwait hsrcRows hdstRows hn hlow hhigh hdstHigh hin hwf
    subst hn
    have hw := plots_wf_of_issues hi
    have hbytes := rawBytes_moving p off s
    have hrun : moveRun p off d (moving p off s) = devWrite p dst.hint dst.base (rawBytes s src.base (src.fmt.bytesFor src.e0)) (moving p off s) := by
      rw [moveRun_of_row hmode (hsrc.trans (congrArg tensorOf (hbytes ..).symm)) (hdst.trans (congrArg tensorOf (hbytes ..).symm)) hsrcRows hdstRows
        p.isLt hlow hhigh (by omega), hbytes]
    obtain ⟨u, hu⟩ : ∃ u, u = devWrite p dst.hint dst.base (rawBytes s src.base (src.fmt.bytesFor src.e0)) (moving p off s) := ⟨_, rfl⟩
    have hlen := rawBytes_length s src.base (src.fmt.bytesFor src.e0)
    have hsaved : StoredInHbm (moving p off s) u dst.base (rawBytes s src.base (src.fmt.bytesFor src.e0)) :=
      hu ▸ storedInHbm_devWrite (by rwa [hlen]) (by rw [hlen]; exact hin)
    have hplot := hsaved.stored.plot_of_moving hw
    have hsame : SameStream p s u := (sameStream_moving hw).stored hsaved.stored (hu ▸ devWrite_sch ..)
    refine ⟨past p st u, ?_, ?_, fun a ha => ?_, ?_, ?_, fun j hj => ?_, hsaved.stored.hk, hsaved.host⟩
    · have hexec := exec_move_issues hi hd hwait (by rwa [hrun, ← hu])
      rwa [hrun, ← hu] at hexec
    · have hread := hsaved.stored.rawBytes_eq hwf fun x _ hx o => by
        rw [hlen] at hx
        rw [locate_of_hbm (by omega)]
        nofun
      rw [rawBytes_congr fun x _ _ => rawByte_past p st u x]
      rwa [hlen] at hread
    · rw [rawByte_past, hsaved.stored.rawByte_outside hwf (by rwa [hlen]), rawByte_moving]
    · rw [past, State.plot_onPlot_self _ _ hsame.plots, Plot.pc_setPc, hsame.pc]
    · rw [past, State.plot_onPlot_self _ _ hsame.plots, hplot, if_pos rfl]
      cases st <;> rfl
    · rw [past, State.plot_onPlot _ _ _ _ hsame.plots, if_neg hj, hplot, if_neg hj]
  · intro p s i f hfirst hf hready hreads hw
    refine ⟨_, exec_moveComplete_of_done hfirst hf hready hreads, ?_, takeFence_cells .., takeFence_fences p, takeFence_hk ..⟩
    unfold State.plot
    rw [takeFence_plots]
    exact congrArg Plot.flight (State.plot_onPlot_self p.val _ hw)

end Sys2Proof.Machine
end

section
/-! SUPPORT. The Granary's work (07_granary_and_tables.md R149, R158 to R164): what an access to memory and a change of the directory leave
alone, and the objects of a new table. -/

namespace Sys2Proof.Machine

variable {s t : State}

/-! ### Beside the directory -/

/-- The Granary but for its directory, its counters and its pin books. -/
def Granary.besideDir (g : Granary) : Granary := { g with dir := [], counts := [], taken := [], released := [] }

/-- What the Granary's accesses to memory and changes of its directory leave alone: the plots, the Lauter engine, the schedule, and the rest of
the Granary. -/
def besideDir (s : State) : Tab Plot × Lauter × Schedule × Granary := (s.plots, s.ltr, s.sch, s.grn.besideDir)

theorem eq_of_besideDir (h : besideDir t = besideDir s) :
    t.plots = s.plots ∧ t.ltr = s.ltr ∧ t.sch = s.sch ∧ t.grn.besideDir = s.grn.besideDir := by
  simpa [besideDir] using h

theorem tables_of_besideDir (h : besideDir t = besideDir s) : t.grn.tables = s.grn.tables :=
  (congrArg Granary.tables (eq_of_besideDir h).2.2.2 :)

theorem steps_of_besideDir (h : besideDir t = besideDir s) : t.grn.steps = s.grn.steps :=
  (congrArg Granary.steps (eq_of_besideDir h).2.2.2 :)

@[simp] theorem besideDir_onMem (f : Memory → Memory) (s : State) : besideDir (s.onMem f) = besideDir s := rfl
@[simp] theorem besideDir_countGrn (t i n : Nat) (s : State) : besideDir (countGrn t i n s) = besideDir s := rfl
@[simp] theorem besideDir_onDir (e : Nat) (f : DirEntry → DirEntry) (s : State) : besideDir (onDir e f s) = besideDir s := rfl

@[simp] theorem besideDir_grnEvent (b t x : Nat) (s : State) : besideDir (grnEvent b t x s) = besideDir s := by
  simp [besideDir, grnEvent]

@[simp] theorem besideDir_devRead (req : Nat) (h : Hint) (a n : Nat) (s : State) : besideDir (devRead req h a n s).1 = besideDir s := by
  simp [besideDir]

theorem linesWrite_grn (h : Hint) (lo hi : Nat) (ls : List (Nat × Nat)) (bs : List Byte) (s : State) : (linesWrite h lo hi ls bs s).grn = s.grn := by
  induction ls generalizing bs s with
  | nil => rfl
  | cons x ls ih =>
    rw [linesWrite, ih]
    unfold lineWrite
    split
    · rfl
    · dsimp only
      split <;> simp

theorem besideDir_dirWrite (ps : List (Nat × Nat)) (bs : List Byte) (s : State) : (dirWrite ps bs s).grn.besideDir = s.grn.besideDir := by
  induction ps generalizing bs s with
  | nil => rfl
  | cons x ps ih => exact ih _ _

theorem hostWrite_grn (req a : Nat) (bs : List Byte) (ep : Bool) (s : State) : (hostWrite req a bs ep s).grn = s.grn := by
  unfold hostWrite
  split
  · rfl
  · split <;> simp

theorem besideDir_requestWrite (req : Nat) (h : Hint) (a : Nat) (bs : List Byte) (s : State) :
    (requestWrite req h a bs s).grn.besideDir = s.grn.besideDir := by
  unfold requestWrite
  split
  · simp
  · split
    · rw [linesWrite_grn]
    · rw [linesWrite_grn]
    · rw [hostWrite_grn]
    · exact besideDir_dirWrite ..
    · rfl

/-- A write may reach the directory, which lies in the address map. -/
@[simp] theorem besideDir_devWrite (req : Nat) (h : Hint) (a : Nat) (bs : List Byte) (s : State) :
    besideDir (devWrite req h a bs s) = besideDir s := by
  have hgrn : (devWrite req h a bs s).grn.besideDir = s.grn.besideDir := by
    unfold devWrite
    generalize requests a bs.length = rs
    induction rs generalizing bs s with
    | nil => rfl
    | cons x rs ih => exact (ih _ _).trans (besideDir_requestWrite ..)
  simp [besideDir, hgrn]

@[simp] theorem besideDir_poisonRange (req a n : Nat) (s : State) : besideDir (poisonRange req a n s) = besideDir s := by
  refine State.each_keeps besideDir _ (fun x s => ?_) _ s
  repeat' split
  all_goals simp [besideDir]

/-! ### Records and ways -/

theorem besideDir_copyBytes (req src dst n : Nat) (s : State) : besideDir (copyBytes req src dst n s).1 = besideDir s := by
  unfold copyBytes
  dsimp only
  split <;> simp

@[simp] theorem besideDir_copyBlocks (req src dst n : Nat) (s : State) : besideDir (copyBlocks req src dst n s) = besideDir s :=
  State.each_keeps besideDir _ (fun _ _ => besideDir_copyBytes ..) _ s

@[simp] theorem besideDir_writeBackWay (e : Nat) (s : State) : besideDir (writeBackWay e s) = besideDir s := by
  unfold writeBackWay
  dsimp only
  split
  · rfl
  · split
    · refine State.each_keeps besideDir _ (fun i s => ?_) _ s
      split <;> simp
    · rfl

@[simp] theorem besideDir_unpin (b e : Nat) (s : State) : besideDir (unpin b e s) = besideDir s := by
  unfold unpin
  dsimp only
  split <;> rfl

@[simp] theorem besideDir_dropWay (e : Nat) (s : State) : besideDir (dropWay e s) = besideDir s := by
  change besideDir (unpin 1 e (unpin 0 e s)) = besideDir s
  simp

@[simp] theorem besideDir_emptyWay (e : Nat) (s : State) : besideDir (emptyWay e s) = besideDir s := by
  change besideDir (writeBackWay e s) = besideDir s
  simp

theorem besideDir_piecesRead (req : Nat) (ps : List (Nat × Nat)) (s : State) : besideDir (piecesRead req ps s).1 = besideDir s := by
  induction ps generalizing s with
  | nil => rfl
  | cons x ps ih => exact (ih _).trans (besideDir_devRead ..)

@[simp] theorem besideDir_recRead (t : Nat) (tb : Table) (v l : Nat) (s : State) : besideDir (recRead t tb v l s).1 = besideDir s :=
  besideDir_piecesRead ..

@[simp] theorem besideDir_putHot (tb : Table) (i row count : Nat) (s : State) : besideDir (putHot tb i row count s) = besideDir s :=
  besideDir_devWrite ..

/-! ### Objects of a table (R149) -/

/-- An object placed is entered in the books of memory. -/
theorem placeObj_only {part size : Nat} {tun : Bool} {x : Int} {table : Option Nat} {r : State × Nat × Nat × Nat}
    (h : placeObj part size tun x table s = some r) : OnlyBooks s r.1 := by
  unfold placeObj at h
  dsimp only at h
  split at h
  · exact absurd h (by simp)
  · split at h
    · rw [← Option.some.inj h]
      exact ⟨rfl, rfl⟩
    · exact absurd h (by simp)

/-- A table's objects placed: the books of memory name them, and the table is the one asked for with its objects, its home in slot 0. -/
theorem placeTable_spec {n part : Nat} {tb : Table} {p : State × Table} (h : placeTable n part tb s = some p) :
    OnlyBooks s p.1 ∧ ∃ home books acc rep region,
      p.2 = { tb with homes := [(0, home)], metaObj := books, accObj := acc, repObj := rep, region := region } := by
  obtain ⟨home, hhome, h⟩ := Option.bind_eq_some_iff.mp h
  obtain ⟨books, hbooks, h⟩ := Option.bind_eq_some_iff.mp h
  obtain ⟨acc, hacc, h⟩ := Option.bind_eq_some_iff.mp h
  obtain ⟨rep, hrep, rfl⟩ := Option.map_eq_some_iff.mp h
  exact ⟨(((placeObj_only hhome).trans (placeObj_only hbooks)).trans (placeObj_only hacc)).trans (placeObj_only hrep), _, _, _, _, _, rfl⟩

/-- The state with a table entered under a number, its counters 0. -/
def withTable (n : Nat) (tb : Table) (s : State) : State :=
  s.onGrn (fun g => { g with tables := g.tables.set none n (some tb), counts := g.counts.filter (fun kv => kv.1 / 32 != n) })

theorem table_withTable (n : Nat) (tb : Table) (s : State) : (withTable n tb s).table n = some tb :=
  Tab.get_set_of_ne _ _ _ _ (Option.some_ne_none tb)

theorem counts_withTable {n i : Nat} (tb : Table) (hi : i < 32) (hw : Tab.wf 0 s.grn.counts = true) :
    (withTable n tb s).grn.counts.get 0 (32 * n + i) = 0 :=
  (Tab.get_filter_key (fun k => k / 32 == n) _ hw).trans (if_pos (by simp; omega))

end Sys2Proof.Machine
end

section
/-! PROOFS. TABLE_CREATE (07_granary_and_tables.md R149 to R151, 13_maltster_mailboxes.md Table 13.10). -/

namespace Sys2Proof.Machine

open Sys2Proof.Obl (taken Replies)

variable {m : Fin 64} {s t : State} {c : Cmd}

/-- TABLE_CREATE of a table that exists. -/
theorem tableCreate_exists (h : taken { fields := [(0, 30)], argOk := fun _ => true } 0x0301 m s = some (c, t))
    (htable : (t.table (c.at_ 0 2)).isSome = true) : Replies (.tableCreate m) s c { status := .badArgument, detail := 32 } t :=
  replies_of_taken h rfl (if_pos htable)

/-- How a sound TABLE_CREATE ends: without room refused, else with the bases of the table's objects. -/
def createAnswer (n : Nat) (t : State) : Option (State × Table) → Reply × State
  | none => ({ status := .refusedCapacity }, t)
  | some (v, tb) =>
    let u := withTable n tb v
    ({ status := .ok, inline := leBytes 8 (homeBase u tb 0) ++ leBytes 8 (objBase u tb.accObj) ++ leBytes 8 (objBase u tb.metaObj) }, u)

/-- TABLE_CREATE past its checks. -/
theorem tableCreate_replies {map : List Nat} {tb : Table} {p : Option (State × Table)}
    (h : taken { fields := [(0, 30)], argOk := fun _ => true } 0x0301 m s = some (c, t)) (hnew : t.table (c.at_ 0 2) = none)
    (hfields : createBad c = none) (hlen : c.argLen = 8 * ceilDiv (c.at_ 8 6) (2 ^ c.at_ 6 1))
    (hmap : map = (List.range (ceilDiv (c.at_ 8 6) (2 ^ c.at_ 6 1))).map (fun i => leAt c.arg (8 * i) 8)) (htb : tb = createTable c map)
    (hsound : mapBad tb.self map [] 0 = none) (hslots : ∀ v ∈ map, v % 2 ^ 15 = tb.self → natBits 31 16 v < tb.homeSlots)
    (hplaced : placeTable (c.at_ 0 2) (c.at_ 17 1) tb t = p) :
    Replies (.tableCreate m) s c (createAnswer (c.at_ 0 2) t p).1 (createAnswer (c.at_ 0 2) t p).2 := by
  have hroom : map.any (fun v => v % 2 ^ 15 == tb.self && decide (tb.homeSlots ≤ natBits 31 16 v)) = false := by
    simpa [List.any_eq_false] using hslots
  refine replies_of_taken h rfl ?_
  dsimp only
  rw [hnew, hfields, if_neg (by simp), ← hmap, ← htb]
  dsimp only
  rw [if_neg (by simp [hlen]), hsound]
  dsimp only
  rw [hroom, if_neg Bool.false_ne_true, hplaced]
  cases p <;> rfl

/-- Settles O18: past its checks, TABLE_CREATE places the objects, enters the table and clears its counters. -/
theorem tableCreateDefinesTheTable : Obligations.TableCreateDefinesTheTable := by
  unfold Obligations.TableCreateDefinesTheTable
  intro m s t c h
  refine ⟨tableCreate_exists h, fun map tb hnew hfields hlen hmap htb hsound hslots => ⟨fun hplaced => ?_, fun p hplaced => ?_⟩⟩
  · exact tableCreate_replies (p := none) h hnew hfields hlen hmap htb hsound hslots hplaced
  · obtain ⟨⟨hrest, hcells⟩, home, books, acc, rep, region, htable⟩ := placeTable_spec hplaced
    have hgrn : p.1.grn = t.grn := (congrArg State.grn hrest :)
    refine ⟨withTable (c.at_ 0 2) p.2 p.1, tableCreate_replies (p := some p) h hnew hfields hlen hmap htb hsound hslots hplaced,
      table_withTable .., ?_⟩
    rw [htable, htb]
    exact ⟨rfl, rfl, rfl, rfl, rfl, rfl, rfl, rfl, rfl, rfl, fun i hi hw => counts_withTable _ hi (hgrn ▸ hw), hcells,
      (congrArg State.sch hrest :), (congrArg State.plots hrest :), (congrArg State.ltr hrest :)⟩

end Sys2Proof.Machine
end

section
/-! SUPPORT. Table data (07_granary_and_tables.md R152, R170, R173 to R175): what stays unpoisoned, rows loaded and exported, a version staged, and
the candidates chosen. -/

namespace Sys2Proof

@[simp] theorem slice_length (bs : List Byte) (off n : Nat) : (slice bs off n).length = n := by
  simp only [slice, zeros, List.length_append, List.length_take, List.length_drop, List.length_replicate]
  omega

@[simp] theorem padTo_length (n : Nat) (bs : List Byte) : (padTo n bs).length = n := slice_length ..

@[simp] theorem zeros_length (n : Nat) : (zeros n).length = n := List.length_replicate

theorem padTo_of_length_le {bs : List Byte} {n : Nat} (h : bs.length ≤ n) : padTo n bs = bs ++ zeros (n - bs.length) := by
  simp [padTo, slice, List.take_of_length_le h]

/-- The bytes that stand behind others in a list. -/
theorem slice_append (xs ys zs : List Byte) : slice (xs ++ (ys ++ zs)) xs.length ys.length = ys := by
  simp [slice, zeros]

end Sys2Proof

namespace Sys2Proof.Machine

open Sys2Proof.Obl (SameButCache)

variable {s t u : State}

/-! ### Poison stays away -/

/-- Where s holds no poison t holds none, and the same dies are lost. -/
structure StaysClean (s t : State) : Prop where
  hbm : s.mem.hbmPoison = [] → t.mem.hbmPoison = []
  kiln : s.mem.kilnPoison = [] → t.mem.kilnPoison = []
  dies : t.mem.dieLost = s.mem.dieLost

theorem StaysClean.refl (s : State) : StaysClean s s := ⟨id, id, rfl⟩

theorem StaysClean.trans (h : StaysClean s t) (k : StaysClean t u) : StaysClean s u :=
  ⟨fun hs => k.hbm (h.hbm hs), fun hs => k.kiln (h.kiln hs), k.dies.trans h.dies⟩

theorem StaysClean.of_mem (h : t.mem = s.mem) : StaysClean s t := by
  constructor <;> rw [h] <;> exact id

theorem SameButCache.staysClean (h : SameButCache s t) : StaysClean s t := by
  rw [h]
  exact ⟨id, id, rfl⟩

theorem staysClean_putBytes (a : Nat) (bs : List Byte) (s : State) : StaysClean s (s.onMem (fun m => m.putBytes a bs)) := by
  rw [State.onMem, Memory.putBytes_eq]
  exact ⟨id, id, rfl⟩

theorem staysClean_clearPoison (a : Nat) (s : State) : StaysClean s (s.onMem (fun m => m.setPoison a false)) := by
  unfold State.onMem Memory.setPoison
  split
  · exact ⟨fun h => by simp [h, Tab.set, Tab.erase], id, rfl⟩
  · exact ⟨id, fun h => by simp [h, Tab.set, Tab.erase], rfl⟩

theorem staysClean_lineWrite (h : Hint) (whole : Bool) (a : Nat) (bs : List Byte) (s : State) : StaysClean s (lineWrite h whole a bs s) := by
  unfold lineWrite
  split
  · exact ⟨id, id, rfl⟩
  · have hput := (SameButCache.staysClean (sameButCache_maltTouch h true (bs.length == 128) a s)).trans (staysClean_putBytes a bs _)
    dsimp only
    split
    · exact hput.trans (staysClean_clearPoison a _)
    · exact hput

theorem staysClean_linesWrite (h : Hint) (lo hi : Nat) (ls : List (Nat × Nat)) (bs : List Byte) (s : State) :
    StaysClean s (linesWrite h lo hi ls bs s) := by
  induction ls generalizing bs s with
  | nil => exact .refl s
  | cons x ls ih => exact (staysClean_lineWrite ..).trans (ih _ _)

theorem staysClean_requestWrite (req : Nat) (h : Hint) (a : Nat) (bs : List Byte) (s : State) : StaysClean s (requestWrite req h a bs s) := by
  unfold requestWrite
  split
  · exact .of_mem (addrFault_mem ..)
  · split
    · exact staysClean_linesWrite ..
    · exact staysClean_linesWrite ..
    · exact .of_mem (hostWrite_mem ..)
    · exact .of_mem (dirWrite_mem ..)
    · exact staysClean_putBytes ..

/-- A write poisons nothing. -/
theorem staysClean_devWrite (req : Nat) (h : Hint) (a : Nat) (bs : List Byte) (s : State) : StaysClean s (devWrite req h a bs s) := by
  unfold devWrite
  generalize requests a bs.length = rs
  induction rs generalizing bs s with
  | nil => exact .refl s
  | cons x rs ih => exact (staysClean_requestWrite ..).trans (ih _ _)

@[simp] theorem unpin_mem (b e : Nat) (s : State) : (unpin b e s).mem = s.mem := by
  unfold unpin
  dsimp only
  split <;> rfl

@[simp] theorem dropWay_mem (e : Nat) (s : State) : (dropWay e s).mem = s.mem := by
  change (unpin 1 e (unpin 0 e s)).mem = s.mem
  simp

/-! ### Rows loaded (R174) -/

/-- The rows of a TABLE_LOAD that this module stores, each with its place in the argument. -/
def loadedRows (tb : Table) (c : Cmd) : List (Nat × Nat) :=
  ((List.range (c.at_ 16 8)).map (fun i => (c.at_ 8 6 + i, i))).filter (fun x => tb.owns x.1 || x.1 == tb.rows)

theorem loadedRows_length (tb : Table) (c : Cmd) :
    (loadedRows tb c).length = (((List.range (c.at_ 16 8)).map (c.at_ 8 6 + ·)).filter (fun r => tb.owns r || r == tb.rows)).length := by
  simp only [loadedRows, List.filter_map, List.length_map]
  rfl

/-- The record of a row that a TABLE_LOAD supplies. -/
def suppliedRec (tb : Table) (c : Cmd) (x : Nat × Nat) : List Byte :=
  loadRec tb (c.at_ 2 1) (c.at_ 3 1 == 1) x.1 (slice c.arg (x.2 * tb.sr) tb.sr)

/-- A supplied row stored: the default row in the replica object, another in the home, whose way then no longer holds it. -/
def loadRow (tb : Table) (c : Cmd) (x : Nat × Nat) (s : State) : State :=
  if x.1 = tb.rows then devWrite reqGranary .none (repAddr s tb defaultPos) (suppliedRec tb c x) s
  else
    let u := devWrite reqGranary .none (homeAddr s tb (c.at_ 2 1) (tb.localOf x.1)) (suppliedRec tb c x) s
    match findWay u (c.at_ 0 2) (c.at_ 2 1) (tb.localOf x.1 / tb.per) with
    | some e => dropWay e u
    | none => u

/-- The rows of a TABLE_LOAD stored. -/
def loadRows (tb : Table) (c : Cmd) (s : State) : State :=
  clearLoaded tb (c.at_ 2 1) ((loadedRows tb c).map (·.1)) (State.each (loadRow tb c) (loadedRows tb c) s)

theorem besideDir_loadRow (tb : Table) (c : Cmd) (x : Nat × Nat) (s : State) : besideDir (loadRow tb c x s) = besideDir s := by
  unfold loadRow
  split
  · simp
  · dsimp only
    split <;> simp

theorem besideDir_clearLoaded (tb : Table) (v : Nat) (rows : List Nat) (s : State) : besideDir (clearLoaded tb v rows s) = besideDir s := by
  refine State.each_keeps besideDir _ (fun x s => ?_) _ s
  dsimp only
  repeat' split
  all_goals simp

theorem besideDir_loadRows (tb : Table) (c : Cmd) (s : State) : besideDir (loadRows tb c s) = besideDir s :=
  (besideDir_clearLoaded ..).trans (State.each_keeps besideDir _ (besideDir_loadRow tb c) ..)

/-- A row of the table stored in its home. -/
theorem loadRow_mem {tb : Table} {c : Cmd} {x : Nat × Nat} (h : x.1 ≠ tb.rows) (s : State) :
    (loadRow tb c x s).mem = (devWrite reqGranary .none (homeAddr s tb (c.at_ 2 1) (tb.localOf x.1)) (suppliedRec tb c x) s).mem := by
  unfold loadRow
  rw [if_neg h]
  dsimp only
  split
  · exact dropWay_mem ..
  · rfl

theorem clearLoaded_of_clean {tb : Table} {v : Nat} {rows : List Nat} (h : s.mem.kilnPoison = []) : clearLoaded tb v rows s = s := by
  unfold clearLoaded
  rw [h]
  rfl

/-- A row given by its weights alone: step, count and moments are zero. -/
theorem suppliedRec_weights {tb : Table} {c : Cmd} {r : Nat} (hmode : c.at_ 3 1 = 0) (hr : r ≠ tb.rows) :
    suppliedRec tb c (r, 0) =
      recFlags (c.at_ 2 1) false false (zeros 16 ++ slice (slice c.arg 0 tb.sr) 16 tb.wBytes ++ zeros tb.dim) := by
  simp [suppliedRec, loadRec, hmode, hr]

/-- One owned row loaded where nothing is poisoned is one write of its home. -/
theorem loadRows_cells_of_one {tb : Table} {c : Cmd} (hone : c.at_ 16 8 = 1) (hrow : c.at_ 8 6 < tb.rows) (howns : tb.owns (c.at_ 8 6) = true)
    (hclean : s.mem.kilnPoison = []) : loadedRows tb c = [(c.at_ 8 6, 0)] ∧
      (loadRows tb c s).mem.cells =
        (devWrite reqGranary .none (homeAddr s tb (c.at_ 2 1) (tb.localOf (c.at_ 8 6))) (suppliedRec tb c (c.at_ 8 6, 0)) s).mem.cells := by
  have hrows : loadedRows tb c = [(c.at_ 8 6, 0)] := by simp [loadedRows, hone, howns]
  have hmem := loadRow_mem (c := c) (x := (c.at_ 8 6, 0)) hrow.ne s
  refine ⟨hrows, ?_⟩
  unfold loadRows
  rw [hrows]
  change (clearLoaded _ _ _ (loadRow tb c (c.at_ 8 6, 0) s)).mem.cells = _
  rw [clearLoaded_of_clean (hmem ▸ (staysClean_devWrite ..).kiln hclean), hmem]

/-! ### Rows exported (R175) -/

theorem piecesRead_cells (req : Nat) (ps : List (Nat × Nat)) (s : State) : (piecesRead req ps s).1.mem.cells = s.mem.cells := by
  induction ps generalizing s with
  | nil => rfl
  | cons x ps ih => exact (ih _).trans (devRead_cells ..)

@[simp] theorem recRead_cells (t : Nat) (tb : Table) (v l : Nat) (s : State) : (recRead t tb v l s).1.mem.cells = s.mem.cells :=
  piecesRead_cells ..

@[simp] theorem repRead_cells (tb : Table) (pos : Nat) (s : State) : (repRead tb pos s).1.mem.cells = s.mem.cells := devRead_cells ..

@[simp] theorem countGrn_mem (t i n : Nat) (s : State) : (countGrn t i n s).mem = s.mem := rfl
@[simp] theorem grnEvent_mem (b t x : Nat) (s : State) : (grnEvent b t x s).mem = s.mem := event_mem ..

/-- A row exported changes no byte and fills one stride. -/
theorem exportRow_spec (t : Nat) (tb : Table) (v r : Nat) (s : State) :
    (exportRow t tb v r s).1.mem.cells = s.mem.cells ∧ (exportRow t tb v r s).2.1.length = tb.sr := by
  unfold exportRow
  dsimp only
  repeat' split
  all_goals simp

/-- Rows exported change no byte, fill a stride each, and at most all of them are poisoned. -/
theorem exportRows_spec (t : Nat) (tb : Table) (v : Nat) (rs : List Nat) (s : State) :
    (exportRows t tb v rs s).1.mem.cells = s.mem.cells ∧ (exportRows t tb v rs s).2.1.length = rs.length * tb.sr ∧
      (exportRows t tb v rs s).2.2 ≤ rs.length := by
  induction rs generalizing s with
  | nil => exact ⟨rfl, by simp [exportRows], le_rfl⟩
  | cons r rs ih =>
    obtain ⟨hcells, hlen⟩ := exportRow_spec t tb v r s
    obtain ⟨hcells', hlen', hbad⟩ := ih (exportRow t tb v r s).1
    have hbit : b2n (exportRow t tb v r s).2.2 ≤ 1 := by unfold b2n; split <;> decide
    refine ⟨hcells'.trans hcells, ?_, ?_⟩
    · change ((exportRow t tb v r s).2.1 ++ _).length = _
      rw [List.length_append, hlen, hlen', List.length_cons, Nat.succ_mul, Nat.add_comm]
    · change b2n _ + _ ≤ _
      rw [List.length_cons]
      omega

theorem exportHeader_dim (s : State) (c : Cmd) (tb : Table) : leAt (exportHeader s c tb) 4 2 = tb.dim % 65536 := by
  unfold exportHeader
  rw [padTo_of_length_le (by simp)]
  simp only [List.append_assoc]
  rw [← List.append_assoc (slice c.slot 32 2)]
  have hslice := slice_append (slice c.slot 32 2 ++ slice c.slot 34 2) (leBytes 2 tb.dim)
  rw [leBytes_length, List.length_append, slice_length, slice_length] at hslice
  rw [leAt, hslice]
  exact leNat_leBytes 2 tb.dim

/-! ### A version staged (R173) -/

@[simp] theorem besideDir_copyRec (n : Nat) (tb : Table) (r : Nat) (s : State) : besideDir (copyRec n tb r s) = besideDir s := by
  unfold copyRec
  dsimp only
  split <;> simp

/-- The table with its other version slot staged in an object. -/
def stagedIn (tb : Table) (id : Nat) : Table := { tb with homes := tb.homes.set 0 (1 - tb.cur) id, staged := true }

/-- The state with table n replaced. -/
def replaceTable (n : Nat) (tb : Table) (s : State) : State := s.onTable n (fun _ => tb)

theorem table_replaceTable {n : Nat} {tb x : Table} (h : s.table n = some x) : (replaceTable n tb s).table n = some tb := by
  unfold State.table at h
  unfold replaceTable State.table State.onTable State.onGrn
  dsimp only
  rw [h]
  exact Tab.get_set_of_ne _ _ _ _ (Option.some_ne_none tb)

/-- A staged slot filled: with the current records, with zeros over its home [a, a + size), or not at all. -/
def fillVersion (fill n a size : Nat) (tb : Table) (s : State) : State :=
  if fill = 0 then State.each (copyRec n tb) (ownedRows tb) s
  else if fill = 1 then s.onMem (fun x => zeroWhere (fun b => decide (a ≤ b) && decide (b < a + size)) x)
  else s

theorem besideDir_fillVersion (fill n a size : Nat) (tb : Table) (s : State) : besideDir (fillVersion fill n a size tb s) = besideDir s := by
  unfold fillVersion
  split
  · exact State.each_keeps besideDir _ (besideDir_copyRec n tb) ..
  · split <;> rfl

theorem get_fillVersion_zero {a size : Nat} (hw : Tab.wf 0 s.mem.cells = true) (n : Nat) (tb : Table) (b : Nat) :
    Tab.get 0 (fillVersion 1 n a size tb s).mem.cells b = if a ≤ b ∧ b < a + size then 0 else Tab.get 0 s.mem.cells b := by
  refine (Tab.get_filter_key (fun x => decide (a ≤ x) && decide (x < a + size)) b hw).trans ?_
  simp

/-! ### Candidates (R170) -/

/-- The order in which candidates are returned: descending count, then ascending row. -/
def hotter (x y : Nat × Nat) : Bool := decide (y.2 < x.2) || (x.2 == y.2 && decide (x.1 ≤ y.1))

theorem hotter_iff (x y : Nat × Nat) : hotter x y = true ↔ y.2 < x.2 ∨ (x.2 = y.2 ∧ x.1 ≤ y.1) := by
  simp [hotter]

theorem mem_hotChosen {tb : Table} {lo : Nat} {x : Nat × Nat} (h : x ∈ hotChosen s tb lo) : 0 < x.2 ∧ lo ≤ x.2 := by
  have hmem := List.mem_mergeSort.mp h
  simpa using (List.mem_filter.mp hmem).2

theorem pairwise_hotChosen (s : State) (tb : Table) (lo : Nat) :
    (hotChosen s tb lo).Pairwise (fun x y => y.2 < x.2 ∨ (x.2 = y.2 ∧ x.1 ≤ y.1)) := by
  have hsorted : (hotChosen s tb lo).Pairwise (fun x y => hotter x y = true) := by
    refine List.pairwise_mergeSort (le := hotter) (fun x y z hxy hyz => ?_) (fun x y => ?_) _
    · rw [hotter_iff] at hxy hyz ⊢
      omega
    · rw [Bool.or_eq_true, hotter_iff, hotter_iff]
      omega
  exact hsorted.imp (hotter_iff _ _).mp

end Sys2Proof.Machine
end

section
/-! PROOFS. TABLE_LOAD, TABLE_EXPORT, TABLE_STAGE_VERSION and GRANARY_STATS (07_granary_and_tables.md R170, R173 to R176,
13_maltster_mailboxes.md Table 13.10). -/

namespace Sys2Proof.Machine

open Sys2Proof.Obl (taken Replies)

variable {m : Fin 64} {s t : State} {c : Cmd} {tb : Table}

/-- The restore mark of a TABLE_LOAD: FULL records loaded while no bundle is active raise it to their largest STEP. -/
def loadMark (t : State) (tb : Table) (c : Cmd) : Nat :=
  if c.at_ 3 1 == 1 && !t.hasBundle then ((loadedRows tb c).map (fun x => leAt c.arg (x.2 * tb.sr) 4)).foldl max 0 else 0

theorem tableLoad_replies (h : taken { fields := [(0, 4), (8, 6), (16, 8)], argOk := fun _ => true } 0x0302 m s = some (c, t))
    (htable : t.table (c.at_ 0 2) = some tb) (hrange : rangeBad tb c = none) (hlen : c.argLen = c.at_ 16 8 * tb.sr)
    (hmode : c.at_ 2 1 ≠ tb.cur ∨ t.hasBundle = false ∨ parked t = true) (hrecs : c.at_ 3 1 = 1 → loadBad t tb c = none) :
    Replies (.tableLoad m) s c { status := .ok, inline := leBytes 8 (loadedRows tb c).length }
      ((loadRows tb c t).onSch (fun k => { k with restore := max k.restore (loadMark t tb c) })) := by
  have hallowed : (decide (c.at_ 2 1 = tb.cur) && t.hasBundle && !parked t) = false := by
    rcases hmode with h | h | h <;> simp [h]
  have hfull : (if (c.at_ 3 1 == 1) = true then loadBad t tb c else none) = none := by
    split
    · next h => exact hrecs (by simpa using h)
    · rfl
  refine replies_of_taken h rfl ?_
  dsimp only
  rw [htable]
  dsimp only
  rw [hrange]
  dsimp only
  rw [if_neg (by simp [hlen]), hallowed, if_neg Bool.false_ne_true, hfull]
  rfl

theorem tableExport_replies (h : taken { fields := [(0, 4), (8, 6), (16, 8)], hasRes := true } 0x0305 m s = some (c, t))
    (htable : t.table (c.at_ 0 2) = some tb) (hrange : rangeBad tb c = none)
    (hmode : c.at_ 3 1 = 1 ∨ t.hasBundle = false ∨ parked t = true) (hfits : 64 + c.at_ 16 8 * tb.sr ≤ c.resLen)
    {r : State × List Byte × Nat} (hr : r = exportRows (c.at_ 0 2) tb (c.at_ 2 1) ((List.range (c.at_ 16 8)).map (c.at_ 8 6 + ·)) t) :
    Replies (.tableExport m) s c { status := .ok, detail := r.2.2, res := exportHeader t c tb ++ r.2.1 } r.1 := by
  have hallowed : (decide (c.at_ 3 1 = 0) && t.hasBundle && !parked t) = false := by
    rcases hmode with h | h | h <;> simp [h]
  refine replies_of_taken h rfl ?_
  dsimp only
  rw [htable]
  dsimp only
  rw [hrange]
  dsimp only
  rw [hallowed, if_neg Bool.false_ne_true, if_neg (by simp [fits, hfits]), hr]

theorem tableStageVersion_replies {u : State} {i a r : Nat} (h : taken { fields := [(0, 3)] } 0x0303 m s = some (c, t))
    (htable : t.table (c.at_ 0 2) = some tb) (hfill : c.at_ 2 1 ≤ 2) (hstaged : tb.staged = false) (hcommitting : tb.committing = false)
    (hplaced : placeObj 7 (homeBytes tb) false 0 (some (c.at_ 0 2)) t = some (u, i, a, r)) :
    Replies (.tableStageVersion m) s c { status := .ok, inline := leBytes 1 (1 - tb.cur) }
      (fillVersion (c.at_ 2 1) (c.at_ 0 2) a (homeBytes tb) (stagedIn tb i) (replaceTable (c.at_ 0 2) (stagedIn tb i) u)) := by
  refine replies_of_taken h rfl ?_
  dsimp only
  rw [htable]
  dsimp only
  rw [if_neg (by omega), if_neg (by simp [hstaged, hcommitting]), hplaced]
  rfl

/-- The counters and candidates that GRANARY_STATS returns (Table 07.7). -/
def statsBytes (t : State) (n : Nat) (hot : List (Nat × Nat)) : List Byte :=
  ((List.range 17).map (fun i => leBytes 8 (t.grn.counts.get 0 (32 * n + i)))).flatten ++
    (hot.map (fun x => leBytes 8 x.1 ++ leBytes 4 x.2 ++ zeros 4)).flatten

theorem statsBytes_length (t : State) (n : Nat) (hot : List (Nat × Nat)) : (statsBytes t n hot).length = 136 + 16 * hot.length := by
  simp [statsBytes, List.length_flatten, Function.comp_def, Nat.mul_comm]

theorem granaryStats_replies {hot : List (Nat × Nat)} (h : taken { fields := [(0, 4)], hasRes := true } 0x0308 m s = some (c, t))
    (htable : t.table (c.at_ 0 2) = some tb) (hhot : hot = hotChosen t tb (c.at_ 2 2)) (hfits : 136 + 16 * hot.length ≤ c.resLen) :
    Replies (.granaryStats m) s c { status := .ok, inline := leBytes 4 hot.length, res := statsBytes t (c.at_ 0 2) hot } t := by
  have hroom : ¬ (!fits c (statsBytes t (c.at_ 0 2) hot).length) = true := by simp [fits, statsBytes_length, hfits]
  refine replies_of_taken h rfl ?_
  dsimp only
  rw [htable]
  dsimp only
  rw [← hhot]
  exact if_neg hroom

/-- Settles O19: each command's answer past its checks, and what loading, exporting, staging and counting leave behind. -/
theorem tableDataCommandsComplete : Obligations.TableDataCommandsComplete := by
  unfold Obligations.TableDataCommandsComplete
  refine ⟨fun m s t c tb h htable hrange hlen hmode hrecs => ⟨?load, ?loadOne⟩, fun m s t c tb h htable hrange hmode hfits => ?out,
    fun m s t c tb u i a r h htable hfill hstaged hcommitting hplaced => ?stage, fun m s t c tb hot h htable hhot hfits => ?stats⟩
  case load =>
    have hbeside := besideDir_loadRows tb c t
    obtain ⟨hplots, hltr, -, -⟩ := eq_of_besideDir hbeside
    have hreplies := tableLoad_replies h htable hrange hlen hmode hrecs
    rw [loadedRows_length] at hreplies
    refine ⟨_, hreplies, ?_⟩
    rw [State.onSch_grn, State.onSch_plots, State.onSch_ltr]
    exact ⟨tables_of_besideDir hbeside, hplots, hltr⟩
  case loadOne =>
    intro hone hweights hrow howns hclean _
    obtain ⟨hrows, hcells⟩ := loadRows_cells_of_one (c := c) hone hrow howns hclean
    rw [suppliedRec_weights hweights hrow.ne] at hcells
    have hreplies := tableLoad_replies h htable hrange hlen hmode hrecs
    rw [hrows] at hreplies
    refine ⟨_, hreplies, ?_⟩
    rw [State.onSch_mem]
    exact hcells
  case out =>
    obtain ⟨hcells, hlen, hbad⟩ := exportRows_spec (c.at_ 0 2) tb (c.at_ 2 1) ((List.range (c.at_ 16 8)).map (c.at_ 8 6 + ·)) t
    rw [List.length_map, List.length_range] at hlen hbad
    exact ⟨_, rfl, tableExport_replies h htable hrange hmode hfits rfl, padTo_length .., exportHeader_dim .., hlen, hbad, hcells⟩
  case stage =>
    obtain ⟨hrest, hcells⟩ := placeObj_only hplaced
    have hold : u.table (c.at_ 0 2) = some tb := (congrArg (fun x => State.table x (c.at_ 0 2)) hrest).trans htable
    refine ⟨_, tableStageVersion_replies h htable hfill hstaged hcommitting hplaced, ?_, fun htwo => ?_, fun hone hw b => ?_⟩
    · rw [State.table, tables_of_besideDir (besideDir_fillVersion ..)]
      exact table_replaceTable hold
    · rw [htwo]
      exact hcells
    · rw [hone, ← hcells]
      exact get_fillVersion_zero (s := replaceTable (c.at_ 0 2) (stagedIn tb i) u) (hcells ▸ hw) ..
  case stats =>
    refine ⟨⟨_, rfl, granaryStats_replies h htable hhot hfits⟩, fun x hx => mem_hotChosen (hhot ▸ hx), hhot ▸ pairwise_hotChosen ..⟩

end Sys2Proof.Machine
end

section
/-! SUPPORT. Coordinated table commands and the aging sweep (07_granary_and_tables.md R160, R171, R172): rows in order, and the directory brought
up to date. -/

namespace Sys2Proof

/-- A table with every value changed and the defaults among the results dropped. -/
def Tab.remap {α : Type} [DecidableEq α] (d : α) (f : α → α) (t : Tab α) : Tab α :=
  (t.map (fun kv => (kv.1, f kv.2))).filter (fun kv => kv.2 != d)

section
variable {α : Type} [DecidableEq α] {d : α} {f : α → α}

theorem Tab.remap_cons (j : Nat) (v : α) (t : Tab α) :
    Tab.remap d f ((j, v) :: t) = if f v = d then Tab.remap d f t else (j, f v) :: Tab.remap d f t := by
  by_cases hv : f v = d <;> simp [Tab.remap, hv]

theorem Tab.wfFrom_remap {lo : Nat} {t : Tab α} (hw : Tab.wfFrom d lo t = true) : Tab.wfFrom d lo (Tab.remap d f t) = true := by
  induction t generalizing lo with
  | nil => rfl
  | cons x t ih =>
    obtain ⟨j, v⟩ := x
    simp only [Tab.wfFrom, Bool.and_eq_true, decide_eq_true_eq] at hw
    obtain ⟨⟨hlo, -⟩, htail⟩ := hw
    rw [Tab.remap_cons]
    split
    · exact Tab.wfFrom_mono d _ lo (j + 1) (by omega) (ih htail)
    · next hv => simp [Tab.wfFrom, hlo, hv, ih htail]

/-- A key's value before and after, when the change relates them as it relates the default to itself. -/
theorem Tab.get_remap {t : Tab α} {P : α → α → Prop} (hf : ∀ v, P v (f v)) (hd : P d d) (hw : Tab.wf d t = true) (k : Nat) :
    P (Tab.get d t k) (Tab.get d (Tab.remap d f t) k) := by
  unfold Tab.wf at hw
  generalize 0 = lo at hw
  induction t generalizing lo with
  | nil => exact hd
  | cons x t ih =>
    obtain ⟨j, v⟩ := x
    simp only [Tab.wfFrom, Bool.and_eq_true, decide_eq_true_eq] at hw
    obtain ⟨-, htail⟩ := hw
    have hbelow : k < j + 1 → Tab.get d (Tab.remap d f t) k = d := Tab.get_below d _ _ _ (Tab.wfFrom_remap htail)
    have hread : Tab.get d (Tab.remap d f ((j, v) :: t)) k = if j = k then f v else if k < j then d else Tab.get d (Tab.remap d f t) k := by
      rw [Tab.remap_cons]
      split
      · next hv =>
        split
        · rw [hbelow (by omega), hv]
        · split
          · exact hbelow (by omega)
          · rfl
      · rfl
    rw [hread, Tab.get]
    split
    · exact hf v
    · split
      · exact hd
      · exact ih _ htail

end

end Sys2Proof

namespace Sys2Proof.Machine

variable {s t : State}

/-! ### Rows of an argument (R172) -/

/-- Rows that ascend and lie in the table pass. -/
theorem rowsBad_of_ascending {rows : Nat} {xs : List Nat} (hasc : xs.Pairwise (· < ·)) (hin : ∀ x ∈ xs, x < rows) (i : Nat) :
    rowsBad rows xs i = none := by
  induction xs generalizing i with
  | nil => rfl
  | cons x xs ih =>
    obtain ⟨hhead, htail⟩ := List.pairwise_cons.mp hasc
    have hx : x < rows := hin x (.head _)
    cases xs with
    | nil => exact if_neg (Nat.not_le.mpr hx)
    | cons y xs =>
      have hxy : x < y := hhead y (.head _)
      rw [rowsBad, if_neg (Nat.not_le.mpr hx), if_neg (Nat.not_le.mpr hxy)]
      exact ih htail (fun z hz => hin z (.tail _ hz)) _

/-- Rows none of which is already as the command would make it pass. -/
theorem findIdx_contains_none {now xs : List Nat} {add : Bool} (h : ∀ r ∈ xs, now.contains r = !add) :
    xs.findIdx? (fun r => now.contains r == add) = none := by
  rw [List.findIdx?_eq_none_iff]
  intro r hr
  rw [h r hr]
  cases add <;> rfl

/-! ### The aging sweep (R160) -/

/-- Every directory entry brought up to date in an aging period. -/
def sweepDir (a : Nat) (s : State) : State :=
  s.onGrn (fun g => { g with swept := a, dir := Tab.remap {} (DirEntry.aged a) g.dir })

/-- The candidates of every table halved once for each period gone by. -/
def sweepHot (n : Nat) (s : State) : State :=
  State.each (fun kv s =>
    match kv.2 with
    | none => s
    | some tb => State.each (fun x s => if x.2.2 = 0 then s else putHot tb x.1 x.2.1 (x.2.2 / 2 ^ n) s)
        (List.zip (List.range 1024) (hotList s tb)) s) s.grn.tables s

theorem exec_agingSweep (s : State) : exec .agingSweep s =
    .next (if agePeriod s = s.grn.swept then s else sweepHot (agePeriod s - s.grn.swept) (sweepDir (agePeriod s) s)) := rfl

theorem besideDir_sweepHot (n : Nat) (s : State) : besideDir (sweepHot n s) = besideDir s := by
  refine State.each_keeps besideDir _ (fun kv s => ?_) _ s
  split
  · rfl
  · refine State.each_keeps besideDir _ (fun x s => ?_) _ s
    split
    · rfl
    · exact besideDir_putHot ..

theorem sweepHot_of_no_tables {n : Nat} (h : s.grn.tables = []) : sweepHot n s = s := by
  rw [sweepHot, h]
  rfl

theorem freq_sweepDir (a e : Nat) (hw : Tab.wf {} s.grn.dir = true) : (dirEntry (sweepDir a s) e).freq = effFreq a (dirEntry s e) :=
  Tab.get_remap (P := fun v w : DirEntry => w.freq = effFreq a v) (fun _ => rfl) (by simp [effFreq]) hw e

end Sys2Proof.Machine
end

section
/-! PROOFS. TABLE_COMMIT_VERSION, REPLICATE_ROWS, UNREPLICATE_ROWS, COORD_FAIL and AGING_SWEEP (07_granary_and_tables.md R160, R171 to R173). -/

namespace Sys2Proof.Machine

open Sys2Proof.Obl (taken)

variable {m : Fin 64} {s t : State} {c : Cmd} {tb : Table}

/-- A coordinated command waits: it has arrived at a tally, and its mailbox holds it. -/
def coordinated (c : Cmd) (fid : Nat) (t : State) : State :=
  (tallyOwn fid [] t).onMbx c.m (fun b => { b with coord := some ⟨fid, c.slot, c.arg⟩ })

/-- A mailbox row whose body waits writes no response. -/
theorem waits_of_taken {i : Instr} {sh : Shape} {op : Nat} {u : State} {body : Cmd → State → CmdOut} (h : taken sh op m s = some (c, t))
    (hi : exec i s = .next (serveOp op sh m body s)) (hbody : body c t = .pend u) : exec i s = .next (announce s u) := by
  rw [hi, serveOp_of_taken h, hbody, finish_pend]

section
variable (htable : t.table (c.at_ 0 2) = some tb) (hfree : tableBusy t c.m (c.at_ 0 2) = false) (hgen : c.at_ 4 4 = (tb.gen + 1) % 2 ^ 32)
include htable hfree hgen

/-- The checks common to coordinated commands pass. -/
theorem coordCheck_of_ok (k : Table → CmdOut) : coordCheck c t k = k tb := by
  rw [coordCheck, htable]
  dsimp only
  rw [hfree, if_neg Bool.false_ne_true, if_neg (not_not_intro hgen)]

theorem tableCommitVersion_waits (h : taken { fields := [(0, 2), (4, 4)] } 0x0304 m s = some (c, t)) (hstaged : tb.staged = true)
    (hcommitting : tb.committing = false) : exec (.tableCommitVersion m) s = .next (announce s (coordinated c tb.members t)) := by
  refine waits_of_taken h rfl ?_
  rw [coordCheck_of_ok htable hfree hgen, if_neg (by simp [hstaged, hcommitting])]
  rfl

theorem replicaCheck_waits {add : Bool} (hpos : 1 ≤ c.at_ 8 4) (hmany : c.at_ 8 4 ≤ 65536) (hlen : c.argLen = 8 * c.at_ 8 4)
    (hasc : (argRows c).Pairwise (· < ·)) (hin : ∀ r ∈ argRows c, r < tb.rows)
    (hnow : ∀ r ∈ argRows c, (latestTable t (c.at_ 0 2) tb).reps.contains r = !add)
    (hroom : add = true → (latestTable t (c.at_ 0 2) tb).reps.length + c.at_ 8 4 ≤ 65536) :
    replicaCheck add c t = .pend (coordinated c tb.members t) := by
  have hfits : (add && decide (65536 < (latestTable t (c.at_ 0 2) tb).reps.length + c.at_ 8 4)) = false := by
    cases add with
    | false => rfl
    | true => simpa using hroom rfl
  unfold replicaCheck
  rw [coordCheck_of_ok htable hfree hgen, if_neg (by omega), if_neg (not_not_intro hlen), rowsBad_of_ascending hasc hin]
  dsimp only
  rw [findIdx_contains_none hnow]
  dsimp only
  rw [hfits]
  rfl

end

/-- Settles O20: past its checks a coordinated command arrives and waits; the sweep changes the directory entry by entry. -/
theorem coordinatedTableCommandsWait : Obligations.CoordinatedTableCommandsWait := by
  unfold Obligations.CoordinatedTableCommandsWait
  refine ⟨fun m s t c tb h htable hfree hgen hstaged hcommitting => tableCommitVersion_waits htable hfree hgen h hstaged hcommitting,
    fun m s t c tb add h htable hfree hgen hpos hmany hlen hasc hin hnow hroom => ?replicas, fun m s k c hcoord hheld hop => ?fail,
    fun s => ⟨fun hsame => ?same, fun hnew => ?sweep⟩⟩
  case replicas =>
    have hwaits := replicaCheck_waits htable hfree hgen hpos hmany hlen hasc hin hnow hroom
    cases add with
    | false => exact waits_of_taken h rfl hwaits
    | true => exact waits_of_taken h rfl hwaits
  case fail =>
    change execCoordFail m s = _
    rw [execCoordFail, hcoord, hheld]
    exact congrArg Host.Outcome.next (if_pos (by simpa using hop))
  case same => rw [exec_agingSweep, if_pos hsame]
  case sweep =>
    rw [exec_agingSweep, if_neg hnew]
    refine ⟨_, rfl, ?_, fun hnone hw => ?_⟩
    · obtain ⟨-, -, -, hgrn⟩ := eq_of_besideDir (besideDir_sweepHot (agePeriod s - s.grn.swept) (sweepDir (agePeriod s) s))
      exact (congrArg Granary.swept hgrn :)
    · rw [sweepHot_of_no_tables (s := sweepDir (agePeriod s) s) hnone]
      exact ⟨fun e => freq_sweepDir _ e hw, rfl, rfl⟩

end Sys2Proof.Machine
end

section
/-! SUPPORT. Resolution by the owner (07_granary_and_tables.md R156, R157, R160 to R163, R170): what placing and pinning a granule leave alone, the
entry of a step after a slot was given, and the answers. -/

namespace Sys2Proof.Machine

variable {s : State}

/-! ### Ways taken and pinned -/

@[simp] theorem besideDir_placeGranule (t v g : Nat) (s : State) : besideDir (placeGranule t v g s).1 = besideDir s := by
  unfold placeGranule
  split
  · rfl
  · next e forced _ =>
    change besideDir (if forced then countGrn t 6 1 (emptyWay e s) else emptyWay e s) = besideDir s
    split <;> simp

@[simp] theorem besideDir_promote (t set e : Nat) (s : State) : besideDir (promote t set e s) = besideDir s := by
  unfold promote
  dsimp only
  repeat' split
  all_goals simp

@[simp] theorem besideDir_takePin (b : Nat) (s : State) :
    besideDir (s.onGrn (fun g => { g with taken := g.taken.modify 0 b (· + 1) })) = besideDir s := rfl

@[simp] theorem besideDir_pinWay (t e n : Nat) (s : State) : besideDir (pinWay t e n s) = besideDir s := by
  unfold pinWay
  dsimp only
  split <;> simp

@[simp] theorem besideDir_resolveGranule (t : Nat) (tb : Table) (l n : Nat) (s : State) : besideDir (resolveGranule t tb l n s).1 = besideDir s := by
  unfold resolveGranule
  dsimp only
  split
  · dsimp only
    split <;> simp
  · split <;> simp

@[simp] theorem besideDir_sampleRow (tb : Table) (row n : Nat) (s : State) : besideDir (sampleRow tb row n s) = besideDir s := by
  unfold sampleRow
  dsimp only
  split
  · rfl
  · split <;> simp

@[simp] theorem besideDir_putSlot (tb : Table) (n slot row addr : Nat) (s : State) : besideDir (putSlot tb n slot row addr s) = besideDir s :=
  besideDir_devWrite ..

/-! ### The entry of a step -/

theorem stepEntry_congr {t : State} (h : t.grn.steps = s.grn.steps) (k n : Nat) : stepEntry t k n = stepEntry s k n := by
  rw [stepEntry, h, stepEntry]

/-- An entry changed to one that is not empty reads as changed. -/
theorem stepEntry_onStepEntry {t n : Nat} {f : TableStep → TableStep} (h : f (stepEntry s t n) ≠ {}) :
    stepEntry (onStepEntry t n f s) t n = f (stepEntry s t n) := Tab.get_set_of_ne _ _ _ _ h

/-- The request is entered in the lists taken as owner. -/
def listServed (t rank mb row : Nat) (s : State) : State := s.onGrn (fun g => { g with served := g.served ++ [(t, rank, mb, row)] })

/-- A step's entry with the next slot given to a row, `used` slots given before. -/
def TableStep.withSlot (row used : Nat) (e : TableStep) : TableStep := { e with slotOf := e.slotOf.set 0 row (used + 1), used := used + 1 }

theorem TableStep.slotOf_withSlot (row used : Nat) (e : TableStep) : (e.withSlot row used).slotOf.get 0 row = used + 1 :=
  Tab.get_set_of_ne _ _ _ _ (Nat.succ_ne_zero used)

/-- A row that found no way changes its table's entry of the step, which keeps its slots. -/
theorem stepEntry_setFull (t n row : Nat) (s : State) :
    stepEntry (setFull t n row s) t n = { stepEntry s t n with full := (stepEntry s t n).full ++ [row] } := by
  have hsteps : (setFull t n row s).grn.steps = (onStepEntry t n (fun x => { x with full := x.full ++ [row] }) s).grn.steps :=
    steps_of_besideDir ((besideDir_grnEvent ..).trans (besideDir_countGrn ..))
  rw [stepEntry_congr hsteps]
  exact stepEntry_onStepEntry fun h => by simpa using congrArg TableStep.full h

/-- What a resolution leaves alone beside memory, the directory and the step's entry. -/
def besideSteps (s : State) : Tab Plot × Schedule × List (Nat × Nat × Nat × Nat) := (s.plots, s.sch, s.grn.served)

theorem besideSteps_of_besideDir {t : State} (h : besideDir t = besideDir s) : besideSteps t = besideSteps s := by
  obtain ⟨hplots, -, hsch, hgrn⟩ := eq_of_besideDir h
  have hserved : t.grn.served = s.grn.served := (congrArg Granary.served hgrn :)
  rw [besideSteps, hplots, hsch, hserved, besideSteps]

theorem besideSteps_onStepEntry (t n : Nat) (f : TableStep → TableStep) (s : State) : besideSteps (onStepEntry t n f s) = besideSteps s := rfl

theorem besideSteps_setFull (t n row : Nat) (s : State) : besideSteps (setFull t n row s) = besideSteps s := by
  have hbooks : besideDir (setFull t n row s) = besideDir (onStepEntry t n (fun x => { x with full := x.full ++ [row] }) s) :=
    (besideDir_grnEvent ..).trans (besideDir_countGrn ..)
  rw [besideSteps_of_besideDir hbooks, besideSteps_onStepEntry]

/-! ### A slot given -/

/-- A row placed and entered in the slot table under the next slot. -/
def placeRow (t : Nat) (tb : Table) (n used row : Nat) (s : State) : State :=
  let r := resolveGranule t tb (tb.localOf row) n s
  let addr := match r.2 with
    | some w => wayAddr w + tb.localOf row % tb.per * tb.sr
    | none => homeAddr s tb tb.cur (tb.localOf row)
  putSlot tb n used row addr (countGrn t 0 1 r.1)

/-- A row without a slot given the next one; a row that found no way is marked full. -/
def giveSlot (t : Nat) (tb : Table) (n used row : Nat) (s : State) : State :=
  let u := onStepEntry t n (TableStep.withSlot row used) (placeRow t tb n used row s)
  sampleRow tb row n (if (resolveGranule t tb (tb.localOf row) n s).2.isNone then setFull t n row u else u)

theorem besideDir_placeRow (t : Nat) (tb : Table) (n used row : Nat) (s : State) : besideDir (placeRow t tb n used row s) = besideDir s := by
  unfold placeRow
  simp

theorem besideSteps_giveSlot (t : Nat) (tb : Table) (n used row : Nat) (s : State) : besideSteps (giveSlot t tb n used row s) = besideSteps s := by
  have hplaced := besideSteps_of_besideDir (besideDir_placeRow t tb n used row s)
  unfold giveSlot
  rw [besideSteps_of_besideDir (besideDir_sampleRow ..)]
  split
  · rw [besideSteps_setFull, besideSteps_onStepEntry, hplaced]
  · rw [besideSteps_onStepEntry, hplaced]

/-- The step's entry names the slot given. -/
theorem stepEntry_giveSlot (t : Nat) (tb : Table) (n used row : Nat) (s : State) :
    (stepEntry (giveSlot t tb n used row s) t n).used = used + 1 ∧ (stepEntry (giveSlot t tb n used row s) t n).slotOf.get 0 row = used + 1 := by
  have hentry : stepEntry (onStepEntry t n (TableStep.withSlot row used) (placeRow t tb n used row s)) t n =
      TableStep.withSlot row used (stepEntry (placeRow t tb n used row s) t n) :=
    stepEntry_onStepEntry fun h => absurd (congrArg TableStep.used h) (Nat.succ_ne_zero used)
  generalize stepEntry (placeRow t tb n used row s) t n = e at hentry
  unfold giveSlot
  rw [stepEntry_congr (steps_of_besideDir (besideDir_sampleRow ..))]
  split
  · rw [stepEntry_setFull, hentry]
    exact ⟨rfl, TableStep.slotOf_withSlot ..⟩
  · rw [hentry]
    exact ⟨rfl, TableStep.slotOf_withSlot ..⟩

/-! ### A row resolved -/

/-- A step whose entry is open stays as it is. -/
theorem openStep_of_open {t n : Nat} (h : (stepEntry s t n).step = n) : openStep t n s = s := by
  unfold openStep
  split
  · rfl
  · exact if_pos h

section
variable {t rank mb row : Nat} {tb0 tb : Table} {e : TableStep} (htable : s.table t = some tb0) (htb : tb = nextTable s t tb0)
  (he : e = stepEntry s t (s.sch.step + 1)) (hstep : e.step = s.sch.step + 1) (howns : tb.owns row = true)
include htable htb he hstep howns

/-- A row without a slot, with slots left. -/
theorem resolveRow_new (hnone : e.slotOf.get 0 row = 0) (hroom : e.used < tb.accRows) : resolveRow t rank mb row s =
    answerSlot (some e.used) (giveSlot t tb (s.sch.step + 1) e.used row (listServed t rank mb row s)) := by
  unfold resolveRow
  dsimp only
  rw [htable]
  dsimp only
  rw [← htb, openStep_of_open (he ▸ hstep), ← he, howns, if_neg (by decide), if_neg (not_not_intro hnone), if_neg (Nat.not_le.mpr hroom)]
  rfl

/-- A row without a slot, with none left. -/
theorem resolveRow_over (hnone : e.slotOf.get 0 row = 0) (hfull : tb.accRows ≤ e.used) : resolveRow t rank mb row s =
    answerSlot none (if rank = s.rank then grnEvent 5 t row (countGrn t 11 1 (listServed t rank mb row s)) else listServed t rank mb row s) := by
  unfold resolveRow
  dsimp only
  rw [htable]
  dsimp only
  rw [← htb, openStep_of_open (he ▸ hstep), ← he, howns, if_neg (by decide), if_neg (not_not_intro hnone), if_pos hfull]
  rfl

/-- A row with a slot: the same requester is answered from the slot alone, another one's request is looked up and sampled. -/
theorem resolveRow_known {k : Nat} (hslot : e.slotOf.get 0 row = k + 1) : ∃ u, resolveRow t rank mb row s = answerSlot (some k) u ∧
    besideDir u = besideDir (listServed t rank mb row s) ∧
    (s.grn.served.any (fun x => x.1 == t && x.2.1 == rank && x.2.2.2 == row) = true → u = listServed t rank mb row s) := by
  have heq : resolveRow t rank mb row s =
      if s.grn.served.any (fun x => x.1 == t && x.2.1 == rank && x.2.2.2 == row) then answerSlot (some k) (listServed t rank mb row s)
      else if e.full.contains row then answerSlot (some k) (sampleRow tb row (s.sch.step + 1) (listServed t rank mb row s))
      else answerSlot (some k) (sampleRow tb row (s.sch.step + 1)
        (resolveGranule t tb (tb.localOf row) (s.sch.step + 1) (listServed t rank mb row s)).1) := by
    unfold resolveRow
    dsimp only
    rw [htable]
    dsimp only
    rw [← htb, openStep_of_open (he ▸ hstep), ← he, howns, if_neg (by decide), hslot, if_pos (Nat.succ_ne_zero k)]
    rfl
  rw [heq]
  split
  · exact ⟨_, rfl, rfl, fun _ => rfl⟩
  · next hagain =>
    split
    · exact ⟨_, rfl, besideDir_sampleRow .., fun h => absurd h hagain⟩
    · exact ⟨_, rfl, (besideDir_sampleRow ..).trans (besideDir_resolveGranule ..), fun h => absurd h hagain⟩

end

/-! ### An owner's answer at the requester (R156) -/

theorem counts_countGrn (t i n : Nat) (s : State) (hn : 0 < n) :
    (countGrn t i n s).grn.counts.get 0 (32 * t + i) = sat48 (s.grn.counts.get 0 (32 * t + i) + n) := by
  rw [countGrn, State.onGrn_grn]
  exact Tab.get_set_of_ne 0 _ _ (sat48 (s.grn.counts.get 0 (32 * t + i) + n)) (by unfold sat48; omega)

/-- A bag's key belongs to a feature of the table. -/
def bagOfTable (s : State) (t k : Nat) : Bool :=
  match s.body.features[k % max 1 s.body.features.length]? with
  | some d => d.table == t
  | none => false

theorem bagOfTable_of_feature {t smp f : Nat} {d : FeatureDef} (hf : s.body.features[f]? = some d) (hd : d.table = t) :
    bagOfTable s t (smp * s.body.features.length + f) = true := by
  obtain ⟨hlt, -⟩ := List.getElem?_eq_some_iff.mp hf
  have hfeature : (smp * s.body.features.length + f) % max 1 s.body.features.length = f := by
    rw [Nat.max_eq_right (by omega), Nat.mul_add_mod_self_right, Nat.mod_eq_of_lt hlt]
  unfold bagOfTable
  rw [hfeature, hf]
  exact beq_iff_eq.mpr hd

theorem overRow_bagsNext (t row : Nat) (s : State) : (overRow t row s).grn.bagsNext = s.grn.bagsNext.map (fun kv =>
    (kv.1, if bagOfTable s t kv.1 then kv.2.map (fun p => if p = .row row then .dflt else p) else kv.2)) := by
  unfold overRow
  rw [grnEvent, event_grn]
  rfl

/-- After OVER no bag of the table names the row. -/
theorem not_mem_of_overRow {t row smp f : Nat} {d : FeatureDef} {bag : List BagPos} (hf : s.body.features[f]? = some d) (hd : d.table = t)
    (hbag : (smp * s.body.features.length + f, bag) ∈ (overRow t row s).grn.bagsNext) : BagPos.row row ∉ bag := by
  rw [overRow_bagsNext] at hbag
  obtain ⟨⟨k, old⟩, -, heq⟩ := List.mem_map.mp hbag
  obtain ⟨rfl, rfl⟩ := Prod.mk.inj heq
  rw [bagOfTable_of_feature hf hd, if_pos rfl]
  intro hmem
  obtain ⟨p, -, hp⟩ := List.mem_map.mp hmem
  split at hp
  · simp at hp
  · contradiction

end Sys2Proof.Machine
end


section
/-! SUPPORT. RESOLUTION_REQUEST (07_granary_and_tables.md R156, R157), case by case. -/

namespace Sys2Proof.Machine

section
variable {s : State} {table : BitVec 16} {rank : BitVec 15} {mb : Nat} {row : BitVec 48} {answer : Option (BitVec 24)} {tb0 tb : Table}
  (hissues : grnIssues s = true) (htable : s.table table.toNat = some tb0) (htb : tb = nextTable s table.toNat tb0)
include hissues htable htb

theorem exec_resolutionRequest_owned (howns : tb.owns row.toNat = true) :
    exec (.resolutionRequest table rank mb row answer) s = .next (resolveRow table.toNat rank.toNat mb row.toNat s) := by
  change Host.Outcome.next (if grnIssues s then requestRow table.toNat rank.toNat mb row.toNat (answer.map BitVec.toNat) s else s) = _
  rw [if_pos hissues]
  unfold requestRow
  rw [htable]
  dsimp only
  rw [← htb, if_pos howns]

variable {asked : Bool} (hasked : asked = (rank.toNat == s.rank && s.grn.asks.any (fun a => a.1 == table.toNat && a.2.2.2 == row.toNat)))
  (howns : tb.owns row.toNat = false)
include hasked howns

/-- A row of another owner: only an answer to a row this module asked for counts. -/
theorem exec_resolutionRequest_other : exec (.resolutionRequest table rank mb row answer) s = .next (if asked then
    match answer with
    | none => overRow table.toNat row.toNat s
    | some h => s.onGrn (fun g => { g with handlesNext := g.handlesNext.set 0 (handleKey table.toNat row.toNat) (h.toNat + 1) })
    else s) := by
  change Host.Outcome.next (if grnIssues s then requestRow table.toNat rank.toNat mb row.toNat (answer.map BitVec.toNat) s else s) = _
  rw [if_pos hissues]
  unfold requestRow
  rw [htable]
  dsimp only
  rw [← htb, if_neg (by rw [howns]; decide), ← hasked]
  cases answer <;> rfl

end

@[simp] theorem answerSlot_plots (x : Option Nat) (s : State) : (answerSlot x s).plots = s.plots := by cases x <;> rfl
@[simp] theorem answerSlot_sch (x : Option Nat) (s : State) : (answerSlot x s).sch = s.sch := by cases x <;> rfl
@[simp] theorem answerSlot_grn (x : Option Nat) (s : State) : (answerSlot x s).grn = s.grn := by cases x <;> rfl
@[simp] theorem answerSlot_mem (x : Option Nat) (s : State) : (answerSlot x s).mem = s.mem := by cases x <;> rfl
@[simp] theorem answerSlot_hk (x : Option Nat) (s : State) : (answerSlot x s).hk = s.hk := by cases x <;> rfl
theorem answerSlot_ret (x : Option Nat) (s : State) :
    (answerSlot x s).ret = { data := leBytes 4 (x.getD 0), status := if x.isSome then 0 else 3 } := by cases x <;> rfl
@[simp] theorem listServed_sch (t rank mb row : Nat) (s : State) : (listServed t rank mb row s).sch = s.sch := rfl
@[simp] theorem listServed_mem (t rank mb row : Nat) (s : State) : (listServed t rank mb row s).mem = s.mem := rfl

section
variable {s u : State} {t rank mb row : Nat} {tb0 tb : Table} {e : TableStep} (hu : u = resolveRow t rank mb row s) (htable : s.table t = some tb0)
  (htb : tb = nextTable s t tb0) (he : e = stepEntry s t (s.sch.step + 1)) (hstep : e.step = s.sch.step + 1) (howns : tb.owns row = true)
include hu htable htb he hstep howns

/-- The request is answered with a new slot's handle. -/
theorem resolveRow_new_answer (hnone : e.slotOf.get 0 row = 0) (hroom : e.used < tb.accRows) :
    u.ret.status = 0 ∧ u.ret.data = leBytes 4 e.used ∧ (stepEntry u t (s.sch.step + 1)).used = e.used + 1 ∧
    (stepEntry u t (s.sch.step + 1)).slotOf.get 0 row = e.used + 1 ∧ u.grn.served = s.grn.served ++ [(t, rank, mb, row)] ∧
    u.plots = s.plots ∧ u.sch = s.sch := by
  rw [resolveRow_new htable htb he hstep howns hnone hroom] at hu
  have hentry := stepEntry_giveSlot t tb (s.sch.step + 1) e.used row (listServed t rank mb row s)
  have hbeside := besideSteps_giveSlot t tb (s.sch.step + 1) e.used row (listServed t rank mb row s)
  generalize giveSlot t tb (s.sch.step + 1) e.used row (listServed t rank mb row s) = g at hu hentry hbeside
  obtain ⟨hused, hslot⟩ := hentry
  simp only [besideSteps, Prod.mk.injEq] at hbeside
  obtain ⟨hplots, hsch, hserved⟩ := hbeside
  rw [stepEntry_congr (congrArg Granary.steps (hu ▸ answerSlot_grn _ _)), hu, answerSlot_ret, answerSlot_grn, answerSlot_plots, answerSlot_sch]
  exact ⟨rfl, rfl, hused, hslot, hserved, hplots, hsch⟩

/-- The request is answered OVER. -/
theorem resolveRow_over_answer (hnone : e.slotOf.get 0 row = 0) (hfull : tb.accRows ≤ e.used) :
    u.ret.status = 3 ∧ stepEntry u t (s.sch.step + 1) = e ∧ u.mem = s.mem ∧ (rank = s.rank → stickyBit u 10 5 = true) ∧
    u.plots = s.plots ∧ u.sch = s.sch := by
  rw [resolveRow_over htable htb he hstep howns hnone hfull] at hu
  by_cases hself : rank = s.rank
  · rw [if_pos hself] at hu
    have hsteps : u.grn.steps = s.grn.steps := by simp [hu, grnEvent, countGrn, listServed]
    rw [stepEntry_congr hsteps, ← he]
    refine ⟨?_, rfl, ?_, fun _ => ?_, ?_, ?_⟩
    · rw [hu, answerSlot_ret]
      rfl
    · simp [hu, grnEvent, countGrn]
    · rw [hu, stickyBit, stickyGroup, answerSlot_hk]
      exact stickyBit_event_self ..
    · simp [hu, grnEvent, countGrn, listServed]
    · simp [hu, grnEvent, countGrn]
  · rw [if_neg hself] at hu
    have hsteps : u.grn.steps = s.grn.steps := by simp [hu, listServed]
    rw [stepEntry_congr hsteps, ← he]
    refine ⟨?_, rfl, ?_, fun h => absurd h hself, ?_, ?_⟩
    · rw [hu, answerSlot_ret]
      rfl
    · simp [hu]
    · simp [hu, listServed]
    · simp [hu]

/-- The request is answered with the slot the row has. -/
theorem resolveRow_known_answer {k : Nat} (hslot : e.slotOf.get 0 row = k + 1) :
    u.ret.status = 0 ∧ u.ret.data = leBytes 4 k ∧ stepEntry u t (s.sch.step + 1) = e ∧
    (s.grn.served.any (fun x => x.1 == t && x.2.1 == rank && x.2.2.2 == row) = true → u.mem = s.mem) ∧ u.plots = s.plots ∧ u.sch = s.sch := by
  obtain ⟨v, hv, hbeside, hagain⟩ := resolveRow_known (rank := rank) (mb := mb) htable htb he hstep howns hslot
  obtain ⟨hplots, -, hsch, -⟩ := eq_of_besideDir hbeside
  have hsteps : v.grn.steps = s.grn.steps := (steps_of_besideDir hbeside).trans rfl
  rw [hv] at hu
  rw [stepEntry_congr (hu ▸ (congrArg Granary.steps (answerSlot_grn _ _)).trans hsteps), ← he, hu, answerSlot_ret, answerSlot_plots, answerSlot_sch,
    answerSlot_mem]
  exact ⟨rfl, rfl, rfl, fun h => (congrArg State.mem (hagain h)).trans (listServed_mem ..), hplots, hsch⟩

end

/-- An owner's OVER at the requester. -/
theorem overRow_answer {s u : State} {t row : Nat} (hu : u = overRow t row s) :
    u.grn.counts.get 0 (32 * t + 11) = sat48 (s.grn.counts.get 0 (32 * t + 11) + 1) ∧ stickyBit u 10 5 = true ∧
    u.mem = s.mem ∧ u.plots = s.plots ∧ u.sch = s.sch := by
  rw [hu]
  unfold overRow
  refine ⟨?_, stickyBit_event_self .., ?_, ?_, ?_⟩
  · rw [grnEvent, event_grn]
    exact counts_countGrn _ _ _ _ Nat.one_pos
  · simp [grnEvent, countGrn]
  · simp [grnEvent, countGrn]
  · simp [grnEvent, countGrn]

end Sys2Proof.Machine
end

section
/-! SUPPORT. SECTOR_FILL (07_granary_and_tables.md R159): a read that meets no poison, a write that stays within its range, and a block of a sector
copied into its way. -/

namespace Sys2Proof.Machine

variable {s t u : State}

/-! ### A read of a module without poison -/

/-- No line or block is poisoned and no cellar die is lost. -/
structure Clean (s : State) : Prop where
  hbm : s.mem.hbmPoison = []
  kiln : s.mem.kilnPoison = []
  dies : s.mem.dieLost = []

theorem StaysClean.clean (h : StaysClean s t) (hs : Clean s) : Clean t := ⟨h.hbm hs.hbm, h.kiln hs.kiln, h.dies.trans hs.dies⟩

theorem Clean.poisonedAt (h : Clean s) (a : Nat) : Machine.poisonedAt s a = false := by
  unfold Machine.poisonedAt
  rw [h.hbm, h.kiln, h.dies]
  split <;> rfl

/-- A read that leaves the module clean and meets no poison. -/
def ReadsClean (r : State × List Byte × Bool) : Prop := Clean r.1 ∧ r.2.2 = false

theorem readsClean_lineRead (h : Clean s) (req : Nat) (hint : Hint) (a n : Nat) : ReadsClean (lineRead req hint a n s) := by
  have hclean := (SameButCache.staysClean (sameButCache_maltTouch hint false false a s)).clean h
  unfold lineRead
  dsimp only
  rw [hclean.poisonedAt]
  exact ⟨hclean, rfl⟩

theorem readsClean_linesRead (h : Clean s) (req : Nat) (hint : Hint) (ls : List (Nat × Nat)) : ReadsClean (linesRead req hint ls s) := by
  induction ls generalizing s with
  | nil => exact ⟨h, rfl⟩
  | cons x ls ih =>
    obtain ⟨hfirst, hflag⟩ := readsClean_lineRead h req hint x.1 x.2
    obtain ⟨hrest, hflags⟩ := ih hfirst
    exact ⟨hrest, by rw [linesRead, hflag, hflags]; rfl⟩

theorem readsClean_requestRead (h : Clean s) (req : Nat) (hint : Hint) (a n : Nat) : ReadsClean (requestRead req hint a n s) := by
  unfold requestRead
  split
  · exact ⟨(StaysClean.of_mem (addrFault_mem ..)).clean h, rfl⟩
  · split
    · exact readsClean_linesRead h ..
    · exact readsClean_linesRead h ..
    · refine ⟨(StaysClean.of_mem ?_).clean h, rfl⟩
      unfold hostReadNow
      split
      · rfl
      · split <;> simp
    · exact ⟨h, rfl⟩

theorem readsClean_devRead (h : Clean s) (req : Nat) (hint : Hint) (a n : Nat) : ReadsClean (devRead req hint a n s) := by
  unfold devRead
  generalize requests a n = rs
  induction rs generalizing s with
  | nil => exact ⟨h, rfl⟩
  | cons x rs ih =>
    obtain ⟨hfirst, hflag⟩ := readsClean_requestRead h req hint x.1 x.2
    obtain ⟨hrest, hflags⟩ := ih hfirst
    exact ⟨hrest, by rw [requestsRead, hflag, hflags]; rfl⟩

/-! ### The bytes of a read -/

@[simp] theorem hostBytes_length (s : State) (bus n : Nat) : (hostBytes s bus n).length = n := by
  induction n generalizing bus with
  | zero => rfl
  | succ n ih => exact congrArg (· + 1) (ih _)

theorem linesRead_length {v a n : Nat} {ls : List (Nat × Nat)} (hcut : Cut v ls a n) (req : Nat) (hint : Hint) (s : State) :
    (linesRead req hint ls s).2.1.length = n := by
  induction hcut generalizing s with
  | nil => rfl
  | cons hpos hfits hrest ih => rw [linesRead, List.length_append, lineRead_data, rawBytes_length, ih]

theorem requestRead_length (req : Nat) (hint : Hint) (a n : Nat) (s : State) : (requestRead req hint a n s).2.1.length = n := by
  unfold requestRead
  split
  · simp
  · split
    · exact linesRead_length (cut_lines a n) ..
    · exact linesRead_length (cut_lines a n) ..
    · unfold hostReadNow
      split
      · simp
      · split <;> simp
    · simp

theorem devRead_length (req : Nat) (hint : Hint) (a n : Nat) (s : State) : (devRead req hint a n s).2.1.length = n := by
  unfold devRead
  have hcut := cut_requests a n
  generalize requests a n = rs at hcut
  induction hcut generalizing s with
  | nil => rfl
  | cons hpos hfits hrest ih => rw [requestsRead, List.length_append, requestRead_length, ih]

/-! ### A write stays within its range -/

/-- From s to t no byte outside the n from a on changes, nor the Granary. -/
structure ChangesWithin (a n : Nat) (s t : State) : Prop where
  wf : s.mem.wf = true → t.mem.wf = true
  grn : t.grn = s.grn
  outside : s.mem.wf = true → ∀ x, x < a ∨ a + n ≤ x → rawByte t x = rawByte s x

section
variable {a n b m : Nat}

theorem ChangesWithin.of_cells (hcells : t.mem.cells = s.mem.cells) (hgrn : t.grn = s.grn) : ChangesWithin a n s t :=
  ⟨Memory.wf_of_cells _ _ hcells, hgrn, fun _ x _ => rawByte_congr hcells hgrn x⟩

theorem ChangesWithin.trans (h : ChangesWithin a n s t) (k : ChangesWithin a n t u) : ChangesWithin a n s u :=
  ⟨fun hw => k.wf (h.wf hw), k.grn.trans h.grn, fun hw x hx => (k.outside (h.wf hw) x hx).trans (h.outside hw x hx)⟩

theorem ChangesWithin.widen (h : ChangesWithin b m s t) (hlow : a ≤ b) (hhigh : b + m ≤ a + n) : ChangesWithin a n s t :=
  ⟨h.wf, h.grn, fun hw x hx => h.outside hw x (by omega)⟩

theorem Stored.changesWithin {bs : List Byte} (h : Stored s t a bs) (hn : bs.length = n) : ChangesWithin a n s t :=
  ⟨h.wf, h.grn, fun hw _ hx => h.rawByte_outside hw (hn.symm ▸ hx)⟩

end

/-- A write wholly in HBM, of a withdrawn frame or not. -/
theorem changesWithin_requestWrite {req a : Nat} {hint : Hint} {bs : List Byte} (hlow : a < 0x8000000000) (hhigh : a + bs.length ≤ 0x8000000000) :
    ChangesWithin a bs.length s (requestWrite req hint a bs s) := by
  cases hok : refuses s req a true with
  | false =>
    have hin : s.mem.withdrawn.get false (a / 0x10000) = false := by
      rw [refuses, locate_of_hbm hlow] at hok
      exact hok
    exact (storedInHbm_requestWrite hlow hhigh hin).stored.changesWithin rfl
  | true =>
    unfold requestWrite
    rw [if_pos hok]
    exact .of_cells (congrArg Memory.cells (addrFault_mem ..)) (addrFault_grn ..)

theorem changesWithin_devWrite {req a n : Nat} {hint : Hint} {bs : List Byte} (hn : bs.length = n) (hhigh : a + n ≤ 0x8000000000) :
    ChangesWithin a n s (devWrite req hint a bs s) := by
  subst hn
  unfold devWrite
  have hcut := cut_requests a bs.length
  generalize hlen : bs.length = n at hcut hhigh
  generalize requests a n = rs at hcut
  induction hcut generalizing bs s with
  | nil a => exact .of_cells rfl rfl
  | @cons a k n rs hpos hfits hrest ih =>
    have hfirst : (bs.take k).length = k := by rw [List.length_take]; omega
    have hwrite : ChangesWithin a k s (requestWrite req hint a (bs.take k) s) := by
      have := changesWithin_requestWrite (s := s) (req := req) (hint := hint) (a := a) (bs := bs.take k) (by omega) (by omega)
      rwa [hfirst] at this
    exact (hwrite.widen le_rfl (by omega)).trans ((ih (by rw [List.length_drop]; omega) (by omega)).widen (by omega) (by omega))

/-! ### A block of a sector filled -/

/-- What filling keeps: the module clean, all bytes outside n from a on, and what lies beside memory and the directory. -/
structure FillsWay (a n : Nat) (s t : State) : Prop where
  clean : Clean s → Clean t
  bytes : ChangesWithin a n s t
  beside : besideDir t = besideDir s

theorem FillsWay.trans {a n : Nat} (h : FillsWay a n s t) (k : FillsWay a n t u) : FillsWay a n s u :=
  ⟨fun hs => k.clean (h.clean hs), h.bytes.trans k.bytes, k.beside.trans h.beside⟩

/-- A block that meets no poison is the home's bytes written in the way. -/
theorem fillBlock_of_clean (h : Clean s) (e t : Nat) (tb : Table) (d : DirEntry) (o : Nat) : fillBlock e t tb d o s =
    devWrite reqGranary .none (wayAddr e + o) (devRead reqGranary .none (homeBase s tb d.vslot + d.granule * 0x10000 + o) 512 s).2.1
      (devRead reqGranary .none (homeBase s tb d.vslot + d.granule * 0x10000 + o) 512 s).1 := by
  obtain ⟨-, hflag⟩ := readsClean_devRead h reqGranary .none (homeBase s tb d.vslot + d.granule * 0x10000 + o) 512
  simp only [fillBlock, copyBytes, hflag, Bool.false_eq_true, if_false]

theorem fillsWay_fillBlock (h : Clean s) {e o : Nat} (hway : wayAddr e + o + 512 ≤ 0x8000000000) (t : Nat) (tb : Table) (d : DirEntry) :
    FillsWay (wayAddr e + o) 512 s (fillBlock e t tb d o s) := by
  rw [fillBlock_of_clean h]
  obtain ⟨hclean, -⟩ := readsClean_devRead h reqGranary .none (homeBase s tb d.vslot + d.granule * 0x10000 + o) 512
  refine ⟨fun _ => (staysClean_devWrite ..).clean hclean, ?_, (besideDir_devWrite ..).trans (besideDir_devRead ..)⟩
  exact (ChangesWithin.of_cells (devRead_cells ..) (devRead_grn ..)).trans (changesWithin_devWrite (devRead_length ..) hway)

/-- The four blocks of a sector. -/
theorem fillsWay_sector (h : Clean s) {e x : Nat} (hx : x < 32) (hway : wayAddr e + 0x10000 ≤ 0x8000000000) (t : Nat) (tb : Table) (d : DirEntry) :
    FillsWay (wayAddr e + 2048 * x) 2048 s (State.each (fun j s => fillBlock e t tb d (2048 * x + 512 * j) s) [0, 1, 2, 3] s) := by
  unfold State.each
  refine List.foldlRecOn (motive := fun u => FillsWay (wayAddr e + 2048 * x) 2048 s u) _ _ ⟨id, .of_cells rfl rfl, rfl⟩ fun u hu j hj => ?_
  have hj : j < 4 := by
    simp only [List.mem_cons, List.not_mem_nil, or_false] at hj
    omega
  obtain ⟨hclean, hbytes, hbeside⟩ := fillsWay_fillBlock (hu.clean h) (e := e) (o := 2048 * x + 512 * j) (by omega) t tb d
  exact hu.trans ⟨hclean, hbytes.widen (by omega) (by omega), hbeside⟩

/-! ### The sector's VALID bit -/

/-- A sector's VALID bit set and the fill counted. -/
def sectorFilled (t e x : Nat) (s : State) : State := countGrn t 3 1 (onDir e (fun d => { d with valid := d.valid ||| 2 ^ x }) s)

@[simp] theorem sectorFilled_mem (t e x : Nat) (s : State) : (sectorFilled t e x s).mem = s.mem := rfl
@[simp] theorem sectorFilled_plots (t e x : Nat) (s : State) : (sectorFilled t e x s).plots = s.plots := rfl
@[simp] theorem sectorFilled_sch (t e x : Nat) (s : State) : (sectorFilled t e x s).sch = s.sch := rfl

theorem dirEntry_onDir (e : Nat) (f : DirEntry → DirEntry) (h : Tab.wf {} s.grn.dir = true) : dirEntry (onDir e f s) e = f (dirEntry s e) := by
  rw [dirEntry, onDir, State.onGrn_grn, Tab.get_modify _ _ _ _ _ h, if_pos rfl, dirEntry]

@[simp] theorem dirEntry_countGrn (t i n : Nat) (s : State) (e : Nat) : dirEntry (countGrn t i n s) e = dirEntry s e := rfl

theorem natBit_or_two_pow (b v : Nat) : natBit b (v ||| 2 ^ b) = true := by
  rw [natBit_eq_testBit, Nat.testBit_or, Nat.testBit_two_pow_self, Bool.or_true]

theorem valid_sectorFilled (t e x : Nat) (h : Tab.wf {} s.grn.dir = true) : natBit x (dirEntry (sectorFilled t e x s) e).valid = true := by
  rw [sectorFilled, dirEntry_countGrn, dirEntry_onDir _ _ h]
  exact natBit_or_two_pow ..

theorem rawByte_sectorFilled (t e x : Nat) {a : Nat} (ha : ∀ o, locate a ≠ .dir o) : rawByte (sectorFilled t e x s) a = rawByte s a := by
  rw [rawByte_of_not_dir _ ha, rawByte_of_not_dir _ ha, sectorFilled_mem]

section
variable {en : BitVec 22} {x : Fin 32} {d : DirEntry} {tb : Table} (hd : dirEntry s en.toNat = d) (hheld : d.state ≠ 0)
  (htable : s.table d.table = some tb) (hnew : natBit x d.valid = false)
include hd hheld htable hnew

/-- SECTOR_FILL of a sector that is not valid: its four blocks, then its VALID bit. -/
theorem exec_sectorFill_new : exec (.sectorFill en x .clean) s = .next (sectorFilled d.table en.toNat x
    (State.each (fun j s => fillBlock en.toNat d.table tb d (2048 * x + 512 * j) s) [0, 1, 2, 3] s)) := by
  change execSectorFill en x .clean s = _
  unfold execSectorFill
  dsimp only
  rw [hd, if_neg (by simp [hheld, hnew]), htable]
  rfl

/-- The sector is valid; of HBM only its bytes in the way change. -/
theorem sectorFill_new (h : Clean s) (hway : wayAddr en.toNat + 0x10000 ≤ 0x8000000000) (hdir : Tab.wf {} s.grn.dir = true)
    (hw : s.mem.wf = true) : ∃ t, exec (.sectorFill en x .clean) s = .next t ∧ natBit x (dirEntry t en.toNat).valid = true ∧
      t.plots = s.plots ∧ t.sch = s.sch ∧
      ∀ a, a < wayAddr en.toNat + 2048 * x ∨ wayAddr en.toNat + 2048 * x + 2048 ≤ a → locate a = .hbm → rawByte t a = rawByte s a := by
  obtain ⟨-, hbytes, hbeside⟩ := fillsWay_sector h x.isLt hway d.table tb d
  obtain ⟨hplots, -, hsch, -⟩ := eq_of_besideDir hbeside
  refine ⟨_, exec_sectorFill_new hd hheld htable hnew, ?_, ?_, ?_, fun a ha hloc => ?_⟩
  · exact valid_sectorFilled _ _ _ (by rw [hbytes.grn]; exact hdir)
  · rw [sectorFilled_plots, hplots]
  · rw [sectorFilled_sch, hsch]
  · have hnot : ∀ o, locate a ≠ .dir o := fun o => by rw [hloc]; nofun
    rw [rawByte_sectorFilled _ _ _ hnot, hbytes.outside hw a ha]

end

end Sys2Proof.Machine
end

section
/-! SUPPORT. POOL (07_granary_and_tables.md R155, R165): a write into a plot's store, and the pooled vector of a bag of none and of one row. -/

namespace Sys2Proof.Machine

/-! ### A write into a plot's store -/

theorem requestWrite_of_store {req p off a : Nat} {h : Hint} {bs : List Byte} {s : State} (hloc : locate a = .store p off) :
    requestWrite req h a bs s = s.onMem (fun m => m.putBytes a bs) := by
  have hok : refuses s req a true = false := by
    unfold refuses
    rw [hloc]
  unfold requestWrite
  rw [hok, hloc]
  rfl

theorem onMem_putBytes_putBytes (a k : Nat) (bs : List Byte) (s : State) (hk : k ≤ bs.length) :
    (s.onMem (fun m => m.putBytes a (bs.take k))).onMem (fun m => m.putBytes (a + k) (bs.drop k)) = s.onMem (fun m => m.putBytes a bs) := by
  have hbytes (m : Memory) : m.putBytes a bs = (m.putBytes a (bs.take k)).putBytes (a + k) (bs.drop k) := by
    have happend := Memory.putBytes_append m a (bs.take k) (bs.drop k)
    rwa [List.take_append_drop, List.length_take, Nat.min_eq_left hk] at happend
  rw [show (fun m : Memory => m.putBytes a bs) = fun m => (m.putBytes a (bs.take k)).putBytes (a + k) (bs.drop k) from funext hbytes]
  rfl

theorem requestsWrite_of_store {req p u a n : Nat} {h : Hint} {rs : List (Nat × Nat)} {bs : List Byte} (s : State) (hcut : Cut u rs a n)
    (hn : bs.length = n) (hp : p < 64) (hlow : storeBase p ≤ a) (hhigh : a + n ≤ storeBase p + 0x300000) :
    requestsWrite req h rs bs s = s.onMem (fun m => m.putBytes a bs) := by
  induction hcut generalizing bs s with
  | nil a =>
    obtain rfl := List.length_eq_zero_iff.mp hn
    rfl
  | @cons a k n rs hpos hfits hrest ih =>
    rw [requestsWrite, requestWrite_of_store (locate_of_store hp hlow (by omega)), ih _ (by rw [List.length_drop]; omega) (by omega) (by omega)]
    exact onMem_putBytes_putBytes a k bs s (by omega)

/-- A write within a plot's store puts its bytes there and changes nothing else. -/
theorem devWrite_of_store {req p a : Nat} {h : Hint} {bs : List Byte} (s : State) (hp : p < 64) (hlow : storeBase p ≤ a)
    (hhigh : a + bs.length ≤ storeBase p + 0x300000) : devWrite req h a bs s = s.onMem (fun m => m.putBytes a bs) :=
  requestsWrite_of_store s (cut_requests a bs.length) rfl hp hlow hhigh

/-- Bytes written within a plot's store are read back, no other byte changes, and nothing but memory. -/
theorem devWrite_in_store {req p a n : Nat} {h : Hint} {bs : List Byte} {s : State} (hn : bs.length = n) (hp : p < 64) (hlow : storeBase p ≤ a)
    (hhigh : a + n ≤ storeBase p + 0x300000) (hw : s.mem.wf = true) : rawBytes (devWrite req h a bs s) a n = bs ∧
      (∀ x, x < a ∨ a + n ≤ x → rawByte (devWrite req h a bs s) x = rawByte s x) ∧ (devWrite req h a bs s).hk = s.hk ∧
      (devWrite req h a bs s).plots = s.plots ∧ (devWrite req h a bs s).grn = s.grn := by
  subst hn
  rw [devWrite_of_store s hp hlow hhigh]
  have hstored := Stored.onMem s a bs
  refine ⟨hstored.rawBytes_eq hw fun x hx hlt o => ?_, fun x hx => hstored.rawByte_outside hw hx, rfl, rfl, rfl⟩
  rw [locate_of_store hp (by omega) (by omega)]
  nofun

/-! ### The vector stored -/

theorem encodeMany_fp32_length (xs : List XVal) : (Fmt.encodeMany .fp32 xs).1.length = 4 * xs.length := by
  rw [encodeMany_fp32]
  simp [List.length_flatten, Function.comp_def, Nat.mul_comm]

/-- +0 is stored as zeros. -/
theorem encodeMany_fp32_zeros (n : Nat) : (Fmt.encodeMany .fp32 (List.replicate n xZero)).1 = zeros (4 * n) := by
  have hzero : leBytes 4 (lay32.conv xZero).1 = List.replicate 4 0 := by decide
  rw [encodeMany_fp32, List.map_replicate, List.map_replicate, hzero, List.flatten_replicate_replicate, zeros, Nat.mul_comm]

theorem map_range_getD {α β : Type} (xs : List α) (d : α) (f : α → β) : (List.range xs.length).map (fun i => f (xs.getD i d)) = xs.map f :=
  List.ext_getElem (by simp) fun i _ hi => by
    have hlt : i < xs.length := by simpa using hi
    simp [List.getD_eq_getElem?_getD, List.getElem?_eq_getElem hlt]

/-- The vector of a row that was sent has the table's dimension. -/
theorem Table.decodeMany_length (tb : Table) (bs : List Byte) : (tb.fmt.decodeMany tb.dim (padTo tb.wBytes bs)).length = tb.dim :=
  Fmt.decodeMany_length (padTo_length ..)

/-- A sum of one row is the row, rounded. -/
theorem poolElem_singleton (x : XVal) : poolElem false [x] = f32 (toF32 x) := rfl

section
variable {smp f : Nat} {rows : List RowIn} {s : State} {d : FeatureDef} {tb : Table} (hissues : issues s = true)
  (hfeature : s.body.features[f]? = some d) (htable : s.table d.table = some tb) (hfmt : d.outFmt = 0)
include hissues hfeature htable hfmt

/-- POOL under FP32: the element-wise sums of the bag's vectors, stored in the feature's output row. -/
theorem exec_pool {bag : List BagPos} {vs : List (List XVal)} (hbag : s.grn.bags.get [] (smp * s.body.features.length + f) = bag)
    (hrows : poolRows d.table (smp / max 1 s.body.micro) (256 * (smp * s.body.features.length + f)) tb
      ((List.zip (List.range bag.length) bag).map (fun x => (x.2, rows.getD x.1 .late))) s = (s, vs)) :
    exec (.pool smp f rows) s = .next (devWrite reqGranary .none (storeBase d.plot + d.off + smp % max 1 s.body.micro * d.stride)
      (Fmt.fp32.encodeMany ((List.range tb.dim).map (fun e => poolElem d.mean (vs.map (fun v => v.getD e xZero))))).1 s) := by
  change Host.Outcome.next (if issues s then pool smp f rows s else s) = _
  rw [if_pos hissues]
  unfold pool
  rw [hfeature]
  dsimp only
  rw [htable]
  dsimp only
  rw [hbag, hrows, hfmt]
  rfl

/-- POOL of an empty bag. -/
theorem exec_pool_nil (hbag : s.grn.bags.get [] (smp * s.body.features.length + f) = []) : exec (.pool smp f rows) s = .next
    (devWrite reqGranary .none (storeBase d.plot + d.off + smp % max 1 s.body.micro * d.stride) (zeros (4 * tb.dim)) s) := by
  have hvalues : (List.range tb.dim).map (fun e => poolElem d.mean (([] : List (List XVal)).map (fun v => v.getD e xZero))) =
      List.replicate tb.dim xZero := by
    simp [poolElem]
  rw [exec_pool hissues hfeature htable hfmt hbag (vs := []) rfl, hvalues, encodeMany_fp32_zeros]

/-- POOL of a bag of one row of another owner, under SUM. -/
theorem exec_pool_sent {r : Nat} {bs : List Byte} (hbag : s.grn.bags.get [] (smp * s.body.features.length + f) = [.row r])
    (hother : tb.owns r = false) (hsum : d.mean = false) : exec (.pool smp f [.data bs]) s = .next
    (devWrite reqGranary .none (storeBase d.plot + d.off + smp % max 1 s.body.micro * d.stride)
      (Fmt.fp32.encodeMany ((tb.fmt.decodeMany tb.dim (padTo tb.wBytes bs)).map (fun v => f32 (toF32 v)))).1 s) := by
  have hrow (key : Nat) : poolPos d.table (smp / max 1 s.body.micro) key tb (.row r) (.data bs) s =
      (s, tb.fmt.decodeMany tb.dim (padTo tb.wBytes bs)) := by
    simp [poolPos, positionRow, hother]
  have hlen := Table.decodeMany_length tb bs
  have hrows (key : Nat) : poolRows d.table (smp / max 1 s.body.micro) key tb [(.row r, .data bs)] s =
      (s, [tb.fmt.decodeMany tb.dim (padTo tb.wBytes bs)]) := by
    rw [poolRows, hrow]
    rfl
  generalize tb.fmt.decodeMany tb.dim (padTo tb.wBytes bs) = xs at hlen hrows
  rw [exec_pool hissues hfeature htable hfmt hbag (hrows _), hsum, ← hlen, ← map_range_getD xs xZero]
  simp only [List.map_cons, List.map_nil, poolElem_singleton]

end

end Sys2Proof.Machine
end

section
/-! SUPPORT. GRADIENT_RECORD (07_granary_and_tables.md R167; 06_memory_tiers.md R131, R132): a vector added to consecutive Tun windows. -/

namespace Sys2Proof.Machine

variable {s t : State} {n a : Nat} {r : TunRegion}

/-! ### The region that all windows lie in -/

/-- Region n, enabled as r describes it whatever it has counted, is the only enabled one, and no frame is withdrawn. -/
structure SoleRegion (n : Nat) (r : TunRegion) (s : State) : Prop where
  index : n < 256
  enabled : r.en = true
  same : ∃ sat low, s.mem.tun.get {} n = { r with satAdds := sat, lowAdds := low }
  lone : ∀ m, m ≠ n → (s.mem.tun.get {} m).en = false
  frames : s.mem.withdrawn = []

/-- A region that covers an address is enabled and bounds it. -/
theorem tunRegionOf_some (h : tunRegionOf s a = some (n, r)) : n < 256 ∧ s.mem.tun.get {} n = r ∧ r.en = true ∧ r.base ≤ a ∧ a < r.fin := by
  unfold tunRegionOf at h
  have hcover := List.find?_some h
  obtain ⟨m, hm, heq⟩ := List.mem_map.mp (List.mem_of_find?_eq_some h)
  obtain ⟨rfl, rfl⟩ := Prod.mk.inj heq
  simp only [Bool.and_eq_true, decide_eq_true_eq] at hcover
  exact ⟨List.mem_range.mp hm, rfl, hcover.1.1, hcover.1.2, hcover.2⟩

theorem soleRegion_of_some (h : tunRegionOf s a = some (n, r)) (hlone : ∀ m, m ≠ n → (s.mem.tun.get {} m).en = false)
    (hframes : s.mem.withdrawn = []) : SoleRegion n r s := by
  obtain ⟨hn, hr, hen, -, -⟩ := tunRegionOf_some h
  exact ⟨hn, hen, ⟨r.satAdds, r.lowAdds, hr⟩, hlone, hframes⟩

/-- The only enabled region covers what it bounds. -/
theorem SoleRegion.tunRegionOf_eq (h : SoleRegion n r s) (hlow : r.base ≤ a) (hhigh : a < r.fin) :
    tunRegionOf s a = some (n, s.mem.tun.get {} n) := by
  obtain ⟨sat, low, hsame⟩ := h.same
  cases hfind : tunRegionOf s a with
  | none =>
    have hmiss := List.find?_eq_none.mp hfind (n, s.mem.tun.get {} n) (List.mem_map_of_mem (List.mem_range.mpr h.index))
    simp [hsame, h.enabled, hlow, hhigh] at hmiss
  | some x =>
    obtain ⟨-, hx, hen, -, -⟩ := tunRegionOf_some (n := x.1) (r := x.2) hfind
    have hindex : x.1 = n := by
      by_contra hne
      rw [← hx, h.lone x.1 hne] at hen
      exact Bool.false_ne_true hen
    rw [← hindex, hx]

/-! ### One window -/

theorem tunAdmit_of_region {req : Nat} (hok : refuses s req a true = false) (hregion : tunRegionOf s a = some (n, r)) (halign : a % 16 = 0)
    (hkind : r.int32 = false) (f : Nat → TunRegion → State → State) : tunAdmit req a false s f = f n r (tunBook a s) := by
  unfold tunAdmit
  rw [hok, hregion]
  simp [halign, hkind]

theorem tunAdded_mem (h : Hint) (n a : Nat) (bs : List Byte) (sat low : Bool) (s : State) :
    (tunAdded h n a bs sat low s).mem = (tunCount n sat low (tunStore h a bs s)).mem := by
  unfold tunAdded
  dsimp only
  split
  · exact event_mem ..
  · rfl

theorem tunStore_tun (h : Hint) (a : Nat) (bs : List Byte) (s : State) : (tunStore h a bs s).mem.tun = s.mem.tun := by
  have htouch : (maltTouch h true (bs.length == 128) a s).mem.tun = s.mem.tun := by rw [sameButCache_maltTouch h true (bs.length == 128) a s]
  unfold tunStore lineWrite
  split
  · rfl
  · dsimp only
    rw [if_neg Bool.false_ne_true, State.onMem, Memory.putBytes_eq]
    exact htouch

/-- A region after an add. -/
def TunRegion.counted (sat low : Bool) (r : TunRegion) : TunRegion :=
  { r with satAdds := min 0xFFFFFF (r.satAdds + b2n sat), lowAdds := min 0xFFFFFF (r.lowAdds + b2n low) }

theorem tunCount_tun (n : Nat) (sat low : Bool) (s : State) :
    (tunCount n sat low s).mem.tun = s.mem.tun.modify {} n (TunRegion.counted sat low) := rfl

theorem tun_tunAdded (h : Hint) (n a : Nat) (bs : List Byte) (sat low : Bool) (s : State) :
    (tunAdded h n a bs sat low (tunBook a s)).mem.tun = s.mem.tun.modify {} n (TunRegion.counted sat low) := by
  rw [tunAdded_mem, tunCount_tun, tunStore_tun]
  rfl

/-- An add counted by its region leaves it the only one. -/
theorem SoleRegion.tunAdded (hs : SoleRegion n r s) (ha : a < 0x8000000000) (h : Hint) (bs : List Byte) (sat low : Bool) :
    SoleRegion n r (tunAdded h n a bs sat low (tunBook a s)) := by
  obtain ⟨c, d, hsame⟩ := hs.same
  have hne : TunRegion.counted sat low (s.mem.tun.get {} n) ≠ {} := fun heq => by
    have hen := congrArg TunRegion.en heq
    rw [hsame] at hen
    exact Bool.false_ne_true (hen.symm.trans hs.enabled)
  have htun := Tab.get_modify_of_ne hne
  rw [← tun_tunAdded h n a bs sat low s] at htun
  refine ⟨hs.index, hs.enabled, ?_, fun m hm => ?_, ?_⟩
  · refine ⟨min 0xFFFFFF (c + b2n sat), min 0xFFFFFF (d + b2n low), ?_⟩
    rw [htun, if_pos rfl, hsame]
    rfl
  · rw [htun, if_neg hm, hs.lone m hm]
  · have hframes : (tunStore h a bs (tunBook a s)).mem.withdrawn = (tunBook a s).mem.withdrawn :=
      (stored_lineWrite (by simp [locate_of_hbm ha])).withdrawn
    rw [tunAdded_mem]
    exact hframes.trans hs.frames

/-- From s to t a value was added to the window at a. -/
structure WindowAdded (n : Nat) (r : TunRegion) (a : Nat) (v : XVal) (s t : State) : Prop where
  stored : OperandStored s t a (leBytes 16 (intBits 128 (tunStep r.x (windowAt s a) v).1))
  region : SoleRegion n r t
  wf : t.mem.wf = true

theorem windowAdded_tunAddVal (hs : SoleRegion n r s) (hkind : r.int32 = false) (hlow : r.base ≤ a) (hhigh : a < r.fin) (halign : a % 16 = 0)
    (ha : a < 0x8000000000) (hw : s.mem.wf = true) (hint : Hint) (req : Nat) (v : XVal) : WindowAdded n r a v s (tunAddVal hint req a v s) := by
  obtain ⟨c, d, hsame⟩ := hs.same
  have hok : refuses s req a true = false := by
    rw [refuses, locate_of_hbm ha]
    exact hs.frames ▸ rfl
  have heq : tunAddVal hint req a v s = tunAdded hint n a (leBytes 16 (intBits 128 (tunStep r.x (windowAt s a) v).1))
      (tunStep r.x (windowAt s a) v).2.1 (tunStep r.x (windowAt s a) v).2.2 (tunBook a s) := by
    have hadmit := tunAdmit_of_region hok (hs.tunRegionOf_eq hlow hhigh) halign (by rw [hsame]; exact hkind)
    unfold tunAddVal tunAdded
    rw [hadmit, hsame, windowAt_tunBook]
  rw [heq]
  refine ⟨operandStored_tunAdded _ _ _ _ ha (leBytes_length ..).le hw, hs.tunAdded ha _ _ _ _, ?_⟩
  refine Memory.wf_of_cells _ _ (congrArg Memory.cells (tunAdded_mem ..)) ?_
  have hstored : Stored (tunBook a s) (tunStore hint a (leBytes 16 (intBits 128 (tunStep r.x (windowAt s a) v).1)) (tunBook a s)) a _ :=
    stored_lineWrite (by simp [locate_of_hbm ha])
  exact hstored.wf hw

/-! ### A vector of windows -/

/-- From s to t a vector was added to the windows from a on. -/
structure VectorAdded (n : Nat) (r : TunRegion) (a : Nat) (xs : List XVal) (s t : State) : Prop where
  windows : ∀ j x, xs[j]? = some x → windowAt t (a + 16 * j) = (tunStep r.x (windowAt s (a + 16 * j)) x).1
  outside : ∀ y, y < a ∨ a + 16 * xs.length ≤ y → rawByte t y = rawByte s y
  plots : t.plots = s.plots
  region : SoleRegion n r t
  wf : t.mem.wf = true

theorem windowAt_congr_bytes {b : Nat} (h : ∀ y, b ≤ y → y < b + 16 → rawByte t y = rawByte s y) : windowAt t b = windowAt s b := by
  rw [windowAt, rawNat, rawBytes_congr h, windowAt, rawNat]

/-- One more value behind the vector. -/
theorem VectorAdded.append {u : State} {xs : List XVal} {x : XVal} (h : VectorAdded n r a xs s t)
    (k : WindowAdded n r (a + 16 * xs.length) x t u) : VectorAdded n r a (xs ++ [x]) s u := by
  have hlen : (leBytes 16 (intBits 128 (tunStep r.x (windowAt t (a + 16 * xs.length)) x).1)).length = 16 := leBytes_length ..
  have hkeeps : ∀ y, y < a + 16 * xs.length ∨ a + 16 * xs.length + 16 ≤ y → rawByte u y = rawByte t y := hlen ▸ k.stored.outside
  refine ⟨fun j y hj => ?_, fun y hy => ?_, k.stored.plots.trans h.plots, k.region, k.wf⟩
  · rcases Nat.lt_trichotomy j xs.length with hlt | rfl | hgt
    · rw [List.getElem?_append_left hlt] at hj
      rw [windowAt_congr_bytes fun y _ hy => hkeeps y (.inl (by omega)), h.windows j y hj]
    · obtain rfl : x = y := by simpa using hj
      obtain ⟨hlow, hhigh⟩ := tunStep_range r.x (windowAt t (a + 16 * xs.length)) x
      rw [k.stored.windowAt_eq hlow hhigh, windowAt_congr_bytes fun y hy _ => h.outside y (.inr hy)]
    · rw [List.getElem?_eq_none (by simp; omega)] at hj
      contradiction
  · rw [List.length_append, List.length_singleton] at hy
    exact (hkeeps y (by omega)).trans (h.outside y (by omega))

theorem addWindows_append (a : Nat) (xs : List XVal) (x : XVal) (s : State) :
    addWindows a (xs ++ [x]) s = tunAddVal .none reqGranary (a + 16 * xs.length) x (addWindows a xs s) := by
  have hzip : List.zip (List.range (xs ++ [x]).length) (xs ++ [x]) = List.zip (List.range xs.length) xs ++ [(xs.length, x)] := by
    rw [List.length_append, List.length_singleton, List.range_succ, List.zip_append (by simp)]
    rfl
  unfold addWindows State.each
  rw [hzip, List.foldl_append, List.foldl_cons, List.foldl_nil]

/-- The windows of a vector lie in the region, aligned, in HBM. -/
theorem vectorAdded_addWindows (hs : SoleRegion n r s) (hkind : r.int32 = false) (halign : a % 16 = 0) (hw : s.mem.wf = true) (xs : List XVal)
    (hhbm : a + 16 * xs.length ≤ 0x8000000000) (hin : ∀ j, j < xs.length → r.base ≤ a + 16 * j ∧ a + 16 * j < r.fin) :
    VectorAdded n r a xs s (addWindows a xs s) := by
  induction xs using List.reverseRecOn with
  | nil => exact ⟨by simp, fun _ _ => rfl, rfl, hs, hw⟩
  | append_singleton xs x ih =>
    rw [List.length_append, List.length_singleton] at hhbm hin
    have hfirst := ih (by omega) fun j hj => hin j (by omega)
    obtain ⟨hlow, hhigh⟩ := hin xs.length (by omega)
    rw [addWindows_append]
    exact hfirst.append (windowAdded_tunAddVal hfirst.region hkind hlow hhigh (by omega) (by omega) hfirst.wf ..)

/-! ### The record -/

theorem accWindow_eq (s : State) (tb : Table) (n h j : Nat) : accWindow s tb n h j = accWindow s tb n h 0 + 16 * j := by
  unfold accWindow
  ring

theorem gradVals_length_le (tb : Table) (k : Int) (bs : List Byte) : (gradVals tb k bs).length ≤ tb.dim := by
  rw [gradVals, List.length_map, Fmt.decodeMany, List.length_take]
  exact Nat.min_le_left ..

theorem gradSlots_singleton (tb : Table) (n used : Nat) (xs : List XVal) (h : Nat) (s : State) :
    gradSlots tb n used xs [h] s = if h < used then gradSlot tb n h xs s else s := rfl

section
variable {table : BitVec 16} {k : BitVec 8} {bs : List Byte} {h : Nat}

/-- A record for a slot in use that is neither poisoned nor untouched. -/
theorem exec_gradientRecord_touched {tb : Table} {e : TableStep} (hissues : issues s = true) (htable : s.table table.toNat = some tb)
    (he : e = stepEntry s table.toNat s.sch.step) (hstep : e.step = s.sch.step) (hused : h < e.used)
    (hpoison : natBit 49 (rawNat s (slotEntry s tb s.sch.step h) 16) = false) (htouched : natBit 48 (rawNat s (slotEntry s tb s.sch.step h) 16) = true) :
    exec (.gradientRecord table k bs [h]) s = .next (addWindows (accWindow s tb s.sch.step h 0) (gradVals tb k.toInt bs) s) := by
  have hslot : gradSlot tb s.sch.step h (gradVals tb k.toInt bs) s = addWindows (accWindow s tb s.sch.step h 0) (gradVals tb k.toInt bs) s := by
    unfold gradSlot
    dsimp only
    rw [hpoison, htouched, if_neg Bool.false_ne_true, if_pos rfl]
  change Host.Outcome.next (if issues s then gradientRecord table.toNat k.toInt bs [h] s else s) = _
  rw [if_pos hissues]
  unfold gradientRecord
  rw [htable]
  dsimp only
  rw [← he, if_pos hstep]
  rw [gradSlots_singleton, if_pos hused, hslot]

/-- A record for a handle beyond the slots in use. -/
theorem exec_gradientRecord_beyond (hused : (stepEntry s table.toNat s.sch.step).used ≤ h) : exec (.gradientRecord table k bs [h]) s = .next s := by
  change Host.Outcome.next (if issues s then gradientRecord table.toNat k.toInt bs [h] s else s) = _
  unfold gradientRecord
  split
  · split
    · rfl
    · dsimp only
      split
      · rw [gradSlots_singleton, if_neg (Nat.not_lt.mpr hused)]
      · rfl
  · rfl

end

end Sys2Proof.Machine
end

section
/-! PROOFS. O51: look-ups and gradient records. -/

namespace Sys2Proof.Machine

/-- Settles O51: an owner's answers follow from its slot table, a fill is a copy into HBM, a pooled row is one write into the store, and a gradient
is added window by window under the one region that holds them. -/
theorem lookupsAndGradientsComplete : Obligations.LookupsAndGradientsComplete := by
  unfold Obligations.LookupsAndGradientsComplete
  refine ⟨?resolution, ?fill, ?emptyBag, ?sentRow, ?gradient, ?beyond, ?idle⟩
  case resolution =>
    intro table rank mb row answer s tb0 tb e asked again hissues htable htb he hstep hasked hagain
    refine ⟨fun hother hfresh => ?_, fun h hother hmine hanswer => ?_, fun hother hmine hanswer => ?_, fun howned hnone hroom => ?_,
      fun howned hnone hfull => ?_, fun k howned hslot => ?_⟩
    · rw [exec_resolutionRequest_other hissues htable htb hasked hother, hfresh]
      rfl
    · rw [exec_resolutionRequest_other hissues htable htb hasked hother, hmine, hanswer]
      rfl
    · rw [exec_resolutionRequest_other hissues htable htb hasked hother, hmine, hanswer]
      obtain ⟨hcounts, hsticky, hmem, hplots, hsch⟩ := overRow_answer (s := s) (t := table.toNat) (row := row.toNat) rfl
      exact ⟨_, rfl, hcounts, hsticky, fun smp f d bag hf hd hbag => not_mem_of_overRow hf hd hbag, hmem, hplots, hsch⟩
    · rw [exec_resolutionRequest_owned hissues htable htb howned]
      exact ⟨_, rfl, resolveRow_new_answer rfl htable htb he hstep howned hnone hroom⟩
    · rw [exec_resolutionRequest_owned hissues htable htb howned]
      exact ⟨_, rfl, resolveRow_over_answer rfl htable htb he hstep howned hnone hfull⟩
    · rw [exec_resolutionRequest_owned hissues htable htb howned, hagain]
      exact ⟨_, rfl, resolveRow_known_answer rfl htable htb he hstep howned hslot⟩
  case fill =>
    intro en x err s tb hheld htable
    refine ⟨fun hvalid => ?_, fun hnew herr hhbm hkiln hdies hway hdir hw => ?_⟩
    · change execSectorFill en x err s = _
      unfold execSectorFill
      dsimp only
      rw [hvalid, Bool.or_true, if_pos rfl]
    · subst herr
      exact sectorFill_new rfl hheld htable hnew ⟨hhbm, hkiln, hdies⟩ hway hdir hw
  case emptyBag =>
    intro smp f s d tb hissues hfeature htable hbag hfmt hdim hplot hfits hw
    rw [exec_pool_nil hissues hfeature htable hfmt hbag]
    obtain ⟨hbytes, houtside, hhk, hplots, -⟩ := devWrite_in_store (req := reqGranary) (h := .none) (zeros_length (4 * tb.dim)) hplot
      (a := storeBase d.plot + d.off + smp % max 1 s.body.micro * d.stride) (by omega) (by omega) hw
    exact ⟨_, rfl, hbytes, houtside, hhk, hplots⟩
  case sentRow =>
    intro smp f r bs s d tb a hissues hfeature htable hbag hother hfmt hsum hplot ha hfits hw
    have hlen : (Fmt.fp32.encodeMany ((tb.fmt.decodeMany tb.dim (padTo tb.wBytes bs)).map (fun v => f32 (toF32 v)))).1.length = 4 * tb.dim := by
      rw [encodeMany_fp32_length, List.length_map, Table.decodeMany_length]
    rw [exec_pool_sent hissues hfeature htable hfmt hbag hother hsum, Nat.add_assoc, ← ha]
    exact ⟨_, rfl, devWrite_in_store hlen hplot (by omega) (by omega) hw⟩
  case gradient =>
    intro table k bs h s tb e xs n r hissues htable he hstep hused _ hxs hpoison htouched halign hhbm hframes hregion hkind hw hlone
    have hlen : xs.length ≤ tb.dim := hxs ▸ gradVals_length_le tb k.toInt bs
    have hin (j : Nat) (hj : j < xs.length) : r.base ≤ accWindow s tb s.sch.step h 0 + 16 * j ∧ accWindow s tb s.sch.step h 0 + 16 * j < r.fin := by
      obtain ⟨-, -, -, hlow, hhigh⟩ := tunRegionOf_some (hregion j (by omega))
      rw [accWindow_eq] at hlow hhigh
      exact ⟨hlow, hhigh⟩
    rw [accWindow_eq] at hhbm
    have hexec : exec (.gradientRecord table k bs [h]) s = .next (addWindows (accWindow s tb s.sch.step h 0) xs s) :=
      hxs ▸ exec_gradientRecord_touched hissues htable he hstep hused hpoison htouched
    rcases Nat.eq_zero_or_pos xs.length with hnil | hpos
    · obtain rfl := List.length_eq_zero_iff.mp hnil
      exact ⟨s, hexec, by simp, fun _ _ => rfl, rfl⟩
    · have hsole := soleRegion_of_some (hregion 0 (by omega)) hlone hframes
      obtain ⟨hwindows, houtside, hplots, -, -⟩ := vectorAdded_addWindows hsole hkind halign hw xs (by omega) hin
      refine ⟨_, hexec, fun j x hj => ?_, fun a ha => houtside a ?_, hplots⟩
      · rw [accWindow_eq s tb s.sch.step h j]
        exact hwindows j x hj
      · rw [accWindow_eq s tb s.sch.step h tb.dim] at ha
        omega
  case beyond =>
    intro table k bs h s hused _
    exact exec_gradientRecord_beyond hused
  case idle =>
    intro table k bs hs smp f rows s hidle
    constructor
    · change Host.Outcome.next (if issues s then _ else s) = _
      rw [if_neg (by simp [hidle])]
    · change Host.Outcome.next (if issues s then _ else s) = _
      rw [if_neg (by simp [hidle])]

end Sys2Proof.Machine
end

section
/-! PROOFS. Update definition commands (08_lauter_update.md R179, R181, R195, R204; 13_maltster_mailboxes.md Table 13.13). -/

namespace Sys2Proof

/-- An entry of a canonical table is what its key reads as. -/
theorem Tab.get_of_mem {α : Type} [DecidableEq α] {d : α} {t : Tab α} {lo k : Nat} {v : α} (hw : Tab.wfFrom d lo t = true) (h : (k, v) ∈ t) :
    lo ≤ k ∧ Tab.get d t k = v := by
  induction t generalizing lo with
  | nil => simp at h
  | cons x t ih =>
    obtain ⟨j, w⟩ := x
    simp only [Tab.wfFrom, Bool.and_eq_true, decide_eq_true_eq] at hw
    obtain ⟨⟨hlo, -⟩, hrest⟩ := hw
    rcases List.mem_cons.mp h with heq | hmem
    · obtain ⟨rfl, rfl⟩ := Prod.mk.inj heq
      exact ⟨hlo, if_pos rfl⟩
    · obtain ⟨hlow, hget⟩ := ih hrest hmem
      exact ⟨by omega, by rw [Tab.get, if_neg (by omega), if_neg (by omega), hget]⟩

end Sys2Proof

namespace Sys2Proof.Machine

open Sys2Proof.Obl (taken Replies)

variable {m : Fin 64} {s t : State} {c : Cmd}

theorem atRest_iff : atRest t = true ↔ t.hasBundle = false ∨ parked t = true := by
  simp [atRest]

/-! ### RULE_SET -/

/-- The targets that a RULE_SET's argument buffer lists. -/
def listedTargets (c : Cmd) : List Nat := (List.range (c.at_ 35 1)).map (fun i => leAt c.arg (2 * i) 2)

/-- No other rule set of a canonical table names a listed target. -/
theorem findIdx?_named_elsewhere {sets : Tab (Option RuleSet)} {k : Nat} {ts : List Nat} (hw : Tab.wf none sets = true)
    (hfree : ∀ j r, sets.get none j = some r → ∀ x ∈ ts, j ≠ k → x ∉ r.targets) :
    ts.findIdx? (fun x => (sets.filter (fun kv => kv.1 != k)).any (fun kv => ((kv.2.map RuleSet.targets).getD []).contains x)) = none := by
  rw [List.findIdx?_eq_none_iff]
  intro x hx
  rw [List.any_eq_false]
  intro ⟨j, v⟩ hmem
  obtain ⟨hset, hother⟩ := List.mem_filter.mp hmem
  obtain ⟨-, hget⟩ := Tab.get_of_mem hw hset
  cases v with
  | none => simp
  | some r => simpa using hfree j r hget x hx (by simpa using hother)

section
variable (h : taken { fields := [(0, 36)], argOk := fun _ => true } 0x0601 m s = some (c, t))
include h

theorem ruleSet_busy (hbusy : atRest t = false) : Replies (.ruleSet m) s c { status := .refusedMode } t :=
  replies_of_taken h rfl (if_pos (by rw [hbusy]; rfl))

theorem ruleSet_bad {o : Nat} (hrest : atRest t = true) (hbad : ruleBad t c = some o) :
    Replies (.ruleSet m) s c { status := .badArgument, detail := 32 + o } t := by
  refine replies_of_taken h rfl ?_
  dsimp only
  rw [hrest, hbad]
  rfl

/-- RULE_SET past its checks: the set is defined, its counters begin again. -/
theorem ruleSet_defines (hrest : atRest t = true) (hgood : ruleBad t c = none) (hlen : c.argLen = 2 * c.at_ 35 1)
    (hfree : ∀ k r, t.ltr.sets.get none k = some r → ∀ x ∈ listedTargets c, k ≠ c.at_ 0 1 → x ∉ r.targets)
    (hw : Tab.wf none t.ltr.sets = true) :
    Replies (.ruleSet m) s c { status := .ok } { t with ltr := { t.ltr with
      sets := t.ltr.sets.set none (c.at_ 0 1) (some (ruleOf c (listedTargets c))), counts := t.ltr.counts.filter (fun kv => kv.1 / 16 != c.at_ 0 1) } } := by
  have hnone := findIdx?_named_elsewhere hw hfree
  refine replies_of_taken h rfl ?_
  dsimp only
  rw [hrest, hgood]
  dsimp only
  rw [if_neg (by decide), if_neg (by simp [hlen])]
  unfold listedTargets at hnone
  rw [hnone]
  rfl

end

/-! ### SET_STEP_SIZE and PRECOND_CONFIG -/

section
variable (h : taken { fields := [(0, 4)] } 0x0602 m s = some (c, t))
include h

theorem setStepSize_pends (heta : fNonNeg (c.word 0) = true) :
    Replies (.setStepSize m) s c { status := .ok, step := some (if t.hasBundle then t.sch.step + 1 else 2 ^ 64 - 1) }
      { t with ltr := { t.ltr with etaPend := some (c.word 0) } } :=
  replies_of_taken h rfl (if_neg (by simp [heta]))

theorem setStepSize_bad (heta : fNonNeg (c.word 0) = false) : Replies (.setStepSize m) s c { status := .badArgument, detail := 32 } t :=
  replies_of_taken h rfl (if_pos (by simp [heta]))

end

theorem precondConfig_records {d : TensorDef} {r : RuleSet} (h : taken { fields := [(0, 5), (8, 2), (16, 8)] } 0x0603 m s = some (c, t))
    (hrest : atRest t = true) (hd : namedTensor t (c.at_ 0 2) = some d) (hr : ruleSetOf t d.ruleSet = some r) (hrule : r.rule = 4)
    (hgood : precondBad t c d = none) :
    Replies (.precondConfig m) s c { status := .ok } { t with ltr := { t.ltr with
      precond := t.ltr.precond.set none (c.at_ 0 2) (some { b := c.at_ 2 2, p := c.at_ 4 1, kr := c.at_ 8 2, rootBase := c.at_ 16 8 }) } } := by
  refine replies_of_taken h rfl ?_
  dsimp only
  rw [hrest, hd]
  dsimp only
  rw [hr, hgood, if_neg (by decide), if_neg (by simp [hrule])]
  rfl

/-- Settles O14: each command's answer past its checks, or at the first one that it fails. -/
theorem updateDefinitionCommandsComplete : Obligations.UpdateDefinitionCommandsComplete := by
  unfold Obligations.UpdateDefinitionCommandsComplete
  refine ⟨fun m s t c h => ⟨fun hbundle hrunning => ?_, fun hrest => ⟨fun o hbad => ?_, ?_⟩⟩, fun m s t c h => ⟨?_, ?_⟩, ?_⟩
  · exact ruleSet_busy h (by simp [atRest, hbundle, hrunning])
  · exact ruleSet_bad h (atRest_iff.mpr hrest) hbad
  · rintro ts rfl hgood hlen hfree hw
    exact ruleSet_defines h (atRest_iff.mpr hrest) hgood hlen hfree hw
  · exact setStepSize_pends h
  · exact setStepSize_bad h
  · intro m s t c d r h hrest hd hr hrule hgood
    exact precondConfig_records h (atRest_iff.mpr hrest) hd hr hrule hgood

end Sys2Proof.Machine
end

section
/-! SUPPORT. Values stored in whole blocks (04_number_formats.md R77, R80): the bytes that they take. -/

namespace Sys2Proof

theorem length_of_mem_chunks {α : Type} {n k : Nat} {xs c : List α} (h : xs.length = k * n) (hc : c ∈ chunks n k xs) : c.length = n := by
  induction k generalizing xs with
  | zero => simp [chunks] at hc
  | succ k ih =>
    rw [Nat.succ_mul] at h
    rw [chunks] at hc
    split at hc
    · simp at hc
    · rcases List.mem_cons.mp hc with rfl | hc
      · rw [List.length_take]
        omega
      · exact ih (by rw [List.length_drop]; omega) hc

theorem chunks_self {α : Type} {n : Nat} {xs : List α} (h : xs.length = n + 1) : chunks (n + 1) (n + 1) xs = [xs] := by
  have hne : xs.isEmpty = false := List.isEmpty_eq_false_iff.mpr (List.ne_nil_of_length_pos (by omega))
  rw [chunks, hne, if_neg Bool.false_ne_true, List.take_of_length_le (by omega), List.drop_of_length_le (by omega)]
  cases n <;> rfl

theorem Fmt.encodeBlock_length (f : Fmt) {xs : List XVal} (h : xs.length = f.blockVals) : (f.encodeBlock xs).1.length = f.blockBytes := by
  cases f
  case mb8 => simp [Fmt.encodeBlock, mb8Bytes, quantiseMb8, h, Fmt.blockVals, Fmt.blockBytes]
  all_goals exact leBytes_length ..

/-- Encoded values fill their whole blocks. -/
theorem Fmt.encodeMany_length (f : Fmt) (xs : List XVal) : (f.encodeMany xs).1.length = f.bytesFor xs.length := by
  have hfits := le_ceilDiv_mul xs.length f.blockVals_pos
  have hfull : (xs ++ List.replicate (ceilDiv xs.length f.blockVals * f.blockVals - xs.length) (XVal.fin false 0 0)).length =
      ceilDiv xs.length f.blockVals * f.blockVals := by
    rw [List.length_append, List.length_replicate]
    omega
  unfold Fmt.encodeMany
  dsimp only
  generalize xs ++ List.replicate (ceilDiv xs.length f.blockVals * f.blockVals - xs.length) (XVal.fin false 0 0) = full at hfull
  have hblocks : ((chunks f.blockVals (ceilDiv xs.length f.blockVals) full).map f.encodeBlock).map (fun p => p.1.length) =
      (chunks f.blockVals (ceilDiv xs.length f.blockVals) full).map (fun _ => f.blockBytes) := by
    rw [List.map_map]
    exact List.map_congr_left fun c hc => f.encodeBlock_length (length_of_mem_chunks hfull hc)
  rw [List.length_flatten, List.map_map, show List.length ∘ (fun p : List Byte × NFlags => p.1) = fun p => p.1.length from rfl, hblocks,
    List.map_const', List.sum_replicate, chunks_length f.blockVals_pos hfull]
  rfl

theorem Tab.set_ne_nil {α : Type} [DecidableEq α] {d v : α} (t : Tab α) (k : Nat) (hv : v ≠ d) : Tab.set d t k v ≠ [] := fun hnil => by
  have hget := Tab.get_set_of_ne d t k v hv
  rw [hnil] at hget
  exact hv hget.symm

theorem Tab.set_true_ne_nil (t : Tab Bool) (k : Nat) : Tab.set false t k true ≠ [] := Tab.set_ne_nil t k (by decide)

end Sys2Proof
end

section
/-! SUPPORT. What the Lauter engine's books, events and reads leave alone (08_lauter_update.md R201, R204, R205), and its accesses to HBM of a
module without poison or withdrawn frames. -/

namespace Sys2Proof.Machine

open Sys2Proof.Obl (SameButCache)

variable {s t u : State}

/-! ### Books and events -/

/-- The Lauter engine but for its counters, norm windows and contribution books. -/
def Lauter.besideBooks (l : Lauter) : Lauter := { l with counts := [], norms := [], books := [] }

/-- From s to t no byte of memory changes, nor its poison, its withdrawn frames, the Granary, the schedule, and the Lauter engine beside its
books. -/
structure SameBytes (s t : State) : Prop where
  cells : t.mem.cells = s.mem.cells
  poison : t.mem.hbmPoison = s.mem.hbmPoison
  withdrawn : t.mem.withdrawn = s.mem.withdrawn
  grn : t.grn = s.grn
  sch : t.sch = s.sch
  ltr : t.ltr.besideBooks = s.ltr.besideBooks

theorem SameBytes.refl (s : State) : SameBytes s s := ⟨rfl, rfl, rfl, rfl, rfl, rfl⟩

theorem SameBytes.trans (h : SameBytes s t) (k : SameBytes t u) : SameBytes s u :=
  ⟨k.cells.trans h.cells, k.poison.trans h.poison, k.withdrawn.trans h.withdrawn, k.grn.trans h.grn, k.sch.trans h.sch, k.ltr.trans h.ltr⟩

theorem SameBytes.ite {c : Prop} {_ : Decidable c} (h : SameBytes s t) (k : SameBytes s u) : SameBytes s (if c then t else u) := by
  split <;> assumption

theorem SameBytes.of_cache (h : SameButCache s t) : SameBytes s t := by
  rw [h]
  exact ⟨rfl, rfl, rfl, rfl, rfl, rfl⟩

theorem SameBytes.wf (h : SameBytes s t) (hw : s.mem.wf = true) : t.mem.wf = true := Memory.wf_of_cells _ _ h.cells hw

theorem SameBytes.eta (h : SameBytes s t) : t.ltr.eta = s.ltr.eta := (congrArg Lauter.eta h.ltr :)
theorem SameBytes.etaPrev (h : SameBytes s t) : t.ltr.etaPrev = s.ltr.etaPrev := (congrArg Lauter.etaPrev h.ltr :)
theorem SameBytes.repDone (h : SameBytes s t) : t.ltr.repDone = s.ltr.repDone := (congrArg Lauter.repDone h.ltr :)

theorem tensor_congr (h : t.ltr.tensors = s.ltr.tensors) (n : Nat) : t.tensor n = s.tensor n := by
  rw [State.tensor, h, State.tensor]

theorem SameBytes.tensor (h : SameBytes s t) (n : Nat) : t.tensor n = s.tensor n := tensor_congr (congrArg Lauter.tensors h.ltr :) n

theorem SameBytes.rawBytes (h : SameBytes s t) (a n : Nat) : rawBytes t a n = Machine.rawBytes s a n := rawBytes_congr_mem h.cells h.grn a n

@[simp] theorem rawByte_onLtr (f : Lauter → Lauter) (s : State) (x : Nat) : rawByte (s.onLtr f) x = rawByte s x :=
  rawByte_congr (s := s) (t := s.onLtr f) rfl rfl x

@[simp] theorem rawBytes_onLtr (f : Lauter → Lauter) (s : State) (a n : Nat) : Machine.rawBytes (s.onLtr f) a n = Machine.rawBytes s a n :=
  rawBytes_congr fun x _ _ => rawByte_onLtr f s x

theorem sameBytes_event (g b src : Nat) (data : List Nat) (s : State) : SameBytes s (event g b src data s) := by
  constructor <;> simp

theorem sameBytes_countLtr (k i n : Nat) (s : State) : SameBytes s (countLtr k i n s) := ⟨rfl, rfl, rfl, rfl, rfl, rfl⟩

theorem sameBytes_bookAdd (g i n : Nat) (s : State) : SameBytes s (bookAdd g i n s) := ⟨rfl, rfl, rfl, rfl, rfl, rfl⟩

theorem sameBytes_onNorms (k : Nat) (f : Norms → Norms) (s : State) : SameBytes s (onNorms k f s) := ⟨rfl, rfl, rfl, rfl, rfl, rfl⟩

theorem sameBytes_ltrEvent (b k x : Nat) (s : State) : SameBytes s (ltrEvent b k x s) := sameBytes_event ..

theorem sameBytes_bookDense (t j i : Nat) (s : State) : SameBytes s (bookDense t j i s) := by
  unfold bookDense
  split
  · exact sameBytes_bookAdd ..
  · exact .refl s

theorem sameBytes_noiseReduced (k : Nat) (rs : RuleSet) (g : List Word) (s : State) : SameBytes s (noiseReduced k rs g s) :=
  .ite ((sameBytes_onNorms ..).trans (sameBytes_ltrEvent ..)) (sameBytes_onNorms ..)

theorem sameBytes_bookReplica (r : ReductionDef) (i : Nat) (bs : List (List Byte)) (s : State) : SameBytes s (bookReplica r i bs s) :=
  .ite (sameBytes_bookAdd ..) (.refl s)

theorem sameBytes_clipGroups (k : Nat) (rs : RuleSet) (g : List Word) (s : State) : SameBytes s (clipGroups k rs g s).1 :=
  sameBytes_countLtr ..

/-! ### Reads of HBM -/

/-- A read that answers the bytes of its range, meets no poison and touches the Malt cache alone. -/
structure ReadsPlain (s : State) (a n : Nat) (r : State × List Byte × Bool) : Prop where
  state : SameButCache s r.1
  answer : r.2 = (rawBytes s a n, false)

theorem ReadsPlain.append {a k n : Nat} {r q : State × List Byte × Bool} (h : ReadsPlain s a k r) (g : ReadsPlain r.1 (a + k) n q) :
    ReadsPlain s a (k + n) (q.1, r.2.1 ++ q.2.1, r.2.2 || q.2.2) :=
  ⟨sameButCache_trans h.state g.state, by rw [h.answer, g.answer, rawBytes_eq_of_sameButCache h.state, rawBytes_add]; rfl⟩

/-- No line of HBM is poisoned and no frame is withdrawn. -/
structure Whole (s : State) : Prop where
  poison : s.mem.hbmPoison = []
  withdrawn : s.mem.withdrawn = []

theorem Whole.of_sameBytes (hs : Whole s) (h : SameBytes s t) : Whole t := ⟨h.poison.trans hs.poison, h.withdrawn.trans hs.withdrawn⟩

theorem Whole.of_cache (hs : Whole s) (h : SameButCache s t) : Whole t := hs.of_sameBytes (.of_cache h)

theorem Whole.refuses (hs : Whole s) {a : Nat} (ha : a < 0x8000000000) (req : Nat) (write : Bool) : Machine.refuses s req a write = false := by
  rw [Machine.refuses, locate_of_hbm ha, hs.withdrawn]
  rfl

theorem readsPlain_lineRead (hs : Whole s) {req a : Nat} {h : Hint} (n : Nat) (ha : a < 0x8000000000) : ReadsPlain s a n (lineRead req h a n s) := by
  have hcache := sameButCache_maltTouch h false false a s
  have hclean : poisonedAt (maltTouch h false false a s) a = false := by
    rw [poisonedAt_congr hcache, poisonedAt, locate_of_hbm ha, hs.poison]
    rfl
  unfold lineRead
  dsimp only
  rw [hclean]
  exact ⟨hcache, rfl⟩

theorem readsPlain_linesRead (hs : Whole s) {req u a n : Nat} {h : Hint} {ls : List (Nat × Nat)} (hcut : Cut u ls a n)
    (hhigh : a + n ≤ 0x8000000000) : ReadsPlain s a n (linesRead req h ls s) := by
  induction hcut generalizing s with
  | nil a => exact ⟨sameButCache_refl s, rfl⟩
  | @cons a k n ls hpos hfits hrest ih =>
    have hline := readsPlain_lineRead hs (req := req) (h := h) k (show a < 0x8000000000 by omega)
    exact hline.append (ih (hs.of_cache hline.state) (by omega))

theorem readsPlain_requestRead (hs : Whole s) {req a n : Nat} {h : Hint} (hlow : a < 0x8000000000) (hhigh : a + n ≤ 0x8000000000) :
    ReadsPlain s a n (requestRead req h a n s) := by
  unfold requestRead
  rw [hs.refuses hlow, if_neg Bool.false_ne_true, locate_of_hbm hlow]
  exact readsPlain_linesRead hs (cut_lines a n) hhigh

theorem readsPlain_requestsRead (hs : Whole s) {req u a n : Nat} {h : Hint} {rs : List (Nat × Nat)} (hcut : Cut u rs a n)
    (hhigh : a + n ≤ 0x8000000000) : ReadsPlain s a n (requestsRead req h rs s) := by
  induction hcut generalizing s with
  | nil a => exact ⟨sameButCache_refl s, rfl⟩
  | @cons a k n ls hpos hfits hrest ih =>
    have hfirst := readsPlain_requestRead hs (req := req) (h := h) (show a < 0x8000000000 by omega) (show a + k ≤ 0x8000000000 by omega)
    exact hfirst.append (ih (hs.of_cache hfirst.state) (by omega))

/-- A read wholly in HBM. -/
theorem readsPlain_devRead (hs : Whole s) {req a n : Nat} {h : Hint} (hhigh : a + n ≤ 0x8000000000) : ReadsPlain s a n (devRead req h a n s) :=
  readsPlain_requestsRead hs (cut_requests a n) hhigh

/-! ### Writes of HBM -/

theorem stored_devWrite_of_whole (hin : s.mem.withdrawn = []) {req a : Nat} {h : Hint} {bs : List Byte} (hhigh : a + bs.length ≤ 0x8000000000) :
    Stored s (devWrite req h a bs s) a bs :=
  (storedInHbm_devWrite hhigh fun _ _ _ => by rw [hin]; rfl).stored

/-- Bytes put at an address of HBM are read back. -/
theorem rawBytes_of_putBytes {a : Nat} {bs : List Byte} (hcells : t.mem.cells = (s.mem.putBytes a bs).cells) (hw : s.mem.wf = true)
    (hhigh : a + bs.length ≤ 0x8000000000) : rawBytes t a bs.length = bs :=
  rawBytes_eq_of_getD fun i hi => by
    rw [rawByte_of_not_dir t fun o => by rw [locate_of_hbm (by omega)]; nofun, hcells, Memory.get_putBytes _ _ _ _ hw, if_pos (by omega),
      Nat.add_sub_cancel_left]

/-- Bytes put at an address leave every other one. -/
theorem get_of_putBytes_outside {a y : Nat} {bs : List Byte} (hcells : t.mem.cells = (s.mem.putBytes a bs).cells) (hw : s.mem.wf = true)
    (hy : y < a ∨ a + bs.length ≤ y) : Tab.get 0 t.mem.cells y = Tab.get 0 s.mem.cells y := by
  rw [hcells, Memory.get_putBytes _ _ _ _ hw, if_neg (by omega)]

end Sys2Proof.Machine
end

section
/-! SUPPORT. DENSE_GROUP_UPDATE (08_lauter_update.md R182, R189, R191): from a group's reduced block to its record in the other bank and its
working copy in the shadow half. -/

namespace Sys2Proof.Machine

variable {s v : State} {t j : Nat} {d : TensorDef}

/-! ### A tensor changed -/

/-- A tensor changed to one that is listed reads back. -/
theorem tensor_onTensor {f : Tensor → Tensor} (h : f (s.tensor t) ≠ {}) : (s.onTensor t f).tensor t = f (s.tensor t) :=
  (Tab.get_modify_of_ne h t).trans (if_pos rfl)

theorem Tensor.ne_empty_of_done {x : Tensor} (h : x.done ≠ []) : x ≠ {} := fun he => h (congrArg Tensor.done he)
theorem Tensor.ne_empty_of_got {x : Tensor} (h : x.got ≠ []) : x ≠ {} := fun he => h (congrArg Tensor.got he)
theorem Tensor.ne_empty_of_blocks {x : Tensor} (h : x.blocks ≠ []) : x ≠ {} := fun he => h (congrArg Tensor.blocks he)
theorem Tensor.ne_empty_of_slices {x : Tensor} (h : x.slices ≠ []) : x ≠ {} := fun he => h (congrArg Tensor.slices he)
theorem Tensor.ne_empty_of_absent {x : Tensor} (h : x.absent ≠ []) : x ≠ {} := fun he => h (congrArg Tensor.absent he)
theorem Tensor.ne_empty_of_factor {x : Tensor} {f : Word} (h : x.factor = some f) : x ≠ {} := fun he => by
  rw [he] at h
  exact Option.some_ne_none f h.symm

theorem distStreams_congr (h : v.sch = s.sch) (t : Nat) : distStreams v t = distStreams s t := by
  rw [distStreams, State.body, h]
  rfl

/-! ### The gradient -/

theorem TensorDef.unpad_length (d : TensorDef) (j : Nat) (ws : List Word) : (d.unpad j ws).length = ws.length := by
  simp [TensorDef.unpad]

theorem blockGrad_length {rs : RuleSet} {b : GradBlock} {raw : List Word} (h : blockGrad rs d j b = .ok raw) : raw.length = b.sums.length := by
  unfold blockGrad at h
  dsimp only at h
  split at h
  · exact absurd h (by simp)
  · split at h
    · exact absurd h (by simp)
    · split at h
      · exact absurd h (by simp)
      · rw [← Grad.ok.inj h, TensorDef.unpad_length]
        simp

theorem clipGroups_of_group {k : Nat} {rs : RuleSet} {raw : List Word} (h : raw.length = 32) (s : State) :
    (clipGroups k rs raw s).2 = (clipUnit rs raw).1 := by
  unfold clipGroups
  rw [h, chunks_self h]
  simp

/-- The unit of a group under a rule other than PRECOND is the group. -/
theorem unitGroups_of_rule {rs : RuleSet} (h : rs.rule ≠ 4) : unitGroups s t d rs j = [j] := by
  rw [unitGroups, if_neg h]

section
variable {rs : RuleSet} {b : GradBlock} {raw : List Word} (hd : tensorDef s t = some d) (hrs : ruleSetOf s d.ruleSet = some rs)
  (howns : d.owns j = true) (hruns : lauterRuns s (s.tensor t).late = true)
include hd hrs howns hruns

/-- A group already done: its unit is counted. -/
theorem denseUpdate_of_done (hdone : (s.tensor t).done.get false j = true) : denseUpdate t j s = countLtr d.ruleSet 2 1 s := by
  unfold denseUpdate
  rw [hd]
  dsimp only
  rw [hrs]
  dsimp only
  rw [howns, hruns, if_neg (by decide), if_pos hdone]

/-- A group whose block gives a gradient is updated with the clipped gradient. -/
theorem denseUpdate_of_gradient (hdone : (s.tensor t).done.get false j = false) (hfrozen : (s.tensor t).frozen = false)
    (hdeferred : (s.tensor t).deferred.get false j = false) (hblock : (s.tensor t).blocks.get none j = some b) (hrule : rs.rule ≠ 4)
    (hmode : rs.deferred = false) (hgrad : blockGrad rs d j b = .ok raw) (hlen : raw.length = 32) :
    denseUpdate t j s = applyUnit d.ruleSet t d rs [j] raw (clipUnit rs raw).1 (clipGroups d.ruleSet rs raw s).1 := by
  have hblocks : unitBlocks (s.tensor t) [j] = some [b] := by simp [unitBlocks, hblock]
  have hunit : unitGrad rs d [j] [b] = .ok raw := by simp [unitGrad, hgrad]
  unfold denseUpdate
  rw [hd]
  dsimp only
  rw [hrs]
  dsimp only
  rw [howns, hruns, hdone, unitGroups_of_rule hrule, hblocks]
  dsimp only
  rw [hfrozen, hdeferred, hunit]
  dsimp only
  rw [hmode, clipGroups_of_group hlen]
  rfl

end

/-! ### The unit applied -/

theorem readDense_singleton (d : TensorDef) (c j : Nat) (s : State) : readDense d c [j] s =
    ((devRead reqLauter .none (denseAddr d c j) 512 s).1, [(j, (devRead reqLauter .none (denseAddr d c j) 512 s).2.1)],
      (devRead reqLauter .none (denseAddr d c j) 512 s).2.2 || false) := rfl

/-- The record of a group's updated values. -/
def unitRecord (n j t : Nat) (d : TensorDef) (old : List Byte) (u : UnitVals) : List Byte :=
  denseRecord n (nextCount (leAt old 4 4)) j t (d.unpad j (u.w.take 32)) (u.m.take 32) (u.v.take 32)

theorem unitRecord_length (n j t : Nat) (d : TensorDef) (old : List Byte) (u : UnitVals) : (unitRecord n j t d old u).length = 512 := padTo_length ..

theorem writeUnit_singleton (k t : Nat) (d : TensorDef) (n j : Nat) (old : List Byte) (u : UnitVals) (s : State) :
    writeUnit k t d n [(j, old)] u s =
      denseDone t d j (bookDense t j 7 (putDense t d j (unitRecord n j t d old u) (countLtr k 0 1 (countLate k t s)))) := by
  have hzip : List.zip (List.range [(j, old)].length) [(j, old)] = [(0, (j, old))] := rfl
  unfold writeUnit
  dsimp only
  rw [hzip]
  simp only [State.each, List.foldl_cons, List.foldl_nil, Nat.mul_zero, List.drop_zero, unitRecord]

/-- A current tensor's group with finite values: the record is put, counted, and the group done. -/
theorem applyUnit_of_finite {k : Nat} {rs : RuleSet} {raw g : List Word} {old : List Byte} {u : UnitVals} (hs : Whole s)
    (hold : old = rawBytes s (denseAddr d (s.tensor t).bank j) 512) (hhigh : denseAddr d (s.tensor t).bank j + 512 ≤ 0x8000000000)
    (hstep : recStep old < (s.tensor t).step) (hrule : rs.rule ≠ 4) (hlate : (s.tensor t).late = false)
    (hu : u = ruleStep rs (fMul s.ltr.eta rs.mult) 32 g g (unitVals [(j, old)])) (hfin : u.finite = true) :
    ∃ v, SameBytes s v ∧ applyUnit k t d rs [j] raw g s =
      denseDone t d j (bookDense t j 7 (putDense t d j (unitRecord (s.tensor t).step j t d old u) v)) := by
  obtain ⟨hcache, hanswer⟩ := readsPlain_devRead hs (req := reqLauter) (h := .none) hhigh
  generalize hr : devRead reqLauter .none (denseAddr d (s.tensor t).bank j) 512 s = r at hcache hanswer
  rw [← hold] at hanswer
  have hread : SameBytes s r.1 := .of_cache hcache
  have hnoise := hread.trans (sameBytes_noiseReduced k rs raw r.1)
  have heta : etaDense s rs t = fMul s.ltr.eta rs.mult := by
    rw [etaDense, hlate]
    rfl
  have hdir : unitDirection k t d rs [j] g r.1 = (r.1, g) := if_pos hrule
  refine ⟨countLtr k 0 1 (noiseReduced k rs raw r.1), hnoise.trans (sameBytes_countLtr ..), ?_⟩
  unfold applyUnit
  dsimp only
  rw [readDense_singleton, hr, hanswer]
  dsimp only
  rw [if_neg (by decide), if_neg (by simpa using hstep), hdir]
  dsimp only
  rw [heta, ← hu, if_pos hfin, writeUnit_singleton, countLate, hnoise.tensor, hlate, if_neg Bool.false_ne_true]

/-! ### The working copy -/

theorem formCopyAt_of_no_streams (hstreams : distStreams s t = []) (half : Nat) (k : Int) (w : List Word) : formCopyAt t d half k j w s =
    (devWrite reqLauter .none (d.wc half + j * d.wcBytes) (d.fmt.encodeMany ((w.map f32).map (XVal.scale k))).1 s).onPlot d.wcSlot.1
      (recordAmax d.wcSlot.2 (amaxRecord (w.map f32))) := by
  unfold formCopyAt
  dsimp only
  rw [distStreams_congr (s := s) (by simp), hstreams]
  rfl

/-- A group's working copy stays within its place in the half. -/
theorem changesWithin_formCopyAt (hstreams : distStreams s t = []) {half : Nat} {w : List Word} (hw : w.length = 32)
    (hhigh : d.wc half + (j + 1) * d.wcBytes ≤ 0x8000000000) (k : Int) :
    ChangesWithin (d.wc half + j * d.wcBytes) d.wcBytes s (formCopyAt t d half k j w s) := by
  rw [Nat.add_one_mul] at hhigh
  rw [formCopyAt_of_no_streams hstreams]
  refine (changesWithin_devWrite ?_ (by omega)).trans (.of_cells rfl rfl)
  rw [Fmt.encodeMany_length, List.length_map, List.length_map, hw, TensorDef.wcBytes]

theorem formCopyAt_ltr (hstreams : distStreams s t = []) (half : Nat) (k : Int) (w : List Word) : (formCopyAt t d half k j w s).ltr = s.ltr := by
  rw [formCopyAt_of_no_streams hstreams]
  simp

theorem formCopyAt_sch (hstreams : distStreams s t = []) (half : Nat) (k : Int) (w : List Word) : (formCopyAt t d half k j w s).sch = s.sch := by
  rw [formCopyAt_of_no_streams hstreams]
  simp

/-- The tensor after its copy of group j was formed. -/
def Tensor.copied (rank j : Nat) (x : Tensor) : Tensor := { x with slices := x.slices.modify 0 rank (· + 1), got := x.got.set false j true }

theorem tensor_formCopy (hstreams : distStreams s t = []) (w : List Word) : (formCopy t d j w s).tensor t = (s.tensor t).copied s.rank j := by
  have hltr := formCopyAt_ltr (j := j) (d := d) hstreams (1 - (s.tensor t).half) (wcK s d (s.sch.step + 1)) w
  have hsch := formCopyAt_sch (j := j) (d := d) hstreams (1 - (s.tensor t).half) (wcK s d (s.sch.step + 1)) w
  unfold formCopy
  dsimp only
  generalize formCopyAt t d (1 - (s.tensor t).half) (wcK s d (s.sch.step + 1)) j w s = v at hltr hsch
  have htensor : v.tensor t = s.tensor t := tensor_congr (congrArg Lauter.tensors hltr) t
  rw [tensor_onTensor (Tensor.ne_empty_of_got (Tab.set_true_ne_nil _ _)), htensor, State.rank, hsch]
  rfl

theorem changesWithin_formCopy (hstreams : distStreams s t = []) {w : List Word} (hw : w.length = 32)
    (hhigh : d.wc (1 - (s.tensor t).half) + (j + 1) * d.wcBytes ≤ 0x8000000000) :
    ChangesWithin (d.wc (1 - (s.tensor t).half) + j * d.wcBytes) d.wcBytes s (formCopy t d j w s) :=
  (changesWithin_formCopyAt hstreams hw hhigh _).trans (.of_cells rfl rfl)

theorem formCopy_sch (hstreams : distStreams s t = []) (w : List Word) : (formCopy t d j w s).sch = s.sch :=
  formCopyAt_sch hstreams ..

theorem recMaster_length (bs : List Byte) : (recMaster bs).length = 32 := by
  simp [recMaster, wordsAt]

/-! ### The record put -/

/-- What putting a current tensor's record does: the record stands in the other bank, outside it and the working copy no byte changes, and the
tensor counts its copy. -/
structure DensePut (t : Nat) (d : TensorDef) (j : Nat) (bs : List Byte) (s v : State) : Prop where
  record : rawBytes v (denseAddr d (1 - (s.tensor t).bank) j) 512 = bs
  outside : ∀ y, y < denseAddr d (1 - (s.tensor t).bank) j ∨ denseAddr d (1 - (s.tensor t).bank) j + 512 ≤ y →
    y < d.wc (1 - (s.tensor t).half) + j * d.wcBytes ∨ d.wc (1 - (s.tensor t).half) + (j + 1) * d.wcBytes ≤ y → rawByte v y = rawByte s y
  tensor : v.tensor t = (s.tensor t).copied s.rank j
  sch : v.sch = s.sch

theorem densePut_putDense {bs : List Byte} (hlate : (s.tensor t).late = false) (hstreams : distStreams s t = []) (hlen : bs.length = 512)
    (hin : s.mem.withdrawn = []) (hw : s.mem.wf = true) (hrec : denseAddr d (1 - (s.tensor t).bank) j + 512 ≤ 0x8000000000)
    (hcopy : d.wc (1 - (s.tensor t).half) + (j + 1) * d.wcBytes ≤ 0x8000000000)
    (happart : d.wc (1 - (s.tensor t).half) + (j + 1) * d.wcBytes ≤ denseAddr d (1 - (s.tensor t).bank) j ∨
      denseAddr d (1 - (s.tensor t).bank) j + 512 ≤ d.wc (1 - (s.tensor t).half) + j * d.wcBytes) :
    DensePut t d j bs s (putDense t d j bs s) := by
  have hstored := stored_devWrite_of_whole (s := s) hin (req := reqLauter) (h := .none) (a := denseAddr d (1 - (s.tensor t).bank) j) (bs := bs)
    (by omega)
  have hltr : (devWrite reqLauter .none (denseAddr d (1 - (s.tensor t).bank) j) bs s).ltr = s.ltr := devWrite_ltr ..
  have hsch : (devWrite reqLauter .none (denseAddr d (1 - (s.tensor t).bank) j) bs s).sch = s.sch := devWrite_sch ..
  unfold putDense
  dsimp only
  generalize devWrite reqLauter .none (denseAddr d (1 - (s.tensor t).bank) j) bs s = v at hstored hltr hsch
  have htensor : v.tensor t = s.tensor t := tensor_congr (congrArg Lauter.tensors hltr) t
  have hstreams' : distStreams v t = [] := (distStreams_congr hsch t).trans hstreams
  rw [htensor, hlate, if_neg Bool.false_ne_true]
  have hwithin := changesWithin_formCopy (j := j) (d := d) hstreams' (recMaster_length bs) (by rwa [htensor])
  rw [htensor] at hwithin
  rw [Nat.add_one_mul] at happart
  refine ⟨?_, fun y hrec hy => ?_, ?_, (formCopy_sch hstreams' _).trans hsch⟩
  · have hread := rawBytes_of_putBytes hstored.cells hw (by omega)
    rw [hlen] at hread
    rw [rawBytes_congr fun x _ _ => hwithin.outside (hstored.wf hw) x (by omega), hread]
  · rw [Nat.add_one_mul] at hy
    rw [hwithin.outside (hstored.wf hw) y (by omega), hstored.rawByte_outside hw (by omega)]
  · rw [tensor_formCopy hstreams', htensor, State.rank, hsch]
    rfl

/-! ### The group done -/

/-- The tensor with group j done. -/
def Tensor.finished (j : Nat) (x : Tensor) : Tensor :=
  { x with done := x.done.set false j true, blocks := x.blocks.set none j none, deferred := x.deferred.set false j false }

theorem tensor_onTensor_finished (s : State) (t j : Nat) : (s.onTensor t (Tensor.finished j)).tensor t = (s.tensor t).finished j :=
  tensor_onTensor (Tensor.ne_empty_of_done (Tab.set_true_ne_nil _ _))

theorem denseDone_of_current (hlate : (s.tensor t).late = false) (hstreams : distStreams s t = []) :
    denseDone t d j s = s.onTensor t (Tensor.finished j) := by
  have hcurrent : ((s.onTensor t (Tensor.finished j)).tensor t).late = false := by rwa [tensor_onTensor_finished]
  have hnone : distStreams (s.onTensor t (Tensor.finished j)) t = [] := hstreams
  change (if ((s.onTensor t (Tensor.finished j)).tensor t).late then _ else signalDist t d (s.onTensor t (Tensor.finished j))) = _
  rw [hcurrent, if_neg Bool.false_ne_true, signalDist, hnone]
  rfl

end Sys2Proof.Machine
end

section
/-! SUPPORT. EMBEDDING_ROW_UPDATE (08_lauter_update.md R186, R194, R198): the windows of a slot taken, and its row's record written. -/

namespace Sys2Proof.Machine

open Sys2Proof.Obl (SameButCache)

variable {s t u : State}

/-! ### Windows taken -/

/-- What taking windows leaves alone: poison, withdrawn frames, the Granary, the Lauter engine and the schedule. -/
structure TakesWindows (s t : State) : Prop where
  poison : t.mem.hbmPoison = s.mem.hbmPoison
  withdrawn : t.mem.withdrawn = s.mem.withdrawn
  grn : t.grn = s.grn
  ltr : t.ltr = s.ltr
  sch : t.sch = s.sch

theorem TakesWindows.refl (s : State) : TakesWindows s s := ⟨rfl, rfl, rfl, rfl, rfl⟩

theorem TakesWindows.trans (h : TakesWindows s t) (k : TakesWindows t u) : TakesWindows s u :=
  ⟨k.poison.trans h.poison, k.withdrawn.trans h.withdrawn, k.grn.trans h.grn, k.ltr.trans h.ltr, k.sch.trans h.sch⟩

theorem TakesWindows.ite {c : Prop} {_ : Decidable c} (h : TakesWindows s t) (k : TakesWindows s u) : TakesWindows s (if c then t else u) := by
  split <;> assumption

theorem TakesWindows.of_cache (h : SameButCache s t) : TakesWindows s t := by
  rw [h]
  exact ⟨rfl, rfl, rfl, rfl, rfl⟩

theorem takesWindows_event (g b src : Nat) (data : List Nat) (s : State) : TakesWindows s (event g b src data s) := by
  constructor <;> simp

theorem takesWindows_putBytes (a : Nat) (bs : List Byte) (s : State) : TakesWindows s (s.onMem (fun m => m.putBytes a bs)) := by
  rw [State.onMem, Memory.putBytes_eq]
  exact ⟨rfl, rfl, rfl, rfl, rfl⟩

theorem takesWindows_tunStore (h : Hint) (a : Nat) (bs : List Byte) (s : State) : TakesWindows s (tunStore h a bs s) := by
  unfold tunStore lineWrite
  split
  · exact ⟨rfl, rfl, rfl, rfl, rfl⟩
  · exact (TakesWindows.of_cache (sameButCache_maltTouch ..)).trans (takesWindows_putBytes ..)

theorem takesWindows_tunAnswer (req a : Nat) (v : Word) (sat ovf : Bool) (s : State) : TakesWindows s (tunAnswer req a v sat ovf s) := by
  unfold tunAnswer
  dsimp only
  split
  · exact (takesWindows_event ..).trans ⟨rfl, rfl, rfl, rfl, rfl⟩
  · exact ⟨rfl, rfl, rfl, rfl, rfl⟩

/-- A tun operation is refused, dropped with an event, or done by its region. -/
theorem takesWindows_tunAdmit {req a : Nat} {int32 : Bool} {f : Nat → TunRegion → State → State} (hf : ∀ n r u, TakesWindows u (f n r u))
    (s : State) : TakesWindows s (tunAdmit req a int32 s f) := by
  unfold tunAdmit
  split
  · exact takesWindows_event ..
  · split
    · exact .ite (TakesWindows.trans (t := tunBook a s) ⟨rfl, rfl, rfl, rfl, rfl⟩ (hf ..)) (takesWindows_event ..)
    · exact takesWindows_event ..

theorem takesWindows_tunReadOp (clr : Bool) (req a : Nat) (s : State) : TakesWindows s (tunReadOp clr req a s) := by
  refine TakesWindows.trans (t := noAnswer s) ⟨rfl, rfl, rfl, rfl, rfl⟩ (takesWindows_tunAdmit (fun n r u => ?_) _)
  have hread : TakesWindows u (tunAnswer req a (tunRead r.x (windowAt u a)).1 (tunRead r.x (windowAt u a)).2.1 (tunRead r.x (windowAt u a)).2.2
      (maltTouch .none false false a u)) := (TakesWindows.of_cache (sameButCache_maltTouch ..)).trans (takesWindows_tunAnswer ..)
  cases clr with
  | false => exact hread
  | true => exact hread.trans (takesWindows_tunStore ..)

theorem takesWindows_takeWindow (clr : Bool) (a : Nat) (s : State) : TakesWindows s (takeWindow clr a s).1 :=
  (takesWindows_tunReadOp clr reqLauter a s).trans ⟨rfl, rfl, rfl, rfl, rfl⟩

theorem takesWindows_takeWindows (clr : Bool) (a n : Nat) (s : State) : TakesWindows s (takeWindows clr a n s).1 := by
  induction n generalizing a s with
  | zero => exact .refl s
  | succ n ih => exact (takesWindows_takeWindow clr a s).trans (ih ..)

/-! ### The record -/

@[simp] theorem mirrorRow_mem (t : Nat) (tb : Table) (row : Nat) (bs : List Byte) (s : State) : (mirrorRow t tb row bs s).mem = s.mem := by
  unfold mirrorRow
  dsimp only
  split <;> rfl

theorem etaOf_now (s : State) (rs : RuleSet) : etaOf s rs s.sch.step = fMul s.ltr.eta rs.mult := by
  rw [etaOf, if_neg (Nat.lt_irrefl _)]

theorem SameBytes.etaOf_eq (h : SameBytes s t) (rs : RuleSet) (n : Nat) : etaOf t rs n = etaOf s rs n := by
  rw [etaOf, h.sch, h.eta, h.etaPrev, etaOf]

/-- A row's record updated where it stands: of all bytes, the record's alone are written. -/
theorem updateRow_cells {k tn : Nat} {tb : Table} {rs : RuleSet} {n slot row a : Nat} {raw : List Word} {old bs : List Byte} (hs : Whole s)
    (hold : old = rawBytes s a tb.recLen) (hhigh : a + tb.recLen ≤ 0x8000000000) (hbs : a + bs.length ≤ 0x8000000000) (hstep : recStep old < n)
    (hrow : rowUpdate tn row n tb rs (etaOf s rs n) (clipUnit rs raw).1 old = some bs) :
    (updateRow k tn tb rs n slot row a raw s).mem.cells = (s.mem.putBytes a bs).cells := by
  have hclip : SameBytes s (if (clipUnit rs raw).2 then countLtr k 6 1 s else s) := .ite (sameBytes_countLtr ..) (.refl s)
  unfold updateRow
  dsimp only
  generalize (if (clipUnit rs raw).2 then countLtr k 6 1 s else s) = v at hclip
  obtain ⟨hcache, hanswer⟩ := readsPlain_devRead (hs.of_sameBytes hclip) (req := reqLauter) (h := .none) hhigh
  generalize devRead reqLauter .none a tb.recLen v = r at hcache hanswer
  rw [hclip.rawBytes, ← hold] at hanswer
  have hread := hclip.trans (.of_cache hcache)
  have hput := (stored_devWrite_of_whole (hs.of_sameBytes hread).withdrawn (req := reqLauter) (h := .none) hbs).cells
  rw [Memory.putBytes_cells_congr hread.cells] at hput
  rw [hanswer]
  dsimp only
  rw [if_neg Bool.false_ne_true, if_neg (Nat.not_le.mpr hstep), hclip.etaOf_eq, hrow]
  dsimp only
  have hbooked := (sameBytes_countLtr k 0 1 (devWrite reqLauter .none a bs r.1)).trans (sameBytes_noiseReduced k rs raw _)
  split
  · rw [← hput, ← hbooked.cells]
    exact congrArg Memory.cells (mirrorRow_mem ..)
  · rw [mirrorRow_mem, hbooked.cells, hput]

/-! ### The slot -/

/-- The slot's step entry with the slot done. -/
def TableStep.finished (slot : Nat) (x : TableStep) : TableStep := { x with done := x.done.set false slot true }

theorem onStepEntry_mem (tn n : Nat) (f : TableStep → TableStep) (s : State) : (onStepEntry tn n f s).mem = s.mem := State.onGrn_mem ..

theorem done_onStepEntry (tn n slot : Nat) (s : State) :
    (stepEntry (onStepEntry tn n (TableStep.finished slot) s) tn n).done.get false slot = true := by
  have hne : TableStep.finished slot (stepEntry s tn n) ≠ {} := fun he =>
    Tab.set_true_ne_nil (stepEntry s tn n).done slot (congrArg TableStep.done he)
  rw [stepEntry_onStepEntry hne]
  exact Tab.get_set_of_ne false _ slot true (by decide)

/-- A module whose engine walks a table's slots of the running step, and a slot in use of it. -/
structure Walks (s : State) (tn slot : Nat) (tb : Table) (e : TableStep) (p : Nat) : Prop where
  table : s.table tn = some tb
  entry : walkEntry s tn = e
  step : e.step = s.sch.step
  runs : lauterRuns s false = true
  opened : e.closed = false
  used : slot < e.used
  present : e.present = some p

theorem walkEntry_of_current {tn : Nat} (h : (stepEntry s tn (s.sch.step + 1)).step + 1 ≠ s.sch.step) :
    walkEntry s tn = stepEntry s tn s.sch.step := by
  unfold walkEntry
  dsimp only
  rw [decide_eq_false h, Bool.false_and, if_neg Bool.false_ne_true]

section
variable {tn slot p : Nat} {tb : Table} {e : TableStep} (h : Walks s tn slot tb e p)
include h

/-- The walk of a running step at a slot in use. -/
theorem embeddingUpdate_of_walks : embeddingUpdate tn slot s =
    if e.done.get false slot then
      match setOfTable s tn with
      | some (k, _) => countLtr k 2 1 s
      | none => s
    else if (List.range slot).any (fun i => !e.done.get false i) then s
    else onStepEntry tn e.step (TableStep.finished slot)
      (if natBit 48 (rawNat s (slotEntry s tb e.step slot) 16) then
        touchedRow tn tb e.step slot (rawNat s (slotEntry s tb e.step slot) 16) p s else s) := by
  have hguard : (!lauterRuns s (decide (s.sch.step < s.sch.step)) || decide (s.sch.step + 1 < s.sch.step) || decide (s.sch.step < s.sch.step) ||
      e.closed || decide (e.used ≤ slot)) = false := by
    simp [h.runs, h.opened, h.used]
  unfold embeddingUpdate
  rw [h.table]
  dsimp only
  rw [h.entry, h.step]
  simp only [Nat.lt_irrefl, decide_false] at hguard ⊢
  rw [if_neg (by simpa using hguard), h.present]
  rfl

theorem embeddingUpdate_of_done (hdone : e.done.get false slot = true) :
    (embeddingUpdate tn slot s).mem = s.mem ∧ (embeddingUpdate tn slot s).grn = s.grn := by
  rw [embeddingUpdate_of_walks h, if_pos hdone]
  split <;> exact ⟨rfl, rfl⟩

theorem embeddingUpdate_before (hdone : e.done.get false slot = false) (hlower : ∃ i, i < slot ∧ e.done.get false i = false) :
    embeddingUpdate tn slot s = s := by
  rw [embeddingUpdate_of_walks h, hdone, if_neg Bool.false_ne_true, if_pos]
  simpa using hlower

theorem embeddingUpdate_reached (hdone : e.done.get false slot = false) (hlower : ∀ i, i < slot → e.done.get false i = true) :
    embeddingUpdate tn slot s = onStepEntry tn e.step (TableStep.finished slot)
      (if natBit 48 (rawNat s (slotEntry s tb e.step slot) 16) then
        touchedRow tn tb e.step slot (rawNat s (slotEntry s tb e.step slot) 16) p s else s) := by
  rw [embeddingUpdate_of_walks h, hdone, if_neg Bool.false_ne_true, if_neg]
  simpa using hlower

end

/-- A touched slot whose windows give a gradient: its row is updated. -/
theorem touchedRow_of_gradient {tn n slot w p k : Nat} {tb : Table} {rs : RuleSet} {r : State × List Word × Bool × Bool}
    (hset : setOfTable s tn = some (k, rs)) (hclean : natBit 49 w = false) (hp : 0 < p)
    (hr : r = takeWindows true (accWindow s tb n slot 0) tb.dim s) (hsat : r.2.2.1 = false) (hbad : r.2.2.2 = false) :
    touchedRow tn tb n slot w p s = updateRow k tn tb rs n slot (w % 2 ^ 48) (natBits 107 64 w)
      (r.2.1.map (fun x => toF32 ((f32 x).div (XVal.ofInt false (avgDiv rs p s.bhdr.members) 0)))) r.1 := by
  unfold touchedRow
  dsimp only
  rw [hset]
  dsimp only
  rw [← hr, hclean, if_neg Bool.false_ne_true, if_neg (Nat.ne_of_gt hp), hsat, if_neg Bool.false_ne_true, hbad, if_neg Bool.false_ne_true]

end Sys2Proof.Machine
end

section
/-! SUPPORT. DIST_ARRIVAL and NORM_REDUCTION (08_lauter_update.md R187, R191, R193): slices stored in the shadow half, and the factor of a
deferred rule set. -/

namespace Sys2Proof.Machine

variable {s : State}

/-! ### DIST_ARRIVAL -/

section
variable {t o first : Nat} {bs : List Byte} {d : TensorDef} (hd : tensorDef s t = some d) (howner : d.owners.contains o = true)
  (hother : o ≠ s.rank) (hskip : s.sch.skip = false)
include hd howner hother hskip

theorem distArrival_absent :
    distArrival t o first bs true s = s.onTensor t (fun x => { x with absent := x.absent.set false o true }) := by
  unfold distArrival
  rw [hd]
  dsimp only
  rw [howner, hskip, if_neg (by simpa using hother), if_pos rfl]

/-- The tensor after n groups of an owner from the first on have come. -/
def Tensor.received (o first n : Nat) (x : Tensor) : Tensor :=
  { x with slices := x.slices.modify 0 o (· + n), got := (List.range n).foldl (fun m i => m.set false (first + i) true) x.got }

theorem distArrival_present {n : Nat} (hn : n = min (bs.length / d.wcBytes) (d.groups - first)) :
    distArrival t o first bs false s =
      (devWrite reqLauter .none (d.wc (1 - (s.tensor t).half) + first * d.wcBytes) (bs.take (n * d.wcBytes)) s).onTensor t
        (Tensor.received o first n) := by
  unfold distArrival
  rw [hd]
  dsimp only
  rw [howner, hskip, if_neg (by simpa using hother), if_neg Bool.false_ne_true, ← hn]
  rfl

end

/-! ### NORM_REDUCTION -/

section
variable {k q n : Nat} {rs : RuleSet} {d : TensorDef} (hrs : ruleSetOf s k = some rs) (hmode : rs.deferred = true)
  (htensors : tensorsOf s k = [d]) (hlate : (s.tensor d.tensor).late = false) (hruns : lauterRuns s false = true)
  (hnone : (s.tensor d.tensor).deferred = [])
include hrs hmode htensors hlate hruns hnone

theorem normReduction_saturated (hn : 0 < n) : normReduction k q n s = ltrEvent 4 k 0 s := by
  have hunits : deferredUnits (ltrEvent 4 k 0 s) d.tensor d rs = [] := by
    rw [deferredUnits, (sameBytes_ltrEvent 4 k 0 s).tensor, hnone]
    rfl
  unfold normReduction
  rw [hrs]
  dsimp only
  rw [htensors]
  simp only [List.any_cons, List.any_nil, Bool.or_false, hlate, hmode, hruns, Bool.not_true, Bool.false_eq_true, if_false, hn, if_true]
  change State.each _ (deferredUnits (ltrEvent 4 k 0 s) d.tensor d rs) _ = _
  rw [hunits]
  rfl

theorem normReduction_factor : (normReduction k q 0 s).mem = s.mem ∧ ((normReduction k q 0 s).tensor d.tensor).factor = some (globalFactor rs q) := by
  obtain ⟨v, hv⟩ : ∃ v, v = if globalFactor rs q = fOne then s else countLtr k 7 1 s := ⟨_, rfl⟩
  have hmem : v.mem = s.mem := by
    rw [hv]
    split <;> rfl
  have hsame : SameBytes s v := hv ▸ .ite (.refl s) (sameBytes_countLtr ..)
  have htensor : (v.onTensor d.tensor (fun x => { x with factor := some (globalFactor rs q) })).tensor d.tensor =
      { s.tensor d.tensor with factor := some (globalFactor rs q) } := by
    rw [tensor_onTensor (Tensor.ne_empty_of_factor rfl), hsame.tensor]
  have heq : normReduction k q 0 s = v.onTensor d.tensor (fun x => { x with factor := some (globalFactor rs q) }) := by
    unfold normReduction
    rw [hrs]
    dsimp only
    rw [htensors, ← hv]
    have htensors' : tensorsOf v k = [d] := by
      rw [← htensors, tensorsOf, State.body, hsame.sch]
      rfl
    have hunits : deferredUnits (v.onTensor d.tensor (fun x => { x with factor := some (globalFactor rs q) })) d.tensor d rs = [] := by
      rw [deferredUnits, htensor]
      dsimp only
      rw [hnone]
      rfl
    simp only [List.any_cons, List.any_nil, Bool.or_false, hlate, hmode, hruns, Bool.not_true, Bool.false_eq_true, if_false, Nat.lt_irrefl, htensors']
    change State.each _ (deferredUnits (v.onTensor d.tensor _) d.tensor d rs) _ = _
    rw [hunits]
    rfl
  rw [heq, htensor]
  exact ⟨hmem, rfl⟩

end

end Sys2Proof.Machine
end

section
/-! SUPPORT. REDUCED_BLOCK and CONTRIB_ARRIVAL (08_lauter_update.md R198, 11_schedules_and_collectives.md R282 to R284): a replica's record
written, and a member's contribution counted. -/

namespace Sys2Proof.Machine

variable {s t : State}

theorem reductionDef_group {g : Nat} {r : ReductionDef} (h : reductionDef s g = some r) : r.group = g := by
  simpa using List.find?_some h

/-! ### A replica's record -/

theorem repAddr_congr (h : t.mem = s.mem) (tb : Table) (pos : Nat) : repAddr t tb pos = repAddr s tb pos := by
  rw [repAddr, objBase, h]
  rfl

/-- A replica record marked as updated in the step. -/
def markReplica (key : Nat) : State → State := State.onLtr (fun l => { l with repDone := l.repDone.set false key true })

theorem repDone_markReplica (key : Nat) (s : State) : (markReplica key s).ltr.repDone.get false key = true :=
  Tab.get_set_of_ne false s.ltr.repDone key true (by decide)

/-- A replica record not yet updated in the step, of a block that gives a gradient: of all bytes, the record's alone are written. -/
theorem updateReplica_of_gradient {r : ReductionDef} {tb : Table} {pos k : Nat} {rs : RuleSet} {bs old rec : List Byte} (hs : Whole s)
    (hset : setOfTable s r.target = some (k, rs)) (hnew : s.ltr.repDone.get false (2 ^ 17 * r.target + pos) = false) (hp : leAt bs 0 2 ≠ 0)
    (hnan : natBit 0 (leAt bs 4 1) = false) (hold : old = rawBytes s (repAddr s tb pos) tb.recLen) (hstep : recStep old < s.sch.step)
    (hrow : rowUpdate r.target (replicaRow tb pos) s.sch.step tb rs (etaOf s rs s.sch.step) (clipUnit rs (wordsAt bs 8 32)).1 old = some rec)
    (hhigh : repAddr s tb pos + tb.recLen ≤ 0x8000000000) (hrec : repAddr s tb pos + rec.length ≤ 0x8000000000) :
    (updateReplica r tb pos [bs] s).mem.cells = (s.mem.putBytes (repAddr s tb pos) rec).cells ∧ (updateReplica r tb pos [bs] s).grn = s.grn ∧
      (updateReplica r tb pos [bs] s).ltr.repDone.get false (2 ^ 17 * r.target + pos) = true := by
  have hpresent : ([bs].any fun b => leAt b 0 2 == 0) = false := by simp [hp]
  have hnumber : ([bs].any fun b => natBit 0 (leAt b 4 1)) = false := by simp [hnan]
  have hraw : ([bs].map (fun b => wordsAt b 8 32)).flatten = wordsAt bs 8 32 := by simp
  obtain ⟨v, hv⟩ : ∃ v, v = if (clipUnit rs (wordsAt bs 8 32)).2 then countLtr k 6 1 (markReplica (2 ^ 17 * r.target + pos) s)
    else markReplica (2 ^ 17 * r.target + pos) s := ⟨_, rfl⟩
  have hclip : SameBytes (markReplica (2 ^ 17 * r.target + pos) s) v := hv ▸ .ite (sameBytes_countLtr ..) (.refl _)
  have haddr : repAddr v tb pos = repAddr s tb pos := repAddr_congr (by rw [hv]; split <;> rfl) tb pos
  have hbytes : rawBytes v (repAddr s tb pos) tb.recLen = old := by
    rw [hclip.rawBytes, hold]
    exact rawBytes_onLtr ..
  have heta : etaOf v rs s.sch.step = etaOf s rs s.sch.step := hclip.etaOf_eq rs _
  have hwhole : Whole (markReplica (2 ^ 17 * r.target + pos) s) := ⟨hs.poison, hs.withdrawn⟩
  obtain ⟨hcache, hanswer⟩ := readsPlain_devRead (hwhole.of_sameBytes hclip) (req := reqLauter) (h := .none) hhigh
  have hdone := repDone_markReplica (2 ^ 17 * r.target + pos) s
  unfold updateReplica
  dsimp only
  rw [hset]
  dsimp only
  rw [hnew, if_neg Bool.false_ne_true, hpresent, if_neg Bool.false_ne_true, hnumber, if_neg Bool.false_ne_true, hraw]
  unfold markReplica at hv
  rw [← hv, haddr]
  generalize devRead reqLauter .none (repAddr s tb pos) tb.recLen v = q at hcache hanswer
  rw [hbytes] at hanswer
  have hread := hclip.trans (.of_cache hcache)
  have hstored := stored_devWrite_of_whole (hwhole.of_sameBytes hread).withdrawn (req := reqLauter) (h := .none) hrec
  have hltr : (devWrite reqLauter .none (repAddr s tb pos) rec q.1).ltr = q.1.ltr := devWrite_ltr ..
  rw [hanswer]
  dsimp only
  rw [if_neg Bool.false_ne_true, if_neg (Nat.not_le.mpr hstep), heta, hrow]
  dsimp only
  generalize devWrite reqLauter .none (repAddr s tb pos) rec q.1 = w at hstored hltr
  have hbooked := (sameBytes_countLtr k 0 1 w).trans (sameBytes_bookReplica r 7 [bs] (countLtr k 0 1 w))
  generalize bookReplica r 7 [bs] (countLtr k 0 1 w) = u at hbooked
  have hend : SameBytes w (if r.owner = u.rank then noiseReduced k rs (wordsAt bs 8 32) u else u) :=
    hbooked.trans (.ite (sameBytes_noiseReduced ..) (.refl u))
  refine ⟨?_, ?_, ?_⟩
  · rw [hend.cells, hstored.cells, Memory.putBytes_cells_congr hread.cells]
    rfl
  · rw [hend.grn, hstored.grn, hread.grn]
    rfl
  · rw [hend.repDone, hltr, hread.repDone]
    exact hdone

/-! ### A block that completes a replica's record -/

/-- The state that holds a reduced block of a replica. -/
def withReduced (key : Nat) (bs : List Byte) : State → State := State.onLtr (fun l => { l with reduced := l.reduced.set [] key bs })

section
variable {g b : Nat} {bs : List Byte} {r : ReductionDef} {tb : Table} (hr : reductionDef s g = some r) (htable : s.table r.target = some tb)
  (hreplica : r.replica = true) (hmember : r.members.contains s.rank = true) (hb : b < r.blocks) (hskip : s.sch.skip = false)
  (hparked : parked s = false)
include hr htable hreplica hmember hb hskip hparked

theorem reducedBlock_absent : reducedBlock g b bs true s = divergedRow r.target (replicaRow tb (replicaPos r tb b)) s := by
  unfold reducedBlock
  rw [hr]
  dsimp only
  rw [htable]
  dsimp only
  rw [hreplica, hmember, hskip, hparked, if_neg (by simpa using hb), if_pos rfl]

theorem reducedBlock_present (hpaused : paused s = false) :
    reducedBlock g b bs false s = applyReplicas (withReduced (2 ^ 32 * g + b) (padTo 136 bs) s) := by
  unfold reducedBlock
  rw [hr]
  dsimp only
  rw [htable]
  dsimp only
  rw [hreplica, hmember, hskip, hparked, if_neg (by simpa using hb), if_neg Bool.false_ne_true, bufferFull, hpaused, Bool.false_and,
    if_neg Bool.false_ne_true]
  rfl

end

theorem applyReplicas_of_idle (hruns : lauterRuns s false = false) : applyReplicas s = s := by
  rw [applyReplicas, hruns]
  rfl

/-- The only block that waits completes its record. -/
theorem applyReplicas_singleton {g b : Nat} {bs : List Byte} {r : ReductionDef} {tb : Table} (hruns : lauterRuns s false = true)
    (hreduced : s.ltr.reduced = [(2 ^ 32 * g + b, bs)]) (hb : b < 2 ^ 32) (hr : reductionDef s g = some r) (htable : s.table r.target = some tb) :
    applyReplicas s = applyReplica r tb (replicaPos r tb b) s := by
  have hgroup : (2 ^ 32 * g + b) / 2 ^ 32 = g := by omega
  have hblock : (2 ^ 32 * g + b) % 2 ^ 32 = b := by omega
  rw [applyReplicas, hruns, hreduced]
  simp only [Bool.not_true, Bool.false_eq_true, if_false, State.each, List.foldl_cons, List.foldl_nil, hgroup, hblock, hr, htable]

theorem replicaPos_of_one {r : ReductionDef} {tb : Table} (hdim : tb.dim = 32) (b : Nat) : replicaPos r tb b = r.first + b := by
  rw [replicaPos, hdim, Nat.div_self (by decide), Nat.div_one]

theorem gathered_of_one {r : ReductionDef} {tb : Table} {b : Nat} {bs : List Byte} (hdim : tb.dim = 32)
    (hget : s.ltr.reduced.get [] (2 ^ 32 * r.group + b) = bs) (hne : bs ≠ []) : gathered s r tb (r.first + b) = some [bs] := by
  have hlist : (List.range 1).map (fun i => s.ltr.reduced.get [] (2 ^ 32 * r.group + (r.first + b - r.first) * 1 + i)) = [bs] := by
    simp only [List.range_one, List.map_singleton, Nat.add_sub_cancel_left, Nat.mul_one, Nat.add_zero, hget]
  unfold gathered
  dsimp only
  rw [hdim, Nat.div_self (by decide), hlist]
  simp [hne]

/-- Applying a gathered replica's record ends with its blocks given up. -/
theorem applyReplica_of_gathered {r : ReductionDef} {tb : Table} {pos : Nat} {bs : List (List Byte)} (h : gathered s r tb pos = some bs) :
    (applyReplica r tb pos s).mem = (updateReplica r tb pos bs s).mem ∧ (applyReplica r tb pos s).grn = (updateReplica r tb pos bs s).grn ∧
      (applyReplica r tb pos s).ltr.repDone = (updateReplica r tb pos bs s).ltr.repDone := by
  rw [applyReplica, h]
  exact ⟨rfl, rfl, rfl⟩

end Sys2Proof.Machine
end

section
/-! SUPPORT. CONTRIB_ARRIVAL (11_schedules_and_collectives.md R282, R283, R287): a member's contribution counted, and the group's block when it
is the last. -/

namespace Sys2Proof.Machine

open Sys2Proof.Obl (SameButCache)

variable {s t : State}

/-! ### Adding a contribution -/

theorem reduceAdd_count (vals : Option (List XVal)) (x : Reduce) :
    (reduceAdd vals x).present + (reduceAdd vals x).absent = x.present + x.absent + 1 := by
  cases vals with
  | none => rfl
  | some vs => exact Nat.add_right_comm ..

theorem reduceAdd_ne_empty (vals : Option (List XVal)) (x : Reduce) : reduceAdd vals x ≠ {} := fun he => by
  have hcount := reduceAdd_count vals x
  rw [he] at hcount
  exact absurd hcount (by simp)

theorem zipWith_right_comm {α β : Type} {f : α → β → α} (hf : ∀ a b c, f (f a b) c = f (f a c) b) (xs : List α) (u v : List β) :
    List.zipWith f (List.zipWith f xs u) v = List.zipWith f (List.zipWith f xs v) u := by
  induction xs generalizing u v with
  | nil => simp
  | cons x xs ih =>
    cases u with
    | nil => cases v <;> simp
    | cons b u =>
      cases v with
      | nil => simp
      | cons c v => simp [hf, ih]

/-- A list of 32 entries, zeros when it is empty. -/
def started {α : Type} (z : α) (xs : List α) : List α := if xs.isEmpty then List.replicate 32 z else xs

theorem started_length {α : Type} {z : α} {xs : List α} (h : xs = [] ∨ xs.length = 32) : (started z xs).length = 32 := by
  unfold started
  split
  · simp
  · next hne => exact h.resolve_left (by simpa using hne)

theorem started_of_length {α : Type} {z : α} {xs : List α} (h : xs.length = 32) : started z xs = xs :=
  if_neg (by simp [List.ne_nil_of_length_pos (show 0 < xs.length by omega)])

theorem reduceAdd_some (vs : List XVal) (x : Reduce) : reduceAdd (some vs) x =
    { sums := List.zipWith (fun a v => a + toFix v) (started 0 x.sums) vs
      nans := List.zipWith (fun a v => a || v.isNan) (started false x.nans) vs, present := x.present + 1, absent := x.absent } := rfl

/-- Contributions of 32 values add alike in either order. -/
theorem reduceAdd_comm {u v : List XVal} {x : Reduce} (hu : u.length = 32) (hv : v.length = 32) (hsums : x.sums = [] ∨ x.sums.length = 32)
    (hnans : x.nans = [] ∨ x.nans.length = 32) : reduceAdd (some v) (reduceAdd (some u) x) = reduceAdd (some u) (reduceAdd (some v) x) := by
  have hs := started_length (z := (0 : Int)) hsums
  have hn := started_length (z := false) hnans
  rw [reduceAdd_some u, reduceAdd_some v, reduceAdd_some v, reduceAdd_some u]
  simp only [started_of_length, List.length_zipWith, hs, hn, hu, hv, Nat.min_self]
  rw [zipWith_right_comm (fun a b c => Int.add_right_comm a (toFix b) (toFix c)) _ u v,
    zipWith_right_comm (fun a b c => Bool.or_right_comm a b.isNan c.isNan) _ u v]

/-! ### A contribution counted -/

/-- The values of a contribution's only block, none of an absent one. -/
def soleVals (r : ReductionDef) (bs : Option (List Byte)) : Option (List XVal) := bs.map (fun bs => contribVals r bs 0)

/-- The state that has counted the only block of a member's contribution. -/
def counted (r : ReductionDef) (rank : Nat) (bs : Option (List Byte)) : State → State :=
  State.onLtr (fun l => { l with
    taken := l.taken.set false (65536 * r.group + rank) true
    reduce := l.reduce.modify {} (2 ^ 32 * r.group) (reduceAdd (soleVals r bs)) })

theorem takeBlock_of_room (hpaused : paused s = false) (r : ReductionDef) (vals : Option (List XVal)) : takeBlock r 0 vals s =
    reduceDone r 0 (s.onLtr (fun l => { l with reduce := l.reduce.modify {} (2 ^ 32 * r.group) (reduceAdd vals) })) := by
  unfold takeBlock
  dsimp only
  rw [bufferFull, hpaused, Bool.false_and, Bool.and_false, if_neg Bool.false_ne_true, if_neg Bool.false_ne_true, Nat.add_zero]

theorem each_range_one (f : Nat → State → State) (s : State) : State.each f (List.range 1) s = f 0 s := rfl

theorem takeContrib_of_one {r : ReductionDef} (hone : r.blocks = 1) (hpaused : paused s = false) (rank : Nat) (bs : Option (List Byte)) :
    takeContrib r rank bs [] s = reduceDone r 0 (counted r rank bs s) := by
  unfold takeContrib
  dsimp only
  rw [hone, each_range_one, takeBlock_of_room (by exact hpaused)]
  cases bs <;> rfl

section
variable {r : ReductionDef} {rank : Nat} {bs : Option (List Byte)}

theorem taken_counted (s : State) : (counted r rank bs s).ltr.taken.get false (65536 * r.group + rank) = true :=
  Tab.get_set_of_ne false s.ltr.taken _ true (by decide)

theorem reduce_counted (s : State) :
    (counted r rank bs s).ltr.reduce.get {} (2 ^ 32 * r.group) = reduceAdd (soleVals r bs) (s.ltr.reduce.get {} (2 ^ 32 * r.group)) :=
  (Tab.get_modify_of_ne (reduceAdd_ne_empty _ _) _).trans (if_pos rfl)

/-- A group of which members are still to be heard waits. -/
theorem takeContrib_waits {x : Reduce} (hone : r.blocks = 1) (hpaused : paused s = false) (hx : x = s.ltr.reduce.get {} (2 ^ 32 * r.group))
    (hfew : x.present + x.absent + 1 < r.members.length) : takeContrib r rank bs [] s = counted r rank bs s := by
  rw [takeContrib_of_one hone hpaused, reduceDone]
  dsimp only
  rw [Nat.add_zero, reduce_counted, ← hx, if_pos (by rw [reduceAdd_count]; exact hfew)]

/-- The last member's contribution completes the dense group's block. -/
theorem takeContrib_completes {x : Reduce} (hone : r.blocks = 1) (hpaused : paused s = false)
    (hx : x = s.ltr.reduce.get {} (2 ^ 32 * r.group)) (hlast : x.present + x.absent + 1 = r.members.length) (hdense : r.replica = false)
    (hlate : (s.tensor r.target).late = false) (hfrozen : (s.tensor r.target).frozen = false)
    (hdone : (s.tensor r.target).done.get false r.first = false) :
    (takeContrib r rank bs [] s).mem = s.mem ∧ ((takeContrib r rank bs [] s).tensor r.target).blocks.get none r.first =
      some ((reduceAdd (soleVals r bs) x).block r.members.length) := by
  obtain ⟨y, hy⟩ : ∃ y, y = reduceAdd (soleVals r bs) x := ⟨_, rfl⟩
  have hcount : y.present + y.absent = r.members.length := by rw [hy, reduceAdd_count, hlast]
  obtain ⟨v, hv⟩ : ∃ v, v = (bookAdd r.group 6 r.members.length (bookAdd r.group 5 y.absent (bookAdd r.group 4 y.present
    (counted r rank bs s)))).onLtr (fun l => { l with reduce := l.reduce.set {} (2 ^ 32 * r.group) {} }) := ⟨_, rfl⟩
  have htensor : v.tensor r.target = s.tensor r.target := tensor_congr (by simp only [hv, bookAdd, counted, State.onLtr_ltr]) _
  have heq : takeContrib r rank bs [] s =
      v.onTensor r.target (fun t => { t with blocks := t.blocks.set none r.first (some (y.block r.members.length)) }) := by
    rw [takeContrib_of_one hone hpaused, reduceDone]
    dsimp only
    rw [Nat.add_zero, Nat.add_zero, reduce_counted, ← hx, ← hy, hcount, if_neg (Nat.lt_irrefl _), if_pos rfl, hdense,
      if_neg Bool.false_ne_true, ← hv, htensor, hlate, hfrozen, hdone]
    rfl
  have hlisted := Tab.get_set_of_ne none (s.tensor r.target).blocks r.first (some (y.block r.members.length)) (Option.some_ne_none _)
  have hne : Tab.set none (v.tensor r.target).blocks r.first (some (y.block r.members.length)) ≠ [] := Tab.set_ne_nil _ _ (Option.some_ne_none _)
  rw [heq]
  refine ⟨by simp only [hv, bookAdd, counted, State.onTensor, State.onLtr_mem], ?_⟩
  rw [tensor_onTensor (Tensor.ne_empty_of_blocks hne), htensor, ← hy]
  exact hlisted

end

/-! ### CONTRIB_ARRIVAL -/

theorem contribArrival_of_taken {g rank : Nat} {bs : List Byte} {ab : List Nat} (h : s.ltr.taken.get false (65536 * g + rank) = true) :
    contribArrival g rank bs ab s = s := by
  unfold contribArrival
  split
  · rfl
  · rw [h, if_pos (by simp)]

section
variable {g rank : Nat} {bs : List Byte} {r : ReductionDef} (hr : reductionDef s g = some r) (howner : r.owner = s.rank)
  (hmember : r.members.contains rank = true) (hnew : s.ltr.taken.get false (65536 * g + rank) = false) (hskip : s.sch.skip = false)
  (hparked : parked s = false)
include hr howner hmember hnew hskip hparked

theorem contribArrival_of_member : contribArrival g rank bs [] s =
    if rank = s.rank then takeOwn r s
    else if !contribOk r rank bs then takeContrib r rank none [] (event 7 10 0x73 [s.sch.step, s.sch.epoch, g] s)
    else takeContrib r rank (some bs) [] s := by
  unfold contribArrival
  rw [hr]
  dsimp only
  rw [howner, hmember, hnew, hskip, hparked, if_neg (by simp)]
  rfl

theorem contribArrival_sound (hother : rank ≠ s.rank) (hok : contribOk r rank bs = true) :
    contribArrival g rank bs [] s = takeContrib r rank (some bs) [] s := by
  rw [contribArrival_of_member hr howner hmember hnew hskip hparked, if_neg hother, hok]
  rfl

theorem contribArrival_malformed (hother : rank ≠ s.rank) (hok : contribOk r rank bs = false) :
    contribArrival g rank bs [] s = takeContrib r rank none [] (event 7 10 0x73 [s.sch.step, s.sch.epoch, g] s) := by
  rw [contribArrival_of_member hr howner hmember hnew hskip hparked, if_neg hother, hok]
  rfl

end

/-! ### An event while the module runs on -/

theorem putLog_belowWarn (g b src : Nat) (data : List Byte) (s : State) : (putLog g b src data s).hk.belowWarn = s.hk.belowWarn := by
  obtain ⟨o, _, _, _, _, _, hhk⟩ | hhk := putLog_cases g b src data s <;> rw [hhk]

theorem setSticky_belowWarn (g b : Nat) (s : State) : (setSticky g b s).hk.belowWarn = s.hk.belowWarn := by rw [setSticky_hk]

theorem markFresh_belowWarn (g b : Nat) (s : State) : (markFresh g b s).hk.belowWarn = s.hk.belowWarn := rfl

theorem wrapLog_belowWarn (s : State) : (wrapLog s).hk.belowWarn = s.hk.belowWarn := by
  unfold wrapLog
  dsimp only
  split
  · exact markFresh_belowWarn ..
  · rw [putLog_belowWarn, setSticky_belowWarn, markFresh_belowWarn]

theorem event_belowWarn (g b src : Nat) (data : List Nat) (s : State) : (event g b src data s).hk.belowWarn = s.hk.belowWarn := by
  unfold event
  dsimp only
  split
  · rw [wrapLog_belowWarn, putLog_belowWarn, setSticky_belowWarn, markFresh_belowWarn]
  · rw [putLog_belowWarn, setSticky_belowWarn, markFresh_belowWarn]

/-- An event neither pauses the module nor ends its pause. -/
theorem paused_event (g b src : Nat) (data : List Nat) (s : State) : paused (event g b src data s) = paused s := by
  rw [paused, event_mst, event_belowWarn, paused]

theorem paused_of_cache (h : SameButCache s t) : paused t = paused s := by
  rw [h]
  rfl

/-- A module's own contribution, of a group of one block, is what stands behind its slots' K. -/
theorem takeOwn_of_one {r : ReductionDef} (hs : Whole s) (hone : r.blocks = 1) (hhigh : r.srcBase + contribHead r + 33 ≤ 0x8000000000)
    (harmed : s.sch.unarmed = false) : ∃ v, SameButCache s v ∧ takeOwn r s =
      takeContrib r s.rank (some (contribWords r s.rank (segmentKs s r) ++ rawBytes s (r.srcBase + contribHead r) 33)) [] v := by
  obtain ⟨hcache, hanswer⟩ := readsPlain_devRead hs (req := reqLauter) (h := .none) hhigh
  refine ⟨_, hcache, ?_⟩
  unfold takeOwn ownContrib
  dsimp only
  rw [hone, hanswer, harmed]
  rfl

end Sys2Proof.Machine
end

section
/-! PROOFS. O52: updates, arrivals and contributions. -/

namespace Sys2Proof.Machine

variable {s t : State}

/-! ### DENSE_GROUP_UPDATE -/

/-- A group with finite values: its record stands in the other bank, the current bank's record stays, and the group is done, its copy formed. -/
theorem denseUpdate_writes {tn j : Nat} {d : TensorDef} {rs : RuleSet} {b : GradBlock} {raw : List Word} {old : List Byte} {u : UnitVals}
    (hd : tensorDef s tn = some d) (hrs : ruleSetOf s d.ruleSet = some rs) (howns : d.owns j = true)
    (hruns : lauterRuns s (s.tensor tn).late = true) (hopen : (s.tensor tn).done.get false j = false) (hfrozen : (s.tensor tn).frozen = false)
    (hlate : (s.tensor tn).late = false) (hdeferred : (s.tensor tn).deferred.get false j = false)
    (hblock : (s.tensor tn).blocks.get none j = some b) (hsums : b.sums.length = 32) (hrule : rs.rule ≠ 4) (hmode : rs.deferred = false)
    (hgrad : blockGrad rs d j b = .ok raw) (hold : old = rawBytes s (denseAddr d (s.tensor tn).bank j) 512)
    (hstep : recStep old < (s.tensor tn).step) (hs : Whole s) (hw : s.mem.wf = true)
    (hfrom : denseAddr d (s.tensor tn).bank j + 512 ≤ 0x8000000000) (hto : denseAddr d (1 - (s.tensor tn).bank) j + 512 ≤ 0x8000000000)
    (hbanks : denseAddr d (s.tensor tn).bank j + 512 ≤ denseAddr d (1 - (s.tensor tn).bank) j ∨
      denseAddr d (1 - (s.tensor tn).bank) j + 512 ≤ denseAddr d (s.tensor tn).bank j)
    (hstreams : distStreams s tn = [])
    (hcopyFrom : d.wc (1 - (s.tensor tn).half) + (j + 1) * d.wcBytes ≤ denseAddr d (s.tensor tn).bank j ∨
      denseAddr d (s.tensor tn).bank j + 512 ≤ d.wc (1 - (s.tensor tn).half) + j * d.wcBytes)
    (hcopyTo : d.wc (1 - (s.tensor tn).half) + (j + 1) * d.wcBytes ≤ denseAddr d (1 - (s.tensor tn).bank) j ∨
      denseAddr d (1 - (s.tensor tn).bank) j + 512 ≤ d.wc (1 - (s.tensor tn).half) + j * d.wcBytes)
    (hu : u = ruleStep rs (fMul s.ltr.eta rs.mult) 32 (clipUnit rs raw).1 (clipUnit rs raw).1 (unitVals [(j, old)])) (hfin : u.finite = true)
    (hcopy : d.wc (1 - (s.tensor tn).half) + (j + 1) * d.wcBytes ≤ 0x8000000000) :
    ((denseUpdate tn j s).tensor tn).done.get false j = true ∧
      rawBytes (denseUpdate tn j s) (denseAddr d (1 - (s.tensor tn).bank) j) 512 = unitRecord (s.tensor tn).step j tn d old u ∧
      rawBytes (denseUpdate tn j s) (denseAddr d (s.tensor tn).bank j) 512 = old ∧
      ((denseUpdate tn j s).tensor tn).got.get false j = true := by
  obtain ⟨c, hc⟩ : ∃ c, c = (clipGroups d.ruleSet rs raw s).1 := ⟨_, rfl⟩
  have hclip : SameBytes s c := hc ▸ sameBytes_clipGroups ..
  have htensor : c.tensor tn = s.tensor tn := hclip.tensor tn
  obtain ⟨v, hv, happly⟩ := applyUnit_of_finite (s := c) (t := tn) (j := j) (d := d) (k := d.ruleSet) (rs := rs) (raw := raw)
    (g := (clipUnit rs raw).1) (old := old) (u := u)
    (hs.of_sameBytes hclip) (by rw [htensor, hclip.rawBytes]; exact hold) (by rwa [htensor]) (by rwa [htensor]) hrule (by rwa [htensor])
    (by rw [hclip.eta]; exact hu) hfin
  rw [denseUpdate_of_gradient hd hrs howns hruns hopen hfrozen hdeferred hblock hrule hmode hgrad ((blockGrad_length hgrad).trans hsums), ← hc,
    happly, htensor]
  have hsame := hclip.trans hv
  have hvtensor : v.tensor tn = s.tensor tn := hsame.tensor tn
  have hput := densePut_putDense (s := v) (t := tn) (j := j) (d := d) (bs := unitRecord (s.tensor tn).step j tn d old u) (by rwa [hvtensor])
    ((distStreams_congr hsame.sch tn).trans hstreams) (unitRecord_length ..) (hs.of_sameBytes hsame).withdrawn (hsame.wf hw) (by rwa [hvtensor])
    (by rwa [hvtensor]) (by rwa [hvtensor])
  generalize putDense tn d j (unitRecord (s.tensor tn).step j tn d old u) v = w at hput
  obtain ⟨hrecord, houtside, hwtensor, hwsch⟩ := hput
  rw [hvtensor] at hrecord houtside hwtensor
  have hbook := sameBytes_bookDense tn j 7 w
  have hbtensor : (bookDense tn j 7 w).tensor tn = (s.tensor tn).copied v.rank j := (hbook.tensor tn).trans hwtensor
  rw [denseDone_of_current (by rw [hbtensor]; exact hlate) ((distStreams_congr (hbook.sch.trans (hwsch.trans hsame.sch)) tn).trans hstreams),
    tensor_onTensor_finished, hbtensor]
  have hbytes (a n : Nat) : rawBytes ((bookDense tn j 7 w).onTensor tn (Tensor.finished j)) a n = rawBytes w a n :=
    (rawBytes_onLtr ..).trans (hbook.rawBytes a n)
  refine ⟨Tab.get_set_of_ne false (s.tensor tn).done j true (by decide), (hbytes ..).trans hrecord, (hbytes ..).trans ?_,
    Tab.get_set_of_ne false (s.tensor tn).got j true (by decide)⟩
  rw [rawBytes_congr fun x _ _ => houtside x (by omega) (by omega), hsame.rawBytes, ← hold]

/-! ### EMBEDDING_ROW_UPDATE -/

/-- A touched slot reached, with a row that can be updated: the row's record stands where the slot says, and of the bytes after its windows were
taken no other is written. -/
theorem embeddingUpdate_writes {tn slot p k a : Nat} {tb : Table} {e : TableStep} {rs : RuleSet} {r : State × List Word × Bool × Bool}
    {raw : List Word} {old bs : List Byte} (h : Walks s tn slot tb e p) (hopen : e.done.get false slot = false)
    (hlower : ∀ i, i < slot → e.done.get false i = true) (htouched : natBit 48 (rawNat s (slotEntry s tb e.step slot) 16) = true)
    (hclean : natBit 49 (rawNat s (slotEntry s tb e.step slot) 16) = false) (hset : setOfTable s tn = some (k, rs)) (hp : 0 < p)
    (ha : a = natBits 107 64 (rawNat s (slotEntry s tb e.step slot) 16))
    (hr : r = takeWindows true (accWindow s tb e.step slot 0) tb.dim s) (hsat : r.2.2.1 = false) (hbad : r.2.2.2 = false)
    (hraw : raw = r.2.1.map (fun x => toF32 ((f32 x).div (XVal.ofInt false (avgDiv rs p s.bhdr.members) 0))))
    (hold : old = rawBytes r.1 a tb.recLen) (hstep : recStep old < e.step)
    (hrow : rowUpdate tn (rawNat s (slotEntry s tb e.step slot) 16 % 2 ^ 48) e.step tb rs (fMul s.ltr.eta rs.mult) (clipUnit rs raw).1 old = some bs)
    (hhigh : a + tb.recLen ≤ 0x8000000000) (hbs : a + bs.length ≤ 0x8000000000) (hs : Whole s) (hw : s.mem.wf = true) :
    rawBytes (embeddingUpdate tn slot s) a bs.length = bs ∧
      (∀ y, y < a ∨ a + bs.length ≤ y → Tab.get 0 (embeddingUpdate tn slot s).mem.cells y = Tab.get 0 r.1.mem.cells y) ∧
      (stepEntry (embeddingUpdate tn slot s) tn e.step).done.get false slot = true := by
  have htakes : TakesWindows s r.1 := hr ▸ takesWindows_takeWindows ..
  have hwf : r.1.mem.wf = true := by
    rw [hr]
    exact (Keeps.refl s).takeWindows.mem hw
  have heta : etaOf r.1 rs e.step = fMul s.ltr.eta rs.mult := by
    rw [h.step, ← htakes.sch, etaOf_now, htakes.ltr]
  have hcells := updateRow_cells (k := k) (slot := slot) ⟨htakes.poison.trans hs.poison, htakes.withdrawn.trans hs.withdrawn⟩ hold hhigh hbs hstep
    (heta.symm ▸ hrow)
  rw [embeddingUpdate_reached h hopen hlower, if_pos htouched, touchedRow_of_gradient hset hclean hp hr hsat hbad, ← hraw, ← ha]
  exact ⟨rawBytes_of_putBytes (s := r.1) hcells hwf hbs, fun y hy => get_of_putBytes_outside (s := r.1) hcells hwf hy, done_onStepEntry ..⟩

/-- A slot reached that was not touched is done, and no byte changes. -/
theorem embeddingUpdate_untouched {tn slot p : Nat} {tb : Table} {e : TableStep} (h : Walks s tn slot tb e p) (hopen : e.done.get false slot = false)
    (hlower : ∀ i, i < slot → e.done.get false i = true) (htouched : natBit 48 (rawNat s (slotEntry s tb e.step slot) 16) = false) :
    (embeddingUpdate tn slot s).mem = s.mem ∧ (stepEntry (embeddingUpdate tn slot s) tn e.step).done.get false slot = true := by
  rw [embeddingUpdate_reached h hopen hlower, htouched, if_neg Bool.false_ne_true]
  exact ⟨onStepEntry_mem .., done_onStepEntry ..⟩

/-! ### DIST_ARRIVAL -/

/-- Whole groups that come are stored in the shadow half and counted. -/
theorem distArrival_stores {tn o first n : Nat} {bs : List Byte} {d : TensorDef} (hd : tensorDef s tn = some d)
    (howner : d.owners.contains o = true) (hother : o ≠ s.rank) (hskip : s.sch.skip = false)
    (hn : n = min (bs.length / d.wcBytes) (d.groups - first)) (hpos : 0 < n)
    (hhigh : d.wc (1 - (s.tensor tn).half) + first * d.wcBytes + n * d.wcBytes ≤ 0x8000000000) (hin : s.mem.withdrawn = []) (hw : s.mem.wf = true) :
    rawBytes (distArrival tn o first bs false s) (d.wc (1 - (s.tensor tn).half) + first * d.wcBytes) (n * d.wcBytes) = bs.take (n * d.wcBytes) ∧
      (∀ y, y < d.wc (1 - (s.tensor tn).half) + first * d.wcBytes ∨
        d.wc (1 - (s.tensor tn).half) + first * d.wcBytes + n * d.wcBytes ≤ y → rawByte (distArrival tn o first bs false s) y = rawByte s y) ∧
      ((distArrival tn o first bs false s).tensor tn).slices.get 0 o = (s.tensor tn).slices.get 0 o + n ∧
      (distArrival tn o first bs false s).plots = s.plots := by
  have hfits : n * d.wcBytes ≤ bs.length :=
    (Nat.mul_le_mul_right _ (hn ▸ Nat.min_le_left ..)).trans (Nat.div_mul_le_self ..)
  have hlen : (bs.take (n * d.wcBytes)).length = n * d.wcBytes := by rw [List.length_take, Nat.min_eq_left hfits]
  rw [distArrival_present hd howner hother hskip hn]
  have hstored := stored_devWrite_of_whole (s := s) hin (req := reqLauter) (h := .none) (a := d.wc (1 - (s.tensor tn).half) + first * d.wcBytes)
    (bs := bs.take (n * d.wcBytes)) (by rwa [hlen])
  have hltr : (devWrite reqLauter .none (d.wc (1 - (s.tensor tn).half) + first * d.wcBytes) (bs.take (n * d.wcBytes)) s).ltr = s.ltr := devWrite_ltr ..
  generalize devWrite reqLauter .none (d.wc (1 - (s.tensor tn).half) + first * d.wcBytes) (bs.take (n * d.wcBytes)) s = v at hstored hltr
  have htensor : v.tensor tn = s.tensor tn := tensor_congr (congrArg Lauter.tensors hltr) tn
  have hcount : (s.tensor tn).slices.get 0 o + n ≠ 0 := by omega
  have hread := rawBytes_of_putBytes hstored.cells hw (by rwa [hlen])
  rw [hlen] at hread
  refine ⟨(rawBytes_onLtr ..).trans hread, fun y hy => ?_, ?_, hstored.plots⟩
  · exact (rawByte_onLtr ..).trans (hstored.rawByte_outside hw (by rwa [hlen]))
  · rw [tensor_onTensor (Tensor.ne_empty_of_slices (by rw [htensor]; exact Tab.set_ne_nil _ _ hcount)), htensor]
    exact Tab.get_set_of_ne 0 (s.tensor tn).slices o ((s.tensor tn).slices.get 0 o + n) hcount

/-! ### REDUCED_BLOCK -/

/-- The block of a replica's record that stands ready: the record is written where it stands, no other byte, and marked as updated. -/
theorem reducedBlock_writes {g b k a : Nat} {bs old rec : List Byte} {r : ReductionDef} {tb : Table} {rs : RuleSet}
    (hr : reductionDef s g = some r) (htable : s.table r.target = some tb) (hreplica : r.replica = true)
    (hmember : r.members.contains s.rank = true) (hb : b < r.blocks) (hskip : s.sch.skip = false) (hparked : parked s = false)
    (hruns : lauterRuns s false = true) (hpaused : paused s = false) (hempty : s.ltr.reduced = []) (hsmall : b < 2 ^ 32) (hdim : tb.dim = 32)
    (hset : setOfTable s r.target = some (k, rs)) (hnew : s.ltr.repDone.get false (2 ^ 17 * r.target + (r.first + b)) = false)
    (hlen : bs.length = 136) (hp : leAt bs 0 2 ≠ 0) (hnan : natBit 0 (leAt bs 4 1) = false) (ha : a = repAddr s tb (r.first + b))
    (hold : old = rawBytes s a tb.recLen) (hstep : recStep old < s.sch.step)
    (hrow : rowUpdate r.target (replicaRow tb (r.first + b)) s.sch.step tb rs (etaOf s rs s.sch.step) (clipUnit rs (wordsAt bs 8 32)).1 old = some rec)
    (hhigh : a + tb.recLen ≤ 0x8000000000) (hrec : a + rec.length ≤ 0x8000000000) (hs : Whole s) (hw : s.mem.wf = true) :
    rawBytes (reducedBlock g b bs false s) a rec.length = rec ∧
      (∀ y, y < a ∨ a + rec.length ≤ y → rawByte (reducedBlock g b bs false s) y = rawByte s y) ∧
      (reducedBlock g b bs false s).ltr.repDone.get false (2 ^ 17 * r.target + (r.first + b)) = true := by
  subst ha
  have hne : bs ≠ [] := List.ne_nil_of_length_pos (by omega)
  have hpad : padTo 136 bs = bs := by rw [padTo_of_length_le (by omega), hlen]; simp [zeros]
  rw [reducedBlock_present hr htable hreplica hmember hb hskip hparked hpaused, hpad]
  have hreduced : (withReduced (2 ^ 32 * g + b) bs s).ltr.reduced = [(2 ^ 32 * g + b, bs)] := by
    rw [withReduced, State.onLtr_ltr, hempty, Tab.set, if_neg hne]
    rfl
  rw [applyReplicas_singleton (s := withReduced (2 ^ 32 * g + b) bs s) hruns hreduced hsmall hr htable, replicaPos_of_one hdim]
  have hget : (withReduced (2 ^ 32 * g + b) bs s).ltr.reduced.get [] (2 ^ 32 * r.group + b) = bs := by
    rw [hreduced, reductionDef_group hr]
    exact if_pos rfl
  obtain ⟨hmem, hgrn, hdone⟩ := applyReplica_of_gathered (gathered_of_one (r := r) hdim hget hne)
  have hbytes : old = rawBytes (withReduced (2 ^ 32 * g + b) bs s) (repAddr s tb (r.first + b)) tb.recLen :=
    hold.trans (rawBytes_onLtr ..).symm
  obtain ⟨hcells, hgrn', hmarked⟩ := updateReplica_of_gradient (s := withReduced (2 ^ 32 * g + b) bs s) (pos := r.first + b)
    ⟨hs.poison, hs.withdrawn⟩ hset hnew hp hnan hbytes hstep hrow hhigh hrec
  rw [← congrArg Memory.cells hmem] at hcells
  rw [← hgrn] at hgrn'
  rw [← hdone] at hmarked
  refine ⟨rawBytes_of_putBytes (s := s) hcells hw hrec, fun y hy => ?_, hmarked⟩
  unfold rawByte
  rw [hgrn', get_of_putBytes_outside (s := s) hcells hw hy]
  rfl

/-! ### CONTRIB_ARRIVAL -/

section
variable {rank : Nat} {bs : List Byte} {r : ReductionDef} {x : Reduce} (hr : reductionDef s r.group = some r) (howner : r.owner = s.rank)
  (hmember : r.members.contains rank = true) (hnew : s.ltr.taken.get false (65536 * r.group + rank) = false) (hskip : s.sch.skip = false)
  (hparked : parked s = false) (hpaused : paused s = false) (hone : r.blocks = 1) (hx : x = s.ltr.reduce.get {} (2 ^ 32 * r.group))
  (hfew : x.present + x.absent + 1 < r.members.length)
include hr howner hmember hnew hskip hparked hpaused hone hx hfew

/-- A malformed contribution of a group that still waits for members counts absent, with its bit. -/
theorem contribArrival_malformed_waits (hother : rank ≠ s.rank) (hbad : contribOk r rank bs = false) :
    (contribArrival r.group rank bs [] s).ltr.taken.get false (65536 * r.group + rank) = true ∧
      (contribArrival r.group rank bs [] s).ltr.reduce.get {} (2 ^ 32 * r.group) = { x with absent := x.absent + 1 } ∧
      stickyBit (contribArrival r.group rank bs [] s) 7 10 = true ∧ (contribArrival r.group rank bs [] s).mem = s.mem := by
  obtain ⟨v, hv⟩ : ∃ v, v = event 7 10 0x73 [s.sch.step, s.sch.epoch, r.group] s := ⟨_, rfl⟩
  have hltr : v.ltr = s.ltr := hv ▸ event_ltr ..
  have hsum := reduce_counted (r := r) (rank := rank) (bs := none) v
  rw [hltr, ← hx] at hsum
  rw [contribArrival_malformed hr howner hmember hnew hskip hparked hother hbad, ← hv,
    takeContrib_waits hone (by rw [hv, paused_event, hpaused]) (by rw [hltr, hx]) hfew]
  exact ⟨taken_counted v, hsum, hv ▸ stickyBit_event_self .., hv ▸ event_mem ..⟩

/-- The module's own contribution, of a group that still waits for members, is read from its place under its slots' K. -/
theorem contribArrival_own_waits (hself : rank = s.rank) (harmed : s.sch.unarmed = false) (hhigh : r.srcBase + contribHead r + 33 ≤ 0x8000000000)
    (hs : Whole s) :
    (contribArrival r.group rank bs [] s).ltr.taken.get false (65536 * r.group + rank) = true ∧
      (contribArrival r.group rank bs [] s).ltr.reduce.get {} (2 ^ 32 * r.group) = reduceAdd (some (contribVals r
        (contribWords r s.rank (segmentKs s r) ++ rawBytes s (r.srcBase + contribHead r) 33) 0)) x ∧
      (contribArrival r.group rank bs [] s).mem.cells = s.mem.cells := by
  subst hself
  obtain ⟨v, hcache, hown⟩ := takeOwn_of_one (r := r) hs hone hhigh harmed
  have hltr : v.ltr = s.ltr := by rw [hcache]
  have hsum := reduce_counted (r := r) (rank := s.rank)
    (bs := some (contribWords r s.rank (segmentKs s r) ++ rawBytes s (r.srcBase + contribHead r) 33)) v
  rw [hltr, ← hx] at hsum
  rw [contribArrival_of_member hr howner hmember hnew hskip hparked, if_pos rfl, hown,
    takeContrib_waits hone ((paused_of_cache hcache).trans hpaused) (by rw [hltr, hx]) hfew]
  exact ⟨taken_counted v, hsum, (SameBytes.of_cache hcache).cells⟩

end

end Sys2Proof.Machine
end

section
/-! PROOFS. O52: an update is applied once. -/

namespace Sys2Proof.Machine

/-- What holds of both banks holds of a tensor's current bank and of the other one. -/
theorem both_banks {P : Nat → Prop} {c : Nat} (hc : c ≤ 1) (h0 : P 0) (h1 : P 1) : P c ∧ P (1 - c) := by
  obtain rfl | rfl : c = 0 ∨ c = 1 := by omega
  · exact ⟨h0, h1⟩
  · exact ⟨h1, h0⟩

/-- Settles O52: an update's record is one write where it belongs, a slot, a replica or a member already done or heard changes no byte, and
contributions are sums of exact values. -/
theorem updatesAreAppliedOnce : Obligations.UpdatesAreAppliedOnce := by
  unfold Obligations.UpdatesAreAppliedOnce
  refine ⟨?dense, ?denseDone, ?row, ?dist, ?replica, ?heard, ?contrib, ?norm, ?order⟩
  case dense =>
    rintro tn j s d rs x b raw old u o hd hrs rfl howns hruns hopen hfrozen hlate hdeferred hblock hsums hrule hmode hgrad rfl hbank hold hstep
      _ hpoison hin h0 h1 _ hbanks hstreams hcopies hu hfin hcopy hw
    obtain ⟨hfrom, hto⟩ := both_banks (P := fun c => denseAddr d c j + 512 ≤ 0x8000000000) hbank h0 h1
    obtain ⟨hcopyFrom, hcopyTo⟩ := both_banks (P := fun c => d.wc (1 - (s.tensor tn.toNat).half) + (j + 1) * d.wcBytes ≤ denseAddr d c j ∨
      denseAddr d c j + 512 ≤ d.wc (1 - (s.tensor tn.toNat).half) + j * d.wcBytes) hbank (hcopies 0 (by simp)) (hcopies 1 (by simp))
    have happart : denseAddr d (s.tensor tn.toNat).bank j + 512 ≤ denseAddr d (1 - (s.tensor tn.toNat).bank) j ∨
        denseAddr d (1 - (s.tensor tn.toNat).bank) j + 512 ≤ denseAddr d (s.tensor tn.toNat).bank j := by
      obtain hc | hc : (s.tensor tn.toNat).bank = 0 ∨ (s.tensor tn.toNat).bank = 1 := by omega
      · rw [hc]
        exact hbanks
      · rw [hc]
        exact hbanks.symm
    exact ⟨_, rfl, denseUpdate_writes hd hrs howns hruns hopen hfrozen hlate hdeferred hblock hsums hrule hmode hgrad hold hstep ⟨hpoison, hin⟩ hw
      hfrom hto happart hstreams hcopyFrom hcopyTo hu hfin hcopy⟩
  case denseDone =>
    intro tn j s d rs hd hrs howns hruns hdone
    exact congrArg Host.Outcome.next (denseUpdate_of_done hd hrs howns hruns hdone)
  case row =>
    intro tn k s tb e p w htable he hstep hlast hruns hopened hused hpresent hword
    have hwalks : Walks s tn.toNat k tb e p := ⟨htable, (walkEntry_of_current hlast).trans he.symm, hstep, hruns, hopened, hused, hpresent⟩
    refine ⟨fun hdone => ⟨_, rfl, embeddingUpdate_of_done hwalks hdone⟩,
      fun hnew hbefore => congrArg Host.Outcome.next (embeddingUpdate_before hwalks hnew hbefore), fun hnew hlower => ⟨fun huntouched => ?_, ?_⟩⟩
    · exact ⟨_, rfl, hstep ▸ embeddingUpdate_untouched hwalks hnew hlower (hword ▸ huntouched)⟩
    · intro n rs r raw old bs a htouched hclean hset hp ha hr hsat hbad hraw hold hrec hrow hhigh hbs hpoison hin hw
      have hwrites := embeddingUpdate_writes hwalks hnew hlower (hword ▸ htouched) (hword ▸ hclean) hset hp (hword ▸ ha) hr hsat hbad hraw hold hrec
        (hword ▸ hrow) hhigh hbs ⟨hpoison, hin⟩ hw
      rw [hstep] at hwrites
      exact ⟨_, rfl, hwrites⟩
  case dist =>
    rintro tn o first n bs s d a hd howner hother hskip rfl hn
    refine ⟨⟨_, congrArg Host.Outcome.next (distArrival_absent hd howner hother hskip), ?_, rfl⟩, fun hpos hhigh hin hw =>
      ⟨_, rfl, distArrival_stores hd howner hother hskip hn hpos hhigh hin hw⟩⟩
    rw [tensor_onTensor (Tensor.ne_empty_of_absent (Tab.set_true_ne_nil _ _))]
    exact Tab.get_set_of_ne false (s.tensor tn.toNat).absent o true (by decide)
  case replica =>
    intro g b bs s r tb hr htable hreplica hmember hb hskip hparked
    refine ⟨?_, fun hidle hpaused => ?_, ?_⟩
    · refine ⟨_, congrArg Host.Outcome.next (reducedBlock_absent hr htable hreplica hmember hb hskip hparked), stickyBit_event_self .., ?_, ?_⟩
      · exact event_mem ..
      · exact event_ltr ..
    · refine congrArg Host.Outcome.next ((reducedBlock_present hr htable hreplica hmember hb hskip hparked hpaused).trans ?_)
      exact applyReplicas_of_idle hidle
    · intro n rs a old rec hruns hpaused hempty hsmall hdim hset hnew hlen hp hnan ha hold hstep hrow hhigh hrec hpoison hin hw
      exact ⟨_, rfl, reducedBlock_writes hr htable hreplica hmember hb hskip hparked hruns hpaused hempty hsmall hdim hset hnew hlen hp hnan ha hold
        hstep hrow hhigh hrec ⟨hpoison, hin⟩ hw⟩
  case heard =>
    intro g rank bs ab s htaken
    exact congrArg Host.Outcome.next (contribArrival_of_taken htaken)
  case contrib =>
    intro g rank bs s r x hr howner hmember hnew hskip hparked hpaused hone hx
    obtain rfl := reductionDef_group hr
    refine ⟨fun hother hfew => ⟨fun hok _ => ?_, fun hbad => ?_⟩, fun hother hlast hok hdense hlate hfrozen hdone => ?_,
      fun hself hfew harmed hhigh hpoison hin => ?_⟩
    · have hexec := (contribArrival_sound hr howner hmember hnew hskip hparked hother hok).trans (takeContrib_waits hone hpaused hx hfew)
      exact ⟨_, congrArg Host.Outcome.next hexec, taken_counted s, hx ▸ reduce_counted s, rfl⟩
    · exact ⟨_, rfl, contribArrival_malformed_waits hr howner hmember hnew hskip hparked hpaused hone hx hfew hother hbad⟩
    · have hexec := contribArrival_sound hr howner hmember hnew hskip hparked hother hok
      obtain ⟨hmem, hblock⟩ := takeContrib_completes (rank := rank) (bs := some bs) hone hpaused hx hlast hdense hlate hfrozen hdone
      exact ⟨_, congrArg Host.Outcome.next hexec, hblock, hmem⟩
    · exact ⟨_, rfl, contribArrival_own_waits hr howner hmember hnew hskip hparked hpaused hone hx hfew hself harmed hhigh ⟨hpoison, hin⟩⟩
  case norm =>
    intro k q n s rs d hrs hmode htensors hlate hruns hnone
    obtain ⟨hmem, hfactor⟩ := normReduction_factor (q := q) hrs hmode htensors hlate hruns hnone
    exact ⟨⟨_, rfl, hfactor, hmem⟩, fun hn => congrArg Host.Outcome.next (normReduction_saturated hrs hmode htensors hlate hruns hnone hn)⟩
  case order =>
    intro u v x hu hv hsums hnans
    exact ⟨reduceAdd_comm hu hv hsums hnans, rfl⟩

end Sys2Proof.Machine
end

section
/-! SUPPORT. The cellar (06_memory_tiers.md R120, R124, R126): what a read of any length answers and a write of any length stores there. -/

namespace Sys2Proof.Machine

open Sys2Proof.Obl (SameButCache)

variable {s t : State}

/-! ### A cellar without poison, lost dies and withdrawn frames -/

theorem locate_of_cellar {a : Nat} (hlow : cellarBase ≤ a) (hhigh : a < 0x3FC00000000) : locate a = .cellar := by
  unfold cellarBase at hlow
  unfold locate
  rw [if_neg (by omega), if_neg (by omega), if_neg (by omega), if_neg (by omega), if_neg (by omega), if_neg (by omega), if_pos hhigh]

/-- No block of the cellar is poisoned, no die is lost and no frame is withdrawn. -/
structure WholeCellar (s : State) : Prop where
  poison : s.mem.kilnPoison = []
  dies : s.mem.dieLost = []
  withdrawn : s.mem.withdrawn = []

theorem WholeCellar.of_cache (hs : WholeCellar s) (h : SameButCache s t) : WholeCellar t :=
  ⟨(SameButCache.staysClean h).kiln hs.poison, (SameButCache.staysClean h).dies.trans hs.dies, (SameBytes.of_cache h).withdrawn.trans hs.withdrawn⟩

theorem refuses_of_cellar (hin : s.mem.withdrawn = []) {a : Nat} (hloc : locate a = .cellar) (req : Nat) (write : Bool) :
    refuses s req a write = false := by
  rw [refuses, hloc, hin]
  rfl

/-! ### Reads -/

theorem readsPlain_lineRead_cellar (hs : WholeCellar s) {req a : Nat} {h : Hint} (n : Nat) (hloc : locate a = .cellar) :
    ReadsPlain s a n (lineRead req h a n s) := by
  have hcache := sameButCache_maltTouch h false false a s
  have hclean : poisonedAt (maltTouch h false false a s) a = false := by
    rw [poisonedAt_congr hcache, poisonedAt, hloc, hs.poison, hs.dies]
    rfl
  unfold lineRead
  dsimp only
  rw [hclean]
  exact ⟨hcache, rfl⟩

theorem readsPlain_linesRead_cellar (hs : WholeCellar s) {req v a n : Nat} {h : Hint} {ls : List (Nat × Nat)} (hcut : Cut v ls a n)
    (hlow : cellarBase ≤ a) (hhigh : a + n ≤ 0x3FC00000000) : ReadsPlain s a n (linesRead req h ls s) := by
  induction hcut generalizing s with
  | nil a => exact ⟨sameButCache_refl s, rfl⟩
  | @cons a k n ls hpos hfits hrest ih =>
    have hline := readsPlain_lineRead_cellar hs (req := req) (h := h) k (locate_of_cellar hlow (by omega))
    exact hline.append (ih (hs.of_cache hline.state) (by omega) (by omega))

theorem readsPlain_requestRead_cellar (hs : WholeCellar s) {req a n : Nat} {h : Hint} (hlow : cellarBase ≤ a) (hin : a < 0x3FC00000000)
    (hhigh : a + n ≤ 0x3FC00000000) : ReadsPlain s a n (requestRead req h a n s) := by
  have hloc := locate_of_cellar hlow hin
  unfold requestRead
  rw [refuses_of_cellar hs.withdrawn hloc, if_neg Bool.false_ne_true, hloc]
  exact readsPlain_linesRead_cellar hs (cut_lines a n) hlow hhigh

/-- A read wholly in the cellar. -/
theorem readsPlain_devRead_cellar (hs : WholeCellar s) {req a n : Nat} {h : Hint} (hlow : cellarBase ≤ a) (hhigh : a + n ≤ 0x3FC00000000) :
    ReadsPlain s a n (devRead req h a n s) := by
  unfold devRead
  have hcut := cut_requests a n
  generalize requests a n = rs at hcut
  induction hcut generalizing s with
  | nil a => exact ⟨sameButCache_refl s, rfl⟩
  | @cons a k n rs hpos hfits hrest ih =>
    have hfirst := readsPlain_requestRead_cellar hs (req := req) (h := h) (n := k) hlow (by omega) (by omega)
    exact hfirst.append (ih (hs.of_cache hfirst.state) (by omega) (by omega))

/-! ### Writes -/

/-- The rest of a run of bytes stored behind its first k. -/
theorem Stored.rest {u : State} {a k : Nat} {bs : List Byte} (h : Stored s t a (bs.take k)) (hk : k ≤ bs.length)
    (hrest : Stored t u (a + k) (bs.drop k)) : Stored s u a bs := by
  have hall := h.append hrest (by rw [List.length_take, Nat.min_eq_left hk])
  rwa [List.take_append_drop] at hall

theorem stored_lineWrite_of_dies (hdies : s.mem.dieLost = []) {h : Hint} {whole : Bool} {a : Nat} {bs : List Byte} :
    Stored s (lineWrite h whole a bs s) a bs := by
  have hkept : ((locate a == .cellar) && s.mem.dieLost.get false ((channelOf s a - 128) / 64)) = false := by
    rw [hdies]
    exact Bool.and_false _
  unfold lineWrite
  rw [hkept, if_neg Bool.false_ne_true]
  dsimp only
  split
  · exact ⟨by simpa using Memory.putBytes_cells_congr (maltTouch_cells ..),
      by simp [Memory.setPoison_withdrawn, Memory.putBytes_withdrawn], by simp, by simp, by simp⟩
  · exact ⟨by simpa using Memory.putBytes_cells_congr (maltTouch_cells ..), by simp [Memory.putBytes_withdrawn], by simp, by simp, by simp⟩

theorem stored_linesWrite_of_dies (hdies : s.mem.dieLost = []) {v lo hi a n : Nat} {h : Hint} {ls : List (Nat × Nat)} {bs : List Byte}
    (hcut : Cut v ls a n) (hn : bs.length = n) : Stored s (linesWrite h lo hi ls bs s) a bs := by
  induction hcut generalizing bs s with
  | nil a =>
    obtain rfl := List.length_eq_zero_iff.mp hn
    exact .nil s a
  | cons hpos hfits hrest ih =>
    exact (stored_lineWrite_of_dies hdies).rest (by omega) (ih ((staysClean_lineWrite ..).dies.trans hdies) (by rw [List.length_drop]; omega))

theorem stored_requestWrite_cellar (hdies : s.mem.dieLost = []) (hin : s.mem.withdrawn = []) {req a : Nat} {h : Hint} {bs : List Byte}
    (hloc : locate a = .cellar) : Stored s (requestWrite req h a bs s) a bs := by
  unfold requestWrite
  rw [refuses_of_cellar hin hloc, hloc]
  exact stored_linesWrite_of_dies hdies (cut_lines a bs.length) rfl

/-- A write wholly in the cellar. -/
theorem stored_devWrite_cellar (hdies : s.mem.dieLost = []) (hin : s.mem.withdrawn = []) {req a : Nat} {h : Hint} {bs : List Byte}
    (hlow : cellarBase ≤ a) (hhigh : a + bs.length ≤ 0x3FC00000000) : Stored s (devWrite req h a bs s) a bs := by
  unfold devWrite
  have hcut := cut_requests a bs.length
  generalize hlen : bs.length = n at hcut hhigh
  generalize requests a n = rs at hcut
  induction hcut generalizing bs s with
  | nil a =>
    obtain rfl := List.length_eq_zero_iff.mp hlen
    exact .nil s a
  | @cons a k n rs hpos hfits hrest ih =>
    have hfirst : Stored s (requestWrite req h a (bs.take k) s) a (bs.take k) :=
      stored_requestWrite_cellar hdies hin (locate_of_cellar hlow (by omega))
    exact hfirst.rest (by omega) (ih ((staysClean_requestWrite ..).dies.trans hdies) (hfirst.withdrawn.trans hin) (by omega)
      (by rw [List.length_drop]; omega) (by omega))

/-- Bytes stored in the cellar are read back. -/
theorem Stored.rawBytes_cellar {a n : Nat} {bs : List Byte} (h : Stored s t a bs) (hn : bs.length = n) (hw : s.mem.wf = true)
    (hlow : cellarBase ≤ a) (hhigh : a + n ≤ 0x3FC00000000) : rawBytes t a n = bs := by
  subst hn
  refine h.rawBytes_eq hw fun x hx hlt o => ?_
  rw [locate_of_cellar (by omega) (by omega)]
  nofun

/-- Bytes stored in HBM are read back. -/
theorem Stored.rawBytes_hbm {a n : Nat} {bs : List Byte} (h : Stored s t a bs) (hn : bs.length = n) (hw : s.mem.wf = true)
    (hhigh : a + n ≤ 0x8000000000) : rawBytes t a n = bs := by
  subst hn
  exact rawBytes_of_putBytes h.cells hw hhigh

end Sys2Proof.Machine
end

section
/-! SUPPORT. The Cask store's accesses to memory (09_cask_store.md R207 to R210, R214, R223): what reading and writing leave alone, and an entry of
the page table written and read back. -/

namespace Sys2Proof.Machine

variable {s t u : State} {k : CaskDef}

/-! ### Beside the bytes of memory -/

/-- From s to t the Cask store's control, the plots, the schedule and the withdrawn frames are the same, and memory stays canonical. -/
structure BesideBytes (s t : State) : Prop where
  csk : t.csk = s.csk
  plots : t.plots = s.plots
  sch : t.sch = s.sch
  withdrawn : t.mem.withdrawn = s.mem.withdrawn
  wf : s.mem.wf = true → t.mem.wf = true

theorem BesideBytes.refl (s : State) : BesideBytes s s := ⟨rfl, rfl, rfl, rfl, id⟩

theorem BesideBytes.trans (h : BesideBytes s t) (g : BesideBytes t u) : BesideBytes s u :=
  ⟨g.csk.trans h.csk, g.plots.trans h.plots, g.sch.trans h.sch, g.withdrawn.trans h.withdrawn, fun hw => g.wf (h.wf hw)⟩

theorem BesideBytes.ite {c : Prop} {_ : Decidable c} (h : BesideBytes s t) (g : BesideBytes s u) : BesideBytes s (if c then t else u) := by
  split <;> assumption

theorem BesideBytes.fst {α : Type} {b : α} (h : BesideBytes s t) : BesideBytes s (t, b).1 := h

theorem BesideBytes.iteFst {α : Type} {c : Prop} {_ : Decidable c} {x y : State × α} (hx : BesideBytes s x.1) (hy : BesideBytes s y.1) :
    BesideBytes s (if c then x else y).1 := by
  split <;> assumption

theorem lineRead_withdrawn (req : Nat) (h : Hint) (a n : Nat) (s : State) : (lineRead req h a n s).1.mem.withdrawn = s.mem.withdrawn := by
  unfold lineRead
  dsimp only
  split
  · rw [poisonRead, event_mem, maltTouch_withdrawn]
  · exact maltTouch_withdrawn ..

theorem linesRead_withdrawn (req : Nat) (h : Hint) (ls : List (Nat × Nat)) (s : State) :
    (linesRead req h ls s).1.mem.withdrawn = s.mem.withdrawn := by
  induction ls generalizing s with
  | nil => rfl
  | cons x ls ih => exact (ih _).trans (lineRead_withdrawn ..)

theorem requestRead_withdrawn (req : Nat) (h : Hint) (a n : Nat) (s : State) : (requestRead req h a n s).1.mem.withdrawn = s.mem.withdrawn := by
  unfold requestRead
  split
  · rw [addrFault_mem]
  · split
    · exact linesRead_withdrawn ..
    · exact linesRead_withdrawn ..
    · unfold hostReadNow
      split
      · rfl
      · split <;> simp
    · rfl

theorem devRead_withdrawn (req : Nat) (h : Hint) (a n : Nat) (s : State) : (devRead req h a n s).1.mem.withdrawn = s.mem.withdrawn := by
  unfold devRead
  generalize requests a n = rs
  induction rs generalizing s with
  | nil => rfl
  | cons x rs ih => exact (ih _).trans (requestRead_withdrawn ..)

theorem lineWrite_withdrawn (h : Hint) (whole : Bool) (a : Nat) (bs : List Byte) (s : State) :
    (lineWrite h whole a bs s).mem.withdrawn = s.mem.withdrawn := by
  unfold lineWrite
  split
  · rfl
  · dsimp only
    split <;> simp [Memory.setPoison_withdrawn, Memory.putBytes_withdrawn]

theorem linesWrite_withdrawn (h : Hint) (lo hi : Nat) (ls : List (Nat × Nat)) (bs : List Byte) (s : State) :
    (linesWrite h lo hi ls bs s).mem.withdrawn = s.mem.withdrawn := by
  induction ls generalizing bs s with
  | nil => rfl
  | cons x ls ih => exact (ih _ _).trans (lineWrite_withdrawn ..)

theorem requestWrite_withdrawn (req : Nat) (h : Hint) (a : Nat) (bs : List Byte) (s : State) :
    (requestWrite req h a bs s).mem.withdrawn = s.mem.withdrawn := by
  unfold requestWrite
  split
  · rw [addrFault_mem]
  · split
    · exact linesWrite_withdrawn ..
    · exact linesWrite_withdrawn ..
    · rw [hostWrite_mem]
    · rw [dirWrite_mem]
    · exact Memory.putBytes_withdrawn ..

theorem devWrite_withdrawn (req : Nat) (h : Hint) (a : Nat) (bs : List Byte) (s : State) :
    (devWrite req h a bs s).mem.withdrawn = s.mem.withdrawn := by
  unfold devWrite
  generalize requests a bs.length = rs
  induction rs generalizing bs s with
  | nil => rfl
  | cons x rs ih => exact (ih _ _).trans (requestWrite_withdrawn ..)

theorem besideBytes_devRead (req : Nat) (h : Hint) (a n : Nat) (s : State) : BesideBytes s (devRead req h a n s).1 :=
  ⟨devRead_csk .., devRead_plots .., devRead_sch .., devRead_withdrawn .., (Keeps.refl s).devRead.mem⟩

theorem besideBytes_devWrite (req : Nat) (h : Hint) (a : Nat) (bs : List Byte) (s : State) : BesideBytes s (devWrite req h a bs s) :=
  ⟨devWrite_csk .., devWrite_plots .., devWrite_sch .., devWrite_withdrawn .., (Keeps.refl s).devWrite.mem⟩

theorem besideBytes_cskEvent (b slot c : Nat) (s : State) : BesideBytes s (cskEvent b slot c s) :=
  ⟨event_csk .., event_plots .., event_sch .., congrArg Memory.withdrawn (event_mem ..), (Keeps.refl s).cskEvent.mem⟩

theorem besideBytes_takeFree (w : Nat) (s : State) : BesideBytes s (s.takeFree w).2 := ⟨rfl, rfl, rfl, rfl, id⟩

theorem besideBytes_poisonCask (c : Nat) (s : State) : BesideBytes s (poisonCask k c s) :=
  BesideBytes.trans (.ite (.refl s) (besideBytes_devWrite ..)) (besideBytes_cskEvent ..)

@[simp] theorem rawByte_onCsk (f : Cask → Cask) (s : State) (x : Nat) : rawByte (s.onCsk f) x = rawByte s x :=
  rawByte_congr (s := s) (t := s.onCsk f) rfl rfl x

@[simp] theorem rawBytes_onCsk (f : Cask → Cask) (s : State) (a n : Nat) : rawBytes (s.onCsk f) a n = rawBytes s a n :=
  rawBytes_congr fun x _ _ => rawByte_onCsk f s x

@[simp] theorem rawBytes_countCsk (i m : Nat) (s : State) (a n : Nat) : rawBytes (countCsk i m s) a n = rawBytes s a n := rawBytes_onCsk ..

@[simp] theorem page_onCsk (f : Cask → Cask) (s : State) (c : Nat) : page (s.onCsk f) k c = page s k c := by
  rw [page, page, rawNat, rawNat, rawBytes_onCsk]

@[simp] theorem page_countCsk (i m : Nat) (s : State) (c : Nat) : page (countCsk i m s) k c = page s k c := page_onCsk ..

/-! ### Casks read (R213, R219) -/

theorem besideBytes_caskRead (c : Nat) (s : State) : BesideBytes s (caskRead k c s).1 := by
  unfold caskRead
  exact .iteFst (besideBytes_cskEvent ..) (.iteFst ((besideBytes_devRead ..).trans (besideBytes_poisonCask ..)) (besideBytes_devRead ..))

theorem besideBytes_partCasks (cs : List Nat) (s : State) : BesideBytes s (partCasks k cs s).1 := by
  induction cs generalizing s with
  | nil => exact .refl s
  | cons c cs ih =>
    unfold partCasks
    dsimp only
    split <;> exact (besideBytes_caskRead c s).trans (ih _)

theorem besideBytes_linkedPart (cs : List Nat) (part : Nat) (s : State) : BesideBytes s (linkedPart k cs part s).1 :=
  (besideBytes_partCasks ..).fst

theorem besideBytes_steepBytes (slot l : Nat) (s : State) : BesideBytes s (steepBytes k slot l s).1 := (besideBytes_devRead ..).fst

theorem besideBytes_ownPart (n l pos : Nat) (s : State) : BesideBytes s (ownPart k n l pos s).1 := by
  unfold ownPart
  -- The parts stay a variable, or the kernel would compute them from memory.
  obtain ⟨parts, hparts⟩ : ∃ f, partsOf s = f := ⟨_, rfl⟩
  rw [hparts]
  split
  · exact .fst (.refl s)
  · split
    · exact .fst (.refl s)
    · dsimp only
      split
      · exact (besideBytes_linkedPart ..).fst
      · split
        · exact (besideBytes_steepBytes ..).fst
        · exact .fst (.refl s)

theorem besideBytes_guestPart (home slot l pos : Nat) (s : State) : BesideBytes s (guestPart k home slot l pos s).1 := by
  unfold guestPart
  obtain ⟨parts, hparts⟩ : ∃ f, partsOf s = f := ⟨_, rfl⟩
  rw [hparts]
  dsimp only
  split
  · exact (besideBytes_linkedPart ..).fst
  · exact .fst (.refl s)

theorem besideBytes_imageCasks (slot a n : Nat) (cs : List Nat) (s : State) : BesideBytes s (imageCasks k slot a n cs s).1 := by
  induction n generalizing a cs s with
  | zero => exact .refl s
  | succ n ih =>
    unfold imageCasks
    refine .iteFst ((besideBytes_takeFree ..).trans (ih ..)) ?_
    split
    · exact .refl s
    · exact (besideBytes_caskRead ..).trans (ih ..)

theorem besideBytes_imageLayer (slot l : Nat) (s : State) : BesideBytes s (imageLayer k slot l s).1 :=
  (besideBytes_imageCasks ..).trans (besideBytes_devRead ..)

theorem besideBytes_imageLayers (slot : Nat) (ls : List Nat) (s : State) : BesideBytes s (imageLayers k slot ls s).1 := by
  induction ls generalizing s with
  | nil => exact .refl s
  | cons l ls ih =>
    unfold imageLayers
    exact (besideBytes_imageLayer ..).trans (ih _)

/-! ### Entries of the page table (Table 09.3) -/

/-- Every field of the entry fits its place. -/
structure Page.Fits (p : Page) : Prop where
  next : p.next < 2 ^ 21
  layer : p.layer < 2 ^ 3
  slot : p.slot < 2 ^ 11
  state : p.state < 2 ^ 2
  loc : p.loc < 2 ^ 2
  abs : p.abs < 2 ^ 28
  frame : p.frame < 2 ^ 21

theorem Page.fits_ofWord (w : Nat) : (Page.ofWord w).Fits :=
  ⟨natBits_lt .., natBits_lt .., natBits_lt .., natBits_lt .., natBits_lt .., natBits_lt .., natBits_lt ..⟩

theorem b2n_le_one (b : Bool) : b2n b ≤ 1 := by cases b <;> decide

theorem decide_b2n (b : Bool) : (b2n b == 1) = b := by cases b <;> rfl

theorem Page.word_lt {p : Page} (h : p.Fits) : p.word < 256 ^ 16 := by
  obtain ⟨hnext, hlayer, hslot, hstate, hloc, habs, hframe⟩ := h
  have hpoison := b2n_le_one p.poison
  have hlast := b2n_le_one p.last
  unfold Page.word
  omega

/-- An entry whose fields fit is spelt by its word. -/
theorem Page.ofWord_word {p : Page} (h : p.Fits) : Page.ofWord p.word = p := by
  obtain ⟨hnext, hlayer, hslot, hstate, hloc, habs, hframe⟩ := h
  obtain ⟨next, layer, slot, state, loc, poison, last, abs, frame⟩ := p
  dsimp only at hnext hlayer hslot hstate hloc habs hframe
  have hpoison := b2n_le_one poison
  have hlast := b2n_le_one last
  simp only [Page.ofWord, Page.word, natBits, natBit, Nat.shiftRight_eq_div_pow, Page.mk.injEq]
  refine ⟨?_, ?_, ?_, ?_, ?_, (congrArg (· == 1) ?_).trans (decide_b2n poison), (congrArg (· == 1) ?_).trans (decide_b2n last), ?_, ?_⟩
  all_goals omega

/-- An entry written in HBM is read back. -/
theorem page_of_stored {c : Nat} {p : Page} (h : Stored s t (pageAt k c) (leBytes 16 p.word)) (hp : p.Fits) (hw : s.mem.wf = true)
    (hhigh : pageAt k c + 16 ≤ 0x8000000000) : page t k c = p := by
  rw [page, rawNat, h.rawBytes_hbm (leBytes_length ..) hw hhigh, leNat_leBytes, Nat.mod_eq_of_lt (Page.word_lt hp), Page.ofWord_word hp]

end Sys2Proof.Machine
end

section
/-! SUPPORT. TOKEN_APPEND (09_cask_store.md R208, R214, R221): a token's key and value in their rows of the steep buffer, and the flush of a cask that
another member keeps. -/

namespace Sys2Proof.Machine

variable {s t : State} {k : CaskDef}

/-! ### What a slot does in the step -/

theorem useOf_congr (h : t.csk = s.csk) (slot : Nat) : useOf t slot = useOf s slot := by
  rw [useOf, h, useOf]

/-- A use changed to one that is listed reads back. -/
theorem useOf_onUse {slot : Nat} {f : SeqUse → SeqUse} (h : f (useOf s slot) ≠ {}) : useOf (onUse slot f s) slot = f (useOf s slot) :=
  (Tab.get_modify_of_ne h slot).trans (if_pos rfl)

theorem SeqUse.ne_empty_of_written {u : SeqUse} (h : u.written ≠ []) : u ≠ {} := fun he => h (congrArg SeqUse.written he)

theorem SeqUse.ne_empty_of_flushed {u : SeqUse} (h : u.flushed ≠ []) : u ≠ {} := fun he => h (congrArg SeqUse.flushed he)

/-! ### Where the steep buffers lie -/

theorem CaskDef.le_place (k : CaskDef) (base f : Nat) : base ≤ k.place base f := by
  rw [CaskDef.place, Nat.add_assoc]
  exact Nat.le_add_right ..

/-- The steep buffers follow the sequence table. -/
theorem seqAt_add_le_steepAt {slot : Nat} (h : slot < 2048) (slot' l b : Nat) : seqAt k slot + 64 ≤ steepAt k slot' l b := by
  have hplace := k.le_place (k.metaBase + 16 * caskLimit + 64 * 2048) ((slot' * k.layers + l) * 2 + b)
  unfold seqAt steepAt
  omega

/-! ### A token written -/

theorem padTo_of_length_eq {bs : List Byte} {n : Nat} (h : bs.length = n) : padTo n bs = bs := by
  rw [padTo_of_length_le h.le, h, Nat.sub_self]
  exact List.append_nil bs

/-- A token's key and value written in row p of each half of the steep buffer at a, and counted. -/
def putToken (k : CaskDef) (slot l a p : Nat) (key val : List Byte) (s : State) : State :=
  onUse slot (fun u => { u with written := u.written.set 0 l ((useOf s slot).written.get 0 l + 1) })
    (devWrite reqCask .none (a + (16 + p) * k.row) val (devWrite reqCask .none (a + p * k.row) key s))

/-- What writing a token does: its rows hold the key and the value, no other byte changes, and the layer counts it. -/
structure TokenPut (k : CaskDef) (slot l a p : Nat) (key val : List Byte) (s t : State) : Prop where
  key : rawBytes t (a + p * k.row) k.row = key
  val : rawBytes t (a + (16 + p) * k.row) k.row = val
  outside : ∀ x, (x < a + p * k.row ∨ a + (p + 1) * k.row ≤ x) → (x < a + (16 + p) * k.row ∨ a + (17 + p) * k.row ≤ x) →
    rawByte t x = rawByte s x
  written : (useOf t slot).written.get 0 l = (useOf s slot).written.get 0 l + 1
  plots : t.plots = s.plots
  hk : t.hk = s.hk
  sch : t.sch = s.sch

theorem tokenPut_putToken {slot l a p : Nat} {key val : List Byte} (hp : p < 16) (hkey : key.length = k.row) (hval : val.length = k.row)
    (hhigh : a + 32 * k.row ≤ 0x8000000000) (hin : s.mem.withdrawn = []) (hw : s.mem.wf = true) :
    TokenPut k slot l a p key val s (putToken k slot l a p key val s) := by
  have hrow : p * k.row ≤ 15 * k.row := Nat.mul_le_mul_right _ (by omega)
  have hnext : (p + 1) * k.row = p * k.row + k.row := Nat.add_one_mul ..
  have hvalRow : (16 + p) * k.row = 16 * k.row + p * k.row := Nat.add_mul ..
  have hvalNext : (17 + p) * k.row = 17 * k.row + p * k.row := Nat.add_mul ..
  have hfirst := stored_devWrite_of_whole (s := s) hin (req := reqCask) (h := .none) (a := a + p * k.row) (bs := key) (by omega)
  have hcsk : (devWrite reqCask .none (a + p * k.row) key s).csk = s.csk := devWrite_csk ..
  have hsch : (devWrite reqCask .none (a + p * k.row) key s).sch = s.sch := devWrite_sch ..
  unfold putToken
  generalize devWrite reqCask .none (a + p * k.row) key s = v at hfirst hcsk hsch
  have hsecond := stored_devWrite_of_whole (s := v) (hfirst.withdrawn.trans hin) (req := reqCask) (h := .none) (a := a + (16 + p) * k.row)
    (bs := val) (by omega)
  have hcsk' : (devWrite reqCask .none (a + (16 + p) * k.row) val v).csk = v.csk := devWrite_csk ..
  have hsch' : (devWrite reqCask .none (a + (16 + p) * k.row) val v).sch = v.sch := devWrite_sch ..
  generalize devWrite reqCask .none (a + (16 + p) * k.row) val v = w at hsecond hcsk' hsch'
  have hwv := hfirst.wf hw
  have huse : useOf w slot = useOf s slot := useOf_congr (hcsk'.trans hcsk) slot
  have hmem (f : SeqUse → SeqUse) (x : Nat) : rawByte (onUse slot f w) x = rawByte w x := rawByte_onCsk ..
  refine ⟨?_, ?_, fun x hx hx' => ?_, ?_, hsecond.plots.trans hfirst.plots, hsecond.hk.trans hfirst.hk, hsch'.trans hsch⟩
  · rw [rawBytes_congr fun x _ _ => (hmem _ x).trans (hsecond.rawByte_outside hwv (by omega)), hfirst.rawBytes_hbm hkey hw (by omega)]
  · rw [rawBytes_congr fun x _ _ => hmem _ x, hsecond.rawBytes_hbm hval hwv (by omega)]
  · rw [hmem, hsecond.rawByte_outside hwv (by omega), hfirst.rawByte_outside hw (by omega)]
  · rw [useOf_onUse (SeqUse.ne_empty_of_written (Tab.set_ne_nil _ _ (Nat.succ_ne_zero _)))]
    exact Tab.get_set_of_ne _ _ _ _ (Nat.succ_ne_zero _)

/-- The sequence table does not change. -/
theorem TokenPut.seqTokens_eq {slot slot' l b p : Nat} {key val : List Byte} (h : TokenPut k slot l (steepAt k slot' l b) p key val s t)
    (hslot : slot < 2048) : seqTokens t k slot = seqTokens s k slot := by
  have hbefore := seqAt_add_le_steepAt (k := k) hslot slot' l b
  refine congrArg leNat (rawBytes_congr fun x _ hx => h.outside x ?_ ?_) <;> exact .inl (by omega)

/-! ### The flush of a cask that another member keeps -/

/-- A flush of layer l whose cask another member keeps. -/
def SeqUse.flushAway (l : Nat) (u : SeqUse) : SeqUse := { u with flushed := u.flushed.set 0 l (caskLimit + 1) }

/-- A slot's layer flushed so, and counted. -/
def flushAway (slot l : Nat) (s : State) : State := countCsk 1 1 (onUse slot (SeqUse.flushAway l) s)

theorem flushCask_of_held {slot : Nat} (l buf : Nat) (h : (caskHolder s k slot (seqTokens s k slot / 16)).isSome = true) :
    flushCask k slot l buf s = flushAway slot l s := by
  unfold flushCask
  dsimp only
  rw [if_pos h]
  rfl

theorem useOf_flushAway (slot l : Nat) (s : State) : useOf (flushAway slot l s) slot = (useOf s slot).flushAway l :=
  useOf_onUse (SeqUse.ne_empty_of_flushed (Tab.set_ne_nil _ _ (Nat.succ_ne_zero _)))

theorem rawBytes_flushAway (slot l : Nat) (s : State) (a n : Nat) : rawBytes (flushAway slot l s) a n = rawBytes s a n :=
  (rawBytes_countCsk ..).trans (rawBytes_onCsk ..)

theorem caskHolder_congr (h : t.sch = s.sch) (slot a : Nat) : caskHolder t k slot a = caskHolder s k slot a := by
  have hrank : t.rank = s.rank := by rw [State.rank, h, State.rank]
  rw [caskHolder, hrank, caskHolder]

/-! ### The command -/

theorem exec_tokenAppend_of_full {sl : Fin 2048} {l : Fin 8} (key val : List Byte) (h : (useOf s sl).new ≤ (useOf s sl).written.get 0 l) :
    exec (.tokenAppend sl l key val) s = .next s := by
  change Host.Outcome.next (tokenAppend sl l key val s) = _
  unfold tokenAppend
  split
  · rfl
  · dsimp only
    rw [if_pos (by simp [h])]

section
variable {sl : Fin 2048} {l : Fin 8} {p a : Nat} {key val : List Byte} (hk : caskDef s = some k) (hsound : (useOf s sl).faulty = false)
  (hl : l.val < k.layers) (hnew : (useOf s sl).written.get 0 l < (useOf s sl).new) (hopen : seqState s k sl = 1) (hissues : issues s = true)
  (hp : p = seqTokens s k sl % 16 + (useOf s sl).written.get 0 l) (ha : a = steepAt k sl l (seqSteep s k sl l))
  (hkey : key.length = k.row) (hval : val.length = k.row)
include hk hsound hl hnew hopen hissues hp ha hkey hval

/-- An append below position 16: the token put, and the buffer flushed with its last row. -/
theorem exec_tokenAppend (hlt : p < 16) : exec (.tokenAppend sl l key val) s = .next (if p = 15
    then flushCask k sl l (seqSteep s k sl l) (putToken k sl l a p key val s) else putToken k sl l a p key val s) := by
  have hruns : ((useOf s sl).faulty || decide (k.layers ≤ l.val) || decide ((useOf s sl).new ≤ (useOf s sl).written.get 0 l) ||
      seqState s k sl != 1 || !issues s) = false := by
    simp [hsound, hopen, hissues]
    omega
  subst ha
  change Host.Outcome.next (tokenAppend sl l key val s) = _
  unfold tokenAppend
  rw [hk]
  dsimp only
  rw [hruns, if_neg Bool.false_ne_true, ← hp, if_pos hlt, Nat.mod_eq_of_lt hlt, padTo_of_length_eq hkey, padTo_of_length_eq hval]
  rfl

theorem exec_tokenAppend_of_room (hlt : p < 15) : exec (.tokenAppend sl l key val) s = .next (putToken k sl l a p key val s) := by
  rw [exec_tokenAppend hk hsound hl hnew hopen hissues hp ha hkey hval (by omega), if_neg (by omega)]

/-- The last row of a cask that another member keeps. -/
theorem exec_tokenAppend_of_held (hlast : p = 15) (hput : TokenPut k sl l a p key val s (putToken k sl l a p key val s))
    (hheld : (caskHolder s k sl (seqTokens s k sl / 16)).isSome = true) :
    exec (.tokenAppend sl l key val) s = .next (flushAway sl l (putToken k sl l a p key val s)) := by
  rw [exec_tokenAppend hk hsound hl hnew hopen hissues hp ha hkey hval (by omega), if_pos hlast, flushCask_of_held]
  subst ha
  rwa [hput.seqTokens_eq sl.isLt, caskHolder_congr hput.sch]

end

end Sys2Proof.Machine
end

section
/-! SUPPORT. SPILL and PREFETCH (09_cask_store.md R217): a cask copied to its spill address, and back into a window frame. -/

namespace Sys2Proof.Machine

variable {s : State} {k : CaskDef} {n c : Nat}

/-! ### SPILL -/

theorem exec_spill_of_no_entry (hk : caskDef s = some k) (he : k.spills[n]? = none) : exec (.spill n) s = .next s := by
  change execSpill n s = _
  unfold execSpill
  rw [hk]
  dsimp only
  rw [he]

section
variable {e : CaskSpill} (hk : caskDef s = some k) (he : k.spills[n]? = some e)
include hk he

theorem exec_spill_of_no_cask
    (hnone : (chainAt s k e.home e.slot e.layer).find? (fun c => s.csk.toSpill.get false c && (page s k c).loc == 0) = none) :
    exec (.spill n) s = .next s := by
  change execSpill n s = _
  unfold execSpill
  rw [hk]
  dsimp only
  rw [he]
  dsimp only
  rw [hnone]
  exact congrArg Host.Outcome.next (ite_self s)

theorem exec_spill_of_cask (hissues : issues s = true) (hcellar : k.spillHost = false)
    (hfind : (chainAt s k e.home e.slot e.layer).find? (fun c => s.csk.toSpill.get false c && (page s k c).loc == 0) = some c) :
    exec (.spill n) s = .next (spillCask k c s) := by
  change execSpill n s = _
  unfold execSpill
  rw [hk]
  dsimp only
  rw [he]
  dsimp only
  rw [hissues, hcellar, hfind]
  rfl

end

/-- The entry of a cask spilled to the cellar. -/
def Page.toCellar (p : Page) : Page := { p with loc := 1, frame := 0 }

theorem Page.fits_toCellar {p : Page} (h : p.Fits) : p.toCellar.Fits := { h with loc := show 1 < 4 by decide, frame := Nat.two_pow_pos 21 }

/-- What a spill to the cellar does: the cask's entry says so, its bytes stand at its spill address, it is no longer marked, and it counts as
spilled. -/
structure Spilled (k : CaskDef) (c : Nat) (s t : State) : Prop where
  entry : page t k c = (page s k c).toCellar
  bytes : rawBytes t (spillAt k c) k.bytes = rawBytes s (frameAt s k (page s k c).frame) k.bytes
  mark : t.csk.toSpill.get false c = false
  count : t.csk.spilledNow = s.csk.spilledNow + 1
  plots : t.plots = s.plots

/-- A spilled cask no longer marked, and counted. -/
def unmarkSpilled (c : Nat) (s : State) : State :=
  countCsk 3 1 (s.onCsk (fun x => { x with toSpill := x.toSpill.set false c false, resident := x.resident - 1, spilledNow := x.spilledNow + 1 }))

theorem page_unmarkSpilled (c d : Nat) (s : State) : page (unmarkSpilled c s) k d = page s k d := (page_countCsk ..).trans (page_onCsk ..)

theorem rawBytes_unmarkSpilled (c : Nat) (s : State) (a n : Nat) : rawBytes (unmarkSpilled c s) a n = rawBytes s a n :=
  (rawBytes_countCsk ..).trans (rawBytes_onCsk ..)

theorem toSpill_unmarkSpilled (c : Nat) (s : State) : (unmarkSpilled c s).csk.toSpill = s.csk.toSpill.set false c false := rfl

/-- A cask whose copy stands at its spill address: the copy fenced, then the cask's entry. -/
def enterSpilled (k : CaskDef) (c : Nat) (p : Page) (s : State) : State := unmarkSpilled c (putPage k c p.toCellar (takeFence reqCask s))

/-- A spill whose read meets no poison. -/
theorem spillCask_of_clean (hcellar : k.spillHost = false) {v : State} {bs : List Byte}
    (hread : devRead reqCask .stream (frameAt s k (page s k c).frame) k.bytes s = (v, bs, false)) :
    spillCask k c s = enterSpilled k c (page s k c) (devWrite reqCask .stream (spillAt k c) bs v) := by
  unfold spillCask
  dsimp only
  rw [hread, hcellar]
  rfl

theorem spilled_enterSpilled {w : State} (hbeside : BesideBytes s w)
    (hcopy : rawBytes w (spillAt k c) k.bytes = rawBytes s (frameAt s k (page s k c).frame) k.bytes) (hin : s.mem.withdrawn = [])
    (hw : s.mem.wf = true) (hmarks : Tab.wf false s.csk.toSpill = true) (hpage : pageAt k c + 16 ≤ 0x8000000000)
    (hlow : cellarBase ≤ spillAt k c) : Spilled k c s (enterSpilled k c (page s k c) w) := by
  have hfits : (page s k c).toCellar.Fits := Page.fits_toCellar (Page.fits_ofWord _)
  have hentry : Stored (takeFence reqCask w) (putPage k c (page s k c).toCellar (takeFence reqCask w)) (pageAt k c)
      (leBytes 16 (page s k c).toCellar.word) :=
    stored_devWrite_of_whole (s := takeFence reqCask w) (hbeside.withdrawn.trans hin) (by rw [leBytes_length]; exact hpage)
  have hwf : (takeFence reqCask w).mem.wf = true := Memory.wf_of_cells _ _ (takeFence_cells ..) (hbeside.wf hw)
  have hcsk : (putPage k c (page s k c).toCellar (takeFence reqCask w)).csk = s.csk :=
    (devWrite_csk ..).trans ((takeFence_csk ..).trans hbeside.csk)
  unfold enterSpilled
  generalize putPage k c (page s k c).toCellar (takeFence reqCask w) = z at hentry hcsk
  have hbytes : rawBytes z (spillAt k c) k.bytes = rawBytes w (spillAt k c) k.bytes := rawBytes_congr fun x hx _ =>
    (hentry.rawByte_outside hwf (by rw [leBytes_length]; unfold cellarBase at hlow; omega)).trans
      (rawByte_congr (takeFence_cells ..) (takeFence_grn ..) x)
  exact ⟨(page_unmarkSpilled ..).trans (page_of_stored hentry hfits hwf hpage), (rawBytes_unmarkSpilled ..).trans (hbytes.trans hcopy),
    by rw [toSpill_unmarkSpilled, hcsk, Tab.get_set_self _ _ _ _ hmarks], congrArg (fun x : Cask => x.spilledNow + 1) hcsk,
    hentry.plots.trans ((takeFence_plots ..).trans hbeside.plots)⟩

theorem spilled_spillCask (hcellar : k.spillHost = false) (hs : Whole s) (hdies : s.mem.dieLost = []) (hw : s.mem.wf = true)
    (hmarks : Tab.wf false s.csk.toSpill = true) (hpage : pageAt k c + 16 ≤ 0x8000000000)
    (hframe : frameAt s k (page s k c).frame + k.bytes ≤ 0x8000000000) (hlow : cellarBase ≤ spillAt k c)
    (hhigh : spillAt k c + k.bytes ≤ 0x3FC00000000) : Spilled k c s (spillCask k c s) := by
  obtain ⟨hcache, hanswer⟩ := readsPlain_devRead hs (req := reqCask) (h := .stream) hframe
  have hbeside := besideBytes_devRead reqCask .stream (frameAt s k (page s k c).frame) k.bytes s
  rw [spillCask_of_clean hcellar (Prod.ext rfl hanswer)]
  have hlen : (rawBytes s (frameAt s k (page s k c).frame) k.bytes).length = k.bytes := rawBytes_length ..
  have hcopy := stored_devWrite_cellar ((SameButCache.staysClean hcache).dies.trans hdies) (hbeside.withdrawn.trans hs.withdrawn)
    (req := reqCask) (h := .stream) (bs := rawBytes s (frameAt s k (page s k c).frame) k.bytes) hlow (by omega)
  exact spilled_enterSpilled (hbeside.trans (besideBytes_devWrite ..)) (hcopy.rawBytes_cellar hlen (hbeside.wf hw) hlow hhigh) hs.withdrawn hw
    hmarks hpage hlow

/-! ### PREFETCH -/

section
variable {sl : Nat} {e : CaskFetch} (hk : caskDef s = some k) (he : k.fetches[n]? = some e)
  (hslot : sampleSlot (if e.micro = 0 then s.csk.seqsNext else s.csk.seqs) (e.micro * s.body.micro + e.smp) = some sl)
  (hc : (chain s k sl e.layer)[e.idx]? = some c)
include hk he hslot hc

theorem exec_prefetch : exec (.prefetch n) s =
    .next (if (page s k c).loc = 0 ∨ !issues s ∨ k.window ≤ e.frame then s else fetchCask k c e.frame s) := by
  change execPrefetch n s = _
  unfold execPrefetch
  -- The chains stay a variable, or the kernel would compute them from memory.
  obtain ⟨ch, hch⟩ : ∃ f, chain s = f := ⟨_, rfl⟩
  rw [hch] at hc ⊢
  rw [hk]
  dsimp only
  rw [he]
  dsimp only
  rw [hslot]
  dsimp only
  rw [hc]

theorem exec_prefetch_of_resident (hloc : (page s k c).loc = 0) : exec (.prefetch n) s = .next s := by
  rw [exec_prefetch hk he hslot hc, if_pos (.inl hloc)]

theorem exec_prefetch_of_spilled (hloc : (page s k c).loc ≠ 0) (hissues : issues s = true) (hframe : e.frame < k.window) :
    exec (.prefetch n) s = .next (fetchCask k c e.frame s) := by
  rw [exec_prefetch hk he hslot hc, if_neg (by simp [hloc, hissues, hframe])]

end

/-- A cask's copy in window frame f noted, and counted. -/
def noteFetched (c f : Nat) (s : State) : State :=
  countCsk 4 1 (s.onCsk (fun x => { x with window := (x.window.select (fun _ v => v != c + 1)).set 0 f (c + 1) }))

/-- A cask's bytes copied into frame f, marked when they were read with poison. -/
def copyCask (k : CaskDef) (c f : Nat) (s : State) : State :=
  let r := devRead reqCask .none (spillAt k c) k.bytes s
  let t := devWrite reqCask .none (frameAt s k f) r.2.1 r.1
  if r.2.2 then poisonCask k c t else t

theorem besideBytes_copyCask (f : Nat) : BesideBytes s (copyCask k c f s) :=
  have hcopy := (besideBytes_devRead ..).trans (besideBytes_devWrite ..)
  .ite (hcopy.trans (besideBytes_poisonCask ..)) hcopy

/-- A whole cellar's cask is copied without poison. -/
theorem rawBytes_copyCask {f : Nat} (hs : WholeCellar s) (hw : s.mem.wf = true) (hlow : cellarBase ≤ spillAt k c)
    (hhigh : spillAt k c + k.bytes ≤ 0x3FC00000000) (hframe : frameAt s k f + k.bytes ≤ 0x8000000000) :
    rawBytes (copyCask k c f s) (frameAt s k f) k.bytes = rawBytes s (spillAt k c) k.bytes := by
  obtain ⟨hcache, hanswer⟩ := readsPlain_devRead_cellar hs (req := reqCask) (h := .none) hlow hhigh
  have hbeside := besideBytes_devRead reqCask .none (spillAt k c) k.bytes s
  unfold copyCask
  dsimp only
  rw [hanswer]
  dsimp only
  rw [if_neg Bool.false_ne_true]
  have hlen : (rawBytes s (spillAt k c) k.bytes).length = k.bytes := rawBytes_length ..
  exact (stored_devWrite_of_whole (hbeside.withdrawn.trans hs.withdrawn) (by omega)).rawBytes_hbm hlen (hbeside.wf hw) hframe

theorem rawBytes_noteFetched (c f : Nat) (s : State) (a n : Nat) : rawBytes (noteFetched c f s) a n = rawBytes s a n :=
  (rawBytes_countCsk ..).trans (rawBytes_onCsk ..)

theorem noteFetched_plots (c f : Nat) (s : State) : (noteFetched c f s).plots = s.plots := rfl

theorem noteFetched_sch (c f : Nat) (s : State) : (noteFetched c f s).sch = s.sch := rfl

theorem window_noteFetched (c f : Nat) (s : State) : (noteFetched c f s).csk.window.get 0 f = c + 1 :=
  Tab.get_set_of_ne _ _ _ _ (Nat.succ_ne_zero c)

section
variable {g f : Nat} (hf : f = caskFrames s k - k.window + g)
include hf

theorem fetchCask_eq : fetchCask k c g s = noteFetched c f (copyCask k c f s) := by
  subst hf
  rfl

/-- The window notes the copy; the plots and the schedule stand. -/
theorem fetchCask_notes : (fetchCask k c g s).csk.window.get 0 f = c + 1 ∧ (fetchCask k c g s).plots = s.plots ∧
    (fetchCask k c g s).sch = s.sch := by
  have hbeside := besideBytes_copyCask (s := s) (k := k) (c := c) f
  rw [fetchCask_eq hf, noteFetched_plots, noteFetched_sch]
  exact ⟨window_noteFetched .., hbeside.plots, hbeside.sch⟩

theorem rawBytes_fetchCask (hs : WholeCellar s) (hw : s.mem.wf = true) (hlow : cellarBase ≤ spillAt k c)
    (hhigh : spillAt k c + k.bytes ≤ 0x3FC00000000) (hframe : frameAt s k f + k.bytes ≤ 0x8000000000) :
    rawBytes (fetchCask k c g s) (frameAt s k f) k.bytes = rawBytes s (spillAt k c) k.bytes := by
  rw [fetchCask_eq hf, rawBytes_noteFetched, rawBytes_copyCask hs hw hlow hhigh hframe]

end

end Sys2Proof.Machine
end

section
/-! SUPPORT. PART_DELIVERY (09_cask_store.md R219, R221): a part written in its plot's store, and its semaphore posted. -/

namespace Sys2Proof.Machine

variable {s t : State} {k : CaskDef}

/-! ### The part -/

/-- The bytes that a delivery looks for: of a sample of this module, or of a guest. -/
def partFor (k : CaskDef) (n l pos : Nat) (gu : Option (Nat × Fin 2048)) (s : State) : State × Option (List Byte) :=
  match gu with
  | some g => guestPart k g.1 g.2 l pos s
  | none => ownPart k n l pos s

theorem besideBytes_partFor (n l pos : Nat) (gu : Option (Nat × Fin 2048)) (s : State) : BesideBytes s (partFor k n l pos gu s).1 := by
  cases gu with
  | none => exact besideBytes_ownPart ..
  | some g => exact besideBytes_guestPart ..

/-- A sample without history. -/
theorem ownPart_of_no_history (k : CaskDef) {n : Nat} (l : Nat)
    (h : ∀ sl, sampleSlot s.csk.seqs n = some sl → (useOf s sl).faulty = true ∨ seqState s k sl = 0) :
    ownPart k n l 0 s = (s, some (emptyPart k)) := by
  unfold ownPart
  split
  · rfl
  · next sl hslot => rw [if_pos (by simpa using h sl hslot), if_pos rfl]

/-- Its part is a header of one cask under mask zero, and that cask's zeros. -/
theorem emptyPart_eq (k : CaskDef) : emptyPart k = padTo 64 (leBytes 2 0 ++ leBytes 2 1 ++ leBytes 2 0) ++ zeros k.bytes := by
  simp [emptyPart, partHeader]

/-! ### A semaphore posted (R269) -/

/-- A plot changed to one with semaphores reads back. -/
theorem plot_onPlot_of_sems {p : Nat} {f : Plot → Plot} (h : (f (s.plot p)).sems ≠ []) : (s.onPlot p f).plot p = f (s.plot p) :=
  (Tab.get_modify_of_ne (fun he => h (congrArg Plot.sems he)) p).trans (if_pos rfl)

/-- An assigned semaphore reads back as it was set. -/
theorem sem_setSem {p n : Nat} (v : Nat) (h : ((s.plot p).sems.get {} n).assigned = true) :
    ((setSem p n v s).plot p).sems.get {} n = { (s.plot p).sems.get {} n with value := v } := by
  have hlisted : ({ (s.plot p).sems.get {} n with value := v } : Sem) ≠ {} := fun he =>
    Bool.false_ne_true ((congrArg Sem.assigned he).symm.trans h)
  unfold setSem
  rw [plot_onPlot_of_sems (Tab.set_ne_nil _ _ hlisted)]
  exact Tab.get_set_of_ne _ _ _ _ hlisted

/-! ### The command -/

/-- A part written where the cask schedule says, and posted. -/
def deliverPart (e : CaskPart) (bs : List Byte) (s : State) : State :=
  semPostAt e.plot e.sem 1 (countCsk 5 1 (devWrite reqCask .none (storeBase e.plot + e.off) bs s))

section
variable {n pos : Nat} {l : Fin 8} {gu : Option (Nat × Fin 2048)} (hk : caskDef s = some k)
include hk

theorem exec_partDelivery_of_no_entry (hnone : partEntry s k ((gu.map (·.1)).getD s.rank) n l pos = none) :
    exec (.partDelivery n l pos gu) s = .next s := by
  change execPartDelivery n l pos gu s = _
  unfold execPartDelivery
  rw [hk]
  dsimp only
  rw [hnone]

theorem exec_partDelivery_of_bytes {e : CaskPart} {bs : List Byte} (he : partEntry s k ((gu.map (·.1)).getD s.rank) n l pos = some e)
    (hissues : issues s = true) (hl : l.val < k.layers) (hbs : (partFor k n l pos gu s).2 = some bs) :
    exec (.partDelivery n l pos gu) s = .next (deliverPart e bs (partFor k n l pos gu s).1) := by
  change execPartDelivery n l pos gu s = _
  unfold execPartDelivery
  rw [hk]
  dsimp only
  rw [he]
  dsimp only
  rw [if_neg (by simp [hissues, hl])]
  cases gu with
  | none =>
    rw [partFor] at hbs ⊢
    dsimp only at hbs ⊢
    obtain ⟨r, hr⟩ : ∃ r, ownPart k n l pos s = r := ⟨_, rfl⟩
    rw [hr] at hbs ⊢
    rw [hbs]
    rfl
  | some g =>
    rw [partFor] at hbs ⊢
    dsimp only at hbs ⊢
    obtain ⟨r, hr⟩ : ∃ r, guestPart k g.1 g.2 l pos s = r := ⟨_, rfl⟩
    rw [hr] at hbs ⊢
    rw [hbs]
    rfl

end

/-- What delivering does: the bytes stand in the plot's store, no other byte changes, and the semaphore counts one more. -/
structure PartDelivered (e : CaskPart) (bs : List Byte) (x : Sem) (s t : State) : Prop where
  bytes : rawBytes t (storeBase e.plot + e.off) bs.length = bs
  outside : ∀ y, y < storeBase e.plot + e.off ∨ storeBase e.plot + e.off + bs.length ≤ y → rawByte t y = rawByte s y
  sem : (t.plot e.plot).sems.get {} e.sem = { x with value := x.value + 1 }

theorem partDelivered_deliverPart {e : CaskPart} {bs : List Byte} {x : Sem} (hplot : e.plot < 64) (hx : x = (s.plot e.plot).sems.get {} e.sem)
    (hassigned : x.assigned = true) (hroom : x.value < 0xFFFF) (hin : e.off + bs.length ≤ 0x300000) (hw : s.mem.wf = true) :
    PartDelivered e bs x s (deliverPart e bs s) := by
  obtain ⟨hbytes, houtside, -, hplots, -⟩ := devWrite_in_store (s := s) (req := reqCask) (h := .none) (a := storeBase e.plot + e.off)
    (bs := bs) rfl hplot (Nat.le_add_right ..) (by omega) hw
  unfold deliverPart
  generalize devWrite reqCask .none (storeBase e.plot + e.off) bs s = v at hbytes houtside hplots
  have hsem : ((countCsk 5 1 v).plot e.plot).sems.get {} e.sem = x := by
    rw [hx, State.plot, State.plot]
    exact congrArg (fun ps => ((Tab.get {} ps e.plot : Plot).sems).get {} e.sem) hplots
  have hpost : semPostAt e.plot e.sem 1 (countCsk 5 1 v) = setSem e.plot e.sem (x.value + 1) (countCsk 5 1 v) := by
    rw [semPostAt_of_fits (by rw [hsem, hassigned]) (by omega) (by rw [hsem]; omega), hsem]
    rfl
  have hmem (y : Nat) : rawByte (setSem e.plot e.sem (x.value + 1) (countCsk 5 1 v)) y = rawByte v y := rawByte_congr rfl rfl y
  rw [hpost]
  refine ⟨(rawBytes_congr fun y _ _ => hmem y).trans hbytes, fun y hy => (hmem y).trans (houtside y hy), ?_⟩
  rw [sem_setSem _ (by rw [hsem, hassigned]), hsem]

end Sys2Proof.Machine
end

section
/-! SUPPORT. LOAD_IMAGE, SAVE_IMAGE and SPLIT_PARTIAL (09_cask_store.md R212, R213, R221): an image read in blocks or written whole, and a holder's
partial kept. -/

namespace Sys2Proof.Machine

variable {s : State} {k : CaskDef}

/-! ### LOAD_IMAGE -/

/-- A header in HBM is read whole, poisoned or not. -/
theorem devRead_header {a : Nat} (hline : a % 128 = 0) (hhigh : a + 64 ≤ 0x8000000000) (hin : s.mem.withdrawn = []) :
    (devRead reqCask .none a 64 s).2.1 = rawBytes s a 64 := by
  have hloc := locate_of_hbm (a := a) (by omega)
  have hok : refuses s reqCask a false = false := by
    rw [refuses, hloc, hin]
    rfl
  exact devRead_data hok (by rw [hloc]; nofun) (by omega)

theorem readBlocks_length (req a n m : Nat) (s : State) : (readBlocks req a n m s).2.length = m := by
  induction m generalizing a s with
  | zero => rfl
  | succ m ih => exact congrArg (· + 1) (ih _ _)

theorem readBlocks_cells (req a n m : Nat) (s : State) : (readBlocks req a n m s).1.mem.cells = s.mem.cells := by
  induction m generalizing a s with
  | zero => rfl
  | succ m ih => exact (ih _ _).trans (devRead_cells ..)

/-- The record of a slot found faulty. -/
def faultRecord (slot : Nat) (s : State) : State := (seqFault slot s).onCsk (fun c => { c with next := c.next.set [] slot [0xFF] })

theorem stickyBit_faultRecord (slot : Nat) (s : State) : stickyBit (faultRecord slot s) 11 4 = true := stickyBit_event_self ..

theorem next_faultRecord (slot : Nat) (s : State) : (faultRecord slot s).csk.next.get [] slot = [0xFF] :=
  Tab.get_set_of_ne _ _ _ _ (List.cons_ne_nil _ _)

theorem faultRecord_mem (slot : Nat) (s : State) : (faultRecord slot s).mem = s.mem := event_mem ..

/-- An image kept for its slot: the header, then the blocks. -/
def keepImage (slot : Nat) (h : List Byte × Bool) (r : State × List (List Byte × Bool)) : State :=
  r.1.onCsk (fun c => { c with load := c.load.set [] slot (h :: r.2) })

theorem load_keepImage (slot : Nat) (h : List Byte × Bool) (r : State × List (List Byte × Bool)) :
    (keepImage slot h r).csk.load.get [] slot = h :: r.2 := Tab.get_set_of_ne _ _ _ _ (List.cons_ne_nil _ _)

section
variable {sl : Fin 2048} {bs : List Byte} (hk : caskDef s = some k) (hbs : bs = s.csk.next.get [] sl)
include hk hbs

theorem exec_loadImage_of_no_load (h : recAction bs ≠ 2) : exec (.loadImage sl) s = .next s := by
  subst hbs
  change execLoadImage sl s = _
  unfold execLoadImage
  rw [hk]
  dsimp only
  rw [if_pos (by simp [h])]

variable (hissues : issues s = true) (hlen : bs.length = 32) (hload : recAction bs = 2)
include hissues hlen hload

/-- The image of a LOAD record: of the bundle's header, or none. -/
theorem exec_loadImage {a : Nat} (ha : a = leAt bs 16 8 % 2 ^ 44) {h : State × List Byte × Bool} (hh : h = devRead reqCask .none a 64 s) :
    exec (.loadImage sl) s = .next (if !imageOk k h.2.1 then faultRecord sl h.1
      else keepImage sl h.2 (readBlocks reqCask (a + 64) k.bytes (k.layers * (leAt h.2.1 20 4 + 1)) h.1)) := by
  subst hbs ha
  change execLoadImage sl s = _
  unfold execLoadImage
  rw [hk]
  dsimp only
  rw [if_neg (by simp [hlen, hload, hissues]), ← hh]
  rfl

end

/-! ### SAVE_IMAGE -/

theorem exec_saveImage_of_no_save {sl : Fin 2048} (hk : caskDef s = some k) (h : s.csk.saving.get 0 sl = 0) : exec (.saveImage sl) s = .next s := by
  change execSaveImage sl s = _
  unfold execSaveImage
  rw [hk]
  dsimp only
  rw [h]
  rfl

/-- An image written at a, and noted. -/
def putImage (slot a : Nat) (bs : List Byte) (s : State) : State :=
  (devWrite reqCask .none a bs s).onCsk (fun c => { c with saved := c.saved.set false slot true })

theorem exec_saveImage {sl : Fin 2048} {a : Nat} (hk : caskDef s = some k) (hsaving : s.csk.saving.get 0 sl = a + 1)
    (hnew : s.csk.saved.get false sl = false) (hstate : seqState s k sl = 2) (hissues : issues s = true) :
    exec (.saveImage sl) s = .next (putImage sl a (imageHeader s k sl ++ (imageLayers k sl (List.range k.layers) s).2)
      (imageLayers k sl (List.range k.layers) s).1) := by
  change execSaveImage sl s = _
  unfold execSaveImage
  rw [hk]
  dsimp only
  rw [hsaving, if_neg (by simp [hnew, hstate, hissues])]
  rfl

theorem saved_putImage (slot a : Nat) (bs : List Byte) (s : State) : (putImage slot a bs s).csk.saved.get false slot = true :=
  Tab.get_set_of_ne false _ slot true (by decide)

theorem putImage_plots (slot a : Nat) (bs : List Byte) (s : State) : (putImage slot a bs s).plots = s.plots := devWrite_plots ..

theorem putImage_counts (slot a : Nat) (bs : List Byte) (s : State) : (putImage slot a bs s).csk.counts = s.csk.counts :=
  (congrArg Cask.counts (devWrite_csk reqCask .none a bs s) :)

theorem rawBytes_putImage {a n : Nat} {bs : List Byte} (slot : Nat) (hn : bs.length = n) (hhigh : a + n ≤ 0x8000000000)
    (hin : s.mem.withdrawn = []) (hw : s.mem.wf = true) : rawBytes (putImage slot a bs s) a n = bs :=
  (rawBytes_onCsk ..).trans ((stored_devWrite_of_whole hin (by omega)).rawBytes_hbm hn hw hhigh)

theorem imageHeader_length (s : State) (k : CaskDef) (slot : Nat) : (imageHeader s k slot).length = 64 := padTo_length ..

/-! ### SPLIT_PARTIAL -/

/-- A partial kept under its sample and layer. -/
def keepPartial (n l : Nat) (x : Nat × Option (List Word)) : State → State :=
  State.onCsk (fun c => { c with partials := c.partials.modify [] (8 * n + l) (· ++ [x]) })

/-- A sample noted short, once, with its event. -/
def noteShort (n slot : Nat) (s : State) : State :=
  cskEvent 6 slot 0 (if s.csk.short.contains n then s else countCsk 9 1 (s.onCsk (fun c => { c with short := c.short ++ [n] })))

theorem partials_keepPartial (n l : Nat) (x : Nat × Option (List Word)) (s : State) :
    (keepPartial n l x s).csk.partials.get [] (8 * n + l) = s.csk.partials.get [] (8 * n + l) ++ [x] :=
  (Tab.get_modify_of_ne (f := (· ++ [x])) (List.append_ne_nil_of_right_ne_nil _ (List.cons_ne_nil _ _)) _).trans (if_pos rfl)

theorem noteShort_partials (n slot : Nat) (s : State) : (noteShort n slot s).csk.partials = s.csk.partials := by
  unfold noteShort cskEvent
  rw [event_csk]
  split <;> rfl

theorem noteShort_mem (n slot : Nat) (s : State) : (noteShort n slot s).mem = s.mem := by
  unfold noteShort cskEvent
  rw [event_mem]
  split <;> rfl

theorem stickyBit_noteShort (n slot : Nat) (s : State) : stickyBit (noteShort n slot s) 11 6 = true := stickyBit_event_self ..

theorem short_noteShort (n slot : Nat) (s : State) : (noteShort n slot s).csk.short.contains n = true := by
  unfold noteShort cskEvent
  rw [event_csk]
  split
  · assumption
  · exact List.contains_iff_mem.mpr (List.mem_append_right _ (List.mem_singleton_self n))

section
variable {n sl part : Nat} {l : Fin 8} {ps : Option (List Word)} (hk : caskDef s = some k) (hslot : sampleSlot s.csk.seqs n = some sl)
include hk hslot

theorem exec_splitPartial_of_unsplit (h : (splitOf k s.rank sl).isNone = true) : exec (.splitPartial n l part ps) s = .next s := by
  change execSplitPartial n l part ps s = _
  unfold execSplitPartial
  rw [hk, hslot]
  dsimp only
  rw [if_pos h]

theorem exec_splitPartial_of_split (h : (splitOf k s.rank sl).isNone = false) : exec (.splitPartial n l part ps) s =
    .next (if ps.isSome then keepPartial n l (part, ps) s else noteShort n sl (keepPartial n l (part, ps) s)) := by
  change execSplitPartial n l part ps s = _
  unfold execSplitPartial
  rw [hk, hslot]
  dsimp only
  rw [h]
  rfl

end

end Sys2Proof.Machine
end

section
/-! PROOFS. O53: the Cask store's commands (09_cask_store.md R212 to R214, R217, R219, R221). -/

namespace Sys2Proof.Machine

/-- Settles O53: each command comes to one write, or one copy, where the model places it, and its notes in the Cask store's control. -/
theorem caskStoreCommandsComplete : Obligations.CaskStoreCommandsComplete := by
  unfold Obligations.CaskStoreCommandsComplete
  refine ⟨?append, ?full, ?spill, ?prefetch, ?deliver, ?load, ?save, ?split⟩
  case append =>
    rintro sl l key val s k u p a hk rfl hsound hl hnew hopen hissues hp ha hkey hval - hhigh hin hw -
    have hput (hlt : p < 16) : TokenPut k sl l a p key val s (putToken k sl l a p key val s) := tokenPut_putToken hlt hkey hval hhigh hin hw
    refine ⟨fun hlt => ?_, fun hlast hheld => ?_⟩
    · obtain ⟨hkeyRow, hvalRow, houtside, hwritten, hplots, hhk, -⟩ := hput (by omega)
      exact ⟨_, exec_tokenAppend_of_room hk hsound hl hnew hopen hissues hp ha hkey hval hlt, hkeyRow, hvalRow, houtside, hwritten, hplots, hhk⟩
    · have hexec := exec_tokenAppend_of_held hk hsound hl hnew hopen hissues hp ha hkey hval hlast (hput (by omega)) hheld
      obtain ⟨hkeyRow, hvalRow, -, hwritten, hplots, -, -⟩ := hput (by omega)
      subst hlast
      refine ⟨_, hexec, (rawBytes_flushAway ..).trans hkeyRow, (rawBytes_flushAway ..).trans hvalRow, ?_, ?_, hplots⟩
      · rw [useOf_flushAway]
        exact hwritten
      · rw [useOf_flushAway]
        exact Tab.get_set_of_ne _ _ _ _ (Nat.succ_ne_zero _)
  case full =>
    intro sl l key val s hfull
    exact exec_tokenAppend_of_full key val hfull
  case spill =>
    intro n s k hk
    refine ⟨exec_spill_of_no_entry hk, fun e he => ⟨exec_spill_of_no_cask hk he, ?_⟩⟩
    rintro c pg hfind rfl hissues hcellar hpoison hin hdies hw hmarks hpage - hframe hlow hhigh
    have hspilled := spilled_spillCask hcellar ⟨hpoison, hin⟩ hdies hw hmarks hpage hframe hlow hhigh
    exact ⟨_, exec_spill_of_cask hk he hissues hcellar hfind, hspilled.entry, hspilled.bytes, hspilled.mark, hspilled.count, hspilled.plots⟩
  case prefetch =>
    intro n sl c s k e hk he hslot hc
    refine ⟨exec_prefetch_of_resident hk he hslot hc, ?_⟩
    intro f hloc hissues hwindow hf
    have hexec := exec_prefetch_of_spilled hk he hslot hc hloc hissues hwindow
    exact ⟨⟨_, hexec, fetchCask_notes hf⟩, fun hlow hhigh hframe hpoison hin hdies hw =>
      ⟨_, hexec, rawBytes_fetchCask hf ⟨hpoison, hdies, hin⟩ hw hlow hhigh hframe⟩⟩
  case deliver =>
    intro n l pos gu s k hk
    refine ⟨exec_partDelivery_of_no_entry hk, ?_, ?_⟩
    · intro e r bs x he hissues hl hr hbs hplot hx hassigned hroom hin hw
      obtain rfl : r = partFor k n l pos gu s := hr
      have hbeside := besideBytes_partFor (k := k) n l pos gu s
      have hpart := partDelivered_deliverPart hplot (hx.trans (by rw [State.plot, State.plot, hbeside.plots])) hassigned hroom hin (hbeside.wf hw)
      exact ⟨_, exec_partDelivery_of_bytes hk he hissues hl hbs, hpart.bytes, hpart.outside, hpart.sem⟩
    · rintro - rfl hnone
      rw [ownPart_of_no_history k l hnone, emptyPart_eq]
  case load =>
    intro sl s k bs hk hbs hissues
    refine ⟨exec_loadImage_of_no_load hk hbs, ?_, ?_⟩
    · intro hlen hload hline hhigh hin hbad
      have hexec := exec_loadImage hk hbs hissues hlen hload rfl rfl
      rw [devRead_header hline hhigh hin, hbad] at hexec
      exact ⟨_, hexec, stickyBit_faultRecord .., next_faultRecord .., (congrArg Memory.cells (faultRecord_mem ..)).trans (devRead_cells ..)⟩
    · intro hlen hload hline hhigh hin hok
      have hexec := exec_loadImage hk hbs hissues hlen hload rfl rfl
      rw [devRead_header hline hhigh hin, hok] at hexec
      refine ⟨_, hexec, ?_, ?_, (readBlocks_cells ..).trans (devRead_cells ..)⟩
      · rw [if_neg (by decide), load_keepImage, List.length_cons, readBlocks_length, Nat.add_comm]
      · rw [if_neg (by decide), load_keepImage]
        exact devRead_header hline hhigh hin
  case save =>
    intro sl s k hk
    refine ⟨exec_saveImage_of_no_save hk, ?_⟩
    rintro r a hsaving hnew hstate hissues rfl
    have hexec := exec_saveImage hk hsaving hnew hstate hissues
    have hbeside := besideBytes_imageLayers (k := k) sl (List.range k.layers) s
    refine ⟨⟨_, hexec, saved_putImage .., (putImage_plots ..).trans hbeside.plots, (putImage_counts ..).trans (congrArg Cask.counts hbeside.csk)⟩,
      fun hhigh hin hw => ⟨_, hexec, ?_⟩⟩
    exact rawBytes_putImage _ (by rw [List.length_append, imageHeader_length]) (by omega) (hbeside.withdrawn.trans hin) (hbeside.wf hw)
  case split =>
    intro n sl l part ps s k hk hslot
    refine ⟨exec_splitPartial_of_unsplit hk hslot, fun hsplit => ⟨_, exec_splitPartial_of_split hk hslot hsplit, ?_⟩⟩
    cases ps with
    | some ws => exact ⟨partials_keepPartial .., rfl, nofun⟩
    | none =>
      refine ⟨?_, noteShort_mem .., fun _ => ⟨stickyBit_noteShort .., short_noteShort ..⟩⟩
      exact (congrArg (Tab.get [] · _) (noteShort_partials ..)).trans (partials_keepPartial ..)

end Sys2Proof.Machine
end
